-- ==== Sys2Proof/Word.lean ====
section
/-! DEFINITION. The word types of the device (R4, R8, R141): bytes, 32-bit registers, 64-bit stored words. -/

namespace Sys2Proof

/-- A byte. -/
abbrev Byte := BitVec 8

/-- A register (R8): 32 bits. -/
abbrev Word := BitVec 32

/-- A stored memory word of DRAM, Facet buffers and scratch (R147): 64 bits. -/
abbrev DWord := BitVec 64

/-- A 64-byte engine command (R107). -/
abbrev CmdWord := BitVec 512

/-- A sparse table: keys strictly rising, values that differ from the default of the table's owner. -/
abbrev Tab (α : Type) := List (Nat × α)

end Sys2Proof
end

