-- ==== Sys2Proof/Config.lean ====
section
/-! DEFINITION. What an implementation fixes and the spec leaves open: opaque constants. Nothing in Lean can
evaluate one of them, so a claim about the model holds for every choice. -/

namespace Sys2Proof

/-- A free natural number, applied to the free-value counter of the state. DESIGN CHOICE, log 2. -/
opaque Config.freeNat : Nat → Nat

/-- A result of a VE operation that the spec does not state, by operation number and operand words
(R139, R140). DESIGN CHOICE, log 10. -/
opaque Config.veValue : Nat → List Word → Word

/-- The direction of a tie that the spec does not state, by operation number and operands. DESIGN CHOICE, log 10. -/
opaque Config.tieUp : Nat → List Nat → Bool

/-- The delay of the die-to-die link in ns, measured at boot (R220). DESIGN CHOICE, log 11. -/
opaque Config.linkDelayNs : Nat

/-- The seed of the tag LFSR of an engine: the spec says it comes from the engine index (R372) and not how. DESIGN CHOICE, log 12. -/
opaque Config.tagSeed : Nat → BitVec 16

/-- Silicon revision of the Identity capability (Table 14.5). DESIGN CHOICE, log 13. -/
opaque Config.siliconRev : BitVec 16

/-- Checker ROM version of the Identity capability (Table 14.5). DESIGN CHOICE, log 13. -/
opaque Config.romVersion : BitVec 32

/-- How many bytes of its results an abandoned VE command has written, by a draw (R51). DESIGN CHOICE, log 14. -/
opaque Config.vePartial : Nat → Nat

/-- How many c-cycles the checker takes for both checks of a request submitted at a time, beyond 1 and short of 8,000
(R352). DESIGN CHOICE, log 158. -/
opaque Config.checkTime : Nat → Nat

/-- Even: a quotient that is not whole shows as the number below it; odd: as the one above. The spec gives a register's unit
and no rounding. DESIGN CHOICE, log 36. -/
opaque Config.inexact : Int → Nat → Int

end Sys2Proof
end

