-- ==== Sys2Proof/Syntax.lean ====
section
/-! DEFINITION. The commands: one constructor of `Instr` per row of spec/opcode_table.json, and the operand types. -/

namespace Sys2Proof

/-- A token counter by scope and place (R116): Prism counters of physical Prism `q` = 6f + p, counters of
physical Facet `f`, device counters. -/
inductive Ctr where
  | prm (q i : Nat)
  | fct (f i : Nat)
  | dev (i : Nat)
deriving DecidableEq, Repr, Inhabited

/-- The background classes of Table 2.4. -/
inductive BgClass where
  | refresh (f : Nat)
  | scrub
  | calib
  | flash
  | selftest (q : Nat)
  | telemetry
deriving DecidableEq, Repr

/-- What a read of flash met (R385): how many codewords were corrected, whether one needed read retry or soft decoding, and whether
one was uncorrectable. -/
structure FlashRead where
  corrected : Nat
  retry : Bool
  bad : Bool
deriving DecidableEq, Repr, Inhabited

/-- What a completed unit of background work found (R385 to R388): codewords corrected, blocks that failed and are
retired, logical blocks relocated, whether a codeword was uncorrectable, and whether the unit ends a lap. -/
structure BgReport where
  read : FlashRead
  retired : List Nat
  moved : List Nat
  lap : Bool
deriving DecidableEq, Repr

/-- A space that the host reaches through the PCI Express function (R340, R342): a BAR, or the configuration space. -/
inductive Space where
  | bar0
  | bar2
  | bar4
  | config
deriving DecidableEq, Repr, Inhabited

/-- Who writes a register (R345, Table 10.4): the host over PCI Express or channel A firmware. -/
inductive Master where
  | host
  | channelA
deriving DecidableEq, Repr

/-- The two safety channels, outputs or cores. -/
inductive Chan where
  | a
  | b
deriving DecidableEq, Repr, Inhabited

/-- The four argument registers of a request (R352). -/
structure ReqArgs where
  a0 : Word
  a1 : Word
  a2 : Word
  a3 : Word
deriving DecidableEq, Repr, Inhabited

/-- What training the flash channels reports at the release of the compute reset (R384, R386). -/
structure FlashTrain where
  rate : Nat
  targets0 : Nat
  targets1 : Nat
  blocks : Nat
  blkBytes : Nat
  page : Nat
  factoryBad : List Nat
deriving DecidableEq, Repr

/-- The signature block of an image (R379, Table 16.2). -/
structure SigBlock where
  tagOk : Bool
  formatOk : Bool
  key : Nat
  pubkey : BitVec 768
  r : BitVec 384
  s : BitVec 384
deriving DecidableEq, Repr

/-- A boot or structure slot as the checker reads it through the housekeeping core (R376, R382): what its read
met, and its bytes up to the end of its signature block. -/
structure ImageSlot where
  read : FlashRead
  bytes : List Byte
deriving DecidableEq, Repr

/-- Where the parts of a boot image lie in it (log 47): the channel A firmware, and the parts of the test plan with their offset,
length and Facet-local address, the plan itself first (R306). -/
structure BootParts where
  fwOfs : Nat
  fwLen : Nat
  test : List (Nat × Nat × Nat)
deriving DecidableEq, Repr

/-- Section DEVICE of a structure image (R383, Table 16.5). -/
structure DeviceSec where
  facetEn : BitVec 4
  prismEn : BitVec 24
  periodUs : Nat
  syncEn : Bool
  slotA : Nat
  slotB : Nat
  maBase : Nat
  maEnd : Nat
  fbufResKib : Nat
  resOfs : Nat
  resBytes : Nat
  resSeed : Word
  ceLog : Bool
  timStepMax : Word
  evtBytes : Nat
  evtStreams : BitVec 16
  commit : Bool
  revokeMask : BitVec 8
deriving DecidableEq, Repr, Inhabited

/-- A Lens stream record (R195, Table 8.2). -/
structure LensRec where
  en : Bool
  matrixEn : Bool
  dense : Bool
  port : Nat
  vc : Nat
  dt : Nat
  x0 : Nat
  y0 : Nat
  w : Nat
  h : Nat
  ow : Nat
  oh : Nat
  ofmt : Nat
  maxAge : Nat
  matrix : List Int
  offset : List Nat
  gain : List Word
  bias : List Word
  bufOfs : Nat
  bufStride : Nat
  viewOfs : Nat
  rowPitch : Nat
deriving DecidableEq, Repr, Inhabited

/-- An Ethernet filter entry (R204). -/
structure EthFilter where
  value : Nat
  udp : Bool
  vlan : Bool
  action : Nat
  vlanId : Nat
deriving DecidableEq, Repr, Inhabited

/-- An Ethernet view record (R205). -/
structure EthViewRec where
  bufOfs : Nat
  bufBytes : Nat
  viewOfs : Nat
deriving DecidableEq, Repr, Inhabited

/-- A range sensor record (Table 9.4). -/
structure SensorRec where
  port : Nat
  prot : Bool
  srcMac : Nat
  udpPort : Nat
  ctx : Nat
  hdr : Nat
  stride : Nat
  xofs : Nat
  yofs : Nat
  zofs : Nat
  ftype : Nat
  unitUm : Nat
  minPts : Nat
  rot : List Int
  trans : List Int
deriving DecidableEq, Repr, Inhabited

/-- The range record of a safety parameter set (Table 9.3). -/
structure RangeRec where
  cellMm : Nat
  thr : Nat
  sensors : BitVec 8
  gx0 : Int
  gy0 : Int
  zmin : Int
  zmax : Int
  sensor : List SensorRec
  ignore : List Nat
deriving DecidableEq, Repr, Inhabited

/-- A speed class of a safety parameter set (Table 13.1). -/
structure ClassRec where
  vmax : Nat
  sto : Bool
  fwd : Bool
  rev : Bool
  latch : Bool
deriving DecidableEq, Repr, Inhabited

/-- A rectangle of a protective field (Table 13.1). -/
structure Rect where
  cx0 : Nat
  cy0 : Nat
  cx1 : Nat
  cy1 : Nat
deriving DecidableEq, Repr, Inhabited

/-- A safety parameter set (R316, Table 13.1). `field` holds the rectangles zone-major, then class, then
rectangle: index 28 z + 4 c + r. -/
structure SafetySet where
  sealCode : Nat
  en : Bool
  sdiEn : Bool
  slpEn : Bool
  m : Nat
  n : Nat
  enc0Nm : Int
  enc1Nm : Int
  discV : Nat
  discRel : Nat
  discMs : Nat
  vStill : Nat
  vFast : Nat
  decel : Nat
  rampDelay : Nat
  dirTol : Nat
  vRef : Nat
  zPos : Int
  posMin : Int
  posMax : Int
  cls : List ClassRec
  field : List Rect
  range : RangeRec
deriving DecidableEq, Repr, Inhabited

/-- A stage-window entry (R265, Table 10.2). -/
structure StageWin where
  stage : Nat
  count : Nat
  safety : Bool
  openUs : Nat
  closeUs : Nat
deriving DecidableEq, Repr, Inhabited

/-- A structure-image context entry (Table 11.1). -/
structure CtxEntry where
  ctx : Nat
  en : Bool
  seqCap : Bool
  maxGap : Nat
  seed : Word
deriving DecidableEq, Repr, Inhabited

/-- Section DIESK (Table 16.5, Table 7.16). -/
structure DieskSec where
  topo : Nat
  size : Nat
  devId : Nat
  masterEn : Bool
deriving DecidableEq, Repr, Inhabited

/-- Section PINS (R399): which groups of balls are enabled. -/
structure PinsSec where
  usxgmii : BitVec 4
  lensEn : BitVec 8
  ethEn : BitVec 6
  dskEn : BitVec 4
  nvmEn : BitVec 2
deriving DecidableEq, Repr, Inhabited

/-- What sections DEVICE, PINS and DIESK of a structure image say: the spec names their fields and gives no layout (DESIGN
CHOICE, log 47). -/
structure OpenSecs where
  device : DeviceSec
  pins : PinsSec
  diesk : DieskSec
deriving DecidableEq, Repr

/-- The content of a structure image (R383, Table 16.5). -/
structure StructImg where
  device : DeviceSec
  tolerance : List Word
  lens : List LensRec
  filters : List (List EthFilter)
  views : List EthViewRec
  tsAdj : List Word
  pins : PinsSec
  reaction : List (BitVec 16)
  safety : List SafetySet
  stage : List StageWin
  contexts : List CtxEntry
  diesk : DieskSec
deriving DecidableEq, Repr, Inhabited

/-- One sample of the sealed switches (R318). -/
structure SealSample where
  sel : BitVec 4
  selN : BitVec 4
  code : Byte
deriving DecidableEq, Repr, Inhabited

/-- A read of the sealed switches (R318): three samples in each channel. -/
structure SealRead where
  a0 : SealSample
  a1 : SealSample
  a2 : SealSample
  b0 : SealSample
  b1 : SealSample
  b2 : SealSample
deriving DecidableEq, Repr, Inhabited

/-- How the start-up tests of Table 12.6 ended (R305). `cmpTrial`: first failing trial of the comparator
test. `checkerSource`: the source that a failing checker-die test raised, where it raised one. `pairFail`: a pair did not register, or was not judged broken. `failedEngines`: MEs whose
ABFT injection failed; `failedFacets`: Facets whose memories have errors. -/
structure StartupResult where
  cmpTrial : Option Nat
  checkerFail : Bool
  checkerSource : Option Nat
  pairFail : Bool
  failedEngines : List Nat
  failedFacets : List Nat
deriving DecidableEq, Repr

/-- A fault that a self-test finds in an array (R76): rows and columns by physical index. -/
structure ArrayFault where
  row : Option Nat
  col : Option Nat
deriving DecidableEq, Repr, Inhabited

/-- How a self-test segment ended (R309). -/
inductive SegResult where
  | pass
  | fail
deriving DecidableEq, Repr

/-- A CSI-2 packet header after its ECC (R194). -/
structure Csi2Header where
  eccOk : Bool
  corrected : Bool
  vc : Nat
  dt : Nat
deriving DecidableEq, Repr

/-- A Diesk flit as it stands on the link (R182, Table 7.9). -/
structure Flit where
  dst : Nat
  src : Nat
  seq : Nat
  ack : Nat
  frame : BitVec 16
  poison : BitVec 8
  len : Nat
  addr : Nat
  payload : List Byte
  crc : Word
deriving DecidableEq, Repr, Inhabited

/-- A register write of a core (R249): an integer, a float or a control register. -/
inductive RegWrite where
  | x (n : Nat) (v : Word)
  | f (n : Nat) (v : Word)
  | csr (n : Nat) (v : Word)
deriving DecidableEq, Repr

/-- A value that enters the core pair (R248): TCM word `w` with the bits of its 39 that read wrong, load data, a counter or
time CSR, an interrupt or trap at a retired-instruction count. -/
inductive CoreInput where
  | tcm (w : Nat) (flips : BitVec 39)
  | load (v : Word)
  | csr (v : Word)
  | trap (retired : Nat)
deriving DecidableEq, Repr

/-- What passes at the pair's delay queue (R248), in c-cycle `at_`: the main core takes a value, or the Mirror core takes the
oldest one that waits, after `retired` instructions. -/
inductive CoreStep where
  | capture (at_ : Nat) (i : CoreInput)
  | deliver (at_ retired : Nat)
deriving DecidableEq, Repr

/-- A checkpoint of one core (R250): its register writes since the one before, and the PC of its next instruction. -/
structure Checkpoint where
  writes : List RegWrite
  pc : Word
deriving DecidableEq, Repr

/-- A store of a core (R251). `tcm`: the TCM word that it names; none for a checker register or the die-to-die link. -/
structure StoreEntry where
  addr : Word
  data : Word
  mask : BitVec 4
  tcm : Option Nat
deriving DecidableEq, Repr

/-- A slot of the boot image with the places of its parts (R382). -/
structure BootSlot where
  image : ImageSlot
  parts : BootParts
deriving DecidableEq, Repr

/-- Where a host read starts (R342): its space and the offset there. -/
structure HostAt where
  space : Space
  ofs : Nat
deriving DecidableEq, Repr

/-- A background class at the moment its age is judged (Table 2.4); `hot`: the DRAM is above 85 °C. -/
structure BgCase where
  cls : BgClass
  hot : Bool
deriving DecidableEq, Repr

/-- The port of a short packet and what the ECC said of its header (R194). -/
structure ShortHead where
  port : Nat
  eccOk : Bool
  corrected : Bool
deriving DecidableEq, Repr

/-- A frame on a range port (R207): its bytes, and how many c-cycles ago its first byte came (R277). -/
structure RngIn where
  bytes : List Byte
  lead : Nat
deriving DecidableEq, Repr

/-- What the Aperture link made of a packet (R224, R277): its bytes where they changed, and how many c-cycles ago its first byte
came. -/
structure LinkIn where
  corrupt : Option (List Byte)
  lead : Nat
deriving DecidableEq, Repr

/-- What a STATUS flit reports (Table 7.10): the sender's state, its SYS_TAG, its claim of mastership. -/
structure StatusRep where
  state : Nat
  sysTag : DWord
  claim : Bool
deriving DecidableEq, Repr

/-- What a Facet test found (R311): the Prism in the Facet and the segment of each failure, and whether the march passed. -/
structure FacetTest where
  fails : List (Nat × Nat)
  march : Bool
deriving DecidableEq, Repr

/-- A checkpoint of the main core, after what has passed at the delay queue since the last one (R248, R250). -/
structure MainCkpt where
  steps : List CoreStep
  ckpt : Checkpoint
deriving DecidableEq, Repr

/-- The main core where a checkpoint has no partner (R250): what has passed at the delay queue, and its PC. -/
structure LateCkpt where
  steps : List CoreStep
  pc : Word
deriving DecidableEq, Repr

/-- The main core's stores since the last comparison, after what has passed at the delay queue (R248, R251). -/
structure MainStores where
  steps : List CoreStep
  stores : List StoreEntry
deriving DecidableEq, Repr

/-- A store of the Mirror core with the main core's PC and the instructions retired (R251, R252). -/
structure MirrorStore where
  entry : StoreEntry
  pc : Word
  retired : Nat
deriving DecidableEq, Repr

/-- A write of WDG_SERVICE: the token, and the main core's PC (R259, R262). -/
structure Service where
  token : Word
  pc : Word
deriving DecidableEq, Repr

/-- How a flash operation went (R385, R386, R391): what its read met, and the blocks that failed in it. -/
structure FlashEnd where
  read : FlashRead
  failed : List Nat
deriving DecidableEq, Repr

/-- Where an encoder edge is seen (R320): the channel, the encoder, and for how many ns its new levels held. -/
structure EncAt where
  chan : Chan
  enc : Nat
  held : Nat
deriving DecidableEq, Repr

/-- The commands (spec/opcode_table.json), one constructor per row, in the table's order. -/
inductive Instr where
  /-- CHECKER_SUPPLY_VALID (R375). The checker supply becomes valid, so the device enters BOOT with the outputs off, ERR_OUT asserted and PWR_EN_CMP deasserted. -/
  | checkerSupplyValid
  /-- CHECKER_SUPPLY_REMOVED (R304). Removal of the checker supply ends every state, FATAL included, and clears the always-on domain. -/
  | checkerSupplyRemoved
  /-- CHECKER_RAIL_LOW (R402). A checker rail falls below 85 % of nominal for more than 1 µs, so the whole checker is held in reset as if its supply were removed. -/
  | checkerRailLow
  /-- COMPUTE_POWER_ENABLE (R405). At 5 ms of boot the checker asserts PWR_EN_CMP and the compute rails ramp in order. -/
  | computePowerEnable
  /-- COMPUTE_RESET_RELEASE (R405). Once VMON_CMP and FMON_CMP report in range, the checker releases the compute reset and the time unit restarts at 0. -/
  | computeResetRelease (inRange : Bool) (fl : FlashTrain)
  /-- PARTITION_TABLE_READ (R390). The partition-table copy with a correct CRC and the higher GEN is read and used. -/
  | partitionTableRead
  /-- BOOT_IMAGE_VERIFY (R382). Both boot slots are verified and one is selected, or the device goes ROM-only in SAFE. -/
  | bootImageVerify (a b : BootSlot)
  /-- STRUCTURE_IMAGE_VERIFY (R382). Both structure slots are verified and one is selected, after which the seal read is judged. -/
  | structureImageVerify (a b : ImageSlot) (oa ob : OpenSecs) (sw : SealRead)
  /-- REPAIR_RECORD_VERIFY (R393). The repair record copies are verified by HMAC and merged with the OTP repair data. -/
  | repairRecordVerify
  /-- COMPUTE_CONFIGURED (R375). Facets are powered and zeroed, S registers are loaded and locks are set, and the device enters STARTUP_TEST. -/
  | computeConfigured
  /-- STARTUP_TEST_COMPLETE (R305). The start-up tests of Table 12.6 end, and their outcome decides between waiting for the tick into CONFIGURED, SAFE and FATAL. -/
  | startupTestComplete (r : StartupResult)
  /-- WARM_RESET_BEGIN (R292). A warm reset begins: outputs go off, a fence is taken, running requests complete ABORTED and the device enters BOOT. -/
  | warmResetBegin
  /-- PERST_N (R406). PERST_N acts as a fundamental reset of the PCI Express function only, and is ignored while the compute reset is held. -/
  | perstN
  /-- FUNCTION_LEVEL_RESET (R356). Function Level Reset resets the PCIe configuration, MSI-X and HIF block, and clears AGREED. -/
  | functionLevelReset
  /-- HOT_RESET (R356). Hot reset resets the PCIe configuration, MSI-X and HIF block without touching device state. -/
  | hotReset
  /-- PCIE_LINK_LOSS (R356). The link leaves L0 other than through D3hot, or an uncorrectable AER error occurs, and HIF_PCIE is raised. -/
  | pcieLinkLoss (aer : Bool)
  /-- TICK (R37). The tick abandons or ends the frame, applies the decisions of R29, clears the tokens and restarts the engines. -/
  | tick
  /-- ABANDONMENT_COMPLETE (R51). Abandonment finishes within the 4 µs guard, and the remaining steps of R37 follow. -/
  | abandonmentComplete
  /-- FRAME_SYNC_EDGE (R42). A FRAME_SYNC rising edge is classified against the window and may produce or move a tick. -/
  | frameSyncEdge
  /-- SYNC_WINDOW_CLOSE (R43). A sync window closes with no edge, setting MISS and incrementing the count. -/
  | syncWindowClose
  /-- SYNC_ACQ (R45). A write of 1 to TCK_CTRL.SYNC_ACQ starts acquisition, or sets ACQ_REJ where the state refuses it. -/
  | syncAcq
  /-- TEST_RUN (R306). A write to TCK_CTRL.TEST_RUN starts test frames in MAINT, stops them, or is refused. -/
  | testRun (run : Bool)
  /-- TEST_PLAN_VERIFIED (R306). Placement and verification of the test plan complete, and test-frame ticks start on the schedule. -/
  | testPlanVerified (parts : List (List Byte)) (read : FlashRead)
  /-- COMMAND_FETCH (R107). An engine fetches a command ahead of execution, and a poisoned word makes it illegal. -/
  | commandFetch (e : Nat)
  /-- NOP (R121). NOP does nothing beyond its header. -/
  | nop (e : Nat)
  /-- END (R121). END retires once earlier commands complete, and the engine idles until the tick. -/
  | endCmd (e : Nat)
  /-- WAIT (R118). A standalone WAIT blocks until its counter reaches WAIT_N, then subtracts WAIT_N. -/
  | wait (e : Nat)
  /-- SIGNAL (R118). A standalone SIGNAL adds SIG_N to a local or remote counter once earlier commands complete. -/
  | signal (e : Nat)
  /-- MARK (R120). MARK sends a stage check-in to the checker once earlier commands complete. -/
  | mark (e : Nat)
  /-- LOOP (R123). LOOP repeats the preceding LEN commands COUNT times using the loop stack. -/
  | loop (e : Nat)
  /-- MM (R67). A matrix multiply loads weights and queues a stream of activation rows from scratch. -/
  | mm (e : Nat)
  /-- MMC (R137). An implicit convolution forms activation rows through an address-generation descriptor. -/
  | mmc (e : Nat)
  /-- AGD (R136). AGD validates and stores an address-generation descriptor. -/
  | agd (e : Nat)
  /-- ME_STREAM_START (R67). Once weights, the previous stream and the header WAIT allow, activation row 0 enters the array. -/
  | meStreamStart (e : Nat)
  /-- ME_ROW_WRITE (R79). A result row leaves the drain, is compared and is written into accumulator memory under ACC_MODE. -/
  | meRowWrite (e : Nat)
  /-- ME_COMMAND_DONE (R67). A matrix command completes and its header SIGNAL is applied. -/
  | meCommandDone (e : Nat)
  /-- VEW (R140). A VE elementwise arithmetic or compare command is executed. -/
  | vew (e : Nat)
  /-- VACT (R140). A VE scale, activation or table command is executed. -/
  | vact (e : Nat)
  /-- VNORM (R140). A VE layer or RMS normalization per row is executed. -/
  | vnorm (e : Nat)
  /-- VSMAX (R140). A VE softmax per row is executed. -/
  | vsmax (e : Nat)
  /-- VPOOL (R140). A VE max or average pooling is executed. -/
  | vpool (e : Nat)
  /-- VRESIZE (R140). A VE nearest or bilinear resize is executed. -/
  | vresize (e : Nat)
  /-- VRED (R140). A VE per-row reduction is executed. -/
  | vred (e : Nat)
  /-- VARGMAX (R140). A VE per-row argmax is executed. -/
  | vargmax (e : Nat)
  /-- VTOPK (R140). A VE per-row top-k is executed. -/
  | vtopk (e : Nat)
  /-- VCOMPACT (R140). A VE compaction of the selected rows is executed. -/
  | vcompact (e : Nat)
  /-- VQMX (R98). A VE MX block quantization with its scales is executed. -/
  | vqmx (e : Nat)
  /-- VE_COMMAND_COMPLETE (R140). A VE command writes its last destination element, and its header SIGNAL is applied. -/
  | veCommandComplete (e : Nat)
  /-- COPY (R130). The FE issues a linear copy as 64-byte requests. -/
  | copy (e : Nat)
  /-- FETCH2D (R131). The FE issues a two-dimensional fetch, optionally transposed. -/
  | fetch2d (e : Nat)
  /-- GATHER (R132). The FE gathers rows by index, writing poisoned zeros for bad indices. -/
  | gather (e : Nat)
  /-- STORE (R134). The SE stores two-dimensional data with conversion. -/
  | store (e : Nat)
  /-- STORE_T (R134). The SE performs a corner-turn store with conversion. -/
  | storeT (e : Nat)
  /-- SEND (R135). The SE hands a tensor to the Aperture sender in 1,024-byte packets under a manifest entry. -/
  | send (e : Nat)
  /-- MEMORY_REQUEST_COMPLETE (R126). A 64-byte request completes after decode, and the last one of a transfer completes its command. -/
  | memoryRequestComplete (e i : Nat)
  /-- PAGE_DECODE_COMPLETE (R151). A page decode ends, correcting or poisoning words and releasing the held requests. -/
  | pageDecodeComplete (span : Nat)
  /-- TOKEN_SIGNAL_ARRIVAL (R117). SIGNAL amounts reach a counter after their latency, and waiting engines are released in index order. -/
  | tokenSignalArrival (c : Ctr)
  /-- ENGINE_BLOCK_RESET (R20). A write of 1 to XX_CTRL.RESET resets one engine, stopping it until the tick where it has not reached END. -/
  | engineBlockReset (e : Nat)
  /-- ABFT_INJ (R87). A write of 1 to ME_CTRL.ABFT_INJ arms checksum injection for the next matrix command, or sets INJ_REJ. -/
  | abftInj (e : Nat)
  /-- MERGE_DRAIN (R155). A merge-buffer entry drains on age, allocation pressure, fence or tick, merging and re-encoding its line. -/
  | mergeDrain (ctrl : Nat)
  /-- FACET_ZEROING_COMPLETE (R146). A powered-up Facet's memories finish zeroing with valid codes and become reachable. -/
  | facetZeroingComplete (f : Nat)
  /-- SCRUB_SPAN_VISIT (R162). The scrubber reads and checks one span, correcting or poisoning it. -/
  | scrubSpanVisit (ctrl : Nat)
  /-- MEM_FENCE (R157). A write of 1 to MEM_CTRL.FENCE starts a fence of the merge buffers and check caches. -/
  | memFence
  /-- FENCE_COMPLETE (R157). Every entry and cached check word has been written, and the fence ends. -/
  | fenceComplete
  /-- MEM_TEST_MODE_WRITE (R165). A write to MEM_TEST.MODE enters RAW in MAINT, returns to OFF, or sets TEST_REJ. -/
  | memTestModeWrite (v : Word)
  /-- HOST_MEMORY_WRITE (R343). A host write through BAR2 reaches device memory, or is dropped for protection, views, slots or unmapped addresses. -/
  | hostMemoryWrite (ofs : Nat) (bytes : List Byte) (ep : Bool)
  /-- HOST_MEMORY_READ (R343). A host read through BAR2 returns decoded data with EP for poison, or Unsupported Request for unmapped addresses. -/
  | hostMemoryRead (at_ : HostAt) (len : Nat)
  /-- BG_LEVEL_URGENT (R56). A background class reaches 75 % of its deadline and becomes Urgent. -/
  | bgLevelUrgent (c : BgCase)
  /-- BG_LEVEL_FORCED (R56). A background class reaches its deadline, becomes Forced and raises BG_FORCED. -/
  | bgLevelForced (c : BgCase)
  /-- BG_UNIT_COMPLETE (R56). A background unit of work completes, so the class age restarts and the class returns to Normal. -/
  | bgUnitComplete (c : BgClass) (rep : BgReport)
  /-- SELFTEST_SEGMENT_START (R57). A self-test segment fences a Prism once the window, tick and level conditions allow it. -/
  | selftestSegmentStart (q : Nat)
  /-- SELFTEST_SEGMENT_END (R309). A segment ends, releasing the Prism or fencing a failing unit with ME_SELFTEST or PRM_SELFTEST. -/
  | selftestSegmentEnd (q : Nat) (r : SegResult)
  /-- SWAP (R49). The host requests a plan swap into the idle slot, and validation starts or the request is rejected. -/
  | swap (tag : Byte) (a : ReqArgs)
  /-- PLAN_VALIDATION_DONE (R48). The housekeeping core finishes checking the plan's format and ranges. -/
  | planValidationDone
  /-- PLAN_DIGEST_COMPARE_DONE (R48). The checker's digest comparison ends, and the swap becomes pending or completes PLAN_INVALID. -/
  | planDigestCompareDone
  /-- LOAD (R174). The host requests a model load from flash or device memory. -/
  | load (tag : Byte) (a : ReqArgs)
  /-- LOAD_COMPLETE (R175). A load ends with the model resident, or with a failure status after everything it placed is released and zeroed. -/
  | loadComplete (read : FlashRead)
  /-- UNLOAD (R179). The host requests the release of a resident model. -/
  | unload (tag : Byte) (a : ReqArgs)
  /-- UNLOAD_COMPLETE (R179). The model's memory, contexts and checker memory are released and zeroed. -/
  | unloadComplete
  /-- REPLACE (R180). The host requests a model replacement, which enters SAFE at the next tick, unloads every model and loads the new one. -/
  | replace (tag : Byte) (a : ReqArgs)
  /-- TIME_GRANT (R212). The host requests a one-shot step override, and GRANT is set. -/
  | timeGrant (tag : Byte) (a : ReqArgs)
  /-- TIME_GRANT_LAPSE (R212). A grant unused for 1 s lapses. -/
  | timeGrantLapse
  /-- CHK_RESTART (R254). The host requests a channel A restart. -/
  | chkRestart (tag : Byte) (a : ReqArgs)
  /-- CVU_MODE (R282). The host requests a context mode change. -/
  | cvuMode (tag : Byte) (a : ReqArgs)
  /-- MAINT (R313). The host requests maintenance, which the device enters at the next tick. -/
  | maint (tag : Byte) (a : ReqArgs)
  /-- WARM_RESET (R313). The host requests a warm reset from MAINT. -/
  | warmReset (tag : Byte) (a : ReqArgs)
  /-- FACET_RETURN (R297). The host requests the return of a READY Facet, which is reinstated at a later tick. -/
  | facetReturn (tag : Byte) (a : ReqArgs)
  /-- FAULT_FORCE (R299). The host forces a fault source or breaks its pair. -/
  | faultForce (tag : Byte) (a : ReqArgs)
  /-- FAULT_CLEAR (R300). The host clears a pending bit of the collector. -/
  | faultClear (tag : Byte) (a : ReqArgs)
  /-- HIF_HOST_VER_WRITE (R350). The host declares its protocol version, and a minor version is agreed or VER_REJ is set. -/
  | hifHostVerWrite (v : Word)
  /-- HIF_BAR2_BASE_WRITE (R343). The host sets the BAR2 window base, or BASE_REJ is set. -/
  | hifBar2BaseWrite (hi : Bool) (v : Word)
  /-- REGISTER_WRITE (R344). A host or channel A write to a register without a row of its own acts under its access code, or is dropped for size or read-only checker registers. -/
  | registerWrite (m : Master) (sp : Space) (ofs : Nat) (bytes : List Byte)
  /-- TIM_NS_READ (R210). A read of TIM_NS latches the seconds. -/
  | timNsRead
  /-- TIM_CAP_NS_READ (R217). A read of TIM_CAPn_NS latches that channel's seconds and count. -/
  | timCapNsRead (n : Nat)
  /-- CHK_TIME_NS_READ (R222). A read of CHK_TIME_NS latches CHK_TIME_SEC. -/
  | chkTimeNsRead
  /-- ETH_TSQ_POP (R216). A write of 1 to POP moves the head timestamp entry of a management port into the holding registers. -/
  | ethTsqPop (m : Nat)
  /-- CHK_RNG_TSQ_POP (R216). A write of 1 to POP moves the head timestamp entry of a range port into the holding registers. -/
  | chkRngTsqPop (n : Nat)
  /-- TIM_INCR_WRITE (R209). A write of the time increment is accepted within ±1,000 ppm, or sets INCR_REJ or WR_REJ. -/
  | timIncrWrite (v : Word)
  /-- STEP_GO (R211). A write of 1 to TIM_CTRL.STEP_GO applies or refuses a time step under the limit or the grant. -/
  | stepGo
  /-- CAPTURE_EVENT (R217). A capture source fires, so the time is stored and the count incremented. -/
  | captureEvent (n : Nat)
  /-- TRIGGER_PULSE_START (R218). A trigger output starts its pulse at its tick-relative or absolute time, or withholds it and sets TRG_REJ. -/
  | triggerPulseStart (n : Nat)
  /-- TRIGGER_PULSE_END (R218). A trigger pulse ends after its width. -/
  | triggerPulseEnd (n : Nat)
  /-- TIME_MESSAGE (R220). A compute time message reaches the checker, which adjusts, steps, refuses or acquires its time copy. -/
  | timeMessage (sec ns : Nat)
  /-- TIME_COPY_TIMEOUT (R221). No time message for 3 ms puts the copy in FREE_RUN and raises TIME_COPY. -/
  | timeCopyTimeout
  /-- CSI2_LONG_PACKET (R196). A CSI-2 long packet is ECC-checked and matched to a stream, and its pixels pass through the ingest pipeline. -/
  | csi2LongPacket (p : Nat) (h : Csi2Header) (crcOk : Bool) (payload : List Byte)
  /-- FRAME_START (R201). A Frame Start packet opens a camera frame and truncates one that is still in progress. -/
  | frameStart (h : ShortHead) (vc num : Nat)
  /-- FRAME_END (R198). A Frame End packet closes a camera frame, and missing lines count as bad. -/
  | frameEnd (h : ShortHead) (vc : Nat)
  /-- LENS_FRAME_COMPLETE (R198). Every write of a camera frame is acknowledged, and the buffer becomes the newest complete one. -/
  | lensFrameComplete (s : Nat)
  /-- ETH_FRAME_RECEIVE (R204). An Ethernet frame is checked, timestamped and filtered to the host ring, a view, or dropped. -/
  | ethFrameReceive (p : Nat) (fcsOk : Bool) (bytes : List Byte)
  /-- ETH_TAIL_WRITE (R206). The host advances a receive or transmit ring TAIL, posting descriptors. -/
  | ethTailWrite (p : Nat) (tx : Bool) (v : Word)
  /-- ETH_TRANSMIT (R215). The device sends a posted frame with optional timestamp or one-step insertion and writes back its descriptor. -/
  | ethTransmit (p : Nat)
  /-- RING_FACET_WRITE (R206). A write of ETH_CFG.RING_FACET moves the rings and resets every ring pointer. -/
  | ringFacetWrite (v : Word)
  /-- RANGE_FRAME_RECEIVE (R207). A range port frame is checked and timestamped by the checker and handed to binning and forwarding. -/
  | rangeFrameReceive (n : Nat) (fcsOk : Bool) (f : RngIn)
  /-- RANGE_FRAME_FORWARD (R207). The checker forwards a buffered range frame with its checker timestamp to compute port 6 or 7. -/
  | rangeFrameForward (n : Nat)
  /-- RANGE_TRANSMIT (R208). A host frame sent on port 6 or 7 is transmitted on the range port, or dropped in RUN and DEGRADED unless it is PTP. -/
  | rangeTransmit (n : Nat)
  /-- WR (R186). An inbound Diesk WR flit is written into an IMPORT section, or is discarded as refused or stale. -/
  | wr (p : Nat) (f : Flit)
  /-- WR_ACK (R186). A WR_ACK flit completes a remote write at the sender. -/
  | wrAck (p : Nat) (f : Flit)
  /-- RD_REQ (R186). An inbound RD_REQ flit is served from an EXPORT section, or answered with poisoned zeros. -/
  | rdReq (p : Nat) (f : Flit)
  /-- RD_RESP (R186). An RD_RESP flit completes a remote read with its data and marks. -/
  | rdResp (p : Nat) (f : Flit)
  /-- SIG (R187). A SIG flit adds to a device counter, or is discarded when its frame is stale. -/
  | sig (p : Nat) (f : Flit)
  /-- TICK_FLIT (R189). A follower receives the master's TICK flit with the scheduled time, frame, period and system variant. -/
  | tickFlit (p : Nat) (f : Flit)
  /-- TICK_FLIT_SEND (R189). The master sends a TICK flit at least 50 µs before each tick. -/
  | tickFlitSend
  /-- TICK_FLIT_MISSING (R189). A follower holds no TICK flit 10 µs before its expected tick, sets TICK_LOST and declares the master lost at the second. -/
  | tickFlitMissing
  /-- TIME_FLIT (R189). A TIME flit carries peer-delay and master-time exchange. -/
  | timeFlit (p : Nat) (f : Flit) (delay : Nat)
  /-- TIME_FLIT_SEND (R189). Every 1 ms each link sends a TIME exchange. -/
  | timeFlitSend (p : Nat)
  /-- STATUS_FLIT (R191). A STATUS flit reports state, SYS_TAG and master claim, and feeds PRESENT and the election. -/
  | statusFlit (p : Nat) (f : Flit) (r : StatusRep)
  /-- MASTER_ELECTION (R190). 2 ms after link-up or master loss, the lowest claiming ID becomes master, or every device enters SAFE when none claims. -/
  | masterElection
  /-- TRAIN (R184). TRAIN flits negotiate the port version and bring the port up, or leave it down on a major mismatch. -/
  | train (p : Nat) (f : Flit) (major minor lanes : Nat)
  /-- NAK (R183). A NAK makes the sender replay from the acknowledged SEQ, and the port goes down at 8 replays. -/
  | nak (p : Nat) (f : Flit)
  /-- IDLE (R182). An IDLE flit carries an acknowledgement only. -/
  | idle (p : Nat) (f : Flit)
  /-- DSK_PORT_RETRAIN (R183). A port that is down retrains every 100 ms. -/
  | dskPortRetrain (p : Nat)
  /-- MARK_CHECKIN (R267). A MARK message reaches the checker and is judged against its stage window. -/
  | markCheckin
  /-- STAGE_WINDOW_CLOSE (R267). A stage window closes, and a count below COUNT is MISSING. -/
  | stageWindowClose (n : Nat)
  /-- ALL_END_REPORT (R53). The tick unit's all-END report reaches the checker, allowing forwarding and starting the 2 µs wait. -/
  | allEndReport
  /-- APERTURE_PACKET (R224). A SEND packet reaches the checker, is judged by the check-value unit and is stored toward its entry. -/
  | aperturePacket (l : LinkIn)
  /-- PACKET_ACK (R135). A packet acknowledgement reaches the SE, and the last one completes the SEND. -/
  | packetAck (e : Nat)
  /-- COMPARISON_COMPLETE (R234). A challenge or parallax comparison ends after the last packet, setting CHALLENGE or PARALLAX on failure. -/
  | comparisonComplete
  /-- CHALLENGE_SPLICE (R233). At the restart the checker draws tiles and starts splicing them into the challenge slots. -/
  | challengeSplice (draws : List Nat)
  /-- CHALLENGE_SLOT_DONE (R233). A slot's writes are acknowledged, and the Facet's counter 31 is signalled after its last slot. -/
  | challengeSlotDone
  /-- VERDICT (R240). The checker issues the frame's verdict once its evidence is complete, or at the next tick. -/
  | verdict
  /-- RESULT_RECORD_PUBLISH (R245). After the copy, the checker publishes the stamped result record and fires vector 2. -/
  | resultRecordPublish
  /-- EVENT_STAGING (R395). Within 1 ms of an event, the checker writes the record header, entries and grid into a staging buffer. -/
  | eventStaging
  /-- EVENT_LENS_APPEND (R395). The housekeeping core appends the latched Lens buffers, stopping with PARTIAL if ingest claims them. -/
  | eventLensAppend (claimed : Bool)
  /-- EVENT_FLASH_WRITE (R395). A staged event record is written to flash and its buffer freed. -/
  | eventFlashWrite (failed : List Nat)
  /-- SPEED_CLASS_CHANGE (R325). A new speed class takes effect in a channel, which forms the ramped limit L. -/
  | speedClassChange (c : Chan)
  /-- FAULT_PAIR_REGISTRATION (R285). A compute-die fault source is registered from its dual-rail pair and its reactions apply. -/
  | faultPairRegistration (src : Nat)
  /-- BROKEN_PAIR (R286). A pair stuck at 00 or 11 for three samples is judged broken, raising FLT_WIRE and its own source. -/
  | brokenPair (src : Nat)
  /-- CHECKER_SOURCE_RAISE (R288). A checker source registers through internal logic and its reactions apply. -/
  | checkerSourceRaise (src : Nat)
  /-- FENCE_CONFIRM (R295). The compute die confirms a fence to the checker. -/
  | fenceConfirm (n : Nat)
  /-- FENCE_CONFIRM_TIMEOUT (R295). No fence confirmation within 10 µs raises FLT_FENCE_FAIL. -/
  | fenceConfirmTimeout (n : Nat)
  /-- FATAL_RECORD_ACK (R303). The housekeeping core acknowledges the fatal record, and compute power is removed. -/
  | fatalRecordAck
  /-- FATAL_ACK_TIMEOUT (R303). Without an acknowledgement after 50 ms, compute power is removed. -/
  | fatalAckTimeout
  /-- ERR_OUT_HOLD_EXPIRY (R301). 10 ms after the last PIN registration the hold ends, and the pair deasserts if nothing else holds it. -/
  | errOutHoldExpiry
  /-- VMON_CMP (R296). A compute rail outside ±6 % for 2 µs raises VMON_CMP. -/
  | vmonCmp
  /-- FMON_CMP (R296). A 10 µs measuring window finds a compute clock deviating by more than 2 %, raising FMON_CMP. -/
  | fmonCmp
  /-- CHK_SUPPLY (R402). A checker rail outside ±6 % for 2 µs, or a crystal failure, registers CHK_SUPPLY. -/
  | chkSupply
  /-- FLT_FORCE (R299). A channel A write to FLT_FORCE forces a source or a broken pair, or is refused. -/
  | fltForce (v : Word)
  /-- FACET_TEST_COMPLETE (R297). The Facet test ends, and re-placement follows or the Facet becomes FAILED. -/
  | facetTestComplete (f : Nat) (t : FacetTest)
  /-- REPLACEMENT_COMPLETE (R173). Re-placement of the models into a returning Facet succeeds with verified digests, or fails after retries. -/
  | replacementComplete (f first : Nat)
  /-- REPAIR_RECORD_UPDATE (R394). A new repair record copy is written and verified before the engine's block reset uses it. -/
  | repairRecordUpdate (j : Nat) (fault : ArrayFault) (writeOk : Bool)
  /-- CHECKPOINT (R250). The two cores' checkpoints of signature and PC are compared. -/
  | checkpoint (m : MainCkpt) (x : Checkpoint)
  /-- CHECKPOINT_TIMEOUT (R250). The later core misses a checkpoint by 256 c-cycles, a TIMEOUT mismatch. -/
  | checkpointTimeout (m : LateCkpt)
  /-- STORE_COMPARE (R251). A Mirror-core store is compared with the oldest buffered main store, releasing it or failing STORE. -/
  | storeCompare (m : MainStores) (x : MirrorStore)
  /-- CHANNEL_A_RESTART (R254). Channel A's drive is removed, the pair is held in reset and the comparator is tested. -/
  | channelARestart (failTrial : Option Nat)
  /-- CORE_PAIR_RELEASE (R254). The pair is released at the ROM vector with fresh signatures, and the watchdog restarts. -/
  | corePairRelease (vec : Word) (reload : List Byte)
  /-- FIRMWARE_INIT_COMPLETE (R254). Channel A firmware finishes initializing, and CHK_CORE.SYNC reads 1. -/
  | firmwareInitComplete
  /-- DEBUG_HALT (R255). A debugger halts a core, splitting lockstep and forcing the outputs off. -/
  | debugHalt (c : Chan)
  /-- DEBUG_RESUME (R261). Both cores run again, and watchdog counting resumes. -/
  | debugResume (c : Chan)
  /-- WDG_SERVICE (R259). A service write is judged EARLY, WRONG or accepted against the question token. -/
  | wdgService (w : Service)
  /-- WDG_PHASE_OPEN (R259). The closed phase of the watchdog cycle expires and the open phase begins. -/
  | wdgPhaseOpen
  /-- WDG_MISSED (R259). The open phase ends with no accepted service, a MISSED failure. -/
  | wdgMissed
  /-- WDG_ENABLE (R260). A write of 1 to WDG_CTRL.EN starts the watchdog and locks its configuration. -/
  | wdgEnable
  /-- WDG_PHASE_CONFIG (R260). A write of WDG_CLOSED or WDG_OPEN is accepted in range, or sets CFG_REJ. -/
  | wdgPhaseConfig (isOpen : Bool) (v : Word)
  /-- LADDER_TIMER_EXPIRY (R263). The 10 s ladder timer after a failure expires. -/
  | ladderTimerExpiry
  /-- EXP_CNT_CLEAR (R263). 3,600 s of continuous RUN or DEGRADED without failure clears exp_cnt. -/
  | expCntClear
  /-- CVU_MODE_WRITE (R282). Channel A requests a context mode change through CVU_A_CFG.MODE. -/
  | cvuModeWrite (v : Word)
  /-- CVU_SNAPSHOT (R283). A write to CVU_x_SEL latches a snapshot of one context. -/
  | cvuSnapshot (m : Master) (v : Word)
  /-- PRF_SEL_WRITE (R360). A write of a counter select clears the counter and its flags and changes its event. -/
  | prfSelWrite (u i : Nat) (v : Word) (wraps : Bool)
  /-- SNAPSHOT_REQUEST (R366). A write of 1 to PRF_CTRL.SNAP latches a snapshot, or is dropped while one is being written. -/
  | snapshotRequest
  /-- SNAPSHOT_WRITE_COMPLETE (R367). A snapshot is written to the page and ring, PRF_SEQ increments and vector 9 fires. -/
  | snapshotWriteComplete
  /-- READ (R391). A host flash READ copies partition data to device memory. -/
  | read (v : Word)
  /-- PROGRAM (R391). A host flash PROGRAM clears VALID, writes the partition and sets VALID at the end. -/
  | program (v : Word)
  /-- ERASE (R391). A host flash ERASE clears the event recorder in MAINT. -/
  | erase (v : Word)
  /-- NVM_OP_COMPLETE (R391). A host flash operation completes into NVM_OP_STATUS and fires vector 10. -/
  | nvmOpComplete (r : FlashEnd)
  /-- ENCODER_EDGE (R320). An encoder A or B edge counts up or down, an illegal transition is counted, and Z may reference the position. -/
  | encoderEdge (e : EncAt) (a b z : Bool)
  /-- SPEED_SAMPLE_B (R321). Every 100 µs channel B samples the encoder speeds and checks the limits and discrepancy. -/
  | speedSampleB
  /-- SPEED_SAMPLE_A (R321). Every 250 µs channel A samples the encoder speeds and checks the limits and discrepancy. -/
  | speedSampleA
  /-- ESTOP_INPUT (R329). A filtered emergency stop input level is accepted, starting or ending a demand. -/
  | estopInput (c : Chan) (second closed : Bool)
  /-- ESTOP_DISCREPANCY (R330). The two filtered inputs have differed for 50 ms, raising SIO_ESTOP_DISC. -/
  | estopDiscrepancy (c : Chan)
  /-- SRESET_IN_LEVEL (R335). A filtered reset-button level is accepted, and a release judges the press. -/
  | sresetInLevel (c : Chan) (closed : Bool)
  /-- RESET_HELD_3S (R335). A press held to 3 s raises SIO_RESET_STUCK. -/
  | resetHeld3s (c : Chan)
  /-- ARMED_RESET_LAPSE (R337). An armed reset not used within 10 s lapses. -/
  | armedResetLapse
  /-- SEAL_READ (R319). Every 100 ms both channels read the sealed switches, and a difference raises SIO_SEAL. -/
  | sealRead (r : SealRead)
  /-- TEST_PULSE_START (R331). An energized output's pulse slot begins and its channel switches it off for 200 µs. -/
  | testPulseStart (o : Chan)
  /-- TEST_PULSE_END (R331). A pulse ends and the output returns, unless a demand suppresses the return. -/
  | testPulseEnd (o : Chan)
  /-- READBACK_SAMPLE (R333). A readback sample is judged against Table 13.2, and a failure raises SIO_FEEDBACK. -/
  | readbackSample (c o : Chan) (level : Bool)
  /-- ENABLE_REQUEST_CHANGE (R315). A channel withdraws or grants its enable request, and its switches follow within 100 µs. -/
  | enableRequestChange (c : Chan) (o : Chan)
  /-- FAULT_PAIR_CLEAR (R285). A dual-rail fault pair returns to 01 (no error), which re-arms registration of its source and re-arms the broken-pair judgement. -/
  | faultPairClear (src : Nat)
  /-- FLIT_CRC_ERROR (R183). A Diesk receiver gets a flit with a CRC error or an out-of-order SEQ, discards it and sends NAK. -/
  | flitCrcError (p : Nat)
  /-- COUNTER_WRAP (R361). A 48-bit performance counter passes 0xFFFF_FFFF_FFFF, wraps to 0, and sets its OVF bit and PRF_STATUS.OVF, which may fire vector 9. -/
  | counterWrap (u i : Nat)
  /-- ETH_LINK_CHANGE (R203). An Ethernet port gains or loses its link, which updates ETH_PORTn_STATUS.LINK and sets ETH_STATUS.LINK with its interrupt. -/
  | ethLinkChange (p : Nat) (up : Bool) (speed : Nat)
deriving DecidableEq, Repr

end Sys2Proof
end

