-- ==== Sys2Proof/Machine/State.lean ====
section
/-! DEFINITION. The state of the device as plain data, and its reset value. -/

namespace Sys2Proof.Machine

/-- The device states (Table 1.6). -/
inductive DevState where
  | boot | startupTest | configured | run | degraded | safe | fatal | maint
deriving DecidableEq, Repr, Inhabited

/-- SYNC_STATE (Table 2.8). -/
inductive SyncState where
  | disabled | acquiring | locked | freeRun
deriving DecidableEq, Repr, Inhabited

/-- The states of a Facet in FLT_FACET (Table 12.12). -/
inductive FacetState where
  | healthy | fenced | testing | replacing | ready | returnPending | failed | locked
deriving DecidableEq, Repr, Inhabited

/-- A verdict (Table 9.6). -/
inductive Verdict where
  | none | trusted | degraded | untrusted | overrun
deriving DecidableEq, Repr, Inhabited

/-- A decision to enter SAFE, or a cause of the entry in force (R422): the code of Table 12.14. -/
structure Decision where
  cause : Nat
  lockout : Bool
deriving DecidableEq, Repr, Inhabited

/-- The checker's device-state logic (R27, R30, R422), compute power and reset (R405, R406), ERR_OUT (R301)
and the deliberate reset (R337). Times are values of `Device.q`. -/
structure Checker where
  power : Bool
  dev : DevState
  prev : DevState
  cause : Nat
  lockout : Bool
  healthy : Nat
  causes : List Nat
  decisions : List Decision
  warm : Option Nat
  testsDone : Bool
  runSeen : Bool
  pwrEn : Bool
  cmpReset : Bool
  pinAt : Option Nat
  recordAt : Option Nat
  accepted : Bool
  armedAt : Option Nat
  romOnly : Bool
  relAt : Nat
deriving DecidableEq, Repr, Inhabited

/-- The OTP (R380, Table 16.3). Counters hold the number of bits set. -/
structure Otp where
  keyHash : List (BitVec 384)
  usage : List (BitVec 3)
  revoked : BitVec 8
  bootCtr : Nat
  structCtr : Nat
  deviceNumber : DWord
  deviceKey : BitVec 256
  factoryRepair : List Word
  wdgHwstart : Bool
  wdgMaxTries : Nat
deriving DecidableEq, Repr, Inhabited

/-- A partition of the flash (R389, R390). -/
structure Partition where
  start : Nat
  length : Nat
  valid : Bool
  version : Nat
deriving DecidableEq, Repr, Inhabited

/-- The outcome of boot (R375 to R393). `keep`: engines that stay fenced until the next warm reset (R394). `spare`: MEs
whose spare row was found faulty, which the repair record cannot tell from no fault (R74, R75; DESIGN CHOICE, log 134).
`test`: the parts of the test plan with their Facet-local addresses, the plan first (R306). -/
structure Boot where
  otp : Otp
  img : StructImg
  imgOk : Bool
  bootOk : Bool
  imgVersion : Nat
  imgKey : Nat
  bootVersion : Nat
  fwDigest : BitVec 384
  fwLen : Nat
  test : List (Nat × List Byte)
  repair : List Word
  unitFlags : List (BitVec 3)
  keep : List Nat
  spare : List Nat
  repairGen : Nat
  repairCopy : Nat
  parts : List Partition
  partGen : Nat
  partCopy : Nat
  sealed : SealSample
  sealOk : Bool
deriving DecidableEq, Repr, Inhabited

/-- A command as read at fetch (R107, R108): its logical address, its 64 bytes, whether a word of it carried the
poison mark, and the number of its tag record where it is tagged (R372). -/
structure FCmd where
  addr : Nat
  word : CmdWord
  poisoned : Bool
  tag : Option Nat
deriving DecidableEq, Repr, Inhabited

/-- A loop-stack entry (R123): the LOOP's address and the start of its body. -/
structure LoopEnt where
  addr : Nat
  lo : Nat
  iter : Nat
  step0 : Int
  step1 : Int
  step2 : Int
  step3 : Int
deriving DecidableEq, Repr, Inhabited

/-- What an engine is doing (Tables 3.10 and 5.17). -/
inductive Phase where
  | idle | waiting | executing | halted | abandoning
deriving DecidableEq, Repr, Inhabited

/-- A memory request that is outstanding (R125, R126): its number within the transfer, the a-cycle of its issue, the
spans whose page decodes hold it, whether it travels over Diesk links, and the data of a remote read that waits for an
earlier request on its destination line (R127). -/
structure Request where
  idx : Nat
  at_ : Nat
  held : List Nat
  remote : Bool
  ready : Option (List (Byte × Bool))
deriving DecidableEq, Repr, Inhabited

/-- A command that has started and whose completion has not been retired in list order (R111). `word` holds the
stepped fields. A transfer has `total` requests of which those below `next` have been issued, and `last` is the a-cycle
in which one completed last (R126); a SEND waits for `acks` packet acknowledgements (R135). -/
structure Act where
  addr : Nat
  word : CmdWord
  total : Nat
  next : Nat
  out : List Request
  acks : Nat
  done : Bool
  tag : Option Nat
  last : Nat
deriving DecidableEq, Repr, Inhabited

/-- One byte that a VE command will write, with its poison mark. -/
structure OutByte where
  addr : Nat
  val : Byte
  poison : Bool
deriving DecidableEq, Repr, Inhabited

/-- An engine (R20, R107 to R124). `fenced`: fenced for whatever reason; `faulted`: fenced for a fault (R295). `stopped`: block reset before END
(R20). `fetch`: the address of the next command to fetch, none once an END has been fetched. -/
structure Eng where
  fenced : Bool
  faulted : Bool
  unusable : Bool
  stopped : Bool
  start : Nat
  fetch : Option Nat
  queue : List FCmd
  loops : List LoopEnt
  phase : Phase
  blocked : Option (Ctr × Nat)
  waitDone : Bool
  acts : List Act
  atEnd : Bool
  veOut : List OutByte
  tagLeft : Nat
  lfsr : BitVec 16
deriving DecidableEq, Repr, Inhabited

/-- Weights in an array (R62, R81, R85): `rows` K-rows of 32 element codes, block scales, marks, and the fields of
the command that loaded them. -/
structure Weights where
  k : Nat
  wfmt : Nat
  scaleEn : Bool
  nmask : BitVec 32
  rows : List (List Nat)
  scales : List (List Byte)
  poison : Bool
deriving DecidableEq, Repr, Inhabited

/-- A result row on its way to the accumulator (R87, R99): 32 column outputs, the checksum output, and whether
rule 1 or 2 of R85 poisons it. -/
structure RowRes where
  y : List Word
  z : BitVec 48
  poison : Bool
deriving DecidableEq, Repr, Inhabited

/-- An address-generation descriptor (R136, Table 5.10). -/
structure Agd where
  kh : Nat
  kw : Nat
  sx : Nat
  sy : Nat
  dx : Nat
  dy : Nat
  pb : Nat
  pt : Nat
  pr : Nat
  pl : Nat
  ih : Nat
  iw : Nat
  c : Nat
  oh : Nat
  ow : Nat
  nimg : Nat
  base : Nat
  rowPitch : Nat
  pixPitch : Nat
  imgPitch : Nat
deriving DecidableEq, Repr, Inhabited

/-- A matrix command in the engine's pipeline (R67). Times are a-cycles. `v`: when the header WAIT was satisfied,
none while it is not. `s`: the stream start. `bias`: the bias vector read. `rows`: the results; those below `next` are
written. `waste`: rows that are challenge-only or all padding (R364). -/
structure MeCmd where
  addr : Nat
  word : CmdWord
  agd : Option Agd
  b : Nat
  v : Option Nat
  s : Option Nat
  bias : List Word
  rows : List RowRes
  waste : List Bool
  next : Nat
  mismatched : Bool
  injected : Bool
  tag : Option Nat
deriving DecidableEq, Repr, Inhabited

/-- The array of one ME (R61 to R88). `frozen`: the a-cycle in which it was frozen last (R64). -/
structure Me where
  active : Option Weights
  shadow : Option Weights
  pipe : List MeCmd
  sPrev : Nat
  spanPrev : Nat
  agd : Tab Agd
  frozen : Option Nat
deriving DecidableEq, Repr, Inhabited

/-- SIGNAL amounts on their way to a counter (R116): `at` is the a-cycle of arrival. -/
structure SigMsg where
  ctr : Ctr
  amount : Nat
  eng : Nat
  at_ : Nat
deriving DecidableEq, Repr, Inhabited

/-- A MARK message on its way to the checker (R120), with the a-cycle in which it left. -/
structure MarkMsg where
  eng : Nat
  stage : Nat
  frame : BitVec 16
  at_ : Nat
deriving DecidableEq, Repr, Inhabited

/-- What the stored page check words of a span differ by from those of the data as stored (R150, R154): the
residues of C0 and C1, and the syndromes of the two check words' own codes. -/
structure SpanErr where
  s0 : DWord
  s1 : DWord
  cw0 : Byte
  cw1 : Byte
deriving DecidableEq, Repr, Inhabited

/-- A merge-buffer entry (R155): the controller, the line, the bytes with their valid mask, the poison bit per
word and the time of allocation. -/
structure MergeEnt where
  ctrl : Nat
  line : Nat
  mask : BitVec 64
  bytes : List Byte
  poison : BitVec 8
  born : Nat
deriving DecidableEq, Repr, Inhabited

/-- The memory system (R141 to R165). `data`: bytes as stored; an unlisted byte reads 0 (R146). `syn`: stored check
bits XOR recomputed check bits of each word; unlisted is 0. -/
structure MemSys where
  data : List Host.Cell
  syn : Tab Byte
  span : Tab SpanErr
  merge : List MergeEnt
  cache : List (Nat × Nat)
  decode : List Nat
  scrubPos : Tab Nat
  scrubDone : List Nat
  lapAt : Nat
deriving DecidableEq, Repr, Inhabited

/-- A Facet (R297, R298). `zeroing`: powered up and not yet zeroed. `fences`: times of its fences. -/
structure Facet where
  powered : Bool
  zeroing : Bool
  st : FacetState
  fences : List Nat
  acceptedAt : Nat
  powerAt : Nat
deriving DecidableEq, Repr, Inhabited

/-- A Prism (R21, R307 to R309): disabled by the structure image, the self-test segment in progress with its start,
the next segment, the segment that stopped the last pass, and the frame of its last forced segment. -/
structure Prism where
  disabled : Bool
  fenced : Bool
  seg : Option (Nat × Nat)
  nextSeg : Nat
  failSeg : Nat
  forcedFrame : Option Word
deriving DecidableEq, Repr, Inhabited

/-- What a fence takes (R295). -/
inductive FenceScope where
  | engine (e : Nat)
  | prism (q : Nat)
  | facet (f : Nat)
deriving DecidableEq, Repr, Inhabited

/-- A fence that the compute die has not confirmed (R295). -/
structure FencePend where
  scope : FenceScope
  at_ : Nat
deriving DecidableEq, Repr, Inhabited

/-- The level of a background class (R56). -/
inductive BgLevel where
  | normal | urgent | forced
deriving DecidableEq, Repr, Inhabited

/-- One background class instance: its level and since when its age counts. -/
structure Bg where
  level : BgLevel
  ageFrom : Nat
deriving DecidableEq, Repr, Inhabited

/-- Where a swap request stands (R48). -/
inductive SwapStage where
  | validating | digest | pending
deriving DecidableEq, Repr, Inhabited

/-- The swap request in progress (R48): its tag, the slot it names and, once pending, when the checker's comparison
completed. -/
structure Swap where
  tag : Byte
  slot : Nat
  stage : SwapStage
  doneAt : Nat
deriving DecidableEq, Repr, Inhabited

/-- A manifest entry (Table 7.4). -/
structure ManEntry where
  kind : Nat
  fmt : Nat
  partner : Nat
  safety : Bool
  len : Nat
  ctx : Nat
  stage : Nat
  rel : BitVec 16
  abs : BitVec 16
deriving DecidableEq, Repr, Inhabited

/-- A challenge slot (Table 7.5). -/
structure ManSlot where
  addr : Nat
  shape : Nat
  len : Nat
  out : Nat
deriving DecidableEq, Repr, Inhabited

/-- An Aperture manifest (R170). -/
structure Manifest where
  entries : List ManEntry
  slots : List ManSlot
  rc : List Nat
  readers : List Nat
deriving DecidableEq, Repr, Inhabited

/-- The plan variant in force (R37, R48): start pointers by logical engine index, stage windows, manifest. -/
structure PlanVar where
  starts : List Nat
  windows : List StageWin
  man : Manifest
deriving DecidableEq, Repr, Inhabited

/-- The tick generator and plan slots (R36 to R54, R306). Compute times are total ns of the time unit, checker
times total ns of the copy. -/
structure Tck where
  running : Bool
  sync : SyncState
  expected : Nat
  edgeUsed : Bool
  inRun : Nat
  oowRun : Nat
  active : Option Nat
  variant : Option Nat
  period : Nat
  rsv : Nat
  stm : Nat
  modelTag : DWord
  plan : PlanVar
  map : List Nat
  used : List Nat
  swap : Option Swap
  abandoning : Bool
  testWait : Bool
  testEnd : Bool
  testPlan : List (Nat × Nat)
  allEndSent : Bool
  frameOpen : Bool
  lastTickChk : Nat
  tickQ : Nat
  copySteps : Int
  skipInterval : Bool
  ovrEng : Nat
  ovrFrame : Word
  grantedStep : Bool
  firstTick : Bool
  phaseRef : Nat
deriving DecidableEq, Repr, Inhabited

/-- A resident entry's state (Table 7.14). -/
inductive ResState where
  | empty | loading | resident
deriving DecidableEq, Repr, Inhabited

/-- A section of a model image (Table 7.2). -/
structure Section where
  type : Nat
  flags : Nat
  sv : Nat
  offset : Nat
  length : Nat
  place : Nat
  digest : BitVec 384
deriving DecidableEq, Repr, Inhabited

/-- A tile of the answer store (Table 9.5). -/
structure Tile where
  shape : Nat
  inLen : Nat
  inOfs : Nat
  inCrc : Word
  answer : List Byte
deriving DecidableEq, Repr, Inhabited

/-- A resident model (R168 to R180). -/
structure Model where
  st : ResState
  tag : DWord
  narrowTol : Bool
  sharded : Bool
  sections : List Section
  tiles : List Tile
  chalBase : Nat
  ctxs : List Nat
  sysTag : DWord
  svs : Nat
  reqMask : List Nat
deriving DecidableEq, Repr, Inhabited

/-- The LOAD, REPLACE or UNLOAD in progress (R174, R179, R180). `waitTick`: a REPLACE before its tick. -/
structure LoadOp where
  op : Nat
  tag : Byte
  args : ReqArgs
  entry : Nat
  waitTick : Bool
deriving DecidableEq, Repr, Inhabited

/-- A running request (R352): operation code, tag, argument 0. -/
structure RunReq where
  op : Nat
  tag : Byte
  a0 : Word
deriving DecidableEq, Repr, Inhabited

/-- What the last read returned to its master: data, the EP bit, Unsupported Request. -/
structure ReadRsp where
  data : List Byte
  ep : Bool
  ur : Bool
deriving DecidableEq, Repr, Inhabited

/-- The host interface (R340 to R356). `sent`: MSI-X messages issued per vector. `cfg`: what is written in the configuration
space, by offset. -/
structure Hif where
  running : List RunReq
  sent : Tab Nat
  linkUp : Bool
  cfg : Tab Word
  rsp : ReadRsp
  busyTill : Nat
deriving DecidableEq, Repr, Inhabited

/-- One capture channel before its latch (R217). -/
structure Capture where
  ns : Nat
  sec : Nat
  count : Word
deriving DecidableEq, Repr, Inhabited

/-- One trigger output (R218, R219): a pulse in progress since, and a pulse pending for this frame. -/
structure Trigger where
  since : Option Nat
  pending : Bool
deriving DecidableEq, Repr, Inhabited

/-- The time unit (R209 to R219). `tickNs`: its time at the tick, moved by steps. `msg`: the time that the compute die has
sent to the checker and that has not arrived (R220). -/
structure Tim where
  sec : Nat
  ns : Nat
  frac : Nat
  cap : Tab Capture
  trg : Tab Trigger
  grantAt : Option Nat
  tickNs : Nat
  msg : Option Nat
deriving DecidableEq, Repr, Inhabited

/-- The state of the checker's time copy (R220). -/
inductive CopyState where
  | notStarted | disciplined | freeRun
deriving DecidableEq, Repr, Inhabited

/-- The checker's time copy (R220, R221). `frac` and `inc`, its increment per 2.5 ns, count 1/400,000 ns, so that
removing θ over 1 ms adds θ to `inc` (DESIGN CHOICE, log 23). -/
structure CTime where
  sec : Nat
  ns : Nat
  frac : Nat
  inc : Nat
  st : CopyState
  refused : Nat
  grant : Bool
deriving DecidableEq, Repr, Inhabited

/-- A transmit timestamp (R216). -/
structure TxStamp where
  id : Nat
  sec : Nat
  ns : Nat
deriving DecidableEq, Repr, Inhabited

/-- A line of a camera frame (R196, R201). -/
structure LensLine where
  y : Nat
  px : List Nat
  bad : Bool
deriving DecidableEq, Repr, Inhabited

/-- A camera frame from its Frame Start until its writes are acknowledged (R196 to R202): its buffer once it has one, and
lines that wait for one. `ended`: its Frame End has come, or the next Frame Start cut it. -/
structure LensFrame where
  ended : Bool
  buf : Option Nat
  num : Nat
  sofNs : Nat
  sofSec : Nat
  eofNs : Nat
  eofSec : Nat
  lines : List LensLine
  waiting : List LensLine
  truncated : Bool
  overflow : Bool
deriving DecidableEq, Repr, Inhabited

/-- A complete camera frame (R198 to R200): its buffer, its age in ticks, its SOF time and the a-cycle of its completion. -/
structure LensDone where
  buf : Nat
  age : Nat
  sofNs : Nat
  sofSec : Nat
  at_ : Nat
deriving DecidableEq, Repr, Inhabited

/-- A camera stream (R195 to R202). Buffers are numbered 0 to 2; `missing` lists the Facets that do not hold each.
`frames`: the camera frames that are not complete, oldest first; `done`: the complete ones, newest first, of which two are
kept. `latStale` holds for the latched buffer and becomes `stale` when the view shows it. -/
structure Lens where
  frames : List LensFrame
  lineNo : Nat
  seq : Nat
  done : List LensDone
  latched : Option Nat
  shown : Option Nat
  latStale : Bool
  stale : Bool
  missing : Tab (List Nat)
deriving DecidableEq, Repr, Inhabited

/-- An Ethernet view (R205): the collecting buffer, what it holds, the buffer shown, the buffer that the next restart
shows, and records that came between a tick and its restart. -/
structure EthView where
  collecting : Nat
  count : Nat
  bytes : Nat
  dropped : Nat
  shown : Option Nat
  next : Option Nat
  held : List (List Byte)
deriving DecidableEq, Repr, Inhabited

/-- Ethernet (R203 to R216). `wire`: frames sent per port, most recent last, with their port. -/
structure Eth where
  ringsLost : Bool
  view : Tab EthView
  tsq : Tab (List TxStamp)
  wire : List (Nat × List Byte)
deriving DecidableEq, Repr, Inhabited

/-- A range frame held for forwarding (R207). -/
structure FwdFrame where
  bytes : List Byte
  sec : Nat
  ns : Nat
deriving DecidableEq, Repr, Inhabited

/-- A frame that the host sent on port 6 or 7, on its way to the checker (R208). -/
structure RngTx where
  bytes : List Byte
  tsId : Nat
  tsReq : Bool
  desc : Nat
deriving DecidableEq, Repr, Inhabited

/-- Range ports and the binning unit (R207, R227, R228). `fwd`: the forwarding buffer, oldest first, with the port of each
frame. `grid`: counts by cell index b. -/
structure Rng where
  fwd : List (Nat × FwdFrame)
  tx : Tab (List RngTx)
  tsq : Tab (List TxStamp)
  wire : List (Nat × List Byte)
  grid : Tab Nat
  pts : Tab Nat
  binned : Nat
  closed : Tab Nat
  closedPts : Tab Nat
deriving DecidableEq, Repr, Inhabited

/-- A packet on the Aperture link (R223, R275): its entry and offset, and the bytes as sent. -/
structure Packet where
  eng : Nat
  entry : Nat
  ofs : Nat
  bytes : List Byte
  marks : List Bool
  last : Bool
deriving DecidableEq, Repr, Inhabited

/-- A manifest entry as received (R224). -/
structure Recv where
  data : List Byte
  poison : Bool
  arrival : Option Nat
  cmpDone : Bool
deriving DecidableEq, Repr, Inhabited

/-- A result record that waits to be published (R245): its frame, its bytes before and after ALIVE, its stamps, and
what is copied into the result buffer. -/
structure Pub where
  frame : Nat
  pre : List Byte
  post : List Byte
  stamps : List Byte
  copies : List (Nat × List Byte)
deriving DecidableEq, Repr, Inhabited

/-- The Aperture sender, receiver and verdict logic (R223 to R246). `causes` are those of the frame in progress, `carry`
those that the next frame starts with. `none_`: the frame gets no verdict but a record (R241). `allEndAt`: when the
all-END report arrived. `healthy`, `sv`: Facets and system variant of the frame. `abft`: the MEs whose ME_ABFT came.
`turn`: the engine whose packet the sender took last. `records`: the two record areas. -/
structure Apt where
  causes : BitVec 32
  carry : BitVec 32
  issued : Bool
  none_ : Bool
  allEndAt : Option Nat
  recv : Tab Recv
  healthy : Nat
  sv : Nat
  abft : List Nat
  packets : List Packet
  turn : Nat
  acks : List Nat
  draws : List Nat
  prevDraws : List Nat
  slotNext : Nat
  spliceDue : Bool
  splicing : Bool
  chalFail : Option Nat
  parFail : Option Nat
  zone : Nat
  restrict : Nat
  window : List Verdict
  speed : Nat
  verdict : Verdict
  pub : List Pub
  records : Tab (List Byte)
deriving DecidableEq, Repr, Inhabited

/-- A stage window in force (R265 to R270). -/
structure StwWin where
  stage : Nat
  count : Nat
  safety : Bool
  image : Bool
  openUs : Nat
  closeUs : Nat
  got : Nat
  closed : Bool
  extra : Bool
  missing : Bool
  timing : Bool
deriving DecidableEq, Repr, Inhabited

/-- The stage-window watchdogs (R265 to R270). `tickNs`: the tick in checker time. `flags`: STALE, UNDECLARED, LATE,
EARLY, MISSING, EXTRA of the frame from bit 5 down. `armed`: the frame is no test frame. -/
structure Stw where
  wins : List StwWin
  tickNs : Nat
  frame : BitVec 16
  flags : BitVec 6
  armed : Bool
  prev : Option (List Nat × Bool)
deriving DecidableEq, Repr, Inhabited

/-- The core pair (R247 to R256, R261). `due`: a restart has been caused and not begun. `sync`: the firmware has
initialized. `sigM`, `sigX`: the running signatures of the main and the Mirror core; `pc`: where the main core was last seen;
`retired`: instructions up to the last checkpoint; `delay`: the values that wait for the Mirror core, with the c-cycle of their
capture; `stores`: the main core's unmatched stores; `tcm`: the bytes of the TCM. -/
structure CorePair where
  due : Bool
  held : Bool
  split : Bool
  haltA : Bool
  haltB : Bool
  sync : Bool
  discard : Bool
  testPassed : Bool
  sigM : Word
  sigX : Word
  pc : Word
  retired : Nat
  delay : List (Nat × CoreInput)
  stores : List StoreEntry
  tcm : Tab Byte
deriving DecidableEq, Repr, Inhabited

/-- The processor watchdog (R257 to R262). `from`: the q at which the cycle would have started had nothing stopped it. -/
structure Wdg where
  running : Bool
  first : Bool
  from_ : Nat
  frozenAt : Option Nat
  openPhase : Bool
deriving DecidableEq, Repr, Inhabited

/-- The escalation ladder's timers (R263), always-on. -/
structure Ladder where
  expCnt : Nat
  lastKind : Nat
  runSince : Bool
  timerAt : Option Nat
  runFrom : Option Nat
deriving DecidableEq, Repr, Inhabited

/-- The owner of a context (R271, Table 11.7). -/
inductive Owner where
  | image | model0 | model1
deriving DecidableEq, Repr, Inhabited

/-- What a context was until it entered a mode at time `till` (R275, R277): its mode and the sender's counters. -/
structure CtxWas where
  till : Nat
  seqMode : Bool
  alive : BitVec 16
  seq : Word
deriving DecidableEq, Repr, Inhabited

/-- A check-value context (R272). -/
structure Ctx where
  en : Bool
  owner : Owner
  seqMode : Bool
  seqCap : Bool
  seed : Word
  maxGap : Nat
  dest : Word
  lastValid : Bool
  last : BitVec 16
  lastSeq : Word
  lastOut : Nat
  pass : Nat
  crc : Nat
  rep : Nat
  loss : Nat
  gap : Nat
  sndAlive : BitVec 16
  sndSeq : Word
  past : List CtxWas
deriving DecidableEq, Repr, Inhabited

/-- The check-value unit (R271 to R283). `before`: contexts as they stood before the judgements of a c-cycle, by that
c-cycle and their ID. -/
structure Cvu where
  ctx : Tab Ctx
  before : List (Nat × Nat × Ctx)
  frameFail : Nat
  nextFail : Nat
  raised : Bool
deriving DecidableEq, Repr, Inhabited

/-- A dual-rail pair (R285, R286). `level`: 0 no error, 1 error, 2 wires at 00. -/
structure Pair where
  level : Nat
  seen : Bool
  broken : Bool
  forced : Bool
deriving DecidableEq, Repr, Inhabited

/-- The fault collector's own state (R285 to R304). -/
structure Flt where
  pair : Tab Pair
  fences : List FencePend
  nmi : Nat
  irq : Nat
  logCyc : Nat
  logN : Nat
deriving DecidableEq, Repr, Inhabited

/-- An encoder as one channel sees it (R320 to R322): the levels, the count, the times of illegal transitions. -/
structure Encoder where
  a : Bool
  b : Bool
  z : Bool
  count : Int
  bad : List Nat
deriving DecidableEq, Repr, Inhabited

/-- A safety channel (R314 to R337), with encoder counters of its own. `referenced`, `posOfs`: what the position of encoder 0
adds to its count, in nm. `short`: its last press ended as SHORT. -/
structure Channel where
  enc0 : Encoder
  enc1 : Encoder
  referenced : Bool
  posOfs : Int
  cls : Nat
  clsFrom : Nat
  limFrom : Nat
  reached : Bool
  dir0 : Int
  dir1 : Int
  hist0 : List Int
  hist1 : List Int
  overRun : Nat
  dirRun : Nat
  posRun : Nat
  discFrom : Option Nat
  discDone : Bool
  calmFrom : Option Nat
  req : Bool
  estopA : Bool
  estopB : Bool
  seenOpen : Bool
  resetIn : Bool
  resetAt : Nat
  pressOk : Bool
  stuck : Bool
  release : Option Nat
  short : Bool
  posArmed : Bool
deriving DecidableEq, Repr, Inhabited

/-- A safety output (R315, R331 to R333): the switches that channels A and B hold closed, when it was energized and
switched off, its pulse, and what each channel has still to see of it. `waitA`, `waitB`: an enable that waits for the end of
a slot. `backAt`: when its last pulse ended. `pulseBad`: that pulse failed. -/
structure Output where
  swA : Bool
  swB : Bool
  waitA : Bool
  waitB : Bool
  onAt : Option Nat
  offAt : Nat
  pulseAt : Option Nat
  backAt : Option Nat
  pulsedA : Bool
  pulsedB : Bool
  pulseBad : Bool
  demand : Bool
  failRunA : Bool
  failRunB : Bool
  fb : Bool
  lowA : Option Nat
  lowB : Option Nat
deriving DecidableEq, Repr, Inhabited

/-- Machine safety I/O (R314 to R338). `lock`: SIO_LOCK bits. `press`: a press that both channels judge valid was released in
this c-cycle (R336). -/
structure Sio where
  chA : Channel
  chB : Channel
  outA : Output
  outB : Output
  lock : BitVec 7
  press : Bool
  sealEqual : Nat
  demand : Bool
  discClear : Bool
deriving DecidableEq, Repr, Inhabited

/-- A performance counter (R358 to R361). `irq`: its wrap is what PRF_STATUS.OVF reports;
`selAt`: the a-cycle after that of the last write of its select, 0 for none. -/
structure PrfCnt where
  val : BitVec 48
  ovf : Bool
  lost : Bool
  irq : Bool
  selAt : Nat
deriving DecidableEq, Repr, Inhabited

/-- A tag record (R373, Table 15.5). -/
structure TagRec where
  id : Nat
  eng : Nat
  opcode : Nat
  abandoned : Bool
  frame : Word
  addr : Nat
  stamp : List Word
deriving DecidableEq, Repr, Inhabited

/-- The performance collector (R358 to R374). `busy`: the latch time and the record being written; `latching`: the a-cycle of the
latch goes on. -/
structure Prf where
  cnt : Tab PrfCnt
  busy : Option (Nat × List Byte)
  latching : Bool
  tickLate : Option Nat
  page : List Byte
  open_ : List TagRec
  done : List TagRec
  drop : Nat
  nextId : Nat
deriving DecidableEq, Repr, Inhabited

/-- A host flash operation in progress (R391). -/
structure NvmOp where
  op : Nat
  tag : Nat
  part : Nat
  addr : Nat
  ofs : Nat
  len : Nat
deriving DecidableEq, Repr, Inhabited

/-- An event record on its way to flash (R395, R396): its kind and flags, bytes 0x008 to 0x01F of its header but SEQ,
the frame, its items by type, and whether the Lens buffers have been appended. -/
structure EventRec where
  kind : Nat
  flags : Nat
  head : List Byte
  frame : Nat
  items : List (Nat × List Byte)
  lensDone : Bool
deriving DecidableEq, Repr, Inhabited

/-- A block of the flash (R386, R387): its erase count, the logical block whose data it holds, whether it is retired or
factory-bad. -/
structure Blk where
  erases : Nat
  holds : Option Nat
  bad : Bool
  factory : Bool
deriving DecidableEq, Repr, Inhabited

/-- A good block that has never been erased. -/
def Blk.fresh : Blk := ⟨0, none, false, false⟩

/-- Flash (R384 to R396): its logical contents, the host operation in progress, events noted and not staged, staged
events, the events recorded since the partition was erased; the number of blocks, their size and their table; when the last
lap of the retention scan ended. -/
structure Nvm where
  flash : List Host.Cell
  op : Option NvmOp
  due : List EventRec
  staging : List EventRec
  seq : Nat
  blocks : Nat
  blkBytes : Nat
  page : Nat
  blk : Tab Blk
  lapAt : Nat
deriving DecidableEq, Repr, Inhabited

/-- A flit with its type (Table 7.10). -/
structure TxFlit where
  type : Nat
  flit : Flit
  replays : Nat
deriving DecidableEq, Repr, Inhabited

/-- A Diesk port (R181 to R184). `replay`: flits sent and not acknowledged, at most 512; `wait`: flits that wait for room
there. -/
structure DskPort where
  up : Bool
  training : Bool
  failed : Bool
  x8 : Bool
  partner : Nat
  major : Nat
  minor : Nat
  txSeq : Nat
  rxSeq : Nat
  replay : List TxFlit
  wait : List TxFlit
  peerDelay : Nat
deriving DecidableEq, Repr, Inhabited

/-- A remote request that awaits its answer (R186): engine, request number, device, address, read or write. -/
structure RemReq where
  eng : Nat
  idx : Nat
  dev : Nat
  addr : Nat
  read : Bool
deriving DecidableEq, Repr, Inhabited

/-- What a device of the system last reported (R191). `left`: it has left PRESENT; `streak`: qualifying flits since. -/
structure SysDev where
  state : Nat
  sysTag : DWord
  claim : Bool
  fresh : Bool
  streak : Nat
  left : Bool
deriving DecidableEq, Repr, Inhabited

/-- Diesk links and the system (R181 to R192). `periodUs`: PERIOD_US of the last TICK flit that a follower took. -/
structure Dsk where
  port : Tab DskPort
  out : List (Nat × TxFlit)
  rem : List RemReq
  sys : Tab SysDev
  present : List Nat
  routes : Tab Nat
  nextTick : Option (Nat × Nat × Nat × Nat × Bool)
  annSv : Option Nat
  annSafe : Bool
  lost : Nat
  claimAt : Option Nat
  periodUs : Nat
  newMaster : Bool
  sysCause : Bool
  hasMaster : Bool
deriving DecidableEq, Repr, Inhabited

/-- An engine's write of a word in the a-cycle in progress (R78, R128): the writer, 168 and above for a drain, and what
the word held before that a-cycle, with its mark. -/
structure Race where
  word : Nat
  eng : Nat
  old : Nat
  mark : Bool
deriving DecidableEq, Repr, Inhabited

/-- The device. `q`: elapsed time in 1/14 ns (a-cycle 20, c-cycle 35, 2 ns 28). `free`: the model's own counter of
free values, not the spec's. `regs`: every register whose value differs from its reset value, keyed by BAR0 offset
(checker window at 0x200_0000). `races`: the words that engines wrote in a-cycle `raceAt` (R78, R128). `evts`: register, bit and cycle of the
W1C bits that the device set and the W1S bits that a write set in the cycle in progress (R10). -/
structure Device where
  q : Nat
  free : Nat
  regs : Tab Word
  chk : Checker
  boot : Boot
  tck : Tck
  eng : Tab Eng
  me : Tab Me
  sigs : List SigMsg
  marks : List MarkMsg
  mem : MemSys
  facet : Tab Facet
  prism : Tab Prism
  bg : Tab Bg
  rsv : Tab Nat
  model0 : Model
  model1 : Model
  load : Option LoadOp
  hif : Hif
  tim : Tim
  ctime : CTime
  lens : Tab Lens
  eth : Eth
  rng : Rng
  apt : Apt
  stw : Stw
  core : CorePair
  wdg : Wdg
  ladder : Ladder
  cvu : Cvu
  flt : Flt
  sio : Sio
  prf : Prf
  nvm : Nvm
  dsk : Dsk
  raceAt : Nat
  races : List Race
  evts : List (Nat × Nat × Nat)
deriving DecidableEq, Repr, Inhabited

/-- The state: the commands that wait, first in first out, and the device. -/
structure State where
  pending : List Instr
  dev : Device
deriving DecidableEq, Repr

/-- Why a step faults. No meaning of this model ends so: the constructor is there because the interface asks for a
type of faults. Safe: it is never raised. -/
inductive Fault where
  /-- Raised by nothing. Safe. -/
  | unreachable
deriving DecidableEq, Repr

/-- Why a step is refused. -/
inductive Refusal where
  /-- Raised by the dispatch arm of a command that has no meaning yet, with its mnemonic. Safe: no claim about
  the command can be proved from it. -/
  | notModelled (mnemonic : String)
deriving DecidableEq, Repr

/-! ## Reset -/

/-- An unprogrammed OTP; the option fuses hold WDG_HWSTART 1 and WDG_MAX_TRIES 3. DESIGN CHOICE, log 4. -/
def Otp.reset : Otp where
  keyHash := []
  usage := []
  revoked := 0
  bootCtr := 0
  structCtr := 0
  deviceNumber := 0
  deviceKey := 0
  factoryRepair := []
  wdgHwstart := true
  wdgMaxTries := 3

/-- The empty structure image that stands before STRUCTURE_IMAGE_VERIFY selects one. DESIGN CHOICE, log 5. -/
def emptyImage : StructImg where
  device := { facetEn := 0, prismEn := 0, periodUs := 0, syncEn := false, slotA := 0, slotB := 0, maBase := 0,
              maEnd := 0, fbufResKib := 0, resOfs := 0, resBytes := 0, resSeed := 0, ceLog := false,
              timStepMax := 0, evtBytes := 0, evtStreams := 0, commit := false, revokeMask := 0 }
  tolerance := []
  lens := []
  filters := []
  views := []
  tsAdj := []
  pins := { usxgmii := 0, lensEn := 0, ethEn := 0, dskEn := 0, nvmEn := 0 }
  reaction := []
  safety := []
  stage := []
  contexts := []
  diesk := { topo := 0, size := 0, devId := 0, masterEn := false }

/-- Boot before any of its steps. -/
def Boot.reset : Boot where
  otp := .reset
  img := emptyImage
  imgOk := false
  bootOk := false
  imgVersion := 0
  imgKey := 0
  bootVersion := 0
  fwDigest := 0
  fwLen := 0
  test := []
  repair := []
  unitFlags := []
  keep := []
  spare := []
  repairGen := 0
  repairCopy := 0
  parts := []
  partGen := 0
  partCopy := 0
  sealed := { sel := 0, selN := 0, code := 0 }
  sealOk := false

/-- The checker right after CHECKER_SUPPLY_VALID (R375). DESIGN CHOICE, log 3. -/
def Checker.reset : Checker where
  power := true
  dev := .boot
  prev := .boot
  cause := 0
  lockout := false
  healthy := 0
  causes := []
  decisions := []
  warm := none
  testsDone := false
  runSeen := false
  pwrEn := false
  cmpReset := true
  pinAt := none
  recordAt := none
  accepted := false
  armedAt := none
  romOnly := false
  relAt := 0

/-- An engine that has nothing to do. -/
def Eng.reset : Eng where
  fenced := false
  faulted := false
  unusable := false
  stopped := false
  start := 0
  fetch := none
  queue := []
  loops := []
  phase := .idle
  blocked := none
  waitDone := false
  acts := []
  atEnd := true
  veOut := []
  tagLeft := 0
  lfsr := 0

/-- An array with no weights. -/
def Me.reset : Me where
  active := none
  shadow := none
  pipe := []
  sPrev := 0
  spanPrev := 0
  agd := []
  frozen := none

/-- A Facet before its power switch closes (R146); FLT_FACET reads 0. -/
def Facet.reset : Facet where
  powered := false
  zeroing := false
  st := .healthy
  fences := []
  acceptedAt := 0
  powerAt := 0

/-- A Prism at reset (Table 12.13). -/
def Prism.reset : Prism where
  disabled := false
  fenced := false
  seg := none
  nextSeg := 0
  failSeg := 0xFF
  forcedFrame := none

/-- A background class at reset (R56). -/
def Bg.reset : Bg where
  level := .normal
  ageFrom := 0

/-- A memory system whose memories hold zeros with valid codes (R146). -/
def MemSys.reset : MemSys where
  data := []
  syn := []
  span := []
  merge := []
  cache := []
  decode := []
  scrubPos := []
  scrubDone := []
  lapAt := 0

/-- No plan in force. -/
def PlanVar.reset : PlanVar where
  starts := []
  windows := []
  man := { entries := [], slots := [], rc := [], readers := [] }

/-- The tick generator at reset (Table 2.8; `expected`: DESIGN CHOICE, log 6). -/
def Tck.reset : Tck where
  running := false
  sync := .disabled
  expected := 0
  edgeUsed := false
  inRun := 0
  oowRun := 0
  active := none
  variant := none
  period := 0
  rsv := 0
  stm := 0
  modelTag := 0
  plan := .reset
  map := []
  used := []
  swap := none
  abandoning := false
  testWait := false
  testEnd := false
  testPlan := []
  allEndSent := false
  frameOpen := false
  lastTickChk := 0
  tickQ := 0
  copySteps := 0
  skipInterval := false
  ovrEng := 0
  ovrFrame := 0
  grantedStep := false
  firstTick := true
  phaseRef := 0

/-- An empty resident entry (Table 7.14). -/
def Model.reset : Model where
  st := .empty
  tag := 0
  narrowTol := false
  sharded := false
  sections := []
  tiles := []
  chalBase := 0
  ctxs := []
  sysTag := 0
  svs := 0
  reqMask := []

/-- The host interface at reset (R340 to R347; link and Bus Master Enable PRESUMED, log 7). -/
def Hif.reset : Hif where
  running := []
  sent := []
  linkUp := false
  cfg := []
  rsp := { data := [], ep := false, ur := false }
  busyTill := 0

/-- The time unit at reset: 0 s (R209). -/
def Tim.reset : Tim where
  sec := 0
  ns := 0
  frac := 0
  cap := []
  trg := []
  grantAt := none
  tickNs := 0
  msg := none

/-- The time copy at reset: 0 s, not started (R220). Its increment is the nominal 2.5 ns. -/
def CTime.reset : CTime where
  sec := 0
  ns := 0
  frac := 0
  inc := 1000000
  st := .notStarted
  refused := 0
  grant := false

/-- A camera stream at reset. -/
def Lens.reset : Lens where
  frames := []
  lineNo := 0
  seq := 0
  done := []
  latched := none
  shown := none
  latStale := false
  stale := false
  missing := []

/-- An Ethernet view at reset. -/
def EthView.reset : EthView where
  collecting := 0
  count := 0
  bytes := 0
  dropped := 0
  shown := none
  next := none
  held := []

/-- The Aperture receiver at reset; the restriction count is 2 (R243). -/
def Apt.reset : Apt where
  causes := 0
  carry := 0
  issued := true
  none_ := true
  allEndAt := none
  recv := []
  healthy := 0
  sv := 0
  abft := []
  packets := []
  turn := 0
  acks := []
  draws := []
  prevDraws := []
  slotNext := 0
  spliceDue := false
  splicing := false
  chalFail := none
  parFail := none
  zone := 0
  restrict := 2
  window := []
  speed := 0
  verdict := .none
  pub := []
  records := []

/-- A context that is not enabled (R272). -/
def Ctx.reset : Ctx where
  en := false
  owner := .image
  seqMode := false
  seqCap := false
  seed := 0
  maxGap := 0
  dest := 0
  lastValid := false
  last := 0
  lastSeq := 0
  lastOut := 0
  pass := 0
  crc := 0
  rep := 0
  loss := 0
  gap := 0
  sndAlive := 0
  sndSeq := 0
  past := []

/-- A pair at 01 (Table 12.1). -/
def Pair.reset : Pair where
  level := 0
  seen := false
  broken := false
  forced := false

/-- An encoder at reset. -/
def Encoder.reset : Encoder where
  a := false
  b := false
  z := false
  count := 0
  bad := []

/-- A safety channel at reset: inputs not accepted as closed, no request. -/
def Channel.reset : Channel where
  enc0 := .reset
  enc1 := .reset
  referenced := false
  posOfs := 0
  cls := 0
  clsFrom := 0
  limFrom := 0
  reached := false
  dir0 := 0
  dir1 := 0
  hist0 := []
  hist1 := []
  overRun := 0
  dirRun := 0
  posRun := 0
  discFrom := none
  discDone := false
  calmFrom := none
  req := false
  estopA := false
  estopB := false
  seenOpen := false
  resetIn := false
  resetAt := 0
  pressOk := false
  stuck := false
  release := none
  short := false
  posArmed := false

/-- An output at reset: off (R375). -/
def Output.reset : Output where
  swA := false
  swB := false
  waitA := false
  waitB := false
  onAt := none
  offAt := 0
  pulseAt := none
  backAt := none
  pulsedA := false
  pulsedB := false
  pulseBad := false
  demand := false
  failRunA := false
  failRunB := false
  fb := false
  lowA := none
  lowB := none

/-- Safety I/O at reset. -/
def Sio.reset : Sio where
  chA := .reset
  chB := .reset
  outA := .reset
  outB := .reset
  lock := 0
  press := false
  sealEqual := 0
  demand := false
  discClear := false

/-- A Diesk port that is down (R184). -/
def DskPort.reset : DskPort where
  up := false
  training := false
  failed := false
  x8 := false
  partner := 0
  major := 0
  minor := 0
  txSeq := 0
  rxSeq := 0
  replay := []
  wait := []
  peerDelay := 0

/-- The device at reset. -/
def Device.reset : Device where
  q := 0
  free := 0
  regs := []
  chk := .reset
  boot := .reset
  tck := .reset
  eng := []
  me := []
  sigs := []
  marks := []
  mem := .reset
  facet := []
  prism := []
  bg := []
  rsv := []
  model0 := .reset
  model1 := .reset
  load := none
  hif := .reset
  tim := .reset
  ctime := .reset
  lens := []
  eth := { ringsLost := false, view := [], tsq := [], wire := [] }
  rng := { fwd := [], tx := [], tsq := [], wire := [], grid := [], pts := [], binned := 0, closed := [],
           closedPts := [] }
  apt := .reset
  stw := { wins := [], tickNs := 0, frame := 0, flags := 0, armed := false, prev := none }
  core := { due := false, held := true, split := false, haltA := false, haltB := false, sync := false,
            discard := false, testPassed := false, sigM := 0xFFFFFFFF, sigX := 0xFFFFFFFF, pc := 0, retired := 0,
            delay := [], stores := [], tcm := [] }
  wdg := { running := false, first := true, from_ := 0, frozenAt := none, openPhase := false }
  ladder := { expCnt := 0, lastKind := 0, runSince := false, timerAt := none, runFrom := none }
  cvu := { ctx := [], before := [], frameFail := 0, nextFail := 0, raised := false }
  flt := { pair := [], fences := [], nmi := 0, irq := 0, logCyc := 0, logN := 0 }
  sio := .reset
  prf := { cnt := [], busy := none, latching := false, tickLate := none, page := [], open_ := [], done := [], drop := 0, nextId := 0 }
  nvm := { flash := [], op := none, due := [], staging := [], seq := 0, blocks := 0, blkBytes := 0, page := 0, blk := [], lapAt := 0 }
  dsk := { port := [], out := [], rem := [], sys := [], present := [], routes := [], nextTick := none,
           annSv := none, annSafe := false, lost := 0, claimAt := none, periodUs := 0, newMaster := false, sysCause := false,
           hasMaster := false }
  raceAt := 0
  races := []
  evts := []

/-- The machine right after reset: the checker supply has just become valid (R375), nothing waits. -/
def State.reset : State where
  pending := []
  dev := .reset

end Sys2Proof.Machine
end

