-- ==== Sys2Proof/Machine/Bits.lean ====
section
/-! DEFINITION. Sparse tables, bit fields, sign extension, byte order (R4), CRC-32C (R276) and list helpers. -/

namespace Sys2Proof.Machine

/-! ## Sparse tables -/

/-- The value at key `k`; an unlisted key holds `dflt`. -/
def tabGet {α : Type} (dflt : α) : Tab α → Nat → α
  | [], _ => dflt
  | (k', v) :: t, k => if k = k' then v else tabGet dflt t k

/-- `t`, which does not list `k`, with `v` at `k`: before the first larger key. -/
def tabIns {α : Type} : Tab α → Nat → α → Tab α
  | [], k, v => [(k, v)]
  | (k', v') :: t, k, v => if k < k' then (k, v) :: (k', v') :: t else (k', v') :: tabIns t k v

/-- `t` with `v` at key `k`, in canonical form: keys strictly rising, no entry equal to `dflt`. -/
def tabSet {α : Type} [DecidableEq α] (dflt : α) (t : Tab α) (k : Nat) (v : α) : Tab α :=
  let r := t.filter fun e => !decide (e.1 = k)
  if v = dflt then r else tabIns r k v

/-- All keys of `t` lie above `k`. -/
def tabAbove {α : Type} (k : Nat) : Tab α → Bool
  | [] => true
  | (k', _) :: t => decide (k < k') && tabAbove k t

/-- The canonical form of a sparse table: keys strictly rising, no entry equal to `dflt`. -/
def tabWf {α : Type} [DecidableEq α] (dflt : α) : Tab α → Bool
  | [] => true
  | (k, v) :: t => tabAbove k t && decide (v ≠ dflt) && tabWf dflt t

/-- `t` without the keys from `lo` up to `hi` - 1. -/
def tabDrop {α : Type} (t : Tab α) (lo hi : Nat) : Tab α :=
  t.filter fun e => decide (e.1 < lo) || decide (hi ≤ e.1)

/-! ## Bits -/

/-- Bits [hi:lo] of a natural number (R4). -/
def natBits (n hi lo : Nat) : Nat := (n / 2 ^ lo) % 2 ^ (hi + 1 - lo)

/-- Bits [hi:lo] of a register. -/
def bits (w : Word) (hi lo : Nat) : Nat := natBits w.toNat hi lo

/-- Bit `i` of a register. -/
def bit (w : Word) (i : Nat) : Bool := w.getLsbD i

/-- A register of which only bits [hi:lo] are set. -/
def maskOf (hi lo : Nat) : Word := BitVec.ofNat 32 ((2 ^ (hi + 1 - lo) - 1) * 2 ^ lo)

/-- `w` with bits [hi:lo] replaced by the low bits of `v`. -/
def putBits (w : Word) (hi lo v : Nat) : Word :=
  (w &&& ~~~ maskOf hi lo) ||| (BitVec.ofNat 32 (v * 2 ^ lo) &&& maskOf hi lo)

/-- `w` with bit `i` set to `b`. -/
def putBit (w : Word) (i : Nat) (b : Bool) : Word := putBits w i i (if b then 1 else 0)

/-- 1 for true, 0 for false. -/
def b2n (b : Bool) : Nat := if b then 1 else 0

/-- `v` as a register. -/
def word (v : Nat) : Word := BitVec.ofNat 32 v

/-- The signed value of the low `n` bits of `v` (two's complement). -/
def sext (n v : Nat) : Int :=
  let u := v % 2 ^ n
  if u < 2 ^ (n - 1) then (u : Int) else (u : Int) - ((2 ^ n : Nat) : Int)

/-- The low `n` bits of an integer. -/
def wrapN (n : Nat) (i : Int) : Nat := (i % ((2 ^ n : Nat) : Int)).toNat

/-- An integer clamped to [lo, hi]. -/
def clampI (lo hi i : Int) : Int := if i < lo then lo else if hi < i then hi else i

/-- Saturating increment of a counter of `n` bits. -/
def satAdd (n v a : Nat) : Nat := min (2 ^ n - 1) (v + a)

/-- The quotient rounded to nearest, ties to even. -/
def divNearestEven (n d : Nat) : Nat :=
  let q := n / d
  let r := n % d
  if d < 2 * r then q + 1 else if 2 * r = d then q + q % 2 else q

/-- The quotient rounded up. -/
def ceilDiv (n d : Nat) : Nat := (n + d - 1) / d

/-! ## Bytes, little-endian (R4) -/

/-- The number that bytes spell, lowest first. -/
def leNat : List Byte → Nat
  | [] => 0
  | b :: bs => b.toNat + 256 * leNat bs

/-- The low `n` bytes of `v`, lowest first. -/
def toLe : Nat → Nat → List Byte
  | 0, _ => []
  | n + 1, v => BitVec.ofNat 8 v :: toLe n (v / 256)

/-- The number that bytes spell, highest first. -/
def beNat (bs : List Byte) : Nat := leNat bs.reverse

/-- `n` bytes of `l` from offset `ofs`; bytes past its end read 0. -/
def slice (l : List Byte) (ofs n : Nat) : List Byte :=
  let t := (l.drop ofs).take n
  t ++ List.replicate (n - t.length) 0

/-- The little-endian number in `n` bytes of `l` at `ofs`. -/
def leAt (l : List Byte) (ofs n : Nat) : Nat := leNat (slice l ofs n)

/-- `l` with the bytes at `ofs` replaced by `bs`. -/
def patch (l : List Byte) (ofs : Nat) (bs : List Byte) : List Byte :=
  l.take ofs ++ bs ++ l.drop (ofs + bs.length)

/-- All bytes are zero. -/
def allZero (bs : List Byte) : Bool := bs.all (· == 0)

/-! ## Commands -/

/-- The field of a command that starts at byte `b`, bit `lo` of it, `n` bits wide. -/
def cmdFld (c : CmdWord) (b lo n : Nat) : Nat := (c.toNat / 2 ^ (8 * b + lo)) % 2 ^ n

/-- A command with `n` bytes at byte `b` replaced by `v`. -/
def cmdPut (c : CmdWord) (b n v : Nat) : CmdWord :=
  let m : CmdWord := BitVec.ofNat 512 ((2 ^ (8 * n) - 1) * 2 ^ (8 * b))
  (c &&& ~~~ m) ||| (BitVec.ofNat 512 (v * 2 ^ (8 * b)) &&& m)

/-! ## Lists -/

/-- `f i` for each `i < n`, folded from `i = 0`. -/
def iterN {α : Type} (f : Nat → α → α) : Nat → α → α
  | 0, a => a
  | n + 1, a => f n (iterN f n a)

/-- Replace the element at `i` by `f` of it. -/
def modifyAt {α : Type} (l : List α) (i : Nat) (f : α → α) : List α := l.modify i f

/-- The element at `i`, or `dflt`. -/
def nth {α : Type} (l : List α) (i : Nat) (dflt : α) : α := l.getD i dflt

/-- A sum over a list. -/
def sumBy {α : Type} (f : α → Nat) (l : List α) : Nat := l.foldl (fun a x => a + f x) 0

/-- How many elements satisfy `p`. -/
def countBy {α : Type} (p : α → Bool) (l : List α) : Nat := (l.filter p).length

/-! ## CRC-32C (R276) -/

/-- One byte into the reflected register. -/
def crcByte (c : Nat) (b : Byte) : Nat :=
  iterN (fun _ x => if x % 2 = 1 then x / 2 ^^^ 0x82F63B78 else x / 2) 8 (c ^^^ b.toNat)

/-- The register after the bytes. -/
def crcRun (init : Nat) (bs : List Byte) : Nat := bs.foldl crcByte init

/-- CRC-32C with an initial value, final XOR 0xFFFF_FFFF. -/
def crc32c (init : Nat) (bs : List Byte) : Nat := crcRun init bs ^^^ 0xFFFFFFFF

end Sys2Proof.Machine
end

