-- ==== Sys2Proof/Machine/Regs.lean ====
section
/-! DEFINITION. The registers (R8, R357): the BAR0 offset of each, BAR4 registers at their mirror 0x200_0000 + offset
(R345); reset values (R13) and access masks (R9). -/

namespace Sys2Proof.Machine

/-- BAR0 offset of the block of the engine with physical index 7 (6f + p) + e (R117, R357). -/
abbrev engBase (e : Nat) : Nat :=
  0x1000000 + (e / 42) * 0x400000 + (e / 7 % 6) * 0x40000 + (e % 7) * 0x1000

/-- CHK_STATE (Table 1.6). -/
abbrev Reg.chkState : Nat := 0x2000000

/-- TCK_CTRL (Table 2.6). -/
abbrev Reg.tckCtrl : Nat := 0x10000

/-- TCK_STATUS (Table 2.6). -/
abbrev Reg.tckStatus : Nat := 0x10004

/-- TCK_PERIOD (Table 2.6). -/
abbrev Reg.tckPeriod : Nat := 0x10008

/-- TCK_FRAME (Table 2.6). -/
abbrev Reg.tckFrame : Nat := 0x1000C

/-- TCK_SLOT_A_LO (Table 2.6). -/
abbrev Reg.tckSlotALo : Nat := 0x10010

/-- TCK_SLOT_A_HI (Table 2.6). -/
abbrev Reg.tckSlotAHi : Nat := 0x10014

/-- TCK_SLOT_B_LO (Table 2.6). -/
abbrev Reg.tckSlotBLo : Nat := 0x10018

/-- TCK_SLOT_B_HI (Table 2.6). -/
abbrev Reg.tckSlotBHi : Nat := 0x1001C

/-- TCK_SYNC_OFS (Table 2.6). -/
abbrev Reg.tckSyncOfs : Nat := 0x10020

/-- TCK_SYNC_CNT (Table 2.6). -/
abbrev Reg.tckSyncCnt : Nat := 0x10024

/-- TCK_OVR_CNT (Table 2.6). -/
abbrev Reg.tckOvrCnt : Nat := 0x10028

/-- TCK_OVR_ENG (Table 2.6). -/
abbrev Reg.tckOvrEng : Nat := 0x1002C

/-- TCK_BG_STATE (Table 2.6). -/
abbrev Reg.tckBgState : Nat := 0x10030

/-- TCK_BG_FORCED_CNT (Table 2.6). -/
abbrev Reg.tckBgForcedCnt : Nat := 0x10034

/-- TCK_INT_EN (Table 2.6). -/
abbrev Reg.tckIntEn : Nat := 0x10038

/-- TCK_LAST_NS (Table 2.6). -/
abbrev Reg.tckLastNs : Nat := 0x10040

/-- TCK_LAST_SEC (Table 2.6). -/
abbrev Reg.tckLastSec : Nat := 0x10044

/-- ME_CTRL of engine e (Table 3.8). -/
abbrev Reg.meCtrl (e : Nat) : Nat := engBase e + 0x0

/-- ME_STATUS of engine e (Table 3.8). -/
abbrev Reg.meStatus (e : Nat) : Nat := engBase e + 0x4

/-- ME_CMD_ADDR_LO of engine e (Table 3.8). -/
abbrev Reg.meCmdAddrLo (e : Nat) : Nat := engBase e + 0x8

/-- ME_CMD_ADDR_HI of engine e (Table 3.8). -/
abbrev Reg.meCmdAddrHi (e : Nat) : Nat := engBase e + 0xC

/-- ME_ERR of engine e (Table 3.8). -/
abbrev Reg.meErr (e : Nat) : Nat := engBase e + 0x10

/-- ME_ERR_INFO of engine e (Table 3.8). -/
abbrev Reg.meErrInfo (e : Nat) : Nat := engBase e + 0x14

/-- ME_ABFT_ROW of engine e (Table 3.8). -/
abbrev Reg.meAbftRow (e : Nat) : Nat := engBase e + 0x18

/-- ME_ABFT_CMD of engine e (Table 3.8). -/
abbrev Reg.meAbftCmd (e : Nat) : Nat := engBase e + 0x1C

/-- ME_ABFT_FRAME of engine e (Table 3.8). -/
abbrev Reg.meAbftFrame (e : Nat) : Nat := engBase e + 0x20

/-- ME_ABFT_TOTAL of engine e (Table 3.8). -/
abbrev Reg.meAbftTotal (e : Nat) : Nat := engBase e + 0x24

/-- ME_ABFT_NONFIN of engine e (Table 3.8). -/
abbrev Reg.meAbftNonfin (e : Nat) : Nat := engBase e + 0x28

/-- ME_POISON_ROWS of engine e (Table 3.8). -/
abbrev Reg.mePoisonRows (e : Nat) : Nat := engBase e + 0x2C

/-- ME_ABFT_TOL0 of engine e (Table 3.8). -/
abbrev Reg.meAbftTol0 (e : Nat) : Nat := engBase e + 0x30

/-- ME_ABFT_TOL1 of engine e (Table 3.8). -/
abbrev Reg.meAbftTol1 (e : Nat) : Nat := engBase e + 0x34

/-- ME_ABFT_TOL2 of engine e (Table 3.8). -/
abbrev Reg.meAbftTol2 (e : Nat) : Nat := engBase e + 0x38

/-- ME_ABFT_TOL3 of engine e (Table 3.8). -/
abbrev Reg.meAbftTol3 (e : Nat) : Nat := engBase e + 0x3C

/-- ME_GEOM of engine e (Table 3.8). -/
abbrev Reg.meGeom (e : Nat) : Nat := engBase e + 0x40

/-- ME_INT_EN of engine e (Table 3.8). -/
abbrev Reg.meIntEn (e : Nat) : Nat := engBase e + 0x44

/-- VE_, FE_, SE_CTRL of engine e (Table 5.16). -/
abbrev Reg.xxCtrl (e : Nat) : Nat := engBase e + 0x0

/-- VE_, FE_, SE_STATUS of engine e (Table 5.16). -/
abbrev Reg.xxStatus (e : Nat) : Nat := engBase e + 0x4

/-- VE_, FE_, SE_CMD_ADDR_LO of engine e (Table 5.16). -/
abbrev Reg.xxCmdAddrLo (e : Nat) : Nat := engBase e + 0x8

/-- VE_, FE_, SE_CMD_ADDR_HI of engine e (Table 5.16). -/
abbrev Reg.xxCmdAddrHi (e : Nat) : Nat := engBase e + 0xC

/-- VE_, FE_, SE_ERR of engine e (Table 5.16). -/
abbrev Reg.xxErr (e : Nat) : Nat := engBase e + 0x10

/-- VE_, FE_, SE_ERR_INFO of engine e (Table 5.16). -/
abbrev Reg.xxErrInfo (e : Nat) : Nat := engBase e + 0x14

/-- VE_, FE_, SE_INT_EN of engine e (Table 5.16). -/
abbrev Reg.xxIntEn (e : Nat) : Nat := engBase e + 0x18

/-- MEM_CTRL (Table 6.9). -/
abbrev Reg.memCtrl : Nat := 0x30000

/-- MEM_STATUS (Table 6.9). -/
abbrev Reg.memStatus : Nat := 0x30004

/-- MEM_CE_CNT (Table 6.9). -/
abbrev Reg.memCeCnt : Nat := 0x30008

/-- MEM_UE_FIXED_CNT (Table 6.9). -/
abbrev Reg.memUeFixedCnt : Nat := 0x3000C

/-- MEM_POISON_CNT (Table 6.9). -/
abbrev Reg.memPoisonCnt : Nat := 0x30010

/-- MEM_POISON_READ_CNT (Table 6.9). -/
abbrev Reg.memPoisonReadCnt : Nat := 0x30014

/-- MEM_SCRUB_LAP (Table 6.9). -/
abbrev Reg.memScrubLap : Nat := 0x30018

/-- MEM_SCRUB_AGE (Table 6.9). -/
abbrev Reg.memScrubAge : Nat := 0x3001C

/-- MEM_TEST (Table 6.9). -/
abbrev Reg.memTest : Nat := 0x30020

/-- MEM_INT_EN (Table 6.9). -/
abbrev Reg.memIntEn : Nat := 0x30024

/-- MEM_LOG_HEAD (Table 6.9). -/
abbrev Reg.memLogHead : Nat := 0x30028

/-- MEM_LOGi_ADDR (Table 6.9). -/
abbrev Reg.memLogAddr (i : Nat) : Nat := 0x30100 + 16 * i

/-- MEM_LOGi_INFO (Table 6.9). -/
abbrev Reg.memLogInfo (i : Nat) : Nat := 0x30104 + 16 * i

/-- MEM_LOGi_NS (Table 6.9). -/
abbrev Reg.memLogNs (i : Nat) : Nat := 0x30108 + 16 * i

/-- MEM_LOGi_FRAME (Table 6.9). -/
abbrev Reg.memLogFrame (i : Nat) : Nat := 0x3010C + 16 * i

/-- HIF_ADM_RES (Table 7.12). -/
abbrev Reg.hifAdmRes : Nat := 0x8000

/-- HIF_ADM_NEED (Table 7.12). -/
abbrev Reg.hifAdmNeed : Nat := 0x8004

/-- HIF_ADM_HAVE (Table 7.12). -/
abbrev Reg.hifAdmHave : Nat := 0x8008

/-- HIF_ADM_SHORT (Table 7.12). -/
abbrev Reg.hifAdmShort : Nat := 0x800C

/-- HIF_MODEL_STATE (Table 7.12). -/
abbrev Reg.hifModelState : Nat := 0x8010

/-- HIF_MODEL0_TAG_LO (Table 7.12). -/
abbrev Reg.hifModel0TagLo : Nat := 0x8018

/-- HIF_MODEL0_TAG_HI (Table 7.12). -/
abbrev Reg.hifModel0TagHi : Nat := 0x801C

/-- HIF_MODEL1_TAG_LO (Table 7.12). -/
abbrev Reg.hifModel1TagLo : Nat := 0x8020

/-- HIF_MODEL1_TAG_HI (Table 7.12). -/
abbrev Reg.hifModel1TagHi : Nat := 0x8024

/-- DSK_CFG (Table 7.15). -/
abbrev Reg.dskCfg : Nat := 0x180000

/-- DSK_STATUS (Table 7.15). -/
abbrev Reg.dskStatus : Nat := 0x180004

/-- DSK_PRESENT (Table 7.15). -/
abbrev Reg.dskPresent : Nat := 0x180008

/-- DSK_PORTn_STATUS (Table 7.15). -/
abbrev Reg.dskPortStatus (n : Nat) : Nat := 0x180010 + 8 * n

/-- DSK_PORTn_CNT (Table 7.15). -/
abbrev Reg.dskPortCnt (n : Nat) : Nat := 0x180014 + 8 * n

/-- DSK_STALE_CNT (Table 7.15). -/
abbrev Reg.dskStaleCnt : Nat := 0x180030

/-- DSK_INB_CNT (Table 7.15). -/
abbrev Reg.dskInbCnt : Nat := 0x180034

/-- DSK_UNREACH_CNT (Table 7.15). -/
abbrev Reg.dskUnreachCnt : Nat := 0x180038

/-- DSK_INT_EN (Table 7.15). -/
abbrev Reg.dskIntEn : Nat := 0x18003C

/-- LNS_CTRL (Table 8.5). -/
abbrev Reg.lnsCtrl : Nat := 0x100000

/-- LNS_STATUS (Table 8.5). -/
abbrev Reg.lnsStatus : Nat := 0x100004

/-- LNS_INT_EN (Table 8.5). -/
abbrev Reg.lnsIntEn : Nat := 0x100008

/-- LNS_PORTp_STATUS (Table 8.5). -/
abbrev Reg.lnsPortStatus (p : Nat) : Nat := 0x100010 + 8 * p

/-- LNS_PORTp_CNT (Table 8.5). -/
abbrev Reg.lnsPortCnt (p : Nat) : Nat := 0x100014 + 8 * p

/-- LNS_STRs_STATUS (Table 8.5). -/
abbrev Reg.lnsStrStatus (s : Nat) : Nat := 0x100100 + 32 * s

/-- LNS_STRs_FRAMES (Table 8.5). -/
abbrev Reg.lnsStrFrames (s : Nat) : Nat := 0x100104 + 32 * s

/-- LNS_STRs_ERR (Table 8.5). -/
abbrev Reg.lnsStrErr (s : Nat) : Nat := 0x100108 + 32 * s

/-- LNS_STRs_STALE_CNT (Table 8.5). -/
abbrev Reg.lnsStrStaleCnt (s : Nat) : Nat := 0x10010C + 32 * s

/-- LNS_STRs_SOF_NS (Table 8.5). -/
abbrev Reg.lnsStrSofNs (s : Nat) : Nat := 0x100110 + 32 * s

/-- LNS_STRs_SOF_SEC (Table 8.5). -/
abbrev Reg.lnsStrSofSec (s : Nat) : Nat := 0x100114 + 32 * s

/-- ETH_CTRL (Table 8.8). -/
abbrev Reg.ethCtrl : Nat := 0x140000

/-- ETH_STATUS (Table 8.8). -/
abbrev Reg.ethStatus : Nat := 0x140004

/-- ETH_CFG (Table 8.8). -/
abbrev Reg.ethCfg : Nat := 0x140008

/-- ETH_INT_EN (Table 8.8). -/
abbrev Reg.ethIntEn : Nat := 0x14000C

/-- ETH_PORTn_STATUS (Table 8.8). -/
abbrev Reg.ethPortStatus (n : Nat) : Nat := 0x140100 + 0x40 * n

/-- ETH_PORTn_TS_ADJ (Table 8.8). -/
abbrev Reg.ethPortTsAdj (n : Nat) : Nat := 0x140104 + 0x40 * n

/-- ETH_PORTn_RXR_LO (Table 8.8). -/
abbrev Reg.ethPortRxrLo (n : Nat) : Nat := 0x140108 + 0x40 * n

/-- ETH_PORTn_RXR_HI (Table 8.8). -/
abbrev Reg.ethPortRxrHi (n : Nat) : Nat := 0x14010C + 0x40 * n

/-- ETH_PORTn_RX_TAIL (Table 8.8). -/
abbrev Reg.ethPortRxTail (n : Nat) : Nat := 0x140110 + 0x40 * n

/-- ETH_PORTn_RX_HEAD (Table 8.8). -/
abbrev Reg.ethPortRxHead (n : Nat) : Nat := 0x140114 + 0x40 * n

/-- ETH_PORTn_TXR_LO (Table 8.8). -/
abbrev Reg.ethPortTxrLo (n : Nat) : Nat := 0x140118 + 0x40 * n

/-- ETH_PORTn_TXR_HI (Table 8.8). -/
abbrev Reg.ethPortTxrHi (n : Nat) : Nat := 0x14011C + 0x40 * n

/-- ETH_PORTn_TX_TAIL (Table 8.8). -/
abbrev Reg.ethPortTxTail (n : Nat) : Nat := 0x140120 + 0x40 * n

/-- ETH_PORTn_TX_HEAD (Table 8.8). -/
abbrev Reg.ethPortTxHead (n : Nat) : Nat := 0x140124 + 0x40 * n

/-- ETH_PORTn_RX_CNT (Table 8.8). -/
abbrev Reg.ethPortRxCnt (n : Nat) : Nat := 0x140128 + 0x40 * n

/-- ETH_PORTn_DROP_CNT (Table 8.8). -/
abbrev Reg.ethPortDropCnt (n : Nat) : Nat := 0x14012C + 0x40 * n

/-- ETH_PORTn_TX_CNT (Table 8.8). -/
abbrev Reg.ethPortTxCnt (n : Nat) : Nat := 0x140130 + 0x40 * n

/-- ETH_TSQm_POP (Table 8.8). -/
abbrev Reg.ethTsqPop (m : Nat) : Nat := 0x140400 + 16 * m

/-- ETH_TSQm_ID (Table 8.8). -/
abbrev Reg.ethTsqId (m : Nat) : Nat := 0x140404 + 16 * m

/-- ETH_TSQm_NS (Table 8.8). -/
abbrev Reg.ethTsqNs (m : Nat) : Nat := 0x140408 + 16 * m

/-- ETH_TSQm_SEC (Table 8.8). -/
abbrev Reg.ethTsqSec (m : Nat) : Nat := 0x14040C + 16 * m

/-- ETH_TSQ_OVF_CNT (Table 8.8). -/
abbrev Reg.ethTsqOvfCnt : Nat := 0x140440

/-- TIM_CTRL (Table 8.10). -/
abbrev Reg.timCtrl : Nat := 0x20000

/-- TIM_STATUS (Table 8.10). -/
abbrev Reg.timStatus : Nat := 0x20004

/-- TIM_INCR (Table 8.10). -/
abbrev Reg.timIncr : Nat := 0x20008

/-- TIM_NS (Table 8.10). -/
abbrev Reg.timNs : Nat := 0x2000C

/-- TIM_SEC_LO (Table 8.10). -/
abbrev Reg.timSecLo : Nat := 0x20010

/-- TIM_SEC_HI (Table 8.10). -/
abbrev Reg.timSecHi : Nat := 0x20014

/-- TIM_STEP_LO (Table 8.10). -/
abbrev Reg.timStepLo : Nat := 0x20018

/-- TIM_STEP_HI (Table 8.10). -/
abbrev Reg.timStepHi : Nat := 0x2001C

/-- TIM_STEP_MAX (Table 8.10). -/
abbrev Reg.timStepMax : Nat := 0x20020

/-- TIM_STEP_REJ_CNT (Table 8.10). -/
abbrev Reg.timStepRejCnt : Nat := 0x20024

/-- TIM_INT_EN (Table 8.10). -/
abbrev Reg.timIntEn : Nat := 0x20028

/-- TIM_CAPn_NS (Table 8.10). -/
abbrev Reg.timCapNs (n : Nat) : Nat := 0x20100 + 16 * n

/-- TIM_CAPn_SEC (Table 8.10). -/
abbrev Reg.timCapSec (n : Nat) : Nat := 0x20104 + 16 * n

/-- TIM_CAPn_CNT (Table 8.10). -/
abbrev Reg.timCapCnt (n : Nat) : Nat := 0x20108 + 16 * n

/-- TIM_TRGn_CFG (Table 8.10). -/
abbrev Reg.timTrgCfg (n : Nat) : Nat := 0x20400 + 16 * n

/-- TIM_TRGn_OFS (Table 8.10). -/
abbrev Reg.timTrgOfs (n : Nat) : Nat := 0x20404 + 16 * n

/-- TIM_TRGn_WIDTH (Table 8.10). -/
abbrev Reg.timTrgWidth (n : Nat) : Nat := 0x20408 + 16 * n

/-- TIM_TRGn_PER (Table 8.10). -/
abbrev Reg.timTrgPer (n : Nat) : Nat := 0x2040C + 16 * n

/-- CHK_TIME_NS (Table 8.13). -/
abbrev Reg.chkTimeNs : Nat := 0x2001000

/-- CHK_TIME_SEC (Table 8.13). -/
abbrev Reg.chkTimeSec : Nat := 0x2001004

/-- CHK_TIME_OFS (Table 8.13). -/
abbrev Reg.chkTimeOfs : Nat := 0x2001008

/-- CHK_TIME_STATUS (Table 8.13). -/
abbrev Reg.chkTimeStatus : Nat := 0x200100C

/-- CHK_TIME_REJ_CNT (Table 8.13). -/
abbrev Reg.chkTimeRejCnt : Nat := 0x2001010

/-- CHK_RNGn_STATUS (Table 8.13). -/
abbrev Reg.chkRngStatus (n : Nat) : Nat := 0x2001100 + 0x40 * n

/-- CHK_RNGn_RX_CNT (Table 8.13). -/
abbrev Reg.chkRngRxCnt (n : Nat) : Nat := 0x2001104 + 0x40 * n

/-- CHK_RNGn_DROP_CNT (Table 8.13). -/
abbrev Reg.chkRngDropCnt (n : Nat) : Nat := 0x2001108 + 0x40 * n

/-- CHK_RNGn_TX_BLOCK_CNT (Table 8.13). -/
abbrev Reg.chkRngTxBlockCnt (n : Nat) : Nat := 0x200110C + 0x40 * n

/-- CHK_RNGn_TSQ_POP (Table 8.13). -/
abbrev Reg.chkRngTsqPop (n : Nat) : Nat := 0x2001110 + 0x40 * n

/-- CHK_RNGn_TSQ_ID (Table 8.13). -/
abbrev Reg.chkRngTsqId (n : Nat) : Nat := 0x2001114 + 0x40 * n

/-- CHK_RNGn_TSQ_NS (Table 8.13). -/
abbrev Reg.chkRngTsqNs (n : Nat) : Nat := 0x2001118 + 0x40 * n

/-- CHK_RNGn_TSQ_SEC (Table 8.13). -/
abbrev Reg.chkRngTsqSec (n : Nat) : Nat := 0x200111C + 0x40 * n

/-- CHK_RNGn_TSQ_OVF_CNT (Table 8.13). -/
abbrev Reg.chkRngTsqOvfCnt (n : Nat) : Nat := 0x2001120 + 0x40 * n

/-- APT_VERDICT (Table 9.9). -/
abbrev Reg.aptVerdict : Nat := 0x2000800

/-- APT_CAUSE (Table 9.9). -/
abbrev Reg.aptCause : Nat := 0x2000804

/-- APT_WINDOW (Table 9.9). -/
abbrev Reg.aptWindow : Nat := 0x2000808

/-- APT_CNT_TRUSTED (Table 9.9). -/
abbrev Reg.aptCntTrusted : Nat := 0x200080C

/-- APT_CNT_DEGRADED (Table 9.9). -/
abbrev Reg.aptCntDegraded : Nat := 0x2000810

/-- APT_CNT_UNTRUSTED (Table 9.9). -/
abbrev Reg.aptCntUntrusted : Nat := 0x2000814

/-- APT_CNT_OVERRUN (Table 9.9). -/
abbrev Reg.aptCntOverrun : Nat := 0x2000818

/-- APT_MISSED (Table 9.9). -/
abbrev Reg.aptMissed : Nat := 0x200081C

/-- APT_RANGE_PTS (Table 9.9). -/
abbrev Reg.aptRangePts : Nat := 0x2000820

/-- APT_RANGE_SILENT (Table 9.9). -/
abbrev Reg.aptRangeSilent : Nat := 0x2000824

/-- APT_CHAL (Table 9.9). -/
abbrev Reg.aptChal : Nat := 0x2000828

/-- APT_PARALLAX (Table 9.9). -/
abbrev Reg.aptParallax : Nat := 0x200082C

/-- APT_ALIVE (Table 9.9). -/
abbrev Reg.aptAlive : Nat := 0x2000830

/-- APT_CFG (Table 9.9). -/
abbrev Reg.aptCfg : Nat := 0x2000834

/-- CHK_CORE (Table 10.4). -/
abbrev Reg.chkCore : Nat := 0x2000100

/-- CHK_CMP_STATUS (Table 10.4). -/
abbrev Reg.chkCmpStatus : Nat := 0x2000104

/-- CHK_CMP_DIFF_LO (Table 10.4). -/
abbrev Reg.chkCmpDiffLo : Nat := 0x2000108

/-- CHK_CMP_DIFF_HI (Table 10.4). -/
abbrev Reg.chkCmpDiffHi : Nat := 0x200010C

/-- CHK_CMP_RETIRED (Table 10.4). -/
abbrev Reg.chkCmpRetired : Nat := 0x2000110

/-- CHK_CMP_TEST (Table 10.4). -/
abbrev Reg.chkCmpTest : Nat := 0x2000114

/-- CHK_CKPT_CNT (Table 10.4). -/
abbrev Reg.chkCkptCnt : Nat := 0x2000118

/-- CHK_TCM_CE_CNT (Table 10.4). -/
abbrev Reg.chkTcmCeCnt : Nat := 0x200011C

/-- WDG_CTRL (Table 10.8). -/
abbrev Reg.wdgCtrl : Nat := 0x2000400

/-- WDG_STATUS (Table 10.8). -/
abbrev Reg.wdgStatus : Nat := 0x2000404

/-- WDG_CLOSED (Table 10.8). -/
abbrev Reg.wdgClosed : Nat := 0x2000408

/-- WDG_OPEN (Table 10.8). -/
abbrev Reg.wdgOpen : Nat := 0x200040C

/-- WDG_Q (Table 10.8). -/
abbrev Reg.wdgQ : Nat := 0x2000410

/-- WDG_SERVICE (Table 10.8). -/
abbrev Reg.wdgService : Nat := 0x2000414

/-- WDG_SEQ (Table 10.8). -/
abbrev Reg.wdgSeq : Nat := 0x2000418

/-- WDG_REMAIN (Table 10.8). -/
abbrev Reg.wdgRemain : Nat := 0x200041C

/-- WDG_LADDER (Table 10.8). -/
abbrev Reg.wdgLadder : Nat := 0x2000420

/-- WDG_EVID_PC (Table 10.8). -/
abbrev Reg.wdgEvidPc : Nat := 0x2000424

/-- WDG_EVID_NS (Table 10.8). -/
abbrev Reg.wdgEvidNs : Nat := 0x2000428

/-- WDG_EVID_SEC (Table 10.8). -/
abbrev Reg.wdgEvidSec : Nat := 0x200042C

/-- WDG_EVID_SEQ (Table 10.8). -/
abbrev Reg.wdgEvidSeq : Nat := 0x2000430

/-- STW_STATUS (Table 10.12). -/
abbrev Reg.stwStatus : Nat := 0x2006000

/-- STW_FAULT (Table 10.12). -/
abbrev Reg.stwFault : Nat := 0x2006004

/-- STW_EXTRA_LO (Table 10.12). -/
abbrev Reg.stwExtraLo : Nat := 0x2006008

/-- STW_EXTRA_HI (Table 10.12). -/
abbrev Reg.stwExtraHi : Nat := 0x200600C

/-- STW_MISSING_LO (Table 10.12). -/
abbrev Reg.stwMissingLo : Nat := 0x2006010

/-- STW_MISSING_HI (Table 10.12). -/
abbrev Reg.stwMissingHi : Nat := 0x2006014

/-- STW_TIMING_LO (Table 10.12). -/
abbrev Reg.stwTimingLo : Nat := 0x2006018

/-- STW_TIMING_HI (Table 10.12). -/
abbrev Reg.stwTimingHi : Nat := 0x200601C

/-- STW_FAULT_CNT (Table 10.12). -/
abbrev Reg.stwFaultCnt : Nat := 0x2006020

/-- STW_IGNORED_CNT (Table 10.12). -/
abbrev Reg.stwIgnoredCnt : Nat := 0x2006024

/-- STW_Wn_OPEN (Table 10.12). -/
abbrev Reg.stwWOpen (n : Nat) : Nat := 0x2006100 + 16 * n

/-- STW_Wn_CLOSE (Table 10.12). -/
abbrev Reg.stwWClose (n : Nat) : Nat := 0x2006104 + 16 * n

/-- STW_Wn_STATE (Table 10.12). -/
abbrev Reg.stwWState (n : Nat) : Nat := 0x2006108 + 16 * n

/-- CVU_STATUS (Table 11.5). -/
abbrev Reg.cvuStatus : Nat := 0x2007000

/-- CVU_ENABLED (Table 11.5). -/
abbrev Reg.cvuEnabled : Nat := 0x2007004

/-- CVU_FRAME (Table 11.5). -/
abbrev Reg.cvuFrame : Nat := 0x2007008

/-- CVU_CNT_PASS (Table 11.5). -/
abbrev Reg.cvuCntPass : Nat := 0x200700C

/-- CVU_CNT_CRC (Table 11.5). -/
abbrev Reg.cvuCntCrc : Nat := 0x2007010

/-- CVU_CNT_REPEAT (Table 11.5). -/
abbrev Reg.cvuCntRepeat : Nat := 0x2007014

/-- CVU_CNT_LOSS (Table 11.5). -/
abbrev Reg.cvuCntLoss : Nat := 0x2007018

/-- CVU_CNT_UNKNOWN (Table 11.5). -/
abbrev Reg.cvuCntUnknown : Nat := 0x200701C

/-- CVU_x_SEL (Table 11.5). -/
abbrev Reg.cvuSel (x : Nat) : Nat := 0x2007020 + 0x40 * x

/-- CVU_x_CFG (Table 11.5). -/
abbrev Reg.cvuCfg (x : Nat) : Nat := 0x2007024 + 0x40 * x

/-- CVU_x_STATE (Table 11.5). -/
abbrev Reg.cvuState (x : Nat) : Nat := 0x2007028 + 0x40 * x

/-- CVU_x_SEQ (Table 11.5). -/
abbrev Reg.cvuSeq (x : Nat) : Nat := 0x200702C + 0x40 * x

/-- CVU_x_SEED (Table 11.5). -/
abbrev Reg.cvuSeed (x : Nat) : Nat := 0x2007030 + 0x40 * x

/-- CVU_x_PASS (Table 11.5). -/
abbrev Reg.cvuPass (x : Nat) : Nat := 0x2007034 + 0x40 * x

/-- CVU_x_CNT0 (Table 11.5). -/
abbrev Reg.cvuCnt0 (x : Nat) : Nat := 0x2007038 + 0x40 * x

/-- CVU_x_CNT1 (Table 11.5). -/
abbrev Reg.cvuCnt1 (x : Nat) : Nat := 0x200703C + 0x40 * x

/-- CVU_LOGi_ID (Table 11.5). -/
abbrev Reg.cvuLogId (i : Nat) : Nat := 0x2007100 + 8 * i

/-- CVU_LOGi_AT (Table 11.5). -/
abbrev Reg.cvuLogAt (i : Nat) : Nat := 0x2007104 + 8 * i

/-- FLT_CTRL (Table 12.9). -/
abbrev Reg.fltCtrl : Nat := 0x2008000

/-- FLT_STATUS (Table 12.9). -/
abbrev Reg.fltStatus : Nat := 0x2008004

/-- FLT_LAST (Table 12.9). -/
abbrev Reg.fltLast : Nat := 0x2008008

/-- FLT_FORCE (Table 12.9). -/
abbrev Reg.fltForce : Nat := 0x200800C

/-- FLT_FACET (Table 12.9). -/
abbrev Reg.fltFacet : Nat := 0x2008010

/-- FLT_LOG_HEAD (Table 12.9). -/
abbrev Reg.fltLogHead : Nat := 0x2008014

/-- FLT_FATAL (Table 12.9). -/
abbrev Reg.fltFatal : Nat := 0x2008020

/-- FLT_PENDi (Table 12.9). -/
abbrev Reg.fltPend (i : Nat) : Nat := 0x2008100 + 4 * i

/-- FLT_WIREi (Table 12.9). -/
abbrev Reg.fltWire (i : Nat) : Nat := 0x2008140 + 4 * i

/-- FLT_REACTi (Table 12.9). -/
abbrev Reg.fltReact (i : Nat) : Nat := 0x2008200 + 4 * i

/-- FLT_CNTi (Table 12.9). -/
abbrev Reg.fltCnt (i : Nat) : Nat := 0x2008600 + 4 * i

/-- FLT_LOGi_SRC (Table 12.9). -/
abbrev Reg.fltLogSrc (i : Nat) : Nat := 0x2008A00 + 16 * i

/-- FLT_LOGi_NS (Table 12.9). -/
abbrev Reg.fltLogNs (i : Nat) : Nat := 0x2008A04 + 16 * i

/-- FLT_LOGi_FRAME (Table 12.9). -/
abbrev Reg.fltLogFrame (i : Nat) : Nat := 0x2008A08 + 16 * i

/-- FLT_CD_PAIRi (Table 12.13). -/
abbrev Reg.fltCdPair (i : Nat) : Nat := 0x40000 + 4 * i

/-- FLT_ST_DEFER_CNT (Table 12.13). -/
abbrev Reg.fltStDeferCnt : Nat := 0x40080

/-- FLT_ST_PASS_CNT (Table 12.13). -/
abbrev Reg.fltStPassCnt : Nat := 0x40084

/-- FLT_ST_PRISMq (Table 12.13). -/
abbrev Reg.fltStPrism (q : Nat) : Nat := 0x40100 + 4 * q

/-- HIF_REQ_REJ_CNT (Table 12.13). -/
abbrev Reg.hifReqRejCnt : Nat := 0x8028

/-- HIF_REQ_REJ_LAST (Table 12.13). -/
abbrev Reg.hifReqRejLast : Nat := 0x802C

/-- SIO_STATUS (Table 13.6). -/
abbrev Reg.sioStatus : Nat := 0x2009000

/-- SIO_LOCK (Table 13.6). -/
abbrev Reg.sioLock : Nat := 0x2009004

/-- SIO_CLASS (Table 13.6). -/
abbrev Reg.sioClass : Nat := 0x2009008

/-- SIO_SEAL (Table 13.6). -/
abbrev Reg.sioSeal : Nat := 0x200900C

/-- SIO_ENC0_POS_LO (Table 13.6). -/
abbrev Reg.sioEnc0PosLo : Nat := 0x2009010

/-- SIO_ENC0_POS_HI (Table 13.6). -/
abbrev Reg.sioEnc0PosHi : Nat := 0x2009014

/-- SIO_ENC1_POS_LO (Table 13.6). -/
abbrev Reg.sioEnc1PosLo : Nat := 0x2009018

/-- SIO_ENC1_POS_HI (Table 13.6). -/
abbrev Reg.sioEnc1PosHi : Nat := 0x200901C

/-- SIO_ENC_SPEED (Table 13.6). -/
abbrev Reg.sioEncSpeed : Nat := 0x2009020

/-- SIO_ENC_ERR (Table 13.6). -/
abbrev Reg.sioEncErr : Nat := 0x2009024

/-- SIO_PULSE_CNT (Table 13.6). -/
abbrev Reg.sioPulseCnt : Nat := 0x2009028

/-- SIO_RESET_CNT (Table 13.6). -/
abbrev Reg.sioResetCnt : Nat := 0x200902C

/-- SIO_DEMAND_CNT (Table 13.6). -/
abbrev Reg.sioDemandCnt : Nat := 0x2009030

/-- HIF_ID (Table 14.9). -/
abbrev Reg.hifId : Nat := 0x0

/-- HIF_STATUS (Table 14.9). -/
abbrev Reg.hifStatus : Nat := 0x4

/-- HIF_INT_EN (Table 14.9). -/
abbrev Reg.hifIntEn : Nat := 0x8

/-- HIF_HOST_VER (Table 14.9). -/
abbrev Reg.hifHostVer : Nat := 0xC

/-- HIF_VER (Table 14.9). -/
abbrev Reg.hifVer : Nat := 0x10

/-- HIF_BAR2_BASE_LO (Table 14.9). -/
abbrev Reg.hifBar2BaseLo : Nat := 0x14

/-- HIF_BAR2_BASE_HI (Table 14.9). -/
abbrev Reg.hifBar2BaseHi : Nat := 0x18

/-- HIF_PERF_USER (Table 14.9). -/
abbrev Reg.hifPerfUser : Nat := 0x1C

/-- HIF_REQ_ARGi (Table 14.11). -/
abbrev Reg.hifReqArg (i : Nat) : Nat := 0x2000200 + 4 * i

/-- HIF_REQ (Table 14.11). -/
abbrev Reg.hifReq : Nat := 0x2000210

/-- HIF_REQ_STATUS (Table 14.11). -/
abbrev Reg.hifReqStatus : Nat := 0x2000214

/-- HIF_CPL_COUNT (Table 14.11). -/
abbrev Reg.hifCplCount : Nat := 0x2000218

/-- HIF_CPLi_INFO (Table 14.11). -/
abbrev Reg.hifCplInfo (i : Nat) : Nat := 0x2000240 + 16 * i

/-- HIF_CPLi_RESULT (Table 14.11). -/
abbrev Reg.hifCplResult (i : Nat) : Nat := 0x2000244 + 16 * i

/-- HIF_CPLi_SEQ (Table 14.11). -/
abbrev Reg.hifCplSeq (i : Nat) : Nat := 0x2000248 + 16 * i

/-- HIF_CPLi_NS (Table 14.11). -/
abbrev Reg.hifCplNs (i : Nat) : Nat := 0x200024C + 16 * i

/-- PRF_CTRL (Table 15.6). -/
abbrev Reg.prfCtrl : Nat := 0x80000

/-- PRF_STATUS (Table 15.6). -/
abbrev Reg.prfStatus : Nat := 0x80004

/-- PRF_INT_EN (Table 15.6). -/
abbrev Reg.prfIntEn : Nat := 0x80008

/-- PRF_SEQ (Table 15.6). -/
abbrev Reg.prfSeq : Nat := 0x8000C

/-- PRF_RING_LO (Table 15.6). -/
abbrev Reg.prfRingLo : Nat := 0x80010

/-- PRF_RING_HI (Table 15.6). -/
abbrev Reg.prfRingHi : Nat := 0x80014

/-- PRF_TAG_CFG (Table 15.6). -/
abbrev Reg.prfTagCfg : Nat := 0x80018

/-- PRF_TAG_PRISM (Table 15.6). -/
abbrev Reg.prfTagPrism : Nat := 0x8001C

/-- PRF_SELu_i (Table 15.6). -/
abbrev Reg.prfSel (u : Nat) (i : Nat) : Nat := 0x81000 + 32 * u + 4 * i

/-- Snapshot page (Table 15.6). -/
abbrev Reg.prfPage : Nat := 0xA0000

/-- BOOT_STATUS (Table 16.9). -/
abbrev Reg.bootStatus : Nat := 0x200A000

/-- BOOT_VER (Table 16.9). -/
abbrev Reg.bootVer : Nat := 0x200A004

/-- BOOT_OTP_VER (Table 16.9). -/
abbrev Reg.bootOtpVer : Nat := 0x200A008

/-- BOOT_KEYS (Table 16.9). -/
abbrev Reg.bootKeys : Nat := 0x200A00C

/-- BOOT_KEY_STATE (Table 16.9). -/
abbrev Reg.bootKeyState : Nat := 0x200A010

/-- BOOT_TIME (Table 16.9). -/
abbrev Reg.bootTime : Nat := 0x200A014

/-- BOOT_REPAIR (Table 16.9). -/
abbrev Reg.bootRepair : Nat := 0x200A018

/-- NVM_CTRL (Table 16.11). -/
abbrev Reg.nvmCtrl : Nat := 0x1C0000

/-- NVM_STATUS (Table 16.11). -/
abbrev Reg.nvmStatus : Nat := 0x1C0004

/-- NVM_INT_EN (Table 16.11). -/
abbrev Reg.nvmIntEn : Nat := 0x1C0008

/-- NVM_OP (Table 16.11). -/
abbrev Reg.nvmOp : Nat := 0x1C0010

/-- NVM_ADDR_LO (Table 16.11). -/
abbrev Reg.nvmAddrLo : Nat := 0x1C0014

/-- NVM_ADDR_HI (Table 16.11). -/
abbrev Reg.nvmAddrHi : Nat := 0x1C0018

/-- NVM_OFS (Table 16.11). -/
abbrev Reg.nvmOfs : Nat := 0x1C001C

/-- NVM_LEN (Table 16.11). -/
abbrev Reg.nvmLen : Nat := 0x1C0020

/-- NVM_OP_STATUS (Table 16.11). -/
abbrev Reg.nvmOpStatus : Nat := 0x1C0024

/-- NVM_CAP (Table 16.11). -/
abbrev Reg.nvmCap : Nat := 0x1C0028

/-- NVM_BAD_CNT (Table 16.11). -/
abbrev Reg.nvmBadCnt : Nat := 0x1C002C

/-- NVM_WEAR (Table 16.11). -/
abbrev Reg.nvmWear : Nat := 0x1C0030

/-- NVM_LDPC_CNT (Table 16.11). -/
abbrev Reg.nvmLdpcCnt : Nat := 0x1C0034

/-- NVM_UE_CNT (Table 16.11). -/
abbrev Reg.nvmUeCnt : Nat := 0x1C0038

/-- NVM_RET_LAP (Table 16.11). -/
abbrev Reg.nvmRetLap : Nat := 0x1C003C

/-- NVM_RET_AGE (Table 16.11). -/
abbrev Reg.nvmRetAge : Nat := 0x1C0040

/-- NVM_EVT (Table 16.11). -/
abbrev Reg.nvmEvt : Nat := 0x1C0044

/-- NVM_CH_STATUS (Table 16.11). -/
abbrev Reg.nvmChStatus : Nat := 0x1C0048

/-- PRM_TOKi of Prism q = 6f + p (Table 5.19). -/
abbrev Reg.prmTok (q i : Nat) : Nat := 0x1000000 + (q / 6) * 0x400000 + (q % 6) * 0x40000 + 0x8000 + 4 * i

/-- FCT_TOKi of Facet f (Table 5.19). -/
abbrev Reg.fctTok (f i : Nat) : Nat := 0x1000000 + f * 0x400000 + 0x200000 + 4 * i

/-- TCK_TOKi (Table 5.19). -/
abbrev Reg.tckTok (i : Nat) : Nat := 0x10100 + 4 * i

/-- `k` is one of `n` offsets `b`, `b + s`, `b + 2 s`, … -/
def isIdx (k b s n : Nat) : Bool := decide (b ≤ k) && decide (k < b + s * n) && decide ((k - b) % s = 0)

/-- The engine and the offset in its block that a BAR0 offset names. -/
def engOfs (k : Nat) : Option (Nat × Nat) :=
  if k < 0x1000000 then none
  else
    let x := k - 0x1000000
    let f := x / 0x400000
    let r := x % 0x400000
    let p := r / 0x40000
    let o := r % 0x40000
    if f < 4 ∧ p < 6 ∧ o / 0x1000 < 7 then some (7 * (6 * f + p) + o / 0x1000, o % 0x1000) else none

/-- Reset value of a register (R13, Reset columns); fields marked S and F hold 0 until they are loaded. The MSI-X table resets to
masked vectors (PRESUMED, PCI Express, log 7). -/
def Reg.resetVal (k : Nat) : Word :=
  if k = Reg.hifId then 0x96401E4C
  else if k = Reg.hifVer then 0x00000100
  else if k = Reg.hifAdmRes then 0x0000C0FF
  else if k = Reg.tckStatus then 0x00300000
  else if k = Reg.tckOvrEng then 0x000000FF
  else if k = Reg.timIncr then 0x02000000
  else if k = Reg.timTrgCfg 10 then 0x80000000
  else if k = Reg.timTrgWidth 10 then 1000
  else if isIdx k (Reg.timTrgWidth 0) 16 16 then 0x00000064
  else if isIdx k (Reg.timTrgPer 0) 16 16 then 0x3B9ACA00
  else if k = Reg.aptVerdict then 0x00000080
  else if k = Reg.chkCmpTest then 0x007F0000
  else if k = Reg.wdgClosed then 0x00001388
  else if k = Reg.wdgOpen then 0x00002710
  else if k = Reg.wdgQ then 0x00000001
  else if isIdx k (Reg.fltStPrism 0) 4 24 then 0x00FF0000
  else if k = Reg.prfCtrl then 0x00000004
  else if k = Reg.prfTagPrism then 0x00FFFFFF
  else if isIdx k 0x400C 16 128 then 0x00000001
  else 0

/-- Which bits of a register a write reaches, by access code (R9), and the register whose bit 31 locks its RWL
bits (R11). Bits in no mask are read-only, reserved, or have an effect of their own. -/
structure Access where
  rw : Word
  rwl : Word
  w1c : Word
  w1s : Word
  lock : Nat
deriving DecidableEq, Repr

/-- Access masks of the registers of an engine (Tables 3.8 and 5.16). -/
def engAccess (e o : Nat) : Access :=
  if e % 7 < 4 then
    if o = 0x0 then ⟨0, 0, 0, 0x80000000, 0⟩
    else if o = 0x10 then ⟨0, 0, 0x7F, 0, 0⟩
    else if o = 0x30 ∨ o = 0x34 ∨ o = 0x38 ∨ o = 0x3C then ⟨0, 0xFFFFFFFF, 0, 0, engBase e⟩
    else if o = 0x44 then ⟨0x7F, 0, 0, 0, 0⟩
    else ⟨0, 0, 0, 0, 0⟩
  else
    if o = 0x0 then ⟨0, 0, 0, 0x80000000, 0⟩
    else if o = 0x10 then ⟨0, 0, 0xF, 0, 0⟩
    else if o = 0x18 then ⟨0xF, 0, 0, 0, 0⟩
    else ⟨0, 0, 0, 0, 0⟩

/-- Access masks of every register (the Access columns of the register tables). -/
def regAccess (k : Nat) : Access :=
  match engOfs k with
  | some (e, o) => engAccess e o
  | none =>
    if k = Reg.tckCtrl then ⟨0, 0, 0, 0x80000000, 0⟩
    else if k = Reg.tckStatus then ⟨0, 0, 0x7FE, 0, 0⟩
    else if k = Reg.tckSlotALo ∨ k = Reg.tckSlotBLo then ⟨0, 0xFFFFF000, 0, 0, Reg.tckCtrl⟩
    else if k = Reg.tckSlotAHi ∨ k = Reg.tckSlotBHi then ⟨0, 0xFFFF, 0, 0, Reg.tckCtrl⟩
    else if k = Reg.tckIntEn then ⟨0x7FF, 0, 0, 0, 0⟩
    else if k = Reg.memCtrl then ⟨0, 4, 0, 0x80000000, Reg.memCtrl⟩
    else if k = Reg.memStatus then ⟨0, 0, 0xDF, 0, 0⟩
    else if k = Reg.memTest then ⟨0xFF00, 0, 0, 0, 0⟩
    else if k = Reg.memIntEn then ⟨0xFF, 0, 0, 0, 0⟩
    else if k = Reg.hifModelState then ⟨0, 0, 0x80000000, 0, 0⟩
    else if k = Reg.dskCfg then ⟨0, 0x1CFF, 0, 0x80000000, Reg.dskCfg⟩
    else if k = Reg.dskStatus then ⟨0, 0, 0xFF, 0, 0⟩
    else if k = Reg.dskIntEn then ⟨0xFF, 0, 0, 0, 0⟩
    else if k = Reg.lnsCtrl ∨ k = Reg.ethCtrl ∨ k = Reg.nvmCtrl ∨ k = Reg.timCtrl then ⟨0, 0, 0, 0x80000000, 0⟩
    else if k = Reg.lnsStatus then ⟨0, 0, 0x1F, 0, 0⟩
    else if k = Reg.lnsIntEn then ⟨0x1F, 0, 0, 0, 0⟩
    else if k = Reg.ethStatus then ⟨0, 0, 0xF, 0, 0⟩
    else if k = Reg.ethIntEn then ⟨0xF, 0, 0, 0, 0⟩
    else if isIdx k (Reg.ethPortTsAdj 0) 0x40 8 then ⟨0, 0xFFFFFFFF, 0, 0, Reg.ethCtrl⟩
    else if isIdx k (Reg.ethPortRxrLo 0) 0x40 8 ∨ isIdx k (Reg.ethPortTxrLo 0) 0x40 8 then ⟨0xFFFFF000, 0, 0, 0, 0⟩
    else if isIdx k (Reg.ethPortRxrHi 0) 0x40 8 ∨ isIdx k (Reg.ethPortTxrHi 0) 0x40 8 then ⟨0xFFFFF, 0, 0, 0, 0⟩
    else if k = Reg.timStatus then ⟨0, 0, 0xFE, 0, 0⟩
    else if k = Reg.timStepLo ∨ k = Reg.timStepHi then ⟨0xFFFFFFFF, 0, 0, 0, 0⟩
    else if k = Reg.timStepMax then ⟨0, 0xFFFFFFFF, 0, 0, Reg.timCtrl⟩
    else if k = Reg.timIntEn then ⟨0xFF, 0, 0, 0, 0⟩
    else if k = Reg.timTrgCfg 10 ∨ k = Reg.timTrgOfs 10 ∨ k = Reg.timTrgWidth 10 then ⟨0, 0, 0, 0, 0⟩
    else if isIdx k (Reg.timTrgCfg 0) 16 16 then ⟨0xFF000000, 0, 0, 0, 0⟩
    else if isIdx k (Reg.timTrgOfs 0) 16 16 ∨ isIdx k (Reg.timTrgWidth 0) 16 16 ∨ isIdx k (Reg.timTrgPer 0) 16 16 then
      ⟨0xFFFFFFFF, 0, 0, 0, 0⟩
    else if k = Reg.chkCmpStatus then ⟨0, 0, 0x80000000, 0, 0⟩
    else if k = Reg.wdgStatus then ⟨0, 0, 1, 0, 0⟩
    else if k = Reg.cvuStatus then ⟨0, 0, 0xE, 0, 0⟩
    else if k = Reg.fltCtrl then ⟨0, 0, 0, 0x80000000, 0⟩
    else if k = Reg.fltStatus then ⟨0, 0, 0xF, 0, 0⟩
    else if isIdx k (Reg.fltPend 0) 4 16 then ⟨0, 0, 0xFFFFFFFF, 0, 0⟩
    else if isIdx k (Reg.fltWire 0) 4 12 then ⟨0, 0, 0xFFFFFFFF, 0, 0⟩
    else if isIdx k (Reg.fltReact 0) 4 256 then ⟨0, 0x00DF00DF, 0, 0, Reg.fltCtrl⟩
    else if k = Reg.sioStatus then ⟨0, 0, 0xE, 0, 0⟩
    else if k = Reg.hifStatus then ⟨0, 0, 0x3F, 0, 0⟩
    else if k = Reg.hifIntEn then ⟨0x3F, 0, 0, 0, 0⟩
    else if k = Reg.hifPerfUser then ⟨1, 0, 0, 0, 0⟩
    else if isIdx k (Reg.hifReqArg 0) 4 4 then ⟨0xFFFFFFFF, 0, 0, 0, 0⟩
    else if k = Reg.prfCtrl then ⟨4, 0, 0, 0, 0⟩
    else if k = Reg.prfStatus then ⟨0, 0, 0x7F, 0, 0⟩
    else if k = Reg.prfIntEn then ⟨0x7F, 0, 0, 0, 0⟩
    else if k = Reg.prfRingLo then ⟨0xFFFFC000, 0, 0, 0, 0⟩
    else if k = Reg.prfRingHi then ⟨0x830FFFFF, 0, 0, 0, 0⟩
    else if k = Reg.prfTagCfg then ⟨0x801F000F, 0, 0, 0, 0⟩
    else if k = Reg.prfTagPrism then ⟨0x00FFFFFF, 0, 0, 0, 0⟩
    else if k = Reg.nvmStatus then ⟨0, 0, 0x7F, 0, 0⟩
    else if k = Reg.nvmIntEn then ⟨0x7F, 0, 0, 0, 0⟩
    else if k = Reg.nvmAddrLo then ⟨0xFFFFF000, 0, 0, 0, 0⟩
    else if k = Reg.nvmAddrHi then ⟨0xFFFF, 0, 0, 0, 0⟩
    else if isIdx k 0x4000 16 128 then ⟨0xFFFFFFFC, 0, 0, 0, 0⟩
    else if isIdx k 0x4004 16 128 ∨ isIdx k 0x4008 16 128 then ⟨0xFFFFFFFF, 0, 0, 0, 0⟩
    else if isIdx k 0x400C 16 128 then ⟨1, 0, 0, 0, 0⟩
    else if k = Reg.nvmOfs ∨ k = Reg.nvmLen then ⟨0xFFFFFFFF, 0, 0, 0, 0⟩
    else ⟨0, 0, 0, 0, 0⟩

/-- What a write of `v` leaves in a register that holds `cur`, by its access codes (R9, R11, R12). -/
def Access.apply (a : Access) (locked : Bool) (cur v : Word) : Word :=
  let m := a.rw ||| (if locked then 0 else a.rwl)
  (((cur &&& ~~~ m) ||| (v &&& m)) &&& ~~~ (v &&& a.w1c)) ||| (v &&& a.w1s)

end Sys2Proof.Machine
end

