-- ==== Sys2Proof/Machine/Flags.lean ====
section
/-! DEFINITION. Register access, status bits, interrupt vectors and request completions. -/

namespace Sys2Proof.Machine

/-! ## Time units: q is 1/14 ns (R6) -/

/-- One a-cycle in q. -/
abbrev aQ : Nat := 20
/-- One c-cycle in q. -/
abbrev cQ : Nat := 35
/-- One µs in q. -/
abbrev usQ : Nat := 14000
/-- One ms in q. -/
abbrev msQ : Nat := 14000000
/-- One s in q. -/
abbrev sQ : Nat := 14000000000

/-! ## Registers -/

/-- The stored value of a register. -/
def Device.reg (d : Device) (k : Nat) : Word := tabGet (Reg.resetVal k) d.regs k

/-- Store `v` in a register. -/
def Device.setReg (d : Device) (k : Nat) (v : Word) : Device :=
  { d with regs := tabSet (Reg.resetVal k) d.regs k v }

/-- Bits [hi:lo] of a register. -/
def Device.fld (d : Device) (k hi lo : Nat) : Nat := bits (d.reg k) hi lo

/-- Replace bits [hi:lo] of a register. -/
def Device.setFld (d : Device) (k hi lo v : Nat) : Device := d.setReg k (putBits (d.reg k) hi lo v)

/-- Bit `i` of a register. -/
def Device.bitAt (d : Device) (k i : Nat) : Bool := bit (d.reg k) i

/-- Set bit `i` of a register to `b`. -/
def Device.setBit (d : Device) (k i : Nat) (b : Bool) : Device := d.setReg k (putBit (d.reg k) i b)

/-- A register of the checker window, which the loss of compute power leaves alone. -/
def isChk (k : Nat) : Bool := decide (0x2000000 ≤ k)

/-- The cycle of a register now: a c-cycle in the checker window, an a-cycle elsewhere (R6). -/
def Device.cycleOf (d : Device) (k : Nat) : Nat := if isChk k then d.q / cQ else d.q / aQ

/-- The device set W1C bit `i` of a register, or a write of 1 its W1S bit, in this cycle (R10). -/
def Device.justSet (d : Device) (k i : Nat) : Bool := d.evts.contains (k, i, d.cycleOf k)

/-- Set bit `i` of a register and hold it against a clear in the same cycle (R10). -/
def Device.event (d : Device) (k i : Nat) : Device :=
  { d.setBit k i true with evts := (k, i, d.cycleOf k) :: d.evts.filter fun e => decide (e.2.2 = d.cycleOf e.1) }

/-- Clear bit `i` of a register, unless it was set in this cycle (R10). -/
def Device.clearBit (d : Device) (k i : Nat) : Device := if d.justSet k i then d else d.setBit k i false

/-- The bits of a register that were set in this cycle (R10). -/
def Device.keptBits (d : Device) (k : Nat) : Word :=
  d.evts.foldl (fun w e => if e.1 = k ∧ e.2.2 = d.cycleOf k then putBit w e.2.1 true else w) 0

/-- Add `a` to the counter in bits [hi:lo] of a register, saturating. -/
def Device.count (d : Device) (k hi lo a : Nat) : Device :=
  d.setFld k hi lo (satAdd (hi + 1 - lo) (d.fld k hi lo) a)

/-- Add 1 to a 32-bit counter register, saturating. -/
def Device.incr (d : Device) (k : Nat) : Device := d.count k 31 0 1

/-- Store the low 64 bits of `v` in two registers, the low half at `k`. -/
def Device.setReg64 (d : Device) (k v : Nat) : Device :=
  (d.setReg k (word v)).setReg (k + 4) (word (v / 2 ^ 32))

/-- The compute die is powered and out of reset (R405). -/
def Device.cmpAlive (d : Device) : Bool := d.chk.power && d.chk.pwrEn && !d.chk.cmpReset

/-- TCK_FRAME. -/
def Device.frame (d : Device) : Word := d.reg Reg.tckFrame

/-- Total nanoseconds of the time unit (R209). -/
def Device.timNs (d : Device) : Nat := d.tim.sec * 1000000000 + d.tim.ns

/-- Total nanoseconds of the checker's time copy (R220). -/
def Device.chkNs (d : Device) : Nat := d.ctime.sec * 1000000000 + d.ctime.ns

/-! ## The PCI Express configuration space (R340 to R342). Layouts: the PCI Express Base Specification's (PRESUMED, log 126);
places of the capabilities: DESIGN CHOICE, log 126. -/

/-- Command and Status. -/
abbrev Cfg.command : Nat := 0x04
/-- The power management control and status. -/
abbrev Cfg.pmcsr : Nat := 0x44
/-- The MSI-X capability with its Message Control. -/
abbrev Cfg.msix : Nat := 0x50
/-- Device Control. -/
abbrev Cfg.devCtl : Nat := 0x68
/-- Resizable BAR Control. -/
abbrev Cfg.rebar : Nat := 0x208

/-- What the writable bits of a configuration register hold at reset: reads of 512 bytes, BAR2 of 32 GiB. -/
def cfgResetVal (o : Nat) : Word := if o = Cfg.devCtl then 0x2000 else if o = Cfg.rebar then 0xF00 else 0

/-- The writable bits of the configuration register at offset `o`, as last written. -/
def Hif.cfgReg (h : Hif) (o : Nat) : Word := tabGet (cfgResetVal o) h.cfg o

/-- Bus Master Enable (R341). -/
def Hif.bme (h : Hif) : Bool := bit (h.cfgReg Cfg.command) 2
/-- MSI-X Enable. -/
def Hif.msixEn (h : Hif) : Bool := bit (h.cfgReg Cfg.msix) 31
/-- MSI-X Function Mask. -/
def Hif.msixMask (h : Hif) : Bool := bit (h.cfgReg Cfg.msix) 30
/-- The function is in D3hot (Table 14.1). -/
def Hif.d3 (h : Hif) : Bool := decide (bits (h.cfgReg Cfg.pmcsr) 1 0 = 3)
/-- The size of BAR2 as a power of 2 (Table 14.2). -/
def Hif.bar2Log (h : Hif) : Nat := 20 + bits (h.cfgReg Cfg.rebar) 13 8

/-- The address bits of a 64-bit BAR of 2 ^ `n` bytes: its low or its high half. -/
def barMask (n : Nat) (hi : Bool) : Word := if hi then word (2 ^ 32 - 2 ^ (n - 32)) else word (2 ^ 32 - 2 ^ (min n 32))

/-- The writable bits of the configuration register at offset `o`. -/
def Hif.cfgMask (h : Hif) (o : Nat) : Word :=
  if o = Cfg.command then 6 else if o = Cfg.pmcsr then 3 else if o = Cfg.msix then 0xC0000000
  else if o = Cfg.devCtl then 0x70E0 else if o = Cfg.rebar then 0x3F00
  else if o = 0x10 then barMask 26 false else if o = 0x14 then barMask 26 true
  else if o = 0x18 then barMask h.bar2Log false else if o = 0x1C then barMask h.bar2Log true
  else if o = 0x20 then barMask 20 false else if o = 0x24 then barMask 20 true
  else 0

/-- The read-only bits of the configuration register at offset `o` (Tables 14.1, 14.2). -/
def cfgFixed (o : Nat) : Word :=
  if o = 0 then 0x96401E4C else if o = Cfg.command then 0x00100000
  else if o = 8 then word (0x12000000 + Config.siliconRev.toNat % 256)
  else if o = 0x10 ∨ o = 0x20 then 4 else if o = 0x18 then 0xC else if o = 0x34 then 0x40
  else if o = 0x40 then 0x00035001 else if o = Cfg.pmcsr then 8
  else if o = Cfg.msix then 0x007F6011 else if o = 0x54 then 0x4000 else if o = 0x58 then 0x4800
  else if o = 0x60 then 0x00020010 else if o = 0x64 then 0x10000002
  else if o = 0x100 then 0x20020001 else if o = 0x200 then 0x00010015 else if o = 0x204 then 0x000FC000
  else if o = Cfg.rebar then 0x22
  else 0

/-- What the configuration register at offset `o` reads. -/
def Hif.cfgView (h : Hif) (o : Nat) : Word := h.cfgReg o &&& h.cfgMask o ||| cfgFixed o

/-- The host's link is up. -/
def Device.linkOk (d : Device) : Bool := d.cmpAlive && d.hif.linkUp

/-! ## MSI-X (R341, R346, R347) -/

/-- Vector `v` is masked in the MSI-X table or as a whole, MSI-X is off, Bus Master Enable is 0, or the function is in
D3hot. -/
def Device.vecHeld (d : Device) (v : Nat) : Bool :=
  d.bitAt (0x400C + 16 * v) 0 || !d.hif.bme || !d.hif.msixEn || d.hif.msixMask || d.hif.d3

/-- Fire vector `v`: a message, or its pending bit while it is held; nothing without a compute die. -/
def Device.fire (d : Device) (v : Nat) : Device :=
  if !d.cmpAlive then d
  else if d.vecHeld v then d.setBit (0x4800 + 4 * (v / 32)) (v % 32) true
  else { d with hif := { d.hif with sent := tabSet 0 d.hif.sent v (tabGet 0 d.hif.sent v + 1) } }

/-- A vector whose pending bit is set and that is no longer held fires once. -/
def Device.flushVec (d : Device) (v : Nat) : Device :=
  if d.bitAt (0x4800 + 4 * (v / 32)) (v % 32) && !d.vecHeld v && d.cmpAlive
  then (d.setBit (0x4800 + 4 * (v / 32)) (v % 32) false).fire v else d

/-- Some bit of status register `s` is set and enabled in `en`, within `m`. -/
def Device.anyEn (d : Device) (s en : Nat) (m : Word) : Bool := decide (d.reg s &&& d.reg en &&& m ≠ 0)

/-- ERR and INT_EN of the engine at place `i` of Prism `q`. -/
def Device.engIrq (d : Device) (q i : Nat) : Bool :=
  if i < 4 then d.anyEn (Reg.meErr (7 * q + i)) (Reg.meIntEn (7 * q + i)) 0x7F
  else d.anyEn (Reg.xxErr (7 * q + i)) (Reg.xxIntEn (7 * q + i)) 0xF

/-- The OR of the enabled status bits behind a vector (Table 14.3). -/
def Device.irqOr (d : Device) (v : Nat) : Bool :=
  if v = 3 then d.anyEn Reg.tckStatus Reg.tckIntEn 0x7FE
  else if v = 4 then d.anyEn Reg.memStatus Reg.memIntEn 0xDF
  else if v = 5 then d.anyEn Reg.dskStatus Reg.dskIntEn 0xFF
  else if v = 6 then d.anyEn Reg.lnsStatus Reg.lnsIntEn 0x1F
  else if v = 7 then d.anyEn Reg.ethStatus Reg.ethIntEn 0xF
  else if v = 8 then d.anyEn Reg.timStatus Reg.timIntEn 0xFE
  else if v = 9 then d.anyEn Reg.prfStatus Reg.prfIntEn 0x7F
  else if v = 10 then d.anyEn Reg.nvmStatus Reg.nvmIntEn 0x7F
  else if v = 11 then d.anyEn Reg.hifStatus Reg.hifIntEn 0x3F
  else if 32 ≤ v ∧ v < 56 then (List.range 7).any fun i => d.engIrq (v - 32) i
  else false

/-- The vector whose status or enable register `k` is. -/
def vecOf (k : Nat) : Option Nat :=
  match engOfs k with
  | some (e, o) => if o = 0x10 ∨ (o = 0x44 ∧ e % 7 < 4) ∨ (o = 0x18 ∧ 4 ≤ e % 7) then some (32 + e / 7) else none
  | none =>
    if k = Reg.tckStatus ∨ k = Reg.tckIntEn then some 3
    else if k = Reg.memStatus ∨ k = Reg.memIntEn then some 4
    else if k = Reg.dskStatus ∨ k = Reg.dskIntEn then some 5
    else if k = Reg.lnsStatus ∨ k = Reg.lnsIntEn then some 6
    else if k = Reg.ethStatus ∨ k = Reg.ethIntEn then some 7
    else if k = Reg.timStatus ∨ k = Reg.timIntEn then some 8
    else if k = Reg.prfStatus ∨ k = Reg.prfIntEn then some 9
    else if k = Reg.nvmStatus ∨ k = Reg.nvmIntEn then some 10
    else if k = Reg.hifStatus ∨ k = Reg.hifIntEn then some 11
    else none

/-- Set a status bit; its vector fires where the OR of its enabled bits changes from 0 to 1 (R347). -/
def Device.raise (d : Device) (k i : Nat) : Device :=
  let d' := d.event k i
  match vecOf k with
  | some v => if !d.irqOr v && d'.irqOr v then d'.fire v else d'
  | none => d'

/-- Write a register by its access codes (R9, R11, R12); a bit that the device set in this cycle stays (R10); a status or enable write that leaves the OR at 1 fires
again (R347). -/
def Device.plainWrite (d : Device) (k : Nat) (v : Word) : Device :=
  let a := regAccess k
  let d' := d.setReg k (a.apply (d.bitAt a.lock 31) (d.reg k) v ||| (d.reg k &&& d.keptBits k))
  match vecOf k with
  | some x => if d'.irqOr x then d'.fire x else d'
  | none => d'

/-! ## Request completions (R352 to R355) -/

/-- Write a completion into the ring (R355). -/
def Device.complete (d : Device) (op : Nat) (tag : Byte) (status : Nat) (result : Word) : Device :=
  let n := d.reg Reg.hifCplCount
  let i := n.toNat % 16
  let info := word (op * 2 ^ 24 + tag.toNat * 2 ^ 16 + status)
  let d := d.setReg (Reg.hifCplInfo i) info
  let d := d.setReg (Reg.hifCplResult i) result
  let d := d.setReg (Reg.hifCplSeq i) n
  let d := d.setReg (Reg.hifCplNs i) (word d.ctime.ns)
  let d := d.setReg Reg.hifCplCount (n + 1)
  let st := putBits (putBits (putBits (d.reg Reg.hifReqStatus) 23 16 tag.toNat) 15 8 op) 7 0 status
  (d.setReg Reg.hifReqStatus st).fire 0

/-- The code of a device state in CHK_STATE (Table 1.6). -/
def DevState.code : DevState → Nat
  | .boot => 0 | .startupTest => 1 | .configured => 2 | .run => 3 | .degraded => 4 | .safe => 5 | .fatal => 6 | .maint => 7

/-- Complete a request with STATE_REJECT and record it (R312). -/
def Device.stateReject (d : Device) (op : Nat) (tag : Byte) : Device :=
  let d := d.incr Reg.hifReqRejCnt
  let d := d.setReg Reg.hifReqRejLast (word (op * 2 ^ 24 + d.chk.dev.code * 2 ^ 8))
  d.complete op tag 1 0

/-- Put a request among the running ones (R352). -/
def Device.startReq (d : Device) (op : Nat) (tag : Byte) (a0 : Word) : Device :=
  { d with hif := { d.hif with running := d.hif.running ++ [⟨op, tag, a0⟩] } }

/-- Complete every running request that `p` selects. -/
def Device.completeWhere (d : Device) (p : RunReq → Bool) (status : Nat) (result : Word) : Device :=
  let rs := d.hif.running.filter p
  let d := { d with hif := { d.hif with running := d.hif.running.filter (fun r => !p r) } }
  rs.foldl (fun d r => d.complete r.op r.tag status result) d

/-- Every running request completes with ABORTED (R355). -/
def Device.abortAll (d : Device) : Device := d.completeWhere (fun _ => true) 8 0

/-! ## Parts of the state by index -/

/-- Engine `e`. -/
def Device.engAt (d : Device) (e : Nat) : Eng := tabGet Eng.reset d.eng e
/-- Replace engine `e`. -/
def Device.setEng (d : Device) (e : Nat) (v : Eng) : Device := { d with eng := tabSet Eng.reset d.eng e v }
/-- Change engine `e`. -/
def Device.modEng (d : Device) (e : Nat) (f : Eng → Eng) : Device := d.setEng e (f (d.engAt e))
/-- The array of the ME with engine index `e`. -/
def Device.meAt (d : Device) (e : Nat) : Me := tabGet Me.reset d.me e
/-- Replace an array. -/
def Device.setMe (d : Device) (e : Nat) (v : Me) : Device := { d with me := tabSet Me.reset d.me e v }
/-- Facet `f`. -/
def Device.facetAt (d : Device) (f : Nat) : Facet := tabGet Facet.reset d.facet f
/-- Replace Facet `f`. -/
def Device.setFacet (d : Device) (f : Nat) (v : Facet) : Device := { d with facet := tabSet Facet.reset d.facet f v }
/-- Change Facet `f`. -/
def Device.modFacet (d : Device) (f : Nat) (g : Facet → Facet) : Device := d.setFacet f (g (d.facetAt f))
/-- Prism `q`. -/
def Device.prismAt (d : Device) (q : Nat) : Prism := tabGet Prism.reset d.prism q
/-- Replace Prism `q`. -/
def Device.setPrism (d : Device) (q : Nat) (v : Prism) : Device := { d with prism := tabSet Prism.reset d.prism q v }
/-- The pair of a source. -/
def Device.pairAt (d : Device) (s : Nat) : Pair := tabGet Pair.reset d.flt.pair s
/-- Replace the pair of a source. -/
def Device.setPair (d : Device) (s : Nat) (v : Pair) : Device :=
  { d with flt := { d.flt with pair := tabSet Pair.reset d.flt.pair s v } }

/-- A fresh free value; nothing constrains it. -/
def Device.freeNat (d : Device) : Nat := Config.freeNat d.free
/-- Draw: the next free value is another one. -/
def Device.draw (d : Device) : Device := { d with free := d.free + 1 }

end Sys2Proof.Machine
end

