-- ==== Sys2Proof/Machine/Ops.lean ====
section
/-! DEFINITION. Shared operations: fault sources and their registration (R285 to R296), fences (R295), entry into
SAFE, FATAL and a warm reset (R292, R303, R422), ERR_OUT (R301), and the loss of compute power (R406). -/

namespace Sys2Proof.Machine

/-! ## Background classes -/

/-- The key of a class instance. -/
def bgKey : BgClass → Nat
  | .refresh f => f
  | .scrub => 4
  | .calib => 5
  | .flash => 6
  | .selftest q => 7 + q
  | .telemetry => 31

/-- A class instance. -/
def Device.bgAt (d : Device) (c : BgClass) : Bg := tabGet Bg.reset d.bg (bgKey c)
/-! ## Sources (Table 12.2) -/

/-- What the instance of a source is. -/
inductive SrcKind where
  | me | prism | facet | device | checker
deriving DecidableEq, Repr

/-- A row of Table 12.2. `cls`: 1 C, 2 U, 3 F (the code of FLT_LAST). `react`: fixed reactions as PIN, CHIP, BLK,
NMI, INT from bit 4 down. -/
structure SrcRow where
  first : Nat
  last : Nat
  cls : Nat
  cause : Nat
  kind : SrcKind
  fixed : Bool
  react : Nat
deriving DecidableEq, Repr

/-- Table 12.2: compute-die sources. -/
def srcCompute : List SrcRow :=
  [⟨0x000, 0x05F, 2, 0x01, .me, false, 0⟩, ⟨0x060, 0x077, 2, 0x02, .prism, false, 0⟩,
   ⟨0x078, 0x08F, 2, 0x03, .prism, false, 0⟩, ⟨0x090, 0x0A7, 2, 0x04, .prism, false, 0⟩,
   ⟨0x0A8, 0x0BF, 2, 0x05, .prism, false, 0⟩, ⟨0x0C0, 0x0D7, 2, 0x06, .prism, true, 0⟩,
   ⟨0x0D8, 0x0EF, 2, 0x07, .prism, true, 0⟩, ⟨0x0F0, 0x107, 2, 0x08, .prism, false, 0⟩,
   ⟨0x108, 0x11F, 2, 0x09, .prism, false, 0⟩, ⟨0x120, 0x123, 1, 0x0A, .facet, false, 0⟩,
   ⟨0x124, 0x127, 1, 0x0B, .facet, false, 0⟩, ⟨0x128, 0x12B, 2, 0x0C, .facet, false, 0⟩,
   ⟨0x12C, 0x12F, 2, 0x0D, .facet, false, 0⟩, ⟨0x130, 0x133, 2, 0x0E, .facet, false, 0⟩,
   ⟨0x134, 0x137, 2, 0x0F, .facet, false, 0⟩, ⟨0x138, 0x138, 2, 0x10, .device, false, 0⟩,
   ⟨0x139, 0x139, 1, 0x11, .device, false, 0⟩, ⟨0x13A, 0x13A, 2, 0x12, .device, false, 0⟩,
   ⟨0x13B, 0x13B, 2, 0x13, .device, false, 0⟩, ⟨0x13C, 0x13C, 1, 0x14, .device, false, 0⟩,
   ⟨0x13D, 0x13D, 1, 0x15, .device, false, 0⟩, ⟨0x13E, 0x13E, 1, 0x16, .device, false, 0⟩,
   ⟨0x13F, 0x13F, 1, 0x17, .device, false, 0⟩, ⟨0x140, 0x140, 2, 0x18, .device, false, 0⟩,
   ⟨0x141, 0x141, 2, 0x19, .device, false, 0⟩, ⟨0x142, 0x142, 2, 0x1A, .device, false, 0⟩,
   ⟨0x143, 0x143, 2, 0x1B, .device, false, 0⟩]

/-- Table 12.2: checker sources. -/
def srcChecker : List SrcRow :=
  [⟨0x180, 0x180, 2, 0x40, .checker, false, 0⟩, ⟨0x181, 0x181, 1, 0x41, .checker, false, 0⟩,
   ⟨0x182, 0x182, 2, 0x42, .checker, false, 0⟩, ⟨0x183, 0x183, 1, 0x43, .checker, false, 0⟩,
   ⟨0x184, 0x184, 1, 0x44, .checker, false, 0⟩, ⟨0x185, 0x185, 2, 0x45, .checker, false, 0⟩,
   ⟨0x186, 0x186, 3, 0x46, .checker, true, 0⟩, ⟨0x187, 0x187, 3, 0x47, .checker, true, 0⟩,
   ⟨0x188, 0x188, 2, 0x48, .checker, true, 0⟩, ⟨0x189, 0x189, 2, 0x49, .checker, true, 0⟩,
   ⟨0x18A, 0x18A, 2, 0x4A, .checker, true, 0⟩, ⟨0x18B, 0x18B, 2, 0x4B, .checker, true, 0b11001⟩,
   ⟨0x18C, 0x18C, 2, 0x4C, .checker, true, 0b11001⟩, ⟨0x18D, 0x18D, 2, 0x4D, .checker, false, 0⟩,
   ⟨0x18E, 0x18E, 2, 0x4E, .checker, false, 0⟩, ⟨0x18F, 0x18F, 3, 0x4F, .checker, true, 0⟩,
   ⟨0x190, 0x190, 3, 0x50, .checker, true, 0⟩, ⟨0x191, 0x191, 2, 0x51, .checker, true, 0⟩,
   ⟨0x192, 0x192, 2, 0x52, .checker, true, 0⟩, ⟨0x193, 0x193, 2, 0x53, .checker, true, 0⟩,
   ⟨0x194, 0x194, 1, 0x54, .checker, true, 0⟩, ⟨0x195, 0x195, 2, 0x55, .checker, true, 0⟩,
   ⟨0x196, 0x196, 1, 0x56, .checker, true, 0⟩, ⟨0x197, 0x197, 2, 0x57, .checker, false, 0⟩,
   ⟨0x198, 0x198, 2, 0x58, .checker, true, 0b11001⟩]

/-- The row of a source; none for a reserved number (R288). -/
def srcRow (s : Nat) : Option SrcRow := (srcCompute ++ srcChecker).find? fun r => decide (r.first ≤ s) && decide (s ≤ r.last)

/-! Source numbers that operations raise. -/

/-- ME_ABFT of ME j. -/
abbrev Src.meAbft (j : Nat) : Nat := j
/-- ME_CMD of Prism q. -/
abbrev Src.meCmd (q : Nat) : Nat := 0x060 + q
/-- VE_CMD. -/
abbrev Src.veCmd (q : Nat) : Nat := 0x078 + q
/-- FE_CMD. -/
abbrev Src.feCmd (q : Nat) : Nat := 0x090 + q
/-- SE_CMD. -/
abbrev Src.seCmd (q : Nat) : Nat := 0x0A8 + q
/-- ME_SELFTEST. -/
abbrev Src.meSelftest (q : Nat) : Nat := 0x0C0 + q
/-- PRM_SELFTEST. -/
abbrev Src.prmSelftest (q : Nat) : Nat := 0x0D8 + q
/-- FE_IDX. -/
abbrev Src.feIdx (q : Nat) : Nat := 0x0F0 + q
/-- TOKEN_OVF. -/
abbrev Src.tokenOvf (q : Nat) : Nat := 0x108 + q
/-- MEM_CE of Facet f. -/
abbrev Src.memCe (f : Nat) : Nat := 0x120 + f
/-- MEM_UE_FIXED. -/
abbrev Src.memUeFixed (f : Nat) : Nat := 0x124 + f
/-- MEM_POISON. -/
abbrev Src.memPoison (f : Nat) : Nat := 0x128 + f
/-- MEM_UNLOC. -/
abbrev Src.memUnloc (f : Nat) : Nat := 0x12C + f
/-- OVERRUN. -/
abbrev Src.overrun : Nat := 0x138
/-- BG_FORCED. -/
abbrev Src.bgForced : Nat := 0x139
/-- DSK_LINK. -/
abbrev Src.dskLink : Nat := 0x13A
/-- DSK_INBOUND. -/
abbrev Src.dskInbound : Nat := 0x13B
/-- DSK_MASTER. -/
abbrev Src.dskMaster : Nat := 0x13C
/-- LNS_STALE. -/
abbrev Src.lnsStale : Nat := 0x13D
/-- LNS_INGEST. -/
abbrev Src.lnsIngest : Nat := 0x13E
/-- TIM_STEP_REFUSED. -/
abbrev Src.timStepRefused : Nat := 0x13F
/-- HIF_PCIE. -/
abbrev Src.hifPcie : Nat := 0x142
/-- NVM_UE. -/
abbrev Src.nvmUe : Nat := 0x143
/-- TICK_INTERVAL. -/
abbrev Src.tickInterval : Nat := 0x180
/-- APT_UNTRUSTED. -/
abbrev Src.aptUntrusted : Nat := 0x181
/-- APT_WITNESS. -/
abbrev Src.aptWitness : Nat := 0x182
/-- STW_FAULT. -/
abbrev Src.stwFault : Nat := 0x183
/-- CVU_FAIL. -/
abbrev Src.cvuFail : Nat := 0x184
/-- TIME_COPY. -/
abbrev Src.timeCopy : Nat := 0x185
/-- CHK_CMP_TEST. -/
abbrev Src.chkCmpTest : Nat := 0x187
/-- CHK_DBG_SPLIT. -/
abbrev Src.dbgSplit : Nat := 0x188
/-- CHK_TCM_UE. -/
abbrev Src.chkTcmUe : Nat := 0x186
/-- CHK_LOCKSTEP. -/
abbrev Src.lockstep : Nat := 0x189
/-- WDG_FAIL. -/
abbrev Src.wdgFail : Nat := 0x18A
/-- VMON_CMP. -/
abbrev Src.vmonCmp : Nat := 0x18B
/-- FMON_CMP. -/
abbrev Src.fmonCmp : Nat := 0x18C
/-- FLT_WIRE. -/
abbrev Src.fltWire : Nat := 0x18D
/-- CHK_SUPPLY. -/
abbrev Src.chkSupply : Nat := 0x18F
/-- CHK_MEM. -/
abbrev Src.chkMem : Nat := 0x190
/-- SIO_ESTOP_DISC. -/
abbrev Src.estopDisc : Nat := 0x191
/-- SIO_ENC_DISC. -/
abbrev Src.encDisc : Nat := 0x192
/-- SIO_FEEDBACK. -/
abbrev Src.feedback : Nat := 0x193
/-- SIO_RESET_STUCK. -/
abbrev Src.resetStuck : Nat := 0x194
/-- SIO_SEAL. -/
abbrev Src.sealChg : Nat := 0x195
/-- SIO_LIMIT. -/
abbrev Src.limit : Nat := 0x196
/-- BOOT_VERIFY. -/
abbrev Src.bootVerify : Nat := 0x197
/-- FLT_FENCE_FAIL. -/
abbrev Src.fenceFail : Nat := 0x198

/-- The Facet whose pairs a source's pair belongs to; none for device-level and checker sources (R287). -/
def srcFacet (s : Nat) : Option Nat :=
  match srcRow s with
  | some r => match r.kind with
    | .me => some (s / 24)
    | .prism => some ((s - r.first) / 6)
    | .facet => some (s - r.first)
    | _ => none
  | none => none

/-- The engine index of ME j (R77): ME j is ME j mod 4 of Prism j / 4. -/
abbrev meEngine (j : Nat) : Nat := 7 * (j / 4) + j % 4

/-- The reaction entry of a source in FLT_REACTi (Table 12.11). -/
def Device.reactEntry (d : Device) (s : Nat) : Nat :=
  if s % 2 = 0 then d.fld (Reg.fltReact (s / 2)) 15 0 else d.fld (Reg.fltReact (s / 2)) 31 16

/-- The reactions of a source as PIN, CHIP, BLK, NMI, INT from bit 4 down: its entry, or for a fixed source the
fixed ones with INT, NMI and PIN of the entry added (R289); class U has INT in the ROM-only condition (R382). -/
def Device.reactions (d : Device) (s : Nat) : Nat :=
  match srcRow s with
  | none => 0
  | some r =>
    let e := d.reactEntry s % 32
    let base := if r.fixed then r.react ||| (e &&& 0b10011) else e
    if d.chk.romOnly && decide (r.cls = 2) then base ||| 1 else base

/-- The BLK scope of a source's entry (Table 12.11). -/
def Device.blkScope (d : Device) (s : Nat) : Nat := natBits (d.reactEntry s) 7 6

/-- The default tick period that a structure image sets, in µs: 33,333 where it sets none in range (R36). -/
def imagePeriod (v : DeviceSec) : Nat := if 5000 ≤ v.periodUs ∧ v.periodUs ≤ 200000 then v.periodUs else 33333

/-! ## Pending bits and ERR_OUT -/

/-- The pending bit of a source. -/
def Device.pend (d : Device) (s : Nat) : Bool := d.bitAt (Reg.fltPend (s / 32)) (s % 32)

/-- How many sources are pending. -/
def Device.pendCount (d : Device) : Nat := countBy (fun s => d.pend s) (List.range 512)

/-- ERR_OUT and ERR_OUT_N are asserted (R301). -/
def Device.errOut (d : Device) : Bool :=
  d.chk.power && (decide (d.chk.dev = .fatal) || decide (d.chk.dev = .boot) || decide (d.chk.dev = .startupTest)
    || d.chk.pinAt.isSome || (List.range 512).any fun s => d.pend s && decide (16 ≤ d.reactions s))

/-! ## Engines stop -/

/-- An engine stops at once (R20, R295): its commands are dropped without their SIGNALs; requests that an FE or SE
had issued complete as issued. -/
def Eng.stop (e : Eng) : Eng :=
  { e with
    queue := [], fetch := none, loops := [], phase := .idle, blocked := none, waitDone := false
    acts := (e.acts.filter fun a => !a.out.isEmpty).map fun a => { a with total := a.next, word := cmdPut a.word 1 1 0, acks := 0 }
    veOut := [], stopped := e.stopped || !e.atEnd }

/-- The array of an engine that stops keeps its weights and loses its commands. -/
def Me.stop (m : Me) : Me := { m with pipe := [] }

/-- SIGNALs of engine `e` that are on their way are discarded (R295), with its MARKs and packets. -/
def Device.dropSigs (d : Device) (e : Nat) : Device :=
  { d with sigs := d.sigs.filter (fun g => g.eng ≠ e), marks := d.marks.filter (fun g => g.eng ≠ e)
           apt := { d.apt with packets := d.apt.packets.filter (fun g => g.eng ≠ e), acks := d.apt.acks.filter (· ≠ e) } }

/-- Fence engine `e` for a fault: it stops and executes nothing. -/
def Device.fenceEngine (d : Device) (e : Nat) : Device :=
  let d := (d.setMe e (d.meAt e).stop).dropSigs e
  d.modEng e fun g => { g.stop with fenced := true, faulted := true }

/-- Fence the engines of a Prism. -/
def Device.fencePrism (d : Device) (q : Nat) : Device :=
  let d := (List.range 7).foldl (fun d i => d.fenceEngine (7 * q + i)) d
  d.setPrism q { d.prismAt q with fenced := true, seg := none }

/-- Fences of a Facet within the last 3,600 s (R298). -/
def Facet.recent (f : Facet) (q : Nat) : List Nat := f.fences.filter fun t => decide (q < t + 3600 * sQ)

/-- Count a fence of a Facet: FENCED, or LOCKED at the third within 3,600 s (R298). -/
def Facet.fence (f : Facet) (q : Nat) : Facet :=
  let l := q :: f.recent q
  { f with fences := l
           st := if f.st = .failed ∨ f.st = .locked then f.st else if 3 ≤ l.length then .locked else .fenced }

/-- Fence a Facet (R295): every engine of it stops. -/
def Device.fenceFacet (d : Device) (f : Nat) : Device :=
  let d := (List.range 42).foldl (fun d i => d.fenceEngine (42 * f + i)) d
  d.modFacet f fun x => x.fence d.q

/-- An engine that counts as fenced for the end of a frame (R51). -/
def Device.engOut (d : Device) (e : Nat) : Bool := (d.engAt e).fenced || (d.prismAt (e / 7)).disabled

/-- Every engine that counts has reached END (R53). -/
def Device.allEnd (d : Device) : Bool := (List.range 168).all fun e => d.engOut e || (d.engAt e).atEnd

/-- The tick unit sends its all-END report once per frame (R53). -/
def Device.reportEnd (d : Device) : Device :=
  if d.tck.frameOpen && !d.tck.abandoning && !d.tck.allEndSent && d.allEnd
  then { d with tck := { d.tck with allEndSent := true } } else d

/-- The checker commands a fence, and the compute die performs it and will confirm it (R295). -/
def Device.fence (d : Device) (s : FenceScope) : Device :=
  let d := match s with
    | .engine e => d.fenceEngine e
    | .prism q => d.fencePrism q
    | .facet f => d.fenceFacet f
  ({ d with flt := { d.flt with fences := d.flt.fences ++ [FencePend.mk s d.q] } } : Device).reportEnd

/-- The fence that BLK of a source asks for at the scope of its entry (R291, R292). -/
def Device.blkFence (d : Device) (s : Nat) : Device :=
  match srcRow s, srcFacet s with
  | some r, some f =>
    match d.blkScope s, r.kind with
    | 0, .me => d.fence (.engine (meEngine s))
    | 1, .me => d.fence (.prism (s / 4))
    | 1, .prism => d.fence (.prism (s - r.first))
    | 2, _ => d.fence (.facet f)
    | _, _ => d
  | _, _ => d

/-! ## Safety outputs -/

/-- Enable is withdrawn, by channel A where `a`, by channel B where `b`. In a test pulse of output `i` the end of the pulse is
suppressed, also where the pulse ended in this c-cycle (R332). An enable that waits for the end of a slot is withdrawn too. -/
def Output.noDemand (o : Output) (i : Chan) (a b : Bool) (q : Nat) : Output :=
  let o : Output := { o with waitA := o.waitA && !a, waitB := o.waitB && !b }
  if o.pulseAt.isSome && !o.demand then { o with demand := true, offAt := q, onAt := none }
  else if o.backAt.any fun t => decide (t / cQ = q / cQ) then
    { o with backAt := none, swA := o.swA && decide (i = .b), swB := o.swB && decide (i = .a), pulsedA := false, pulsedB := false
             offAt := q, onAt := none }
  else o

/-- Open switches of output `i` (R315): channel A's where `a`, channel B's where `b`. An output that was energized is
switched off now. -/
def Output.open_ (o : Output) (i : Chan) (a b : Bool) (q : Nat) : Output :=
  let o := o.noDemand i a b q
  let o' : Output := { o with swA := o.swA && !a, swB := o.swB && !b }
  if o.swA && o.swB && (a || b) then { o' with offAt := q, onAt := none } else o'

/-- Open both switches of an output (R314). -/
def Output.off (o : Output) (i : Chan) (q : Nat) : Output := o.open_ i true true q

/-- Both outputs go off in hardware and both channels withdraw their requests. -/
def Device.outputsOff (d : Device) : Device :=
  { d with sio := { d.sio with
      outA := d.sio.outA.off .a d.q, outB := d.sio.outB.off .b d.q
      chA := { d.sio.chA with req := false }, chB := { d.sio.chB with req := false } } }

/-- Both channels withdraw their requests; the switches follow within 100 µs (R315). -/
def Device.withdraw (d : Device) : Device :=
  { d with sio := { d.sio with
      chA := { d.sio.chA with req := false }, chB := { d.sio.chB with req := false }
      outA := d.sio.outA.noDemand .a true true d.q, outB := d.sio.outB.noDemand .b true true d.q } }

/-! ## Device states -/

/-- A context enters a mode at time `q`: LAST_VALID and the sender's counters are cleared (R275, R281). What it was is kept
for 1 ms, for the packets whose first byte came before (R277). -/
def Ctx.enter (c : Ctx) (q : Nat) (seq : Bool) : Ctx :=
  { c with seqMode := seq, lastValid := false, sndAlive := 0, sndSeq := 0
           past := (c.past.filter fun x => decide (q ≤ x.till + msQ)) ++ [⟨q, c.seqMode, c.sndAlive, c.sndSeq⟩] }

/-- Every enabled context that may do so enters SEQ (Table 11.3). -/
def Device.cvuSeq (d : Device) : Device :=
  { d with cvu := { d.cvu with ctx := d.cvu.ctx.map fun c => (c.1, if c.2.en && c.2.seqCap then c.2.enter d.q true else c.2) } }

/-- Every enabled context enters ALIVE (Table 11.3). -/
def Device.cvuAlive (d : Device) : Device :=
  { d with cvu := { d.cvu with ctx := d.cvu.ctx.map fun c => (c.1, if c.2.en then c.2.enter d.q false else c.2) } }

/-- RUN or DEGRADED. -/
def DevState.running (s : DevState) : Bool := decide (s = .run) || decide (s = .degraded)

/-- The ladder notes an entry into a state (R263): RUN or DEGRADED since the last failure, and since when. -/
def Ladder.note (l : Ladder) (s : DevState) (q : Nat) : Ladder :=
  if s.running then { l with runSince := true, runFrom := some (l.runFrom.getD q) } else { l with runFrom := none }

/-- The reaction table is locked before BOOT is left (R291). -/
def Device.lockBoot (d : Device) : Device := if d.chk.dev = .boot then d.setBit Reg.fltCtrl 31 true else d

/-- Enter a state that is not an entry into SAFE, FATAL or BOOT (R30); nothing leaves FATAL (R304). The modes of the
contexts follow Table 11.3; CONFIGURED sets the restriction count and clears the m-of-n window (R243, R244). -/
def Device.setState (d : Device) (s : DevState) : Device :=
  if d.chk.dev = .fatal then d
  else
    let was := d.chk.dev
    let d := d.lockBoot
    let d := { d with chk := { d.chk with prev := was, dev := s }, ladder := d.ladder.note s d.q }
    let d := if s = .configured then { d with apt := { d.apt with window := [], restrict := 2, speed := 0 } } else d
    if s.running then (if was = .configured then d.cvuAlive else d) else d.cvuSeq

/-- CHK_STATE (Table 1.6). -/
def Device.stateWord (d : Device) : Word :=
  word (d.chk.cause * 2 ^ 24 + d.chk.healthy * 2 ^ 16 + d.chk.prev.code * 2 ^ 8 + b2n d.chk.lockout * 2 ^ 7 + d.chk.dev.code)

/-- Note an event of a kind for the event recorder (R395): what the record's header says of it, the entries received and
the range grid. Item types 1 and 2 are the model's (DESIGN CHOICE, log 28). -/
def Device.noteEvent (d : Device) (kind cause : Nat) : Device :=
  let grid := (List.range 16384).map fun b => BitVec.ofNat 8 (tabGet 0 d.rng.closed b)
  { d with nvm := { d.nvm with due := d.nvm.due ++ [{
      kind := kind, flags := 0, frame := d.frame.toNat, lensDone := false
      head := toLe 4 d.frame.toNat ++ toLe 4 d.ctime.ns ++ toLe 4 d.ctime.sec ++ toLe 4 cause ++ toLe 4 d.stateWord.toNat
      items := [(1, (d.apt.recv.map fun (r : Nat × Recv) => r.2.data).flatten), (2, grid)] }] } }

/-- The lowest code of a list of decisions. -/
def minCause (l : List Decision) : Nat := l.foldl (fun a x => min a x.cause) 0xFF

/-- Enter SAFE for a list of decisions (R422), or add them to the entry in force. -/
def Device.enterSafe (d : Device) (l : List Decision) : Device :=
  if d.chk.dev = .fatal ∨ l = [] then d
  else if d.chk.dev = .safe then
    { d with chk := { d.chk with causes := (d.chk.causes ++ l.map Decision.cause).dedup
                                 lockout := d.chk.lockout || l.any Decision.lockout } }
  else
    let d := d.lockBoot
    let d := { d with chk := { d.chk with
      prev := d.chk.dev, dev := .safe, cause := minCause l, lockout := l.any Decision.lockout
      causes := (l.map Decision.cause).dedup }, ladder := d.ladder.note .safe d.q }
    let d := ({ d with apt := { d.apt with window := [] } }.withdraw).cvuSeq
    d.noteEvent 3 d.chk.cause

/-- A decision to enter SAFE at the next tick (R29, R422). -/
def Device.decideSafe (d : Device) (cause : Nat) (lockout : Bool) : Device :=
  { d with chk := { d.chk with decisions := d.chk.decisions ++ [⟨cause, lockout⟩] } }

/-- RUN or DEGRADED, which take the decisions of Table 1.7, or SAFE, which adds them to its entry (R422; DEDUCED, log 54). -/
def DevState.maySafe (s : DevState) : Bool := s.running || decide (s = .safe)

/-- A decision that RUN and DEGRADED take, and SAFE adds (Table 1.7, R422). -/
def Device.decideFromRun (d : Device) (cause : Nat) (lockout : Bool) : Device :=
  if d.chk.dev.maySafe then d.decideSafe cause lockout else d

/-- Enter SAFE at once from RUN or DEGRADED (Table 10.1, R255); in SAFE the cause is added (R422). -/
def Device.safeFromRun (d : Device) (cause : Nat) (lockout : Bool) : Device :=
  if d.chk.dev.maySafe then d.enterSafe [⟨cause, lockout⟩] else d

/-- The background classes, all Normal with their ages counted from `q` (R56). -/
def bgFresh (q : Nat) : Tab Bg := if q = 0 then [] else (List.range 32).map fun k => (k, { Bg.reset with ageFrom := q })

/-- Compute power is removed or the compute reset asserted: the compute die's registers, engines, memories and
logic lose their state (R406, R13); flash keeps its contents; the checker's time copy is not started (R220). -/
def Device.computeReset (d : Device) : Device :=
  { d with
    regs := d.regs.filter (fun e => isChk e.1)
    tck := .reset, eng := [], me := [], sigs := [], marks := [], mem := { MemSys.reset with lapAt := d.q }, facet := [], prism := []
    bg := bgFresh d.q, races := []
    rsv := [], tim := .reset, ctime := { d.ctime with st := .notStarted }, lens := [], eth := Device.reset.eth
    rng := { d.rng with tx := [] }
    hif := { d.hif with linkUp := false, cfg := [] }
    prf := Device.reset.prf, dsk := Device.reset.dsk
    flt := { d.flt with pair := [], fences := [] }
    nvm := { d.nvm with op := none, staging := [], due := [] }, model0 := .reset, model1 := .reset, load := none
    apt := { d.apt with packets := [], acks := [], spliceDue := false, splicing := false } }

/-- PWR_EN_CMP is deasserted with the compute reset asserted before it (R406). -/
def Device.computeOff (d : Device) : Device :=
  { d.computeReset with chk := { d.chk with pwrEn := false, cmpReset := true } }

/-- Enter FATAL (R303, Table 12.5). Running requests end as ABORTED; a fatal record goes to the housekeeping core
where the compute die is powered. Leaving MAINT returns MEM_TEST.MODE to OFF (R165). -/
def Device.enterFatal (d : Device) (source cause : Nat) : Device :=
  if d.chk.dev = .fatal then d
  else
    let d := d.lockBoot
    let d := { d with chk := { d.chk with
      prev := d.chk.dev, dev := .fatal, cause := cause, decisions := [], warm := none
      recordAt := if d.cmpAlive then some d.q else none } }
    let d := if d.chk.prev = .maint then d.setFld Reg.memTest 1 0 0 else d
    let d := d.setReg Reg.fltFatal (word (2 ^ 31 + cause * 2 ^ 16 + source))
    let d := d.outputsOff
    let d := { d with core := { d.core with held := true, sync := false }
                      wdg := { d.wdg with running := false }
                      ladder := d.ladder.note .fatal d.q }
    d.abortAll

/-- Ask for a warm reset: the safety outputs go off at once, the reset begins with WARM_RESET_BEGIN (R292). -/
def Device.askWarm (d : Device) (cause : Nat) : Device :=
  if d.chk.dev = .fatal ∨ d.chk.warm.isSome then d
  else { d with chk := { d.chk with warm := some cause } }.outputsOff

/-- The reaction CHIP: a warm reset; VMON_CMP and FMON_CMP in BOOT and STARTUP_TEST lead to SAFE with compute power
removed (R296). -/
def Device.chip (d : Device) (s cause : Nat) : Device :=
  if (s = Src.vmonCmp ∨ s = Src.fmonCmp) ∧ (d.chk.dev = .boot ∨ d.chk.dev = .startupTest)
  then (d.enterSafe [⟨cause, false⟩]).computeOff
  else d.askWarm cause

/-! ## Registration (R285, R292 to R294) -/

/-- The entry of the log before place `i` takes place `i` where it has the higher source number. -/
def Device.logSwap (d : Device) (i : Nat) : Device :=
  let a := d.reg (Reg.fltLogSrc ((i + 31) % 32))
  let b := d.reg (Reg.fltLogSrc i)
  if bits b 8 0 < bits a 8 0 then (d.setReg (Reg.fltLogSrc ((i + 31) % 32)) b).setReg (Reg.fltLogSrc i) a else d

/-- The entry at place `i` moves down among the `n` before it, which are those of its c-cycle and in order. -/
def Device.logSink (d : Device) (i : Nat) : Nat → Device
  | 0 => d
  | n + 1 => (d.logSwap i).logSink ((i + 31) % 32) n

/-- Count the entries of this c-cycle: the answer is how many there were. -/
def Device.logCycle (d : Device) : Device × Nat :=
  let n := if d.flt.logCyc = d.q / cQ then d.flt.logN else 0
  ({ d with flt := { d.flt with logCyc := d.q / cQ, logN := n + 1 } }, min n 31)

/-- Write an entry of the collector log (Table 12.9); entries of one c-cycle stand in ascending source number (R294), and have
the same time. -/
def Device.fltLog (d : Device) (s cls taken : Nat) (forced wire : Bool) : Device :=
  let i := d.fld Reg.fltLogHead 4 0
  let d := d.setReg (Reg.fltLogSrc i) (word (b2n forced * 2 ^ 31 + b2n wire * 2 ^ 30 + taken * 2 ^ 22 + cls * 2 ^ 20 + s))
  let d := d.setReg (Reg.fltLogNs i) (word d.ctime.ns)
  let d := d.setReg (Reg.fltLogFrame i) d.frame
  let (d, n) := d.logCycle
  (d.logSink i n).setFld Reg.fltLogHead 4 0 ((i + 1) % 32)

/-- INT and NMI, at the change of the pending bit from 0 to 1 (R292, R293). -/
def Device.intNmi (d : Device) (r : Nat) : Device :=
  let d := if r % 2 = 1 then { d with flt := { d.flt with irq := d.flt.irq + 1 } }.fire 1 else d
  if natBits r 1 1 = 1 then { d with flt := { d.flt with nmi := d.flt.nmi + 1 } } else d

/-- Count a registration and set FLT_PEND, FLT_LAST and the class bit (R292). -/
def Device.noteSource (d : Device) (s cls cause : Nat) : Device :=
  let d := if s % 2 = 0 then d.count (Reg.fltCnt (s / 2)) 15 0 1 else d.count (Reg.fltCnt (s / 2)) 31 16 1
  let d := d.setReg Reg.fltLast (word (cause * 2 ^ 24 + cls * 2 ^ 22 + s))
  let d := d.event (Reg.fltPend (s / 32)) (s % 32)
  if cls = 1 then d.event Reg.fltStatus 0 else if cls = 2 then d.event Reg.fltStatus 1 else d

/-- Register a raise of source `s` (R292 to R294): a forced one has INT alone (R299), in FATAL none (R304). While a warm reset
is asked for no fence is performed separately. -/
def Device.register (d : Device) (s : Nat) (forced wire : Bool) : Device :=
  match srcRow s with
  | none => d
  | some r =>
    if !d.chk.power then d
    else
      let rs := d.reactions s
      let act := if d.chk.dev = .fatal then 0 else if forced then rs &&& 1 else rs
      let was := d.pend s
      let d := d.noteSource s r.cls r.cause
      let d := if was then d else d.fltLog s r.cls act forced wire
      let d := if was then d else d.intNmi act
      if d.chk.dev = .fatal ∨ forced then d
      else
        let d := if 16 ≤ act then { d with chk := { d.chk with pinAt := some d.q } } else d
        if r.cls = 3 then d.enterFatal s r.cause
        else if natBits act 3 3 = 1 then d.chip s r.cause
        else if natBits act 2 2 = 1 && !r.fixed && d.chk.warm.isNone then d.blkFence s
        else d

/-- A checker source raises and registers (R288). -/
def Device.chkRaise (d : Device) (s : Nat) : Device := d.register s false false

/-- A block of the compute die drives its pair to 10 (R285); registration is a step of its own. -/
def Device.pairRaise (d : Device) (s : Nat) : Device :=
  if !d.cmpAlive then d
  else (d.setPair s { d.pairAt s with level := 1 }).setBit (Reg.fltCdPair (s / 32)) (s % 32) true

/-- The collector samples the pair of a source (R287): its domain is powered, out of reset and 10 µs old. -/
def Device.sampled (d : Device) (s : Nat) : Bool :=
  d.cmpAlive && decide (s < 0x180) && decide ((srcRow s).isSome) &&
  match srcFacet s with
  | some f => (d.facetAt f).powered && decide ((d.facetAt f).powerAt + 10 * usQ ≤ d.q)
  | none => decide (d.chk.relAt + 10 * usQ ≤ d.q)

end Sys2Proof.Machine
end

