-- ==== Sys2Proof/Machine/Counters.lean ====
section
/-! DEFINITION. Performance counters (R358 to R362): events add to the counters that select them. -/

namespace Sys2Proof.Machine

/-- The event that slot `i` of unit `u` counts (R358): slot 4 of an engine is fixed. -/
def Device.prfEvent (d : Device) (u i : Nat) : Nat :=
  if u < 168 ∧ i = 4 then 1 else if u < 168 ∧ 5 ≤ i then 0 else d.fld (Reg.prfSel u i) 9 0

/-- The Facet that powers a unit; none for an I/O block (Table 15.1). -/
def unitFacet (u : Nat) : Option Nat :=
  if u < 168 then some (u / 42) else if u < 192 then some ((u - 168) / 6) else if u < 196 then some (u - 192) else none

/-- A unit is powered (R359, R362). -/
def Device.unitOn (d : Device) (u : Nat) : Bool :=
  d.cmpAlive && (match unitFacet u with | some f => (d.facetAt f).powered | none => true)

/-- An empty counter. -/
def PrfCnt.zero : PrfCnt where
  val := 0
  ovf := false
  lost := false
  irq := false
  selAt := 0

/-- Counter `i` of unit `u`. -/
def Device.cntAt (d : Device) (u i : Nat) : PrfCnt := tabGet PrfCnt.zero d.prf.cnt (8 * u + i)
/-- Replace a counter. -/
def Device.setCnt (d : Device) (u i : Nat) (c : PrfCnt) : Device :=
  { d with prf := { d.prf with cnt := tabSet PrfCnt.zero d.prf.cnt (8 * u + i) c } }

/-- The overflow interrupt of counters that host software has cleared since in PRF_STATUS is no longer pending. -/
def Device.irqSeen (d : Device) : Device :=
  if d.bitAt Reg.prfStatus 1 then d
  else { d with prf := { d.prf with cnt := d.prf.cnt.map fun x => (x.1, { x.2 with irq := false }) } }

/-- An overflow interrupt of another counter than `i` of unit `u` is pending. -/
def Device.otherIrq (d : Device) (u i : Nat) : Bool := d.prf.cnt.any fun x => decide (x.1 ≠ 8 * u + i) && x.2.irq

/-- Add `n` to a counter; past 48 bits it wraps, and OVF and PRF_STATUS.OVF are set (R361). In the a-cycle of a write of its
select it counts nothing (R360). -/
def Device.cntAdd (d : Device) (u i n : Nat) : Device :=
  let c := d.cntAt u i
  let v := c.val.toNat + n
  if c.selAt = d.q / aQ + 1 then d
  else if v < 2 ^ 48 then d.setCnt u i { c with val := BitVec.ofNat 48 v }
  else (d.irqSeen.setCnt u i { c with val := BitVec.ofNat 48 v, ovf := true, irq := true }).raise Reg.prfStatus 1

/-- `n` events `ev` arise in unit `u`: every counter of it that selects them adds them (R359). -/
def Device.perf (d : Device) (u ev n : Nat) : Device :=
  if n = 0 ∨ !d.unitOn u then d
  else (List.range 8).foldl (fun d i => if d.prfEvent u i = ev then d.cntAdd u i n else d) d

/-- Clear the counters of a unit (R362). -/
def Device.cntClear (d : Device) (u : Nat) : Device :=
  (List.range 8).foldl (fun d i => d.setCnt u i { PrfCnt.zero with selAt := (d.cntAt u i).selAt }) d

end Sys2Proof.Machine
end

