-- ==== Sys2Proof/Machine/Memory.lean ====
section
/-! DEFINITION. The memory system: address map (R141), word code (R147 to R149), page code (R150 to R153), merge
buffer (R155 to R157), reads and writes with poison (R158 to R161), error log (R166, R167). -/

namespace Sys2Proof.Machine

/-! ## Address map (Tables 6.1 and 6.2) -/

/-- A memory: DRAM or Facet buffer of Facet f, scratch of Prism q, accumulator window of ME j. -/
inductive Place where
  | dram (f : Nat)
  | fbuf (f : Nat)
  | scr (q : Nat)
  | acc (j : Nat)
deriving DecidableEq, Repr

/-- Base of the Facet buffers. -/
abbrev fbufBase : Nat := 0x800000000
/-- Base of the scratch memories. -/
abbrev scrBase : Nat := 0x900000000
/-- Base of the accumulator windows. -/
abbrev accBase : Nat := 0xA00000000

/-- The memory that a physical address names (Table 6.1). -/
def placeOf (a : Nat) : Option Place :=
  if a < 0x400000000 then some (.dram (a / 2 ^ 32))
  else if a < fbufBase then none
  else if a < fbufBase + 4 * 0x1000000 then
    if (a - fbufBase) % 0x1000000 < 0x800000 then some (.fbuf ((a - fbufBase) / 0x1000000)) else none
  else if a < scrBase then none
  else if a < scrBase + 24 * 0x400000 then some (.scr ((a - scrBase) / 0x400000))
  else if a < accBase then none
  else if a < accBase + 96 * 0x100000 then some (.acc ((a - accBase) / 0x100000))
  else none

/-- The Facet a memory belongs to. -/
def Place.facet : Place → Nat
  | .dram f => f
  | .fbuf f => f
  | .scr q => q / 6
  | .acc j => j / 24

/-- First and last address + 1 of a memory. -/
def Place.range : Place → Nat × Nat
  | .dram f => (f * 2 ^ 32, (f + 1) * 2 ^ 32)
  | .fbuf f => (fbufBase + f * 0x1000000, fbufBase + f * 0x1000000 + 0x800000)
  | .scr q => (scrBase + q * 0x400000, scrBase + (q + 1) * 0x400000)
  | .acc j => (accBase + j * 0x100000, accBase + (j + 1) * 0x100000)

/-- The controller of an address (Table 6.2). -/
def Place.ctrl (p : Place) (a : Nat) : Nat :=
  match p with
  | .dram f => 8 * f + a / 2048 % 8
  | .fbuf f => 32 + f
  | .scr q => 36 + q
  | .acc j => 64 + j

/-- The controller of an address, 0 where it names no storage. -/
def ctrlOf (a : Nat) : Nat := match placeOf a with | some p => p.ctrl a | none => 0

/-- A Facet's memories can be reached: powered and zeroed (R142, R146). -/
def Device.facetUp (d : Device) (f : Nat) : Bool := d.cmpAlive && (d.facetAt f).powered && !(d.facetAt f).zeroing

/-- An address names storage now (R142). -/
def Device.mapped (d : Device) (a : Nat) : Bool :=
  match placeOf a with | some p => d.facetUp p.facet | none => false

/-- Accumulator words are 32 bits wide; an address in a window. -/
def isAcc (a : Nat) : Bool := decide (accBase ≤ a) && decide (a < accBase + 96 * 0x100000)

/-- An accumulator window address that reads as 0 and ignores writes (R77). -/
def accHole (a : Nat) : Bool :=
  isAcc a && (decide (0x80000 ≤ (a - accBase) % 0x100000) || decide (0x84 ≤ a % 0x100))

/-- Bytes of the stored word at an address (R147, R148). -/
def wordSize (a : Nat) : Nat := if isAcc a then 4 else 8
/-- The first address of the stored word that holds address `a`. -/
def wordBase (a : Nat) : Nat := a / wordSize a * wordSize a

/-- The span of the page code that holds an address (Table 6.2). -/
def spanBase (a : Nat) : Nat :=
  match placeOf a with | some (.dram _) => a / 2048 * 2048 | _ => a / 4096 * 4096

/-- Words of a span (Table 6.2). -/
def spanWords (a : Nat) : Nat :=
  match placeOf a with | some (.dram _) => 256 | some (.acc _) => 528 | _ => 512

/-- The position of a word in its span (R150). -/
def spanPos (w : Nat) : Nat :=
  if isAcc w then (w % 4096) / 256 * 33 + w % 256 / 4 else (w - spanBase w) / 8

/-- The address of the word at a position of a span. -/
def spanAddr (base pos : Nat) : Nat :=
  if isAcc base then base + pos / 33 * 256 + pos % 33 * 4 else base + 8 * pos

/-! ## The word code -/

/-- How many bits of an 8-bit value are set. -/
def weight8 (n : Nat) : Nat := countBy (fun i => n.testBit i) (List.range 8)

/-- Columns of the data bits of the (72,64) code (R147). -/
def cols64 : List Nat :=
  (List.range 256).filter (fun n => weight8 n = 3) ++ [0x1F, 0x2F, 0x37, 0x3B, 0x3D, 0x3E, 0x4F, 0x57]

/-- Columns of the data bits of the (39,32) code (R148). -/
def cols32 : List Nat := ((List.range 128).filter (fun n => weight8 n = 3)).take 32

/-- The columns of the code at an address. -/
def colsAt (a : Nat) : List Nat := if isAcc a then cols32 else cols64

/-- Check bits of a word: the XOR of the columns of its set bits (R147). -/
def checkBits (cols : List Nat) (v : Nat) : Nat :=
  (cols.zipIdx).foldl (fun s c => if v.testBit c.2 then s ^^^ c.1 else s) 0

/-- The poison pattern P (R149). -/
def patAt (a : Nat) : Nat := if isAcc a then 0x7F else 0xFF

/-- What the word decode finds (Table 6.3). `fixed e`: the bits of the data that are inverted. -/
inductive WordDec where
  | clean
  | poison
  | fixed (e : Nat)
  | bad
deriving DecidableEq, Repr

/-- The word decode of a syndrome at an address (Table 6.3). -/
def wordDec (a syn : Nat) : WordDec :=
  if syn = 0 then .clean
  else if syn = patAt a then .poison
  else match (colsAt a).findIdx? (· = syn) with
    | some i => .fixed (2 ^ i)
    | none => if weight8 syn = 1 then .fixed 0 else .bad

/-! ## GF(2^16) (R150) -/

/-- Multiply by α. -/
def gfX (v : Nat) : Nat := let u := v * 2; if 0x10000 ≤ u then u ^^^ 0x1100B else u
/-- α to the power `n`, times `v`. -/
def gfPow : Nat → Nat → Nat
  | 0, v => v
  | n + 1, v => gfX (gfPow n v)
/-- The product of two field elements. -/
def gfMul (a b : Nat) : Nat := (List.range 16).foldl (fun s i => if b.testBit i then s ^^^ gfPow i a else s) 0
/-- `a` to the power 2^(n+1) - 2 by repeated squaring. -/
def gfInvAux : Nat → Nat → Nat → Nat
  | 0, _, acc => acc
  | n + 1, a, acc => let s := gfMul a a; gfInvAux n s (gfMul acc s)
/-- The inverse of a nonzero element: its power 2^16 - 2. -/
def gfInv (a : Nat) : Nat := gfInvAux 15 a 1

/-- Lane `j` of a word. -/
def lane (w : DWord) (j : Nat) : Nat := natBits w.toNat (16 * j + 15) (16 * j)
/-- Apply `f` to the four lanes of a word. -/
def mapLanes (f : Nat → Nat) (w : DWord) : DWord :=
  BitVec.ofNat 64 (f (lane w 0) + f (lane w 1) * 2 ^ 16 + f (lane w 2) * 2 ^ 32 + f (lane w 3) * 2 ^ 48)
/-- Every lane times α^n. -/
def mulAlpha (n : Nat) (w : DWord) : DWord := mapLanes (gfPow n) w

/-! ## Stored words -/

/-- A span whose page checks agree with its data. -/
def SpanErr.zero : SpanErr where
  s0 := 0
  s1 := 0
  cw0 := 0
  cw1 := 0

/-- The stored data of the word at `w`. -/
def MemSys.word (m : MemSys) (w : Nat) : Nat := leNat ((List.range (wordSize w)).map fun i => tabGet 0 m.data (w + i))
/-- Store `n` bytes of `v` at `a`. -/
def MemSys.putBytes (m : MemSys) (a n v : Nat) : MemSys :=
  { m with data := ((toLe n v).zipIdx).foldl (fun t b => tabSet 0 t (a + b.2) b.1) m.data }
/-- The syndrome of the word at `w`. -/
def MemSys.synAt (m : MemSys) (w : Nat) : Nat := (tabGet 0 m.syn w).toNat
/-- Set the syndrome of a word. -/
def MemSys.setSyn (m : MemSys) (w s : Nat) : MemSys := { m with syn := tabSet 0 m.syn w (BitVec.ofNat 8 s) }
/-- The residues of a span. -/
def MemSys.spanAt (m : MemSys) (b : Nat) : SpanErr := tabGet SpanErr.zero m.span b
/-- Set the residues of a span. -/
def MemSys.setSpan (m : MemSys) (b : Nat) (e : SpanErr) : MemSys := { m with span := tabSet SpanErr.zero m.span b e }
/-- The data of a word changed by `x` while the check words of its span did not. -/
def MemSys.residue (m : MemSys) (w x : Nat) : MemSys :=
  if x = 0 then m
  else
    let b := spanBase w
    let e := m.spanAt b
    let v : DWord := BitVec.ofNat 64 x
    m.setSpan b { e with s0 := e.s0 ^^^ v, s1 := e.s1 ^^^ mulAlpha (spanPos w) v }

/-- Replace the memory system. -/
def Device.setMem (d : Device) (m : MemSys) : Device := { d with mem := m }

/-- Write an entry of the error log (R166). -/
def Device.memLog (d : Device) (kind ctrl a : Nat) : Device :=
  let i := d.fld Reg.memLogHead 4 0
  let d := d.setReg (Reg.memLogAddr i) (word a)
  let d := d.setReg (Reg.memLogInfo i) (word (ctrl * 2 ^ 24 + kind * 2 ^ 20 + natBits a 47 32))
  let d := d.setReg (Reg.memLogNs i) (word d.tim.ns)
  let d := d.setReg (Reg.memLogFrame i) d.frame
  (d.setFld Reg.memLogHead 4 0 ((i + 1) % 32)).count Reg.memLogHead 31 16 1

/-- Count `n` events of the Facet of an address (Table 15.2). -/
def Device.memEvent (d : Device) (ev a n : Nat) : Device :=
  match placeOf a with | some p => d.perf (192 + p.facet) ev n | none => d

/-- Count the 64-byte lines of [a, a + n) where they lie in DRAM. -/
def Device.dramEvent (d : Device) (ev a n : Nat) : Device :=
  if a < 0x400000000 then d.memEvent ev a (ceilDiv (a % 64 + n) 64) else d

/-- Raise a memory fault source of the Facet of an address. -/
def Device.memSrc (d : Device) (base a : Nat) : Device :=
  match placeOf a with | some p => d.pairRaise (base + p.facet) | none => d

/-- Count and log a word that the word code corrects (R166, R167). -/
def Device.noteCe (d : Device) (w : Nat) : Device :=
  let d := (d.incr Reg.memCeCnt).raise Reg.memStatus 0
  let d := if d.bitAt Reg.memCtrl 2 then d.memLog 1 (ctrlOf w) w else d
  d.memSrc 0x120 w

/-- Count and log a word that the page code corrects, or (kind 5) recomputed check words. -/
def Device.noteFixed (d : Device) (kind a : Nat) : Device :=
  let d := if kind = 2 then d.incr Reg.memUeFixedCnt else d
  ((d.raise Reg.memStatus 1).memLog kind (ctrlOf a) a).memSrc 0x124 a

/-- Mark a word as poisoned, count it and log it (R151). -/
def Device.poisonWord (d : Device) (w : Nat) : Device :=
  let d := d.setMem (d.mem.setSyn w (patAt w))
  (((d.incr Reg.memPoisonCnt).raise Reg.memStatus 2).memLog 3 (ctrlOf w) w).memSrc 0x128 w

/-! ## Page decode (R151) -/

/-- Addresses of the words of a span whose syndrome is not 0. -/
def MemSys.flagged (m : MemSys) (b : Nat) : List Nat :=
  (m.syn.map (·.1)).filter fun w => decide (spanBase w = b)

/-- The word decode of a check word of span `b` (R150, R151): the bits that are inverted, and whether it is
uncorrectable. A check word that carries the poison pattern takes part as stored. -/
def chkWordDec (b : Nat) (syn : Byte) : Nat × Bool :=
  match wordDec b syn.toNat with
  | .clean => (0, false)
  | .poison => (0, false)
  | .fixed e => (e, false)
  | .bad => (0, true)

/-- A word that the word code corrects is inverted, written back, counted and logged (Table 6.3); another stays. -/
def Device.ceWord (d : Device) (w : Nat) : Device :=
  match wordDec w (d.mem.synAt w) with
  | .fixed e => (d.setMem (((d.mem.putBytes w (wordSize w) (d.mem.word w ^^^ e)).residue w e).setSyn w 0)).noteCe w
  | _ => d

/-- The check words of a span that the word code corrects are written back and counted, under the span's address. -/
def Device.fixChecks (d : Device) (b : Nat) : Device :=
  let e := d.mem.spanAt b
  let d := match wordDec b e.cw0.toNat with
    | .fixed x => (d.setMem (d.mem.setSpan b { e with s0 := e.s0 ^^^ BitVec.ofNat 64 x, cw0 := 0 })).noteCe b
    | _ => d
  let e := d.mem.spanAt b
  match wordDec b e.cw1.toNat with
  | .fixed x => (d.setMem (d.mem.setSpan b { e with s1 := e.s1 ^^^ BitVec.ofNat 64 x, cw1 := 0 })).noteCe b
  | _ => d

/-- A word is corrected by `e`: rewritten, counted and logged. Its mark stays (R161). -/
def Device.fixWord (d : Device) (w : Nat) (e : DWord) : Device :=
  let v := d.mem.word w ^^^ e.toNat
  let s := if d.mem.synAt w = patAt w then patAt w else 0
  (d.setMem (((d.mem.putBytes w (wordSize w) v).residue w e.toNat).setSyn w s)).noteFixed 2 w

/-- The words of E are uncorrectable: marked, and the page checks recomputed from the span as stored. -/
def Device.giveUp (d : Device) (b : Nat) (es : List Nat) : Device :=
  let d := es.foldl (fun d w => d.poisonWord w) d
  d.setMem (d.mem.setSpan b .zero)

/-- The page decode of a span (R151, Table 6.4): every word and both check words are read and decoded by their own code,
which writes back those it corrects; the residues then are the syndromes S0 and S1. -/
def Device.pageDecode (d : Device) (b : Nat) : Device :=
  let d := ((d.mem.flagged b).foldl (fun d w => d.ceWord w) (d.memEvent 0xC3 b 1)).fixChecks b
  let es := (d.mem.flagged b).filter fun w => decide (wordDec w (d.mem.synAt w) = .bad)
  let sp := d.mem.spanAt b
  let u0 := (chkWordDec b sp.cw0).2
  let u1 := (chkWordDec b sp.cw1).2
  match es with
  | [] => if u0 || u1 then (d.setMem (d.mem.setSpan b .zero)).noteFixed 5 b else d
  | [a] =>
    if !u0 && !u1 then
      if sp.s1 = mulAlpha (spanPos a) sp.s0 then d.fixWord a sp.s0 else d.giveUp b es
    else if !u0 then d.fixWord a sp.s0
    else if !u1 then
      let inv := gfInv (gfPow (spanPos a) 1)
      d.fixWord a (mapLanes (fun x => gfMul inv x) sp.s1)
    else d.giveUp b es
  | [a, c] =>
    if u0 || u1 then d.giveUp b es
    else
      let pa := gfPow (spanPos a) 1
      let pc := gfPow (spanPos c) 1
      let inv := gfInv (pa ^^^ pc)
      let eb := mapLanes (fun x => gfMul inv x) (sp.s1 ^^^ mulAlpha (spanPos a) sp.s0)
      (d.fixWord a (sp.s0 ^^^ eb)).fixWord c eb
  | _ => d.giveUp b es

/-- The requests of an engine with the spans they wait for kept by `p`. -/
def Eng.keepHeld (g : Eng) (p : Nat → Bool) : Eng :=
  { g with acts := g.acts.map fun a => { a with out := a.out.map fun r => { r with held := r.held.filter p } } }

/-- A page decode ends: the span is decoded, and the requests that waited for it are released (R151, R152). -/
def Device.pageEnd (d : Device) (b : Nat) : Device :=
  let d := d.pageDecode b
  { d.setMem { d.mem with decode := d.mem.decode.erase b } with
    eng := d.eng.map fun g => (g.1, g.2.keepHeld fun x => decide (x ≠ b)) }

/-! ## Merge buffer and writes -/

/-- Note a DRAM page in the check cache of its controller: 32 most recent (R154). -/
def MemSys.touch (m : MemSys) (w : Nat) : MemSys :=
  match placeOf w with
  | some (.dram f) =>
    let c := (Place.dram f).ctrl w
    let k := (c, spanBase w)
    let mine := (k :: (m.cache.filter fun x => x.1 = c).filter (· ≠ k)).take 32
    { m with cache := mine ++ m.cache.filter (fun x => x.1 ≠ c) }
  | _ => m

/-- The word at `w` cannot be used before a page decode: it is uncorrectable, or its span is being decoded (R152). -/
def Device.needsDecode (d : Device) (w : Nat) : Bool :=
  decide (wordDec w (d.mem.synAt w) = .bad) || decide (spanBase w ∈ d.mem.decode)

/-- Store a whole word with or without the mark; `dec` decodes a span. An uncorrectable old word is decoded by its page
first, so that the check update of R154 starts from decoded data, and a write to a span in decode waits for the end of
that decode (R157). -/
def Device.storeWith (dec : Device → Nat → Device) (d : Device) (w v : Nat) (poison : Bool) : Device :=
  if accHole w then d
  else
    let d := if d.needsDecode w then dec d (spanBase w) else d
    let x := match wordDec w (d.mem.synAt w) with | .fixed e => e | _ => 0
    let m := ((d.mem.residue w x).putBytes w (wordSize w) v).setSyn w (if poison then patAt w else 0)
    d.setMem (m.touch w)

/-- Read a stored word with its decode (R149, R151): data and mark. Corrections are counted, logged and written
back (R163). -/
def Device.loadWith (dec : Device → Nat → Device) (d : Device) (w : Nat) : Device × Nat × Bool :=
  if accHole w then (d, 0, false)
  else
    let d := (if d.needsDecode w then dec d (spanBase w) else d).ceWord w
    (d, d.mem.word w, decide (d.mem.synAt w ≠ 0))

/-- Merge `n` valid bytes of `new` by the byte mask `mask` (bit per byte) into `old`. -/
def mergeBytes (old new mask n : Nat) : Nat :=
  leNat ((List.range n).map fun i =>
    BitVec.ofNat 8 (if mask.testBit i then new / 256 ^ i else old / 256 ^ i))

/-- Drain a merge-buffer entry (R155, R157): the eight old words of the line are read and decoded, and the words with
valid bytes written. -/
def Device.drainEntryWith (dec : Device → Nat → Device) (d : Device) (t : MergeEnt) : Device :=
  let d := (List.range 8).foldl (fun d i => (d.loadWith dec (t.line + 8 * i)).1) d
  (List.range 8).foldl (fun d i =>
    let mask := natBits t.mask.toNat (8 * i + 7) (8 * i)
    let w := t.line + 8 * i
    let new := leAt t.bytes (8 * i) 8
    let bad := t.poison.getLsbD i
    if mask = 0 then d
    else if mask = 0xFF then d.storeWith dec w new bad
    else
      let (d, old, p) := d.loadWith dec w
      d.storeWith dec w (mergeBytes old new mask 8) (p || bad)) d

/-- Take an entry out of the merge buffers, where it still stands there, and drain it. -/
def Device.drainWith (dec : Device → Nat → Device) (d : Device) (t : MergeEnt) : Device :=
  if t ∉ d.mem.merge then d
  else ((d.setMem { d.mem with merge := d.mem.merge.filter (· ≠ t) }).memEvent 0xC2 t.line 1).drainEntryWith dec t

/-- The page decode of a span: the entries held for it drain first (R157). A drain may itself find an uncorrectable word;
`n` bounds how deep that goes. -/
def spanDecode : Nat → Device → Nat → Device
  | 0, d, b => d.pageEnd b
  | n + 1, d, b =>
    let d := d.setMem { d.mem with decode := d.mem.decode.erase b }
    ((d.mem.merge.filter fun t => decide (spanBase t.line = b)).foldl (Device.drainWith (spanDecode n)) d).pageEnd b

/-- Decode a span; every nested decode starts from a drain, so the entries bound the depth. -/
def Device.decodeSpan (d : Device) (b : Nat) : Device := spanDecode (d.mem.merge.length + 1) d b

/-- Store a whole word. -/
def Device.storeWord (d : Device) (w v : Nat) (poison : Bool) : Device := d.storeWith Device.decodeSpan w v poison

/-- Read a stored word. -/
def Device.loadWord (d : Device) (w : Nat) : Device × Nat × Bool := d.loadWith Device.decodeSpan w

/-- Take an entry out of the merge buffers and drain it. -/
def Device.drain (d : Device) (t : MergeEnt) : Device := d.drainWith Device.decodeSpan t

/-- Drain every entry that `p` selects, oldest first. -/
def Device.drainWhere (d : Device) (p : MergeEnt → Bool) : Device :=
  (d.mem.merge.filter p).foldl (fun d t => d.drain t) d

/-- Add bytes of one line to an entry: a word's mark is set by a poisoned write and cleared by an unpoisoned write
of all its bytes (R161). -/
def MergeEnt.add (t : MergeEnt) (ofs : Nat) (bs : List Byte) (poison : Bool) : MergeEnt :=
  let m : Nat := (2 ^ bs.length - 1) * 2 ^ ofs
  let touched := fun i => natBits m (8 * i + 7) (8 * i)
  let p := (List.range 8).foldl (fun a i =>
    let b := if touched i = 0 then t.poison.getLsbD i
      else if poison then true
      else if touched i = 0xFF then false else t.poison.getLsbD i
    a + (if b then 2 ^ i else 0)) 0
  { t with mask := t.mask ||| BitVec.ofNat 64 m, bytes := patch t.bytes ofs bs, poison := BitVec.ofNat 8 p }

/-- Write bytes that lie in one 64-byte line of DRAM, a Facet buffer or scratch (R155). -/
def Device.writeLine (d : Device) (a : Nat) (bs : List Byte) (poison : Bool) : Device :=
  let ln := a / 64 * 64
  let ofs := a % 64
  let c := ctrlOf a
  match d.mem.merge.find? fun t => decide (t.line = ln) with
  | some t => d.setMem { d.mem with merge := d.mem.merge.map fun x => if x = t then t.add ofs bs poison else x }
  | none =>
    if ofs % 8 = 0 ∧ bs.length % 8 = 0 then
      (List.range (bs.length / 8)).foldl (fun d i => d.storeWord (a + 8 * i) (leAt bs (8 * i) 8) poison) d
    else
      let mine := d.mem.merge.filter fun t => decide (t.ctrl = c)
      let d := if 16 ≤ mine.length then match mine with | t :: _ => d.drain t | [] => d else d
      let t : MergeEnt := ⟨c, ln, 0, List.replicate 64 0, 0, d.q⟩
      d.setMem { d.mem with merge := d.mem.merge ++ [t.add ofs bs poison] }

/-- Cut [a, a + n) at multiples of `s`: the pieces as (address, offset, length). `fuel` bounds the pieces. -/
def pieces (s : Nat) : Nat → Nat → Nat → Nat → List (Nat × Nat × Nat)
  | 0, _, _, _ => []
  | fuel + 1, a, ofs, n =>
    if n = 0 then []
    else
      let k := min n (s - a % s)
      (a, ofs, k) :: pieces s fuel (a + k) (ofs + k) (n - k)

/-- Write bytes at a physical address, every word touched with the same mark. A part of an accumulator word is merged at once;
a write to a span in decode waits for its end (R157), and addresses without storage take no write (R142). -/
def Device.writeMem (d : Device) (a : Nat) (bs : List Byte) (poison : Bool) : Device :=
  (pieces 64 (bs.length + 1) a 0 bs.length).foldl (fun d p =>
    let d := if spanBase p.1 ∈ d.mem.decode then d.decodeSpan (spanBase p.1) else d
    if !d.mapped p.1 then d
    else if isAcc p.1 then
      (pieces 4 (p.2.2 + 1) p.1 p.2.1 p.2.2).foldl (fun d t =>
        if t.2.2 = 4 then d.storeWord t.1 (leAt bs t.2.1 4) poison
        else
          let w := wordBase t.1
          let (d, old, bad) := d.loadWord w
          d.storeWord w (leNat (patch (toLe 4 old) (t.1 - w) (slice bs t.2.1 t.2.2))) (bad || poison)) d
    else (d.dramEvent 0xC1 p.1 p.2.2).writeLine p.1 (slice bs p.2.1 p.2.2) poison) d

/-- Entries that hold lines of a span drain before its page decode (R157). -/
def Device.drainSpan (d : Device) (b : Nat) : Device := d.drainWhere fun t => decide (spanBase t.line = b)

/-- Who reads a word: an operand reader or the drain of an ME (R70, R78), or any other requester. -/
inductive Reader where
  | any | feeder | drain
deriving DecidableEq, Repr

/-- What the word at `w` held before the drain wrote it in the a-cycle in progress (R78). -/
def Device.oldAt (d : Device) (w : Nat) : Option Race :=
  if d.raceAt = d.q / aQ ∧ d.races.any (fun r => decide (r.word = w) && decide (168 ≤ r.eng))
  then d.races.find? fun r => decide (r.word = w) else none

/-- Read the word at `w` as reader `r` sees it: decoded and merged with the valid bytes of an entry for its line (R156).
In abandonment an ME takes an uncorrectable word poisoned at once, and the decode proceeds (R70). In the a-cycle of a
drain write another reader sees the old value (R78). A read of a poisoned word is counted (R160). -/
def Device.seeAs (d : Device) (r : Reader) (w : Nat) : Device × Nat × Bool :=
  let hurry := decide (r ≠ .any) && d.tck.abandoning && d.needsDecode w && !accHole w
  let (d, v, p) :=
    if hurry then (d.setMem { d.mem with decode := (d.mem.decode ++ [spanBase w]).dedup }, d.mem.word w, true)
    else d.loadWord w
  let (v, p) := match d.mem.merge.find? fun t => decide (t.line = w / 64 * 64) with
    | none => (v, p)
    | some t =>
      let i := w % 64 / 8
      let mask := natBits t.mask.toNat (8 * i + 7) (8 * i)
      if mask = 0 ∨ isAcc w then (v, p)
      else (mergeBytes v (leAt t.bytes (8 * i) 8) mask 8, (p && decide (mask ≠ 0xFF)) || t.poison.getLsbD i)
  let (v, p) := if r = .drain then (v, p) else match d.oldAt w with | some x => (x.old, x.mark) | none => (v, p)
  if p && !hurry then ((d.incr Reg.memPoisonReadCnt).raise Reg.memStatus 4, v, p) else (d, v, p)

/-- What a read returns: its bytes and whether a word of it carries the mark. -/
structure ReadRes where
  dev : Device
  bytes : List Byte
  poison : Bool

/-- Read `n` bytes at a physical address as reader `r`. -/
def Device.readAs (d : Device) (r : Reader) (a n : Nat) : ReadRes :=
  (pieces (wordSize a) (n + 1) a 0 n).foldl (fun s p =>
    let w := wordBase p.1
    let (d, v, bad) := s.dev.seeAs r w
    ⟨d, s.bytes ++ slice (toLe (wordSize w) v) (p.1 - w) p.2.2, s.poison || bad⟩) ⟨d.dramEvent 0xC0 a n, [], false⟩

/-- Read `n` bytes at a physical address. -/
def Device.readMem (d : Device) (a n : Nat) : ReadRes := d.readAs .any a n

/-- The effects of a read of `n` bytes. -/
def Device.sense (d : Device) (a n : Nat) : Device := (d.readMem a n).dev

/-- The bytes at an address as a reader would see them; `sense` gives the effects of the read. -/
def Device.peek (d : Device) (a n : Nat) : List Byte := (d.readMem a n).bytes

/-- A word of [a, a + n) carries the mark. -/
def Device.peekPoison (d : Device) (a n : Nat) : Bool := (d.readMem a n).poison

/-- Every merge-buffer entry drains, and every cached check word is written back (R154, R155). -/
def Device.memDrainAll (d : Device) : Device :=
  let d := d.drainWhere fun _ => true
  d.setMem { d.mem with cache := [] }

/-- Discard everything a Facet's memories hold (R146): its bytes, codes, merge entries and cached checks. -/
def Device.wipeFacet (d : Device) (f : Nat) : Device :=
  let mine := fun a => match placeOf a with | some p => decide (p.facet = f) | none => false
  d.setMem { d.mem with
    data := d.mem.data.filter (fun e => !mine e.1)
    syn := d.mem.syn.filter (fun e => !mine e.1)
    span := d.mem.span.filter (fun e => !mine e.1)
    merge := d.mem.merge.filter (fun t => !mine t.line)
    cache := d.mem.cache.filter (fun c => !mine c.2)
    decode := d.mem.decode.filter (fun b => !mine b) }

/-- The words of [a, a + n) whose data or check bits are not 0, and the held lines of it. -/
def MemSys.dirty (m : MemSys) (a n : Nat) : List Nat :=
  ((m.syn.map (·.1) ++ m.data.map (fun e => wordBase e.1)).dedup).filter fun w => decide (a ≤ w) && decide (w + 8 ≤ a + n)

/-- Write zeros over [a, a + n): words that hold zeros need no write, held lines take zeros, and words at the edges
keep their other bytes. -/
def Device.zeroMem (d : Device) (a n : Nat) : Device :=
  let z := fun (d : Device) lo hi => d.writeMem lo (List.replicate (hi - lo) 0) false
  let lo := (a + 7) / 8 * 8
  let hi := (a + n) / 8 * 8
  if hi ≤ lo then z d a (a + n)
  else
    let d := z (z d a lo) hi (a + n)
    let held := (d.mem.merge.map (·.line)).filter fun l => decide (lo < l + 64) && decide (l < hi)
    let d := held.foldl (fun d l => z d (max lo l) (min hi (l + 64))) d
    (d.mem.dirty lo (hi - lo)).foldl (fun d w => if w / 64 * 64 ∈ held then d else d.storeWord w 0 false) d

end Sys2Proof.Machine
end

