-- ==== Sys2Proof/WellFormed.lean ====
section
/-! DEFINITION. Well-formed commands: every operand that names a part of the device names one that exists. -/

namespace Sys2Proof

open Sys2Proof.Machine

/-- A physical engine index (R117). -/
def okEng (e : Nat) : Bool := decide (e < 168)

/-- An engine of kind 0 ME, 1 VE, 2 FE, 3 SE (R47). -/
def okKind (e k : Nat) : Bool :=
  okEng e && (if k = 0 then decide (e % 7 < 4) else decide (e % 7 = 3 + k))

/-- A token counter that exists (R116). -/
def okCtr : Ctr → Bool
  | .prm q i => decide (q < 24) && decide (i < 64)
  | .fct f i => decide (f < 4) && decide (i < 32)
  | .dev i => decide (i < 16)

/-- An instance of a background class (Table 2.4). -/
def okClass : BgClass → Bool
  | .refresh f => decide (f < 4)
  | .selftest q => decide (q < 24)
  | .scrub | .calib | .flash | .telemetry => true

/-- The fields of a flit fit Table 7.9. -/
def Flit.wf (f : Flit) : Bool :=
  decide (f.dst < 16) && decide (f.src < 16) && decide (f.seq < 4096) && decide (f.ack < 4096) &&
  decide (f.len ≤ 64) && decide (f.addr < 2 ^ 36) && decide (f.payload.length = 64)

/-- The command names only what exists. A command that does not is no event of the device, and changes nothing. -/
def Instr.wf : Instr → Bool
  | .checkerSupplyValid => true
  | .checkerSupplyRemoved => true
  | .checkerRailLow => true
  | .computePowerEnable => true
  | .computeResetRelease _ _ => true
  | .partitionTableRead => true
  | .bootImageVerify _ _ => true
  | .structureImageVerify _ _ _ _ _ => true
  | .repairRecordVerify => true
  | .computeConfigured => true
  | .startupTestComplete r => r.failedEngines.all okEng && r.failedFacets.all fun f => decide (f < 4)
  | .warmResetBegin => true
  | .perstN => true
  | .functionLevelReset => true
  | .hotReset => true
  | .pcieLinkLoss _ => true
  | .tick => true
  | .abandonmentComplete => true
  | .frameSyncEdge => true
  | .syncWindowClose => true
  | .syncAcq => true
  | .testRun _ => true
  | .testPlanVerified _ _ => true
  | .commandFetch e => okEng e
  | .nop e => okEng e
  | .endCmd e => okEng e
  | .wait e => okEng e
  | .signal e => okEng e
  | .mark e => okEng e
  | .loop e => okEng e
  | .mm e => okKind e 0
  | .mmc e => okKind e 0
  | .agd e => okKind e 0
  | .meStreamStart e => okKind e 0
  | .meRowWrite e => okKind e 0
  | .meCommandDone e => okKind e 0
  | .vew e => okKind e 1
  | .vact e => okKind e 1
  | .vnorm e => okKind e 1
  | .vsmax e => okKind e 1
  | .vpool e => okKind e 1
  | .vresize e => okKind e 1
  | .vred e => okKind e 1
  | .vargmax e => okKind e 1
  | .vtopk e => okKind e 1
  | .vcompact e => okKind e 1
  | .vqmx e => okKind e 1
  | .veCommandComplete e => okKind e 1
  | .copy e => okKind e 2
  | .fetch2d e => okKind e 2
  | .gather e => okKind e 2
  | .store e => okKind e 3
  | .storeT e => okKind e 3
  | .send e => okKind e 3
  | .memoryRequestComplete e _ => okEng e && decide (5 ≤ e % 7)
  | .pageDecodeComplete span => (placeOf span).isSome
  | .tokenSignalArrival c => okCtr c
  | .engineBlockReset e => okEng e
  | .abftInj e => okKind e 0
  | .mergeDrain ctrl => decide (ctrl < 60)
  | .facetZeroingComplete f => decide (f < 4)
  | .scrubSpanVisit ctrl => decide (ctrl < 160)
  | .memFence => true
  | .fenceComplete => true
  | .memTestModeWrite _ => true
  | .hostMemoryWrite _ bytes _ => !bytes.isEmpty
  | .hostMemoryRead _ len => decide (0 < len)
  | .bgLevelUrgent c => okClass c.cls
  | .bgLevelForced c => okClass c.cls
  | .bgUnitComplete c _ => okClass c
  | .selftestSegmentStart q => decide (q < 24)
  | .selftestSegmentEnd q _ => decide (q < 24)
  | .swap _ _ => true
  | .planValidationDone => true
  | .planDigestCompareDone => true
  | .load _ _ => true
  | .loadComplete _ => true
  | .unload _ _ => true
  | .unloadComplete => true
  | .replace _ _ => true
  | .timeGrant _ _ => true
  | .timeGrantLapse => true
  | .chkRestart _ _ => true
  | .cvuMode _ _ => true
  | .maint _ _ => true
  | .warmReset _ _ => true
  | .facetReturn _ _ => true
  | .faultForce _ _ => true
  | .faultClear _ _ => true
  | .hifHostVerWrite _ => true
  | .hifBar2BaseWrite _ _ => true
  | .registerWrite _ sp _ bytes => !bytes.isEmpty && decide (sp ≠ .bar2)
  | .timNsRead => true
  | .timCapNsRead n => decide (n < 32)
  | .chkTimeNsRead => true
  | .ethTsqPop m => decide (m < 2)
  | .chkRngTsqPop n => decide (n < 2)
  | .timIncrWrite _ => true
  | .stepGo => true
  | .captureEvent n => decide (n < 32)
  | .triggerPulseStart n => decide (n < 16)
  | .triggerPulseEnd n => decide (n < 16)
  | .timeMessage _ _ => true
  | .timeCopyTimeout => true
  | .csi2LongPacket p h _ _ => decide (p < 8) && decide (h.vc < 16) && decide (h.dt < 64)
  | .frameStart h vc _ => decide (h.port < 8) && decide (vc < 16)
  | .frameEnd h vc => decide (h.port < 8) && decide (vc < 16)
  | .lensFrameComplete s => decide (s < 16)
  | .ethFrameReceive p _ _ => decide (p < 8)
  | .ethTailWrite p _ _ => decide (p < 8)
  | .ethTransmit p => decide (p < 8)
  | .ringFacetWrite _ => true
  | .rangeFrameReceive n _ f => decide (n < 2) && decide (f.lead ≤ 400000)
  | .rangeFrameForward n => decide (n < 2)
  | .rangeTransmit n => decide (n < 2)
  | .wr p f => decide (p < 4) && f.wf
  | .wrAck p f => decide (p < 4) && f.wf
  | .rdReq p f => decide (p < 4) && f.wf
  | .rdResp p f => decide (p < 4) && f.wf
  | .sig p f => decide (p < 4) && f.wf
  | .tickFlit p f => decide (p < 4) && f.wf
  | .tickFlitSend => true
  | .tickFlitMissing => true
  | .timeFlit p f _ => decide (p < 4) && f.wf
  | .timeFlitSend p => decide (p < 4)
  | .statusFlit p f _ => decide (p < 4) && f.wf
  | .masterElection => true
  | .train p f _ _ _ => decide (p < 4) && f.wf
  | .nak p f => decide (p < 4) && f.wf
  | .idle p f => decide (p < 4) && f.wf
  | .dskPortRetrain p => decide (p < 4)
  | .markCheckin => true
  | .stageWindowClose n => decide (n < 64)
  | .allEndReport => true
  | .aperturePacket l => decide (l.lead ≤ 400000)
  | .packetAck e => okKind e 3
  | .comparisonComplete => true
  | .challengeSplice draws => decide (draws.length ≤ 8)
  | .challengeSlotDone => true
  | .verdict => true
  | .resultRecordPublish => true
  | .eventStaging => true
  | .eventLensAppend _ => true
  | .eventFlashWrite _ => true
  | .speedClassChange _ => true
  | .faultPairRegistration src => decide (src < 0x180) && (srcRow src).isSome
  | .brokenPair src => decide (src < 0x180) && (srcRow src).isSome
  | .checkerSourceRaise src => decide (0x180 ≤ src) && (srcRow src).isSome
  | .fenceConfirm _ => true
  | .fenceConfirmTimeout _ => true
  | .fatalRecordAck => true
  | .fatalAckTimeout => true
  | .errOutHoldExpiry => true
  | .vmonCmp => true
  | .fmonCmp => true
  | .chkSupply => true
  | .fltForce _ => true
  | .facetTestComplete f _ => decide (f < 4)
  | .replacementComplete f _ => decide (f < 4)
  | .repairRecordUpdate j fault _ => decide (j < 96) && fault.row.all (fun r => decide (r ≤ 256)) && fault.col.all (fun c => decide (c ≤ 33))
  | .checkpoint _ _ => true
  | .checkpointTimeout _ => true
  | .storeCompare _ _ => true
  | .channelARestart _ => true
  | .corePairRelease _ _ => true
  | .firmwareInitComplete => true
  | .debugHalt _ => true
  | .debugResume _ => true
  | .wdgService _ => true
  | .wdgPhaseOpen => true
  | .wdgMissed => true
  | .wdgEnable => true
  | .wdgPhaseConfig _ _ => true
  | .ladderTimerExpiry => true
  | .expCntClear => true
  | .cvuModeWrite _ => true
  | .cvuSnapshot _ _ => true
  | .prfSelWrite u i _ _ => decide (u < 202) && decide (i < 8)
  | .snapshotRequest => true
  | .snapshotWriteComplete => true
  | .read _ => true
  | .program _ => true
  | .erase _ => true
  | .nvmOpComplete _ => true
  | .encoderEdge e _ _ _ => decide (e.enc < 2)
  | .speedSampleB => true
  | .speedSampleA => true
  | .estopInput _ _ _ => true
  | .estopDiscrepancy _ => true
  | .sresetInLevel _ _ => true
  | .resetHeld3s _ => true
  | .armedResetLapse => true
  | .sealRead _ => true
  | .testPulseStart _ => true
  | .testPulseEnd _ => true
  | .readbackSample _ _ _ => true
  | .enableRequestChange _ _ => true
  | .faultPairClear src => decide (src < 0x180) && (srcRow src).isSome
  | .flitCrcError p => decide (p < 4)
  | .counterWrap u i => decide (u < 202) && decide (i < 8)
  | .ethLinkChange p _ _ => decide (p < 8)

end Sys2Proof
end

