-- ==== Sys2Proof/Decode.lean ====
section
/-! DEFINITION. The table gives no row bits, so no word spells a command. -/

namespace Sys2Proof

/-- The command that a word spells by the bits of spec/opcode_table.json. No row of the table has fixed bits or
fields: the commands are events, not encodings. -/
def decodeTableWord (nbits w : Nat) : Option Instr :=
  match nbits, w with
  | _, _ => none

end Sys2Proof
end

