-- ==== Sys2Proof/Machine/Formats.lean ====
section
/-! DEFINITION. Number formats and arithmetic (R92 to R103): values are exact dyadic numbers, NaN or infinities. -/

namespace Sys2Proof.Machine

/-- A value: NaN, an infinity, or the finite number ± m · 2^e. -/
inductive Fl where
  | nan
  | inf (neg : Bool)
  | fin (neg : Bool) (m : Nat) (e : Int)
deriving DecidableEq, Repr, Inhabited

/-- How a format spells infinities and NaN (Table 4.1): 0 as IEEE, 1 as E4M3, 2 neither. -/
structure FFmt where
  ebits : Nat
  mbits : Nat
  bias : Int
  special : Nat
deriving DecidableEq, Repr

/-- Floating-point formats by code (Table 4.1). -/
def ffmt (c : Nat) : Option FFmt :=
  if c = 0 then some ⟨8, 23, 127, 0⟩
  else if c = 1 then some ⟨5, 10, 15, 0⟩
  else if c = 2 then some ⟨8, 7, 127, 0⟩
  else if c = 3 then some ⟨4, 3, 7, 1⟩
  else if c = 4 then some ⟨5, 2, 15, 0⟩
  else if c = 5 then some ⟨3, 2, 3, 2⟩
  else if c = 6 then some ⟨2, 3, 1, 2⟩
  else if c = 7 then some ⟨2, 1, 1, 2⟩
  else none

/-- FP32. -/
def fp32 : FFmt := ⟨8, 23, 127, 0⟩

/-- Bits of a format (Table 3.2); 6-bit elements occupy whole bytes (R95). -/
def fmtBits (c : Nat) : Nat :=
  if c = 0 ∨ c = 8 then 32 else if c = 1 ∨ c = 2 ∨ c = 9 then 16 else if c = 7 ∨ c = 12 then 4 else 8

/-- INT32, INT16, INT8, UINT8, INT4 (Table 4.3). -/
def isIntFmt (c : Nat) : Bool := decide (8 ≤ c) && decide (c ≤ 12)
/-- A floating-point format. -/
def isFloatFmt (c : Nat) : Bool := decide (c ≤ 7)

/-- The value of an encoding (R92). -/
def FFmt.decode (f : FFmt) (v : Nat) : Fl :=
  let s := v.testBit (f.ebits + f.mbits)
  let e := natBits v (f.ebits + f.mbits - 1) f.mbits
  let m := v % 2 ^ f.mbits
  let top := 2 ^ f.ebits - 1
  if f.special = 0 ∧ e = top then if m = 0 then .inf s else .nan
  else if f.special = 1 ∧ e = top ∧ m = 2 ^ f.mbits - 1 then .nan
  else if e = 0 then .fin s m (1 - f.bias - f.mbits)
  else .fin s (2 ^ f.mbits + m) ((e : Int) - f.bias - f.mbits)

/-- The largest finite encoding without its sign (Table 4.1). -/
def FFmt.maxCode (f : FFmt) : Nat :=
  if f.special = 0 then (2 ^ f.ebits - 1) * 2 ^ f.mbits - 1
  else if f.special = 1 then 2 ^ (f.ebits + f.mbits) - 2
  else 2 ^ (f.ebits + f.mbits) - 1

/-- m · 2^e rounded to an integer multiple of 2^q, to nearest even: the multiple. -/
def roundTo (m : Nat) (e q : Int) : Nat :=
  if q ≤ e then m * 2 ^ (e - q).toNat else divNearestEven m (2 ^ (q - e).toNat)

/-- ⌊log2 (m · 2^e)⌋ for m > 0. -/
def flog2 (m : Nat) (e : Int) : Int := (Nat.log2 m : Int) + e

/-- A finite magnitude rounded to nearest even in a format: its code without sign, or none where it overflows
(R102). -/
def FFmt.roundMag (f : FFmt) (m : Nat) (e : Int) : Option Nat :=
  if m = 0 then some 0
  else
    let emin : Int := 1 - f.bias
    let q : Int := max (flog2 m e) emin - f.mbits
    let r := roundTo m e q
    let (r, q) := if r = 2 ^ (f.mbits + 1) then (2 ^ f.mbits, q + 1) else (r, q)
    let code := if r < 2 ^ f.mbits then r else ((q + f.mbits + f.bias).toNat) * 2 ^ f.mbits + (r - 2 ^ f.mbits)
    if f.maxCode < code then none else some code

/-- A code with its sign. -/
def FFmt.signed (f : FFmt) (neg : Bool) (c : Nat) : Nat := if neg then c + 2 ^ (f.ebits + f.mbits) else c

/-- The canonical NaN (R94). -/
def FFmt.nan (f : FFmt) : Nat :=
  if f.special = 1 then 2 ^ (f.ebits + f.mbits) - 1
  else (2 ^ f.ebits - 1) * 2 ^ f.mbits + 2 ^ (f.mbits - 1)

/-- The infinity of a format that has one. -/
def FFmt.infCode (f : FFmt) : Nat := (2 ^ f.ebits - 1) * 2 ^ f.mbits

/-- A value as an FP32 word, overflow to infinity (R99, R100, R103). -/
def toFp32 (x : Fl) : Nat :=
  match x with
  | .nan => 0x7FC00000
  | .inf s => fp32.signed s 0x7F800000
  | .fin s m e => match fp32.roundMag m e with
    | some c => fp32.signed s c
    | none => fp32.signed s 0x7F800000

/-- The value of an FP32 word. -/
def ofFp32 (v : Nat) : Fl := fp32.decode v

/-- A value rounded to FP32. -/
def rnd32 (x : Fl) : Fl := ofFp32 (toFp32 x)

/-! ## Exact arithmetic -/

/-- m · 2^e over the exponent `q ≤ e`. -/
def scaleTo (neg : Bool) (m : Nat) (e q : Int) : Int :=
  let v : Int := (m * 2 ^ (e - q).toNat : Nat)
  if neg then -v else v

/-- The sum, exact; a zero from operands of unlike sign is +0 (R93). -/
def Fl.add (x y : Fl) : Fl :=
  match x, y with
  | .nan, _ => .nan
  | _, .nan => .nan
  | .inf a, .inf b => if a = b then .inf a else .nan
  | .inf a, _ => .inf a
  | _, .inf b => .inf b
  | .fin a m e, .fin b n g =>
    let q := min e g
    let t := scaleTo a m e q + scaleTo b n g q
    if t = 0 then .fin (a && b && decide (m = 0) && decide (n = 0)) 0 0
    else .fin (decide (t < 0)) t.natAbs q

/-- The opposite. -/
def Fl.neg : Fl → Fl
  | .nan => .nan
  | .inf s => .inf (!s)
  | .fin s m e => .fin (!s) m e

/-- The product, exact. -/
def Fl.mul (x y : Fl) : Fl :=
  match x, y with
  | .nan, _ => .nan
  | _, .nan => .nan
  | .inf a, .inf b => .inf (a != b)
  | .inf a, .fin b n _ => if n = 0 then .nan else .inf (a != b)
  | .fin a m _, .inf b => if m = 0 then .nan else .inf (a != b)
  | .fin a m e, .fin b n g => .fin (a != b) (m * n) (e + g)

/-- The magnitude. -/
def Fl.abs : Fl → Fl
  | .nan => .nan
  | .inf _ => .inf false
  | .fin _ m e => .fin false m e

/-- A value times 2^k; a NaN scale makes it NaN. -/
def Fl.shift (x : Fl) (k : Int) : Fl :=
  match x with
  | .fin s m e => .fin s m (e + k)
  | v => v

/-- The value of an integer. -/
def Fl.ofInt (i : Int) : Fl := .fin (decide (i < 0)) i.natAbs 0

/-- x < y on values that are not NaN; +0 and -0 are equal (R93). -/
def Fl.lt (x y : Fl) : Bool :=
  match x, y with
  | .nan, _ => false
  | _, .nan => false
  | .inf a, .inf b => a && !b
  | .inf a, _ => a
  | _, .inf b => !b
  | .fin a m e, .fin b n g =>
    let q := min e g
    decide (scaleTo a m e q < scaleTo b n g q)

/-- x = y as numbers. -/
def Fl.eqv (x y : Fl) : Bool :=
  match x, y with
  | .nan, _ => false
  | _, .nan => false
  | a, b => !a.lt b && !b.lt a

/-- A finite value. -/
def Fl.isFin : Fl → Bool
  | .fin _ _ _ => true
  | _ => false

/-- NaN. -/
def Fl.isNan : Fl → Bool
  | .nan => true
  | _ => false

/-- The value of a zero. -/
def Fl.zero : Fl := .fin false 0 0

/-- The exact sum of a list; of zeros only, -0 where all of them are -0. -/
def flSum : List Fl → Fl
  | [] => .zero
  | x :: xs => xs.foldl Fl.add x

/-- An integer value from a finite one: truncated toward minus infinity. -/
def Fl.floor : Fl → Int
  | .fin s m e =>
    if 0 ≤ e then (if s then -1 else 1) * (m * 2 ^ e.toNat : Nat)
    else
      let d : Nat := 2 ^ (-e).toNat
      if s then -(ceilDiv m d : Int) else (m / d : Nat)
  | _ => 0

/-- Rounded to the nearest integer, ties to even. -/
def Fl.nearest : Fl → Int
  | .fin s m e => let r : Int := (roundTo m e 0 : Nat); if s then -r else r
  | _ => 0

/-! ## Integer formats and conversions (R95, R102) -/

/-- The signed range of an integer format (Table 4.3). -/
def intRange (c : Nat) : Int × Int :=
  if c = 8 then (-2147483648, 2147483647) else if c = 9 then (-32768, 32767) else if c = 10 then (-128, 127)
  else if c = 11 then (0, 255) else (-8, 7)

/-- The value of an integer code. -/
def intDecode (c v : Nat) : Int := if c = 11 then (v % 256 : Nat) else sext (fmtBits c) v

/-- The value of an element of any arithmetic format. -/
def fmtDecode (c v : Nat) : Fl :=
  match ffmt c with
  | some f => f.decode v
  | none => .ofInt (intDecode c v)

/-- The result of a conversion: the code, and whether CVT_INVALID is counted (Table 4.5). -/
structure Cvt where
  code : Nat
  invalid : Bool
deriving DecidableEq, Repr

/-- Convert a value into a floating-point format (Table 4.5). -/
def cvtFloat (f : FFmt) (sat : Bool) (x : Fl) : Cvt :=
  match x with
  | .nan => if f.special = 2 then ⟨0, true⟩ else ⟨f.nan, false⟩
  | .inf s =>
    if f.special = 0 then ⟨f.signed s f.infCode, false⟩
    else if f.special = 1 then if sat then ⟨f.signed s f.maxCode, false⟩ else ⟨f.nan, false⟩
    else ⟨f.signed s f.maxCode, false⟩
  | .fin s m e => match f.roundMag m e with
    | some c => ⟨f.signed s c, false⟩
    | none =>
      if sat ∨ f.special = 2 then ⟨f.signed s f.maxCode, false⟩
      else if f.special = 0 then ⟨f.signed s f.infCode, false⟩
      else ⟨f.nan, false⟩

/-- Convert a float value into an integer format: clamped, NaN to 0 (Table 4.5). -/
def cvtInt (c : Nat) (x : Fl) : Cvt :=
  let r := intRange c
  match x with
  | .nan => ⟨0, true⟩
  | .inf s => ⟨wrapN (fmtBits c) (if s then r.1 else r.2), false⟩
  | v => ⟨wrapN (fmtBits c) (clampI r.1 r.2 v.nearest), false⟩

/-- Convert an integer into an integer format: clamped with SAT, else the low bits (Table 4.5). -/
def cvtIntInt (c : Nat) (sat : Bool) (i : Int) : Cvt :=
  let r := intRange c
  ⟨wrapN (fmtBits c) (if sat then clampI r.1 r.2 i else i), false⟩

/-- Convert an element from format `s` to format `t` (R102, R103). -/
def convert (s t : Nat) (sat : Bool) (v : Nat) : Cvt :=
  if s = t then ⟨v % 2 ^ fmtBits t, false⟩
  else match ffmt t with
    | some f => cvtFloat f sat (fmtDecode s v)
    | none => if isIntFmt s then cvtIntInt t sat (intDecode s v) else cvtInt t (fmtDecode s v)

/-! ## Elements in memory (R81, R95) -/

/-- Bytes that `n` elements of a format occupy. -/
def fmtBytes (c n : Nat) : Nat := ceilDiv (n * fmtBits c) 8

/-- Element `i` of a byte string; 4-bit formats hold the even index in the low nibble, 6-bit formats use the low
bits of a byte. -/
def elemAt (c : Nat) (bs : List Byte) (i : Nat) : Nat :=
  if fmtBits c = 4 then natBits (leAt bs (i / 2) 1) (4 * (i % 2) + 3) (4 * (i % 2))
  else
    let v := leAt bs (i * (fmtBits c / 8)) (fmtBits c / 8)
    if c = 5 ∨ c = 6 then v % 64 else v

/-- A list of codes as the bytes of a row. -/
def packElems (c : Nat) : List Nat → List Byte
  | [] => []
  | [a] => if fmtBits c = 4 then [BitVec.ofNat 8 (a % 16)] else toLe (fmtBits c / 8) a
  | a :: b :: r =>
    if fmtBits c = 4 then BitVec.ofNat 8 (a % 16 + 16 * (b % 16)) :: packElems c r
    else toLe (fmtBits c / 8) a ++ packElems c (b :: r)

end Sys2Proof.Machine
end

