-- ==== Sys2Proof/Machine/Perf.lean ====
section
/-! DEFINITION. Performance counters, command tags and snapshots (R358 to R374), with the commands of the collector. -/

namespace Sys2Proof.Machine

/-- The answer of every meaning: where the command names what exists (`ok`), its effect on the device; else nothing. -/
def act (ok : Bool) (f : Device → Device) (s : State) : Host.Outcome State Fault Refusal :=
  .next (if ok then { s with dev := f s.dev } else s)

/-! ## Event numbers -/

/-- An event number is defined for a unit (Table 15.2). -/
def evDefined (u ev : Nat) : Bool :=
  let io := decide (196 ≤ u)
  let me := decide (u < 168) && decide (u % 7 < 4)
  let ve := decide (u < 168) && decide (u % 7 = 4)
  let se := decide (u < 168) && decide (u % 7 = 6)
  let fs := decide (u < 168) && decide (5 ≤ u % 7)
  decide (ev ≤ 1) || (decide (u < 168) && decide (2 ≤ ev) && decide (ev ≤ 5)) ||
  (fs && decide (6 ≤ ev) && decide (ev ≤ 8)) || ((ve || se) && decide (ev = 9)) ||
  (me && decide (0x40 ≤ ev) && decide (ev ≤ 0x4A)) ||
  (decide (168 ≤ u) && decide (u < 192) && decide (0x80 ≤ ev) && decide (ev ≤ 0x83)) ||
  (decide (192 ≤ u) && decide (u < 196) && decide (0xC0 ≤ ev) && decide (ev ≤ 0xC4)) ||
  (io && decide (0x100 ≤ ev) && decide (ev ≤ 0x102))

/-- Write a counter select (R360). `wraps`: the counter wraps in the same a-cycle. PRF_STATUS.OVF is cleared where this counter's
overflow alone is pending (DEDUCED, log 163). -/
def Device.selWrite (d : Device) (u i : Nat) (v : Word) (wraps : Bool) : Device :=
  if !d.cmpAlive ∨ 202 ≤ u ∨ 8 ≤ i ∨ (u < 168 ∧ 4 ≤ i) ∨ !evDefined u (bits v 9 0) then d
  else
    let d := if (d.cntAt u i).irq && !d.otherIrq u i then d.setBit Reg.prfStatus 1 false else d
    let d := (d.setReg (Reg.prfSel u i) (word (bits v 9 0))).setCnt u i 
      { PrfCnt.zero with lost := wraps, selAt := d.q / aQ + 1 }
    if wraps then d.raise Reg.prfStatus 2 else d

/-! ## Tags -/

/-- a-cycles since the tick (R373). -/
def Device.sinceTick (d : Device) : Nat := (d.q - d.tck.tickQ) / aQ

/-- A complete record enters the next snapshot; past 51 it is dropped (R374). -/
def Device.tagDone (d : Device) (r : TagRec) : Device :=
  if d.prf.done.length < 51 then { d with prf := { d.prf with done := d.prf.done ++ [r] } }
  else ({ d with prf := { d.prf with drop := d.prf.drop + 1 } }).raise Reg.prfStatus 3

/-- Stamp point `pt` of a tagged command with `v`; the last point completes the record (R373, R374). -/
def Device.stampWith (d : Device) (tag : Option Nat) (pt v : Nat) : Device :=
  match tag.bind fun n => d.prf.open_.find? fun r => decide (r.id = n) with
  | none => d
  | some r =>
    let r' := { r with stamp := r.stamp.set pt (word v) }
    if pt = 5 then ({ d with prf := { d.prf with open_ := d.prf.open_.filter fun x => x.id ≠ r.id } }).tagDone r'
    else { d with prf := { d.prf with open_ := d.prf.open_.map fun x => if x.id = r.id then r' else x } }

/-- Stamp point `pt` now. -/
def Device.stamp (d : Device) (tag : Option Nat) (pt : Nat) : Device := d.stampWith tag pt d.sinceTick

/-- Abandonment ends the open records of a frame (R373). -/
def Device.tagsAbandon (d : Device) : Device :=
  let rs := d.prf.open_
  rs.foldl (fun d r => d.tagDone { r with abandoned := true }) { d with prf := { d.prf with open_ := [] } }

/-- The next state of a tag LFSR: x^16 + x^14 + x^13 + x^11 + 1 (R372). -/
def lfsrNext (l : BitVec 16) : BitVec 16 :=
  let b := l.getLsbD 15 ^^ l.getLsbD 13 ^^ l.getLsbD 12 ^^ l.getLsbD 10
  (l <<< 1) ||| (if b then 1 else 0)

/-- The type bit of an engine in PRF_TAG_CFG: ME, VE, FE, SE. -/
def engKind (e : Nat) : Nat := if e % 7 < 4 then 0 else e % 7 - 3

/-- Whether a fetched command is tagged, and the tag state of its engine after (R372). -/
def Device.tagCount (d : Device) (e : Nat) (g : Eng) : Bool × Eng :=
  let cfg := d.reg Reg.prfTagCfg
  let p := bits cfg 20 16
  if !bit cfg 31 ∨ p < 4 ∨ 20 < p ∨ !bit cfg (engKind e) ∨ !d.bitAt Reg.prfTagPrism (e / 7) then (false, g)
  else
    let l := lfsrNext (if g.lfsr = 0 then Config.tagSeed e else g.lfsr)
    let fresh := 2 ^ p / 2 + l.toNat % 2 ^ p
    if g.tagLeft = 0 then (false, { g with lfsr := l, tagLeft := fresh - 1 })
    else if g.tagLeft = 1 then (true, { g with lfsr := l, tagLeft := fresh })
    else (false, { g with tagLeft := g.tagLeft - 1 })

/-- Open a tag record for a command fetched now (R373). -/
def Device.tagOpen (d : Device) (e op a : Nat) : Device × Option Nat :=
  let n := d.prf.nextId
  let r : TagRec := ⟨n, e, op, false, d.frame, a, word d.sinceTick :: List.replicate 5 0xFFFFFFFF⟩
  ({ d with prf := { d.prf with nextId := n + 1, open_ := d.prf.open_ ++ [r] } }, some n)

/-! ## Snapshots -/

/-- Slot `i` of unit `u` in a snapshot (R368). -/
def Device.slotWord (d : Device) (u i : Nat) : Nat :=
  if u < 168 ∧ 5 ≤ i then 0
  else
    let c := if d.unitOn u then d.cntAt u i else PrfCnt.zero
    c.val.toNat + d.prfEvent u i * 2 ^ 48 + b2n c.lost * 2 ^ 62 + b2n c.ovf * 2 ^ 63

/-- A tag record as 64 bytes (Table 15.5). -/
def TagRec.bytes (r : TagRec) : List Byte :=
  toLe 1 r.eng ++ toLe 1 r.opcode ++ toLe 1 (b2n r.abandoned) ++ toLe 1 0 ++ toLe 4 r.frame.toNat ++ toLe 8 r.addr ++
  (r.stamp.map fun w => toLe 4 w.toNat).flatten ++ List.replicate 24 0

/-- The slots of a snapshot as they stand (Table 15.3). -/
def Device.slotBytes (d : Device) : List Byte := ((List.range 1616).map fun k => toLe 8 (d.slotWord (k / 8) (k % 8))).flatten

/-- A snapshot record (Table 15.3). -/
def Device.snapBytes (d : Device) (cause delay : Nat) : List Byte :=
  let seq := (d.reg Reg.prfSeq + 1).toNat
  let off := (List.range 4).foldl (fun a f => a + (if (d.facetAt f).powered then 0 else 2 ^ f)) 0
  toLe 4 seq ++ toLe 1 cause ++ toLe 1 d.prf.done.length ++ toLe 2 0 ++ toLe 4 d.frame.toNat ++ toLe 4 delay ++
  toLe 4 d.tim.ns ++ toLe 4 d.tim.sec ++ toLe 1 off ++ toLe 3 0 ++ toLe 4 d.prf.drop ++ List.replicate 32 0 ++
  d.slotBytes ++ List.replicate 64 0 ++
  (d.prf.done.map TagRec.bytes).flatten ++ List.replicate (64 * (51 - d.prf.done.length)) 0 ++
  List.replicate 56 0 ++ toLe 4 seq ++ toLe 4 0

/-- Latch a snapshot now (R366). -/
def Device.snapLatch (d : Device) (cause delay : Nat) : Device :=
  { d with prf := { d.prf with busy := some (d.q, d.snapBytes cause delay), latching := true, done := [], drop := 0 } }

/-- The a-cycle of a latch ends: its counters, selects and flags are those of now (R366). -/
def Device.snapEnd (d : Device) : Device :=
  if !d.prf.latching then d
  else
    let d := { d with prf := { d.prf with latching := false } }
    match d.prf.busy with
    | some (t, b) => { d with prf := { d.prf with busy := some (t, patch b 0x40 d.slotBytes) } }
    | none => d

/-- Add a cause to the snapshot latched in this a-cycle (R366). -/
def Device.snapJoin (d : Device) (cause : Nat) : Device :=
  match d.prf.busy with
  | some (t, b) => { d with prf := { d.prf with busy := some (t, patch b 4 (toLe 1 (leAt b 4 1 ||| cause))) } }
  | none => d

/-- A snapshot latched in the present a-cycle is being written. -/
def Device.snapNow (d : Device) : Bool :=
  match d.prf.busy with | some (t, _) => decide (t / aQ = d.q / aQ) | none => false

/-- The snapshot of a tick (R366, R367). -/
def Device.tickSnapshot (d : Device) : Device :=
  if !d.bitAt Reg.prfCtrl 2 then d
  else if d.snapNow then d.snapJoin 1
  else if d.prf.busy.isSome then { d with prf := { d.prf with tickLate := some d.q } }
  else d.snapLatch 1 0

/-- A write of 1 to PRF_CTRL.SNAP (R366, R367). -/
def Device.snapRequest (d : Device) : Device :=
  if !d.cmpAlive then d
  else if d.snapNow then d.snapJoin 2
  else if d.prf.busy.isSome then d.raise Reg.prfStatus 4
  else d.snapLatch 2 0

/-- The ring of snapshots lies in DRAM of its Facet outside the model area, and the Facet is powered (R369). -/
def Device.ringOk (d : Device) : Bool :=
  let hi := d.reg Reg.prfRingHi
  let f := bits hi 25 24
  let base := bits hi 15 0 * 2 ^ 32 + (d.reg Reg.prfRingLo).toNat
  let top := base + 0x4000 * 2 ^ bits hi 19 16
  let dev := d.boot.img.device
  decide (bits hi 19 16 ≤ 8) && d.facetUp f && decide (f * 2 ^ 32 ≤ base) && decide (top ≤ (f + 1) * 2 ^ 32) &&
  (decide (top ≤ f * 2 ^ 32 + dev.maBase) || decide (f * 2 ^ 32 + dev.maEnd ≤ base))

/-- A snapshot has been written (R367, R369): page, ring, PRF_SEQ, vector 9. -/
def Device.snapDone (d : Device) : Device :=
  match d.prf.busy with
  | none => d
  | some (_, b) =>
    let d := d.setReg Reg.prfSeq (d.reg Reg.prfSeq + 1)
    let d := { d with prf := { d.prf with busy := none, latching := false, page := b } }
    let hi := d.reg Reg.prfRingHi
    let d := if !bit hi 31 then d
      else if d.ringOk then
        d.writeMem (bits hi 15 0 * 2 ^ 32 + (d.reg Reg.prfRingLo).toNat
          + 0x4000 * ((d.reg Reg.prfSeq).toNat % 2 ^ bits hi 19 16)) b false
      else d.raise Reg.prfStatus 5
    let d := d.raise Reg.prfStatus 0
    match d.prf.tickLate with
    | some t => ({ d with prf := { d.prf with tickLate := none } }).snapLatch 1 ((d.q - t) / aQ)
    | none => d

/-! ## Commands -/

/-- PRF_SEL_WRITE (R360). -/
def execPrfSelWrite (u i : Nat) (v : Word) (wraps : Bool) (s : State) : Host.Outcome State Fault Refusal :=
  act (decide (u < 202) && decide (i < 8)) (fun d => d.selWrite u i v wraps) s

/-- SNAPSHOT_REQUEST (R366). -/
def execSnapshotRequest (s : State) : Host.Outcome State Fault Refusal := act true Device.snapRequest s

/-- SNAPSHOT_WRITE_COMPLETE (R367). -/
def execSnapshotWriteComplete (s : State) : Host.Outcome State Fault Refusal := act true Device.snapDone s

/-- COUNTER_WRAP (R361): a counter at its largest value counts one more event. -/
def execCounterWrap (u i : Nat) (s : State) : Host.Outcome State Fault Refusal :=
  act (decide (u < 202) && decide (i < 8) && s.dev.unitOn u && decide ((s.dev.cntAt u i).val = 0xFFFFFFFFFFFF))
    (fun d => d.cntAdd u i 1) s

end Sys2Proof.Machine
end

