-- ==== Sys2Proof/Machine/Links.lean ====
section
/-! DEFINITION. Sending over Diesk links (R182, R183, R186): flits, sequence numbers, unreachable devices. -/

namespace Sys2Proof.Machine

/-- Flit types (Table 7.10). -/
abbrev FT.idle : Nat := 0
/-- WR. -/
abbrev FT.wr : Nat := 1
/-- WR_ACK. -/
abbrev FT.wrAck : Nat := 2
/-- RD_REQ. -/
abbrev FT.rdReq : Nat := 3
/-- RD_RESP. -/
abbrev FT.rdResp : Nat := 4
/-- SIG. -/
abbrev FT.sig : Nat := 5
/-- TICK. -/
abbrev FT.tick : Nat := 6
/-- TIME. -/
abbrev FT.time : Nat := 7
/-- STATUS. -/
abbrev FT.status : Nat := 8
/-- TRAIN. -/
abbrev FT.train : Nat := 9
/-- NAK. -/
abbrev FT.nak : Nat := 10

/-- Port `p`. -/
def Device.portAt (d : Device) (p : Nat) : DskPort := tabGet DskPort.reset d.dsk.port p
/-- Replace port `p`. -/
def Device.setPort (d : Device) (p : Nat) (v : DskPort) : Device :=
  { d with dsk := { d.dsk with port := tabSet DskPort.reset d.dsk.port p v } }

/-- This device's ID. -/
def Device.devId (d : Device) : Nat := d.fld Reg.dskCfg 3 0
/-- The topology code of DSK_CFG. -/
def Device.topo (d : Device) : Nat := d.fld Reg.dskCfg 11 10

/-- A device ID is in the system (Table 7.16). -/
def Device.inSystem (d : Device) (n : Nat) : Bool :=
  if d.topo = 1 then decide (n ≤ d.fld Reg.dskCfg 7 4) else if d.topo = 2 then decide (n < 16) else decide (n = d.devId)

/-- This device sets its own ticks: a single device or the master of its system. -/
def Device.isMaster (d : Device) : Bool := decide (d.topo = 0) || d.bitAt Reg.dskStatus 27

/-- This device follows a tick master (R189, R190). -/
def Device.follower (d : Device) : Bool := !d.isMaster && d.dsk.hasMaster

/-- The payload of a flit: its bytes padded to 64. -/
def padFlit (bs : List Byte) : List Byte := slice bs 0 64

/-- Bytes 0 to 79 of a flit (Table 7.9). -/
def flitBody (type : Nat) (f : Flit) : List Byte :=
  toLe 1 (16 * type + f.dst) ++ toLe 1 (16 * f.src) ++ toLe 2 f.seq ++ toLe 2 f.ack ++ toLe 2 f.frame.toNat ++
  toLe 1 f.poison.toNat ++ toLe 1 f.len ++ toLe 6 f.addr ++ slice f.payload 0 64

/-- The CRC of a flit: CRC-32C over bytes 0 to 79 (R182, R276). -/
def flitCrc (type : Nat) (f : Flit) : Word := word (crc32c 0xFFFFFFFF (flitBody type f))

/-- The 84 bytes of a flit on the link (R182). -/
def flitBytes (type : Nat) (f : Flit) : List Byte := flitBody type f ++ toLe 4 f.crc.toNat

/-- A flit with its CRC. -/
def Flit.seal (type : Nat) (f : Flit) : Flit := { f with crc := flitCrc type f }

/-- Types that carry only link control (IDLE, TRAIN, NAK) take no sequence number of their own (DESIGN CHOICE, log 16). -/
def FT.control (type : Nat) : Bool := decide (type = FT.idle) || decide (type = FT.train) || decide (type = FT.nak)

/-- Put a flit on the wire of port `p`. -/
def Device.putOut (d : Device) (p : Nat) (x : TxFlit) : Device :=
  ({ d with dsk := { d.dsk with out := d.dsk.out ++ [(p, x)] } } : Device).perf 197 0x101 1

/-- Send a flit on port `p` now, with the port's SEQ and ACK; it is kept in the replay buffer. -/
def Device.putSeq (d : Device) (p : Nat) (x : TxFlit) : Device :=
  let t := d.portAt p
  let x := { x with flit := Flit.seal x.type { x.flit with seq := t.txSeq, ack := t.rxSeq } }
  (d.setPort p { t with txSeq := (t.txSeq + 1) % 4096, replay := t.replay ++ [x] }).putOut p x

/-- Send a flit on port `p`, or let it wait for room among the 512 flits of the replay buffer (R183). -/
def Device.pushFlit (d : Device) (p : Nat) (x : TxFlit) : Device :=
  let t := d.portAt p
  if FT.control x.type then d.putOut p { x with flit := Flit.seal x.type { x.flit with seq := t.txSeq, ack := t.rxSeq } }
  else if t.replay.length < 512 ∧ t.wait = [] then d.putSeq p x
  else d.setPort p { t with wait := t.wait ++ [x] }

/-- The flits that waited are sent as far as the replay buffer has room. -/
def Device.pushWait (d : Device) (p : Nat) : Device :=
  iterN (fun _ d =>
    let t := d.portAt p
    match t.wait with
    | x :: l => if t.replay.length < 512 then (d.setPort p { t with wait := l }).putSeq p x else d
    | [] => d) (d.portAt p).wait.length d

/-- Send a flit of this device on port `p`. -/
def Device.sendOn (d : Device) (p type dst addr len : Nat) (poison : BitVec 8) (payload : List Byte) : Device :=
  d.pushFlit p ⟨type, ⟨dst, d.devId, 0, 0, BitVec.ofNat 16 d.frame.toNat, poison, len, addr, padFlit payload, 0⟩, 0⟩

/-- The port on the route to a device; none where no route reaches it (R185), or where its port has gone down since. -/
def Device.route (d : Device) (dst : Nat) : Option Nat :=
  match tabGet 0 d.dsk.routes dst with
  | 0 => none
  | p + 1 => if (d.portAt p).up then some p else none

/-- A request that named an unreachable device is counted (R186). -/
def Device.unreach (d : Device) : Device := (d.incr Reg.dskUnreachCnt).raise Reg.dskStatus 2

/-- Send a flit to a device. -/
def Device.sendTo (d : Device) (type dst addr len : Nat) (poison : BitVec 8) (payload : List Byte) : Device :=
  match d.route dst with
  | some p => d.sendOn p type dst addr len poison payload
  | none => d

/-- A remote SIGNAL (R118, R186): to an unreachable device it is dropped and counted. -/
def Device.remoteSignal (d : Device) (dst idx amount : Nat) : Device :=
  if (d.route dst).isSome then d.sendTo FT.sig dst 0 4 0 (toLe 1 idx ++ toLe 1 0 ++ toLe 2 amount) else d.unreach

end Sys2Proof.Machine
end

