-- ==== Sys2Proof/Machine/Operands.lean ====
section
/-! DEFINITION. What every engine command shares: header and fields (R110), stepping (R124), legality (R115), reach and
the Facet map (R114, R172), token counters (R116, R117), completion in list order (R111, R112). -/

namespace Sys2Proof.Machine

/-! ## Fields of a command -/

/-- OPCODE. -/
def opcode (c : CmdWord) : Nat := cmdFld c 0 0 8
/-- WAIT_EN. -/
def waitEn (c : CmdWord) : Bool := decide (cmdFld c 1 0 1 = 1)
/-- SIG_EN. -/
def sigEn (c : CmdWord) : Bool := decide (cmdFld c 1 1 1 = 1)
/-- WAIT_N. -/
def waitN (c : CmdWord) : Nat := cmdFld c 4 0 16
/-- SIG_N. -/
def sigN (c : CmdWord) : Nat := cmdFld c 6 0 16
/-- Bytes `b` to 63 are zero. -/
def zeroFrom (c : CmdWord) (b : Nat) : Bool := decide (c.toNat / 2 ^ (8 * b) = 0)
/-- The cause list of one condition. -/
def cause (p : Bool) (c : Nat) : List Nat := if p then [c] else []

/-- An opcode that Table 5.2 gives to a kind of engine. -/
def opAllowed (k op : Nat) : Bool :=
  decide (op ≤ 5) || (decide (k = 0) && decide (0x10 ≤ op) && decide (op ≤ 0x12)) ||
  (decide (k = 1) && decide (0x20 ≤ op) && decide (op ≤ 0x2A)) ||
  (decide (k = 2) && decide (0x30 ≤ op) && decide (op ≤ 0x32)) ||
  (decide (k = 3) && decide (0x40 ≤ op) && decide (op ≤ 0x42))

/-- Counters in a scope (R116). -/
def scopeSize (s : Nat) : Nat := if s = 0 then 64 else if s = 1 then 32 else 16
/-- Table 5.5: latency of a SIGNAL in a-cycles. -/
def scopeLat (s : Nat) : Nat := if s = 0 then 2 else if s = 1 then 4 else 8

/-- The causes of one enabled counter field: byte `b` names the counter, `n` is its amount. -/
def ctrCauses (c : CmdWord) (b n : Nat) : List Nat :=
  let s := cmdFld c b 6 2
  if s = 3 then [0x01] else cause (decide (scopeSize s ≤ cmdFld c b 0 6) || decide (n = 0)) 0x23

/-- Header conditions of Table 5.4. A counter field whose enable bit is 0 may hold any value (DEDUCED, log 17). -/
def hdrCauses (c : CmdWord) : List Nat :=
  cause (decide (cmdFld c 1 2 6 ≠ 0)) 0x01 ++ (if waitEn c then ctrCauses c 2 (waitN c) else []) ++
  (if sigEn c then ctrCauses c 3 (sigN c) else [])

/-- The lowest of the causes (R115). -/
def lowest (l : List Nat) : Nat := l.foldl min 0x3F

/-! ## Stepping (Table 5.2, R124) -/

/-- Byte offset and width of the stepped fields, slots 0 to 3. -/
def stepSlots (op : Nat) : List (Nat × Nat) :=
  if op = 0x10 then [(24, 6), (34, 6), (16, 2), (44, 6)]
  else if op = 0x11 then [(24, 4), (34, 6), (16, 2), (30, 4)]
  else if op = 0x12 then [(28, 6)]
  else if 0x20 ≤ op ∧ op ≤ 0x2A then [(16, 6), (22, 6), (28, 6), (46, 6)]
  else if op = 0x30 ∨ op = 0x31 ∨ op = 0x40 ∨ op = 0x41 then [(8, 6), (14, 6)]
  else if op = 0x32 then [(8, 6), (14, 6), (20, 6)]
  else if op = 0x42 then [(8, 6)]
  else []

/-- The increment that the loop stack gives slot `j`. -/
def stepSum (ls : List LoopEnt) (j : Nat) : Int :=
  ls.foldl (fun a l => a + (l.iter : Int) *
    (if j = 0 then l.step0 else if j = 1 then l.step1 else if j = 2 then l.step2 else l.step3)) 0

/-- A command with its stepped fields advanced (R124), modulo their widths (DESIGN CHOICE, log 137). -/
def stepWord (c : CmdWord) (ls : List LoopEnt) : CmdWord :=
  (stepSlots (opcode c)).zipIdx.foldl (fun w s =>
    cmdPut w s.1.1 s.1.2 (wrapN (8 * s.1.2) ((cmdFld c s.1.1 0 (8 * s.1.2) : Int) + stepSum ls s.2))) c

/-! ## The Facet map and reach (R48, R114, R172) -/

/-- The logical Facet that runs on the Facet of engine `e`. -/
def Device.lfOf (d : Device) (e : Nat) : Nat := d.tck.map.idxOf (e / 42)

/-- The physical Facet of logical Facet `i`. -/
def Device.phi (d : Device) (i : Nat) : Nat := d.tck.map.getD i 4

/-- The physical address of a logical address (R172); none where it names no storage. -/
def Device.toPhys (d : Device) (a : Nat) : Option Nat :=
  match placeOf a with
  | some (.dram i) => if d.phi i < 4 then some (d.phi i * 2 ^ 32 + a % 2 ^ 32) else none
  | some (.fbuf i) => if d.phi i < 4 then some (fbufBase + d.phi i * 0x1000000 + a % 0x1000000) else none
  | some (.scr q) => if d.phi (q / 6) < 4 then some (scrBase + (6 * d.phi (q / 6) + q % 6) * 0x400000 + a % 0x400000) else none
  | some (.acc j) => if d.phi (j / 24) < 4 then some (accBase + (24 * d.phi (j / 24) + j % 24) * 0x100000 + a % 0x100000) else none
  | none => none

/-- The physical address, 2^48 where there is none. -/
def Device.phys (d : Device) (a : Nat) : Nat := (d.toPhys a).getD (2 ^ 48)

/-- The memories that Table 5.3 names, as an engine sees them. -/
inductive Region where
  | dram | fbuf | scr | facetScr | acc | remote
deriving DecidableEq, Repr

/-- The logical addresses [lo, hi) of a region of engine `e`. -/
def Device.regionOf (d : Device) (e : Nat) (r : Region) : Nat × Nat :=
  let i := d.lfOf e
  let p := e / 7 % 6
  match r with
  | .dram => (i * 2 ^ 32, (i + 1) * 2 ^ 32)
  | .fbuf => (fbufBase + i * 0x1000000, fbufBase + i * 0x1000000 + 0x800000)
  | .scr => (scrBase + (6 * i + p) * 0x400000, scrBase + (6 * i + p + 1) * 0x400000)
  | .facetScr => (scrBase + 6 * i * 0x400000, scrBase + 6 * (i + 1) * 0x400000)
  | .acc => (accBase + (24 * i + 4 * p) * 0x100000, accBase + (24 * i + 4 * p + 4) * 0x100000)
  | .remote => (0, 0)

/-- A logical address with bit 47 set (R186). -/
def isRemote (a : Nat) : Bool := decide (2 ^ 47 ≤ a)

/-- A range of `n` bytes lies in one of the regions, and they name storage now (R114, R142, R186). -/
def Device.reach (d : Device) (e : Nat) (rs : List Region) (a n : Nat) : Bool :=
  if isRemote a then
    decide (Region.remote ∈ rs) && decide (natBits a 42 36 = 0) && decide (a % 2 ^ 36 + n ≤ 2 ^ 36) && decide (a < 2 ^ 48)
  else rs.any fun r =>
    let b := d.regionOf e r
    decide (r ≠ .remote) && decide (b.1 ≤ a) && decide (a + n ≤ b.2) && decide (d.lfOf e < d.tck.map.length) &&
    d.facetUp (e / 42)

/-- Rows of `b` bytes, `pitch` apart, as one range: its length. -/
def rowSpan (rows b pitch : Nat) : Nat := if rows = 0 ∨ b = 0 then 0 else (rows - 1) * pitch + b

/-- Some row of a transfer touches [lo, hi). -/
def rowsTouch (a rows b pitch lo hi : Nat) : Bool :=
  (List.range rows).any fun r => decide (a + r * pitch < hi) && decide (lo < a + r * pitch + b)

/-! ## Protected sections and views (R169, R199, R205) -/

/-- A section type that a model places, and one that is protected (Table 7.3). -/
def Section.placed (s : Section) : Bool := decide (1 ≤ s.type) && decide (s.type ≤ 5)
/-- Protected sections: placed ones but WORK. -/
def Section.prot (s : Section) : Bool := s.placed && decide (s.type ≠ 4)

/-- Resident entry `n`. -/
def Device.modelAt (d : Device) (n : Nat) : Model := if n = 0 then d.model0 else d.model1

/-- The Facet-local DRAM ranges of the protected sections of the resident models. -/
def Device.protRanges (d : Device) : List (Nat × Nat) :=
  [d.model0, d.model1].flatMap fun m =>
    if m.st = .resident then (m.sections.filter Section.prot).map fun s => (s.place, s.place + s.length) else []

/-- The Facet-local DRAM ranges of the Lens and Ethernet views. -/
def Device.viewRanges (d : Device) : List (Nat × Nat) :=
  ((d.boot.img.lens.filter (·.en)).map fun r => (r.viewOfs, r.viewOfs + r.bufStride)) ++
  ((d.boot.img.views.filter fun v => decide (0 < v.bufBytes)).map fun v => (v.viewOfs, v.viewOfs + v.bufBytes))

/-- Where a read of the DRAM byte at `a` is answered from: none, itself; otherwise the buffer's address (none: zeros
marked as poisoned) and whether the data is marked as stale (R199, R200, R205). -/
def Device.viewOf (d : Device) (a : Nat) : Option (Option Nat × Bool) :=
  if 0x400000000 ≤ a then none
  else
    let f := a / 2 ^ 32
    let o := a % 2 ^ 32
    match (d.boot.img.lens.zipIdx).find? (fun r => r.1.en && decide (r.1.viewOfs ≤ o) && decide (o < r.1.viewOfs + r.1.bufStride)) with
    | some (r, s) =>
      let l := tabGet Lens.reset d.lens s
      match l.shown with
      | some i => if f ∈ tabGet [] l.missing i then some (none, true)
        else some (some (f * 2 ^ 32 + r.bufOfs + i * r.bufStride + (o - r.viewOfs)), l.stale)
      | none => some (none, true)
    | none =>
      match (d.boot.img.views.zipIdx).find? (fun v => decide (v.1.viewOfs ≤ o) && decide (o < v.1.viewOfs + v.1.bufBytes)) with
      | some (v, n) =>
        match (tabGet EthView.reset d.eth.view n).shown with
        | some i => if d.tck.tickQ < (d.facetAt f).powerAt then some (none, true)
          else some (some (f * 2 ^ 32 + v.bufOfs + i * v.bufBytes + (o - v.viewOfs)), false)
        | none => some (none, true)
      | none => none

/-! ## Reads and writes with marks per byte (R129, R159) -/

/-- Bytes with the mark of the word that holds each. -/
abbrev Marked := List (Byte × Bool)

/-- Read `n` bytes at a physical address with their marks as reader `k`; views are followed. -/
def Device.readTagAs (d : Device) (k : Reader) (a n : Nat) : Device × Marked :=
  (pieces (wordSize a) (n + 1) a 0 n).foldl (fun r p =>
    match r.1.viewOf p.1 with
    | some (none, _) => (r.1, r.2 ++ List.replicate p.2.2 (0, true))
    | some (some b, stale) =>
      let x := r.1.readAs k b p.2.2
      (x.dev, r.2 ++ x.bytes.map fun v => (v, x.poison || stale))
    | none =>
      let x := r.1.readAs k p.1 p.2.2
      (x.dev, r.2 ++ x.bytes.map fun v => (v, x.poison))) (d, [])

/-- Read `n` bytes at a physical address with their marks. -/
def Device.readTag (d : Device) (a n : Nat) : Device × Marked := d.readTagAs .any a n

/-- Write bytes with marks: a written word is marked where any byte written into it is (R159). -/
def Device.writeTag (d : Device) (a : Nat) (l : Marked) : Device :=
  (pieces (wordSize a) (l.length + 1) a 0 l.length).foldl (fun d p =>
    let part := (l.drop p.2.1).take p.2.2
    d.writeMem p.1 (part.map (·.1)) (part.any (·.2))) d

/-- Note a write of the word at `w` by writer `e`, with what the word held before this a-cycle. -/
def Device.noteWrite (d : Device) (e w : Nat) : Device :=
  let d := if d.raceAt = d.q / aQ then d else { d with raceAt := d.q / aQ, races := [] }
  match d.races.find? fun r => decide (r.word = w) with
  | some x => { d with races := d.races ++ [{ x with eng := e }] }
  | none => let (_, v, p) := d.seeAs .drain w; { d with races := d.races ++ [⟨w, e, v, p⟩] }

/-- Writes of one a-cycle to one word: the drain's (writer 168 and above) is stored before any other (R78), else that
of the higher physical engine index (R128); a lost write to an accumulator word sets ACC_RACE, one to a scratch word is
counted. A write that came first and loses is undone: the word holds again what it held before. -/
def Device.raceWord (d : Device) (e w : Nat) : Device × Bool :=
  let again := decide (d.raceAt = d.q / aQ) && d.races.any fun r => decide (r.word = w) && decide (r.eng = e)
  let d := d.noteWrite e w
  let old := d.races.filter fun r => decide (r.word = w) && decide (r.eng ≠ e)
  if old.isEmpty then (d, true)
  else
    let d := match placeOf w with
      | some (.acc j) => if e < 168 && old.all fun r => decide (r.eng < 168) then d else d.raise (Reg.meErr (meEngine j)) 4
      | some (.scr q) => d.perf (168 + q) 0x81 1
      | _ => d
    match old.all (fun r => decide (r.eng < e)), old with
    | true, x :: _ => (if again then d else d.writeTag w ((toLe (wordSize w) x.old).map fun b => (b, x.mark)), true)
    | won, _ => (d, won)

/-- Engine `e` writes bytes with marks into scratch or accumulator memory, or elsewhere. -/
def Device.engWrite (d : Device) (e a : Nat) (l : Marked) : Device :=
  if a < scrBase then d.writeTag a l
  else (pieces (wordSize a) (l.length + 1) a 0 l.length).foldl (fun d p =>
    let (d, win) := d.raceWord e (wordBase p.1)
    if win then d.writeTag p.1 ((l.drop p.2.1).take p.2.2) else d) d

/-- Whether some byte is marked. -/
def anyMark (l : Marked) : Bool := List.any l (·.2)
/-- The bytes. -/
def unmark (l : Marked) : List Byte := l.map (·.1)

/-! ## Token counters (R116, R117) -/

/-- The counter that a scope and index name for engine `e`. -/
def ctrOf (e scope idx : Nat) : Ctr :=
  if scope = 0 then .prm (e / 7) idx else if scope = 1 then .fct (e / 42) idx else .dev idx

/-- The register that holds a counter (Table 5.19). -/
def ctrReg : Ctr → Nat
  | .prm q i => Reg.prmTok q i
  | .fct f i => Reg.fctTok f i
  | .dev i => Reg.tckTok i

/-- The value of a counter. -/
def Device.ctr (d : Device) (c : Ctr) : Nat := d.fld (ctrReg c) 15 0
/-- Set a counter. -/
def Device.setCtr (d : Device) (c : Ctr) (v : Nat) : Device := d.setReg (ctrReg c) (word (v % 65536))

/-! ## Engines -/

/-- The ERR register of an engine; ME_ERR and XX_ERR share the offset. -/
abbrev Reg.err (e : Nat) : Nat := engBase e + 0x10
/-- The ERR_INFO register. -/
abbrev Reg.errInfo (e : Nat) : Nat := engBase e + 0x14
/-- The bit of TOKEN_OVF. -/
def tokenOvfBit (e : Nat) : Nat := if engKind e = 0 then 6 else 3
/-- The bit of POISON. -/
def poisonBit (e : Nat) : Nat := if engKind e = 0 then 2 else 1
/-- XX_CMD of the engine's Prism. -/
def cmdSrc (e : Nat) : Nat :=
  if engKind e = 0 then Src.meCmd (e / 7) else if engKind e = 1 then Src.veCmd (e / 7)
  else if engKind e = 2 then Src.feCmd (e / 7) else Src.seCmd (e / 7)

/-- An illegal command halts its engine until the tick (R83, R115); it stays at the head. -/
def Device.illegal (d : Device) (e c : Nat) : Device :=
  let d := d.modEng e fun g => { g with phase := .halted, fetch := none, blocked := none }
  ((d.setReg (Reg.errInfo e) (word c)).raise (Reg.err e) 0).pairRaise (cmdSrc e)

/-- The engine read `n` poisoned elements. -/
def Device.notePoison (d : Device) (e n : Nat) : Device :=
  if n = 0 then d else (d.raise (Reg.err e) (poisonBit e)).perf e 4 n

/-- The engine may start commands. -/
def Device.running (d : Device) (e : Nat) : Bool :=
  let g := d.engAt e
  let p := d.prismAt (e / 7)
  decide (g.phase = .executing) && !g.fenced && !g.stopped && p.seg.isNone && !p.fenced && !d.tck.abandoning

/-- The command at the head may start: an ME has started its streams, a VE has finished its command, an FE or SE has
issued every request (R111, R130). -/
def Device.ready (d : Device) (e : Nat) : Bool :=
  d.running e &&
  (if engKind e = 0 then (d.meAt e).pipe.all fun m => m.s.isSome
   else if engKind e = 1 then (d.engAt e).acts.isEmpty
   else (d.engAt e).acts.all fun a => decide (a.next = a.total))

/-- A head that carries the poison mark or an opcode the engine does not have is illegal once it is reached. -/
def Device.settle (d : Device) (e : Nat) : Device :=
  if !d.ready e then d
  else match (d.engAt e).queue with
    | [] => d
    | h :: _ =>
      if h.poisoned then d.illegal e 0x3F
      else if !opAllowed (engKind e) (opcode h.word) then d.illegal e (lowest (hdrCauses h.word ++ [0x20]))
      else d

/-! ## Completion in list order (R111, R112) -/

/-- The counter of a header SIGNAL and its latency. -/
def sigCtr (e : Nat) (w : CmdWord) : Ctr := ctrOf e (cmdFld w 3 6 2) (cmdFld w 3 0 6)

/-- Apply the header SIGNAL of a completed command (R111, R116, R118); during abandonment it is discarded (R51). -/
def Device.signalOf (d : Device) (e : Nat) (w : CmdWord) : Device :=
  if !sigEn w ∨ d.tck.abandoning then d
  else if opcode w = 3 ∧ cmdFld w 8 7 1 = 1 then d.remoteSignal (cmdFld w 8 0 4) (cmdFld w 3 0 6) (sigN w)
  else { d with sigs := d.sigs ++ [⟨sigCtr e w, sigN w, e, d.q / aQ + scopeLat (cmdFld w 3 6 2)⟩] }

/-- A command completes (Table 5.1): it is counted, and its tag is stamped; the drain of a matrix command ends one
a-cycle before its completion (Table 15.4). -/
def Device.cmdDone (d : Device) (e : Nat) (tag : Option Nat) (w : CmdWord) : Device :=
  let t := if opcode w = 0x10 ∨ opcode w = 0x11 then d.sinceTick - 1 else d.sinceTick
  let d := (d.perf e 2 1).stampWith tag 4 t
  if sigEn w then d else d.stampWith tag 5 t

/-- Put a MARK message on the link: behind those that have left, in ascending engine index within an a-cycle (R120). -/
def addMark (l : List MarkMsg) (m : MarkMsg) : List MarkMsg :=
  l.filter (fun x => decide (x.at_ ≠ m.at_) || decide (x.eng ≤ m.eng)) ++
    m :: l.filter fun x => decide (x.at_ = m.at_) && decide (m.eng < x.eng)

/-- A MARK leaves for the checker (R120). -/
def Device.markLeaves (d : Device) (e : Nat) (w : CmdWord) : Device :=
  if d.tck.abandoning then d
  else { d with marks := addMark d.marks ⟨e, cmdFld w 8 0 6, BitVec.ofNat 16 d.frame.toNat, d.q / aQ⟩ }

/-- Retire the oldest command of an engine: SIGNAL and MARK commands act now; header SIGNALs are applied. -/
def Device.retireAct (d : Device) (e : Nat) (a : Act) : Device :=
  let op := opcode a.word
  let d := if op = 3 ∨ op = 4 then d.cmdDone e a.tag a.word else d
  let d := if op = 4 then d.markLeaves e a.word else d
  let d := d.signalOf e a.word
  if sigEn a.word then d.stampWith a.tag 5 (d.sinceTick + scopeLat (cmdFld a.word 3 6 2)) else d

/-- Retire every leading command that is complete, at most `n`. -/
def Device.retireN (d : Device) (e : Nat) : Nat → Device
  | 0 => d
  | n + 1 =>
    match (d.engAt e).acts with
    | a :: as => if a.done then ((d.modEng e fun g => { g with acts := as }).retireAct e a).retireN e n else d
    | [] => d

/-- Retire completed commands in list order. -/
def Device.retire (d : Device) (e : Nat) : Device := d.retireN e (d.engAt e).acts.length

/-- Add a started command to the engine's list. -/
def Device.push (d : Device) (e : Nat) (a : Act) : Device := d.modEng e fun g => { g with acts := g.acts ++ [a] }

/-- A command that completes as soon as it has acted (Table 5.1). -/
def Device.pushDone (d : Device) (e : Nat) (h : FCmd) (w : CmdWord) : Device :=
  ((d.cmdDone e h.tag w).push e ⟨h.addr, w, 0, 0, [], 0, true, h.tag, 0⟩).retire e

/-- Complete the first unfinished command that `p` selects. -/
def Device.finish (d : Device) (e : Nat) (p : Act → Bool) : Device :=
  match (d.engAt e).acts.findIdx? fun a => !a.done && p a with
  | none => d
  | some i =>
    match (d.engAt e).acts[i]? with
    | none => d
    | some a =>
      let d := d.modEng e fun g => { g with acts := g.acts.modify i fun a => { a with done := true } }
      (d.cmdDone e a.tag a.word).retire e

/-! ## Starting a command -/

/-- Take the head off the list. -/
def Device.popCmd (d : Device) (e : Nat) : Device := d.modEng e fun g => { g with queue := g.queue.tail, waitDone := false }

/-- Test the header WAIT (R111, R117): satisfied, its count is subtracted; else the engine is blocked. -/
def Device.gate (d : Device) (e : Nat) (w : CmdWord) : Device × Bool :=
  if !waitEn w ∨ (d.engAt e).waitDone then (d, true)
  else
    let c := ctrOf e (cmdFld w 2 6 2) (cmdFld w 2 0 6)
    if waitN w ≤ d.ctr c then (d.setCtr c (d.ctr c - waitN w), true)
    else (d.modEng e fun g => { g with phase := .waiting, blocked := some (c, waitN w) }, false)

/-- The command at the head of an engine that may start, where it is opcode `op`. -/
def Device.headOp (d : Device) (e op : Nat) : Option FCmd :=
  if !d.ready e then none
  else match (d.engAt e).queue with
    | h :: _ => if h.poisoned ∨ opcode h.word ≠ op ∨ !opAllowed (engKind e) op then none else some h
    | [] => none

/-- Start the command at the head: legality of its stepped fields, its header WAIT, then its effect (R111, R115). -/
def Device.start (d : Device) (e op : Nat) (causes : Device → CmdWord → List Nat)
    (body : Device → FCmd → CmdWord → Device) : Device :=
  match d.headOp e op with
  | none => d
  | some h =>
    let w := stepWord h.word (d.engAt e).loops
    match hdrCauses h.word ++ causes d w with
    | [] =>
      let (d, go) := d.gate e w
      if go then (body (((d.popCmd e).stamp h.tag 1).stamp h.tag 3) h w).settle e else d
    | l => d.illegal e (lowest l)

end Sys2Proof.Machine
end

