-- ==== Sys2Proof/Machine/Control.lean ====
section
/-! DEFINITION. Command fetch and the commands every engine has (R107 to R113, R118 to R123), token arrival (R117) and
the block reset of an engine (R20, R75). -/

namespace Sys2Proof.Machine

/-! ## Fetch (R107, R108, R372) -/

/-- Where a command list may lie: DRAM and Facet buffer of the engine's own Facet (R107). -/
def Device.inList (d : Device) (e a : Nat) : Bool := d.reach e [.dram, .fbuf] a 64

/-- Engine `e` may fetch: a list goes on, at most 31 commands wait, and the engine is in service. It stops fetching where
its list leaves the memories of R107, and fetches from its start pointer as that stands (DESIGN CHOICE, log 138). -/
def Device.mayFetch (d : Device) (e : Nat) : Bool :=
  let g := d.engAt e
  !g.fenced && !g.stopped && decide (g.queue.length < 32) && !d.tck.abandoning && (d.prismAt (e / 7)).seg.isNone &&
  (match g.fetch with | some a => d.inList e a | none => false)

/-- Put a fetched command into the queue; nothing beyond an END is fetched. -/
def Device.enqueue (d : Device) (e a : Nat) (w : CmdWord) (bad : Bool) : Device :=
  let (hit, g) := d.tagCount e (d.engAt e)
  let (d, tag) := if hit then (d.setEng e g).tagOpen e (opcode w) a else (d.setEng e g, none)
  d.modEng e fun g => { g with
    queue := g.queue ++ [⟨a, w, bad, tag⟩]
    fetch := if opcode w = 1 ∧ !bad then none else some (a + 64) }

/-- Engine `e` fetches the next command of its list. -/
def Device.fetchCmd (d : Device) (e : Nat) : Device :=
  match d.mayFetch e, (d.engAt e).fetch with
  | true, some a =>
    let r := d.readMem (d.phys a) 64
    (r.dev.enqueue e a (BitVec.ofNat 512 (leNat r.bytes)) r.poison).settle e
  | _, _ => d

/-! ## NOP, WAIT, SIGNAL, MARK, END (R118, R120, R121) -/

/-- Conditions of NOP and END: bytes 8 to 63 reserved. -/
def plainCauses (_ : Device) (w : CmdWord) : List Nat := cause (!zeroFrom w 8) 0x01

/-- Conditions of WAIT. -/
def waitCauses (_ : Device) (w : CmdWord) : List Nat := cause (!zeroFrom w 8) 0x01 ++ cause (!waitEn w) 0x23

/-- Conditions of SIGNAL: byte 8 holds REMOTE and DEV; a remote one names a device of the system and the device
scope (cause 0x23: DESIGN CHOICE, log 18). -/
def signalCauses (d : Device) (w : CmdWord) : List Nat :=
  cause (!zeroFrom w 9 || decide (cmdFld w 8 4 3 ≠ 0)) 0x01 ++ cause (!sigEn w) 0x23 ++
  cause (decide (cmdFld w 8 7 1 = 1) && (!d.inSystem (cmdFld w 8 0 4) || decide (cmdFld w 3 6 2 ≠ 2))) 0x23

/-- Conditions of MARK. -/
def markCauses (_ : Device) (w : CmdWord) : List Nat := cause (!zeroFrom w 9 || decide (cmdFld w 8 6 2 ≠ 0)) 0x01

/-- SIGNAL and MARK take their place in list order and act when every earlier command has completed. -/
def Device.pushOrdered (d : Device) (e : Nat) (h : FCmd) (w : CmdWord) : Device :=
  (d.push e ⟨h.addr, w, 0, 0, [], 0, true, h.tag, 0⟩).retire e

/-- END retires: its SIGNAL is applied, and the engine idles until the tick (R39, R121). -/
def Device.endBody (d : Device) (e : Nat) (h : FCmd) (w : CmdWord) : Device :=
  let d := (d.cmdDone e h.tag w).retireAct e ⟨h.addr, w, 0, 0, [], 0, true, h.tag, 0⟩
  let d := d.modEng e fun g => { g with atEnd := true, phase := .idle, queue := [], fetch := none, loops := [] }
  (d.perf e 5 1).reportEnd

/-- END reaches the head: its header WAIT is tested, and it retires once every earlier command has completed. -/
def Device.runEnd (d : Device) (e : Nat) : Device :=
  if (d.engAt e).acts.isEmpty then d.start e 1 plainCauses fun d h w => d.endBody e h w
  else match d.headOp e 1 with
    | none => d
    | some h =>
      match hdrCauses h.word ++ plainCauses d h.word with
      | [] => let (d, go) := d.gate e h.word
              if go then d.modEng e fun g => { g with waitDone := true } else d
      | l => d.illegal e (lowest l)

/-- A standalone WAIT. -/
def Device.runWait (d : Device) (e : Nat) : Device := d.start e 2 waitCauses fun d h w => d.pushDone e h w

/-! ## LOOP (R122, R123) -/

/-- COUNT of a LOOP. -/
def loopCount (w : CmdWord) : Nat := cmdFld w 8 0 16
/-- LEN of a LOOP. -/
def loopLen (w : CmdWord) : Nat := cmdFld w 10 0 10
/-- STEPj of a LOOP. -/
def loopStep (w : CmdWord) (j : Nat) : Int := sext 32 (cmdFld w (16 + 4 * j) 0 32)

/-- Conditions of a LOOP at address `a` of engine `e`. The body must lie at or after the start pointer and within the
body of every enclosing loop. -/
def loopCauses (e a : Nat) (d : Device) (w : CmdWord) : List Nat :=
  let g := d.engAt e
  let lo := a - 64 * loopLen w
  let again := match g.loops.getLast? with | some t => decide (t.addr = a) | none => false
  let outer := if again then g.loops.dropLast else g.loops
  cause (decide (cmdFld w 11 2 6 ≠ 0) || decide (cmdFld w 12 0 32 ≠ 0) || !zeroFrom w 32) 0x01 ++
  cause (decide (loopCount w = 0) || decide (loopLen w = 0) || waitEn w || sigEn w ||
    decide (a < g.start + 64 * loopLen w) || (outer.any fun t => decide (lo < t.lo) || decide (t.addr ≤ a)) ||
    (!again && decide (loopCount w ≠ 1) && decide (4 ≤ g.loops.length))) 0x21

/-- A LOOP sends its engine back. -/
def Eng.jump (g : Eng) (a : Nat) (ls : List LoopEnt) : Eng := { g with loops := ls, queue := [], fetch := some a }

/-- The effect of a LOOP (R123). -/
def Device.loopBody (d : Device) (e : Nat) (h : FCmd) (w : CmdWord) : Device :=
  let g := d.engAt e
  let lo := h.addr - 64 * loopLen w
  let new : LoopEnt := ⟨h.addr, lo, 1, loopStep w 0, loopStep w 1, loopStep w 2, loopStep w 3⟩
  let d := match g.loops.getLast? with
    | some t =>
      if t.addr = h.addr then
        if t.iter + 1 < loopCount w then
          d.setEng e (g.jump lo (g.loops.dropLast ++ [{ t with iter := t.iter + 1 }]))
        else d.setEng e { g with loops := g.loops.dropLast }
      else if loopCount w = 1 then d
      else d.setEng e (g.jump lo (g.loops ++ [new]))
    | none =>
      if loopCount w = 1 then d
      else d.setEng e (g.jump lo [new])
  d.pushDone e h w

/-- A LOOP at the head. -/
def Device.runLoop (d : Device) (e : Nat) : Device :=
  match (d.engAt e).queue with
  | h :: _ => d.start e 5 (loopCauses e h.addr) fun d h w => d.loopBody e h w
  | [] => d

/-! ## Token arrival (R116, R117) -/

/-- The SIGNALs that reach counter `c` next: those with the earliest arrival. -/
def Device.sigsDue (d : Device) (c : Ctr) : List SigMsg :=
  let l := d.sigs.filter fun g => g.ctr = c
  match l with
  | [] => []
  | g :: t => let m := t.foldl (fun a x => min a x.at_) g.at_; l.filter fun x => decide (x.at_ = m)

/-- Every engine whose SIGNAL saturated a counter sets TOKEN_OVF. -/
def Device.tokenOvf (d : Device) (l : List SigMsg) : Device :=
  l.foldl (fun d g => if g.eng < 168 then (d.raise (Reg.err g.eng) (tokenOvfBit g.eng)).pairRaise (Src.tokenOvf (g.eng / 7)) else d) d

/-- Add SIGNAL amounts to a counter. -/
def Device.addTokens (d : Device) (c : Ctr) (l : List SigMsg) : Device :=
  let v := d.ctr c + sumBy SigMsg.amount l
  if 0xFFFF < v then (d.setCtr c 0xFFFF).tokenOvf l else d.setCtr c v

/-- An engine blocked on a counter that has reached its count goes on: a standalone WAIT completes, a matrix command's
header WAIT is satisfied, any other command may start. -/
def Device.release (d : Device) (e : Nat) : Device :=
  let d := d.modEng e fun g => { g with blocked := none, phase := .executing, waitDone := true }
  let m := d.meAt e
  if m.pipe.any fun x => x.v.isNone then
    let d := d.modEng e fun g => { g with waitDone := false }
    d.setMe e { m with pipe := m.pipe.map fun x => if x.v.isNone then { x with v := some (d.q / aQ) } else x }
  else
    match (d.engAt e).queue with
    | h :: _ => if opcode h.word = 2 then d.runWait e else d
    | [] => d

/-- A counter holds its value: that of a Prism which is fenced, or held in a self-test segment (R21). -/
def Device.ctrHeld (d : Device) : Ctr → Bool
  | .prm q _ => (d.prismAt q).fenced || (d.prismAt q).seg.isSome
  | _ => false

/-- An engine tests the counter that it waits for; one whose Prism is held goes on waiting (R21). -/
def Device.retry (d : Device) (e : Nat) : Device :=
  match (d.engAt e).blocked with
  | some (c, n) => if n ≤ d.ctr c ∧ !d.ctrHeld (.prm (e / 7) 0) then (d.setCtr c (d.ctr c - n)).release e else d
  | none => d

/-- Test every engine blocked on `c`, in ascending physical index. -/
def Device.releaseAll (d : Device) (c : Ctr) : Device :=
  (List.range 168).foldl (fun d e => if (d.engAt e).blocked.any (fun b => decide (b.1 = c)) then d.retry e else d) d

/-- SIGNALs reach counter `c` (R117). While the counter holds its value (R21) they stay on their way (DEDUCED, log 132). -/
def Device.tokenArrival (d : Device) (c : Ctr) : Device :=
  if d.ctrHeld c then d
  else
  let l := d.sigsDue c
  let d := { d with sigs := d.sigs.filter fun g => !(l.contains g) }
  let d := d.addTokens c l
  let d := match c with | .prm q _ => d.perf (168 + q) 0x82 l.length | _ => d
  d.releaseAll c

/-! ## Block reset (R20, R75) -/

/-- The word of the repair record for an ME, without faults where there is none (Table 3.12). -/
def Device.repairWord (d : Device) (j : Nat) : Word := nth d.boot.repair j 0x00FFF100

/-- The array is narrowed to 16 columns. -/
def Device.narrowed (d : Device) (e : Nat) : Bool := decide (engKind e = 0) && decide (d.fld (Reg.meGeom e) 31 30 = 1)

/-- Apply the repair record to an ME; an unusable array is fenced (R74, R75). -/
def Device.applyRepair (d : Device) (e : Nat) : Device :=
  if engKind e ≠ 0 then d
  else
    let d := d.setReg (Reg.meGeom e) (d.repairWord (4 * (e / 7) + e % 7))
    let bad := decide (d.fld (Reg.meGeom e) 31 30 = 2) || d.boot.keep.contains e
    d.modEng e fun g => { g with unusable := bad, fenced := g.fenced || bad }

/-- The S fields of an ME's block: the tolerances (Table 3.8). -/
def isTol (e k : Nat) : Bool := decide (engKind e = 0) && decide (Reg.meAbftTol0 e ≤ k) && decide (k ≤ Reg.meAbftTol3 e)

/-- Block reset of an engine: its registers but the S fields, its performance counters, and, where it has not reached
END, its work (R20, R362). SIGNALs of commands that have completed, MARKs that have left and packets of a SEND are on
their way and stay. -/
def Device.blockReset (d : Device) (e : Nat) : Device :=
  let lo := engBase e
  let d := { d with regs := d.regs.filter fun r => decide (r.1 < lo) || decide (lo + 0x1000 ≤ r.1) || isTol e r.1 }
  let d := d.cntClear e
  let d := if (d.engAt e).atEnd then d
    else (d.setMe e { (d.meAt e).stop with active := none, shadow := none }).modEng e Eng.stop
  d.applyRepair e

/-! ## Commands -/

/-- COMMAND_FETCH (R107). -/
def execCommandFetch (e : Nat) (s : State) : Host.Outcome State Fault Refusal :=
  act (decide (e < 168)) (fun d => d.fetchCmd e) s

/-- NOP (R121). -/
def execNop (e : Nat) (s : State) : Host.Outcome State Fault Refusal :=
  act (decide (e < 168)) (fun d => d.start e 0 plainCauses fun d h w => d.pushDone e h w) s

/-- END (R121). -/
def execEndCmd (e : Nat) (s : State) : Host.Outcome State Fault Refusal :=
  act (decide (e < 168)) (fun d => d.runEnd e) s

/-- WAIT (R118). -/
def execWait (e : Nat) (s : State) : Host.Outcome State Fault Refusal := act (decide (e < 168)) (fun d => d.runWait e) s

/-- SIGNAL (R118). -/
def execSignal (e : Nat) (s : State) : Host.Outcome State Fault Refusal :=
  act (decide (e < 168)) (fun d => d.start e 3 signalCauses fun d h w => d.pushOrdered e h w) s

/-- MARK (R120). -/
def execMark (e : Nat) (s : State) : Host.Outcome State Fault Refusal :=
  act (decide (e < 168)) (fun d => d.start e 4 markCauses fun d h w => d.pushOrdered e h w) s

/-- LOOP (R123). -/
def execLoop (e : Nat) (s : State) : Host.Outcome State Fault Refusal := act (decide (e < 168)) (fun d => d.runLoop e) s

/-- TOKEN_SIGNAL_ARRIVAL (R117). -/
def execTokenSignalArrival (c : Ctr) (s : State) : Host.Outcome State Fault Refusal :=
  act true (fun d => d.tokenArrival c) s

/-- ENGINE_BLOCK_RESET (R20). -/
def execEngineBlockReset (e : Nat) (s : State) : Host.Outcome State Fault Refusal :=
  act (decide (e < 168) && s.dev.cmpAlive) (fun d => d.blockReset e) s

end Sys2Proof.Machine
end

