-- ==== Sys2Proof/Machine/Matrix.lean ====
section
/-! DEFINITION. The matrix engine (R61 to R91, R97, R99 to R101): MM, MMC, AGD (R136, R137), streams, result rows, the
checksum comparator and its test injection. -/

namespace Sys2Proof.Machine

/-! ## Operand classes (Table 3.3) -/

/-- A class: integer or float, Kmax, a-cycles per row, two K-rows per a-cycle, Mmax, whether block scales apply. -/
structure MeClass where
  int : Bool
  kmax : Nat
  r : Nat
  half : Bool
  mmax : Nat
  scal : Bool
deriving DecidableEq, Repr

/-- FP8 and FP6 formats. -/
def isF86 (c : Nat) : Bool := decide (3 ≤ c) && decide (c ≤ 6)

/-- The class of (AFMT, WFMT). -/
def meClass (a w : Nat) : Option MeClass :=
  if (a = 10 ∨ a = 11) ∧ (w = 10 ∨ w = 12) then some ⟨true, 256, 1, false, 2048, false⟩
  else if a = 12 ∧ w = 10 then some ⟨true, 256, 1, false, 2048, false⟩
  else if a = 12 ∧ w = 12 then some ⟨true, 512, 1, true, 2048, false⟩
  else if a = 9 ∧ w = 10 then some ⟨true, 128, 1, false, 2048, false⟩
  else if isF86 a ∧ (isF86 w ∨ w = 7) then some ⟨false, 256, 1, false, 2048, true⟩
  else if a = 7 ∧ isF86 w then some ⟨false, 256, 1, false, 2048, true⟩
  else if a = 7 ∧ w = 7 then some ⟨false, 512, 1, true, 2048, true⟩
  else if (a = 1 ∨ a = 2) ∧ (w = 1 ∨ w = 2) then some ⟨false, 128, 2, false, 1024, false⟩
  else if a = 0 ∧ w = 0 then some ⟨false, 64, 4, false, 512, false⟩
  else none

/-- The class of a legal command. -/
def classOf (a w : Nat) : MeClass := (meClass a w).getD ⟨true, 256, 1, false, 2048, false⟩

/-! ## Fields (Table 3.6) -/

/-- WFMT. -/
def mmWfmt (w : CmdWord) : Nat := cmdFld w 8 4 4
/-- AFMT. -/
def mmAfmt (w : CmdWord) : Nat := cmdFld w 8 0 4
/-- WREUSE. -/
def mmReuse (w : CmdWord) : Bool := decide (cmdFld w 9 4 1 = 1)
/-- SCALE_EN. -/
def mmScale (w : CmdWord) : Bool := decide (cmdFld w 9 3 1 = 1)
/-- ACC_MODE. -/
def mmMode (w : CmdWord) : Nat := cmdFld w 10 0 2
/-- K. -/
def mmK (w : CmdWord) : Nat := cmdFld w 12 0 16
/-- M. -/
def mmM (w : CmdWord) : Nat := cmdFld w 14 0 16
/-- ACC_ROW, after stepping. -/
def mmRow (w : CmdWord) : Nat := cmdFld w 16 0 16
/-- NMASK. -/
def mmMask (w : CmdWord) : BitVec 32 := BitVec.ofNat 32 (cmdFld w 20 0 32)
/-- The command is an MMC. -/
def isMmc (w : CmdWord) : Bool := decide (opcode w = 0x11)
/-- M > 0, K > 0 and a nonempty column mask. -/
def mmStreams (w : CmdWord) : Bool := decide (0 < mmM w) && decide (0 < mmK w) && decide (mmMask w ≠ 0)
/-- The command loads weights. -/
def mmLoads (w : CmdWord) : Bool := mmStreams w && !mmReuse w
/-- BIAS_ADDR is used. -/
def mmBias (w : CmdWord) : Bool := decide (mmMode w = 2) && decide (0 < mmM w) && decide (mmMask w ≠ 0)
/-- The active logical columns. -/
def activeCols (m : BitVec 32) : List Nat := (List.range 32).filter fun n => m.getLsbD n
/-- Weight-load time in a-cycles. -/
def loadTime (w : CmdWord) : Nat :=
  if !mmLoads w then 0 else if (classOf (mmAfmt w) (mmWfmt w)).half then ceilDiv (mmK w) 2 else mmK w

/-! ## Address generation (R136, R137) -/

/-- The descriptor that an AGD defines (Table 5.10). -/
def agdOf (w : CmdWord) : Agd where
  kh := cmdFld w 10 0 4
  kw := cmdFld w 11 0 4
  sx := cmdFld w 12 4 4
  sy := cmdFld w 12 0 4
  dx := cmdFld w 13 4 4
  dy := cmdFld w 13 0 4
  pb := cmdFld w 14 4 4
  pt := cmdFld w 14 0 4
  pr := cmdFld w 15 4 4
  pl := cmdFld w 15 0 4
  ih := cmdFld w 16 0 16
  iw := cmdFld w 18 0 16
  c := cmdFld w 20 0 16
  oh := cmdFld w 22 0 16
  ow := cmdFld w 24 0 16
  nimg := cmdFld w 26 0 16
  base := cmdFld w 28 0 48
  rowPitch := cmdFld w 34 0 32
  pixPitch := cmdFld w 38 0 32
  imgPitch := cmdFld w 42 0 32

/-- Bytes from BASE to the end of the last pixel, a pixel taking `px` bytes. -/
def Agd.extent (g : Agd) (px : Nat) : Nat :=
  (g.nimg - 1) * g.imgPitch + (g.ih - 1) * g.rowPitch + (g.iw - 1) * g.pixPitch + px

/-- Stride and dilation range. -/
def in18 (n : Nat) : Bool := decide (1 ≤ n) && decide (n ≤ 8)

/-- The fields of a descriptor lie in range and its extents fit (R136). PIX_PITCH holds C elements of the narrowest
format, 4 bits (DEDUCED, log 19): AGD names no format. The parity of C is judged neither here nor at an MMC with a 4-bit
AFMT (DESIGN CHOICE, log 136). -/
def Agd.ok (g : Agd) : Bool :=
  decide (1 ≤ g.kh) && decide (1 ≤ g.kw) && in18 g.sx && in18 g.sy && in18 g.dx && in18 g.dy &&
  decide (1 ≤ g.ih) && decide (1 ≤ g.iw) && decide (1 ≤ g.c) && decide (1 ≤ g.oh) && decide (1 ≤ g.ow) &&
  decide (1 ≤ g.nimg) && decide (ceilDiv (g.c * 4) 8 ≤ g.pixPitch) &&
  decide ((g.oh - 1) * g.sy + (g.kh - 1) * g.dy ≤ g.ih - 1 + g.pt + g.pb) &&
  decide ((g.ow - 1) * g.sx + (g.kw - 1) * g.dx ≤ g.iw - 1 + g.pl + g.pr) &&
  decide (g.base % 16 = 0) && decide (g.rowPitch % 16 = 0) && decide (g.pixPitch % 16 = 0) && decide (g.imgPitch % 16 = 0)

/-- Conditions of AGD. -/
def agdCauses (e : Nat) (d : Device) (w : CmdWord) : List Nat :=
  let g := agdOf w
  cause (decide (cmdFld w 8 4 4 ≠ 0) || decide (cmdFld w 9 0 8 ≠ 0) || decide (cmdFld w 10 4 4 ≠ 0) ||
    decide (cmdFld w 11 4 4 ≠ 0) || !zeroFrom w 46) 0x01 ++
  cause (!g.ok || !d.reach e [.scr] g.base (g.extent g.pixPitch)) 0x0C

/-- The logical address of the byte of element k of row m, with the index of the element within its pixel's bytes;
none for padding (R137). -/
def Agd.elem (g : Agd) (bits mStart kStart m k : Nat) : Option (Nat × Nat) :=
  let o := mStart + m
  let n := o / (g.oh * g.ow)
  let oy := o / g.ow % g.oh
  let ox := o % g.ow
  let r := kStart + k
  let c := r % g.c
  let kx := r / g.c % g.kw
  let ky := r / (g.c * g.kw)
  let iy : Int := oy * g.sy - (g.pt : Int) + ky * g.dy
  let ix : Int := ox * g.sx - (g.pl : Int) + kx * g.dx
  if iy < 0 ∨ (g.ih : Int) ≤ iy ∨ ix < 0 ∨ (g.iw : Int) ≤ ix then none
  else some (g.base + n * g.imgPitch + iy.toNat * g.rowPitch + ix.toNat * g.pixPitch + c * bits / 8, c)

/-! ## Legality of MM and MMC (R83) -/

/-- Bytes of a row of activations. -/
def aBytes (w : CmdWord) : Nat := fmtBytes (mmAfmt w) (mmK w)

/-- Reserved bits and encodings; ACC_ROW's as the list holds it. -/
def mmReserved (h w : CmdWord) : Bool :=
  decide (cmdFld w 9 5 3 ≠ 0) || decide (cmdFld w 9 2 1 ≠ 0) || decide (cmdFld w 10 2 6 ≠ 0) ||
  decide (cmdFld w 11 0 8 ≠ 0) || decide (cmdFld h 17 3 5 ≠ 0) || decide (cmdFld w 18 0 16 ≠ 0) ||
  decide (cmdFld w 62 0 16 ≠ 0) || decide (mmMode w = 3) || decide (14 ≤ mmAfmt w) || decide (14 ≤ mmWfmt w) ||
  (isMmc w && (decide (cmdFld w 28 4 4 ≠ 0) || decide (cmdFld w 29 0 8 ≠ 0)))

/-- An operand range lies outside the Prism's own scratch. -/
def Device.mmOutside (d : Device) (e : Nat) (w : CmdWord) : Bool :=
  let out := fun a n => !d.reach e [.scr] a n
  let kb := ceilDiv (mmK w) 32
  let g := tabGet (agdOf 0) (d.meAt e).agd (cmdFld w 28 0 4)
  (mmStreams w && !isMmc w && out (cmdFld w 24 0 48) (rowSpan (mmM w) (aBytes w) (cmdFld w 30 0 32))) ||
  (mmStreams w && isMmc w && decide (g ≠ agdOf 0) && out g.base (g.extent (max g.pixPitch (fmtBytes (mmAfmt w) g.c)))) ||
  (mmLoads w && out (cmdFld w 34 0 48) (rowSpan (mmK w) (fmtBytes (mmWfmt w) 32) (cmdFld w 40 0 32))) ||
  (mmBias w && out (cmdFld w 44 0 48) 128) ||
  (mmScale w && mmStreams w && out (cmdFld w 50 0 48) ((mmM w - 1) * 16 + kb)) ||
  (mmScale w && mmLoads w && out (cmdFld w 56 0 48) (kb * 32))

/-- A used address or stride is not a multiple of 16. -/
def mmMisaligned (w : CmdWord) : Bool :=
  let odd := fun b n => decide (cmdFld w b 0 n % 16 ≠ 0)
  (mmStreams w && !isMmc w && (odd 24 48 || odd 30 32)) || (mmLoads w && (odd 34 48 || odd 40 32)) ||
  (mmBias w && odd 44 48) || (mmScale w && mmStreams w && odd 50 48) || (mmScale w && mmLoads w && odd 56 48)

/-- WREUSE does not fit the held weights (cause 0x09). -/
def Device.badReuse (d : Device) (e : Nat) (w : CmdWord) : Bool :=
  mmReuse w &&
  match (d.meAt e).active with
  | none => decide (0 < mmK w)
  | some h =>
    (decide (0 < mmK w) && decide (h.k ≠ mmK w)) ||
    (decide (0 < mmM w) && decide (mmMask w ≠ 0) &&
      (decide (h.wfmt ≠ mmWfmt w) || decide (h.scaleEn ≠ mmScale w) || decide (h.nmask ≠ mmMask w)))

/-- Conditions of MM and MMC (R83, Table 5.4). -/
def mmCauses (e : Nat) (h : CmdWord) (d : Device) (w : CmdWord) : List Nat :=
  let cls := meClass (mmAfmt w) (mmWfmt w)
  let c := classOf (mmAfmt w) (mmWfmt w)
  let g := tabGet (agdOf 0) (d.meAt e).agd (cmdFld w 28 0 4)
  let m0 := cmdFld w 24 0 32
  let k0 := cmdFld w 30 0 32
  cause (mmReserved h w) 0x01 ++ cause cls.isNone 0x02 ++
  cause (cls.isSome && (decide (c.kmax < mmK w) || decide (c.mmax < mmM w))) 0x03 ++
  cause (decide (0 < mmM w) && decide (2048 < mmRow w + mmM w)) 0x04 ++
  cause (d.mmOutside e w) 0x05 ++ cause (mmMisaligned w) 0x06 ++
  cause (mmScale w && cls.isSome && !c.scal) 0x07 ++
  cause (d.narrowed e && decide ((mmMask w).toNat / 65536 ≠ 0)) 0x08 ++
  cause (d.badReuse e w) 0x09 ++
  cause (isMmc w && mmStreams w && decide (g = agdOf 0)) 0x0A ++
  cause (mmReuse w && decide (mmK w = 0)) 0x0B ++
  cause (isMmc w && mmStreams w && decide (g ≠ agdOf 0) &&
    (decide (g.nimg * g.oh * g.ow < m0 + mmM w) || decide (g.kh * g.kw * g.c < k0 + mmK w))) 0x0D

/-! ## Reading operands -/

/-- What an element read returns: the device, codes, how many elements carry the mark. -/
structure ElemRead where
  dev : Device
  codes : List Nat
  bad : Nat

/-- Element codes of a marked byte string, with the count of marked ones among those that `want` selects. -/
def codesOf (f n : Nat) (want : Nat → Bool) (l : Marked) : List Nat × Nat :=
  let bs := unmark l
  ((List.range n).map fun i => if want i then elemAt f bs i else 0,
   countBy (fun i => want i && ((List.range (fmtBytes f 1)).any fun b =>
     (nth l (i * fmtBits f / 8 + b) (0, false)).2)) (List.range n))

/-- Read `n` contiguous elements at a logical address: the words that hold an element which `want` selects (R81). -/
def Device.readElems (d : Device) (f a n : Nat) (want : Nat → Bool) : ElemRead :=
  let (d, l) := (pieces 8 (fmtBytes f n + 1) (d.phys a) 0 (fmtBytes f n)).foldl (fun (r : Device × Marked) p =>
    if (List.range n).any fun i => want i && decide (i * fmtBits f / 8 < p.2.1 + p.2.2) && decide (8 * p.2.1 < (i + 1) * fmtBits f)
    then let x := r.1.readTagAs .feeder p.1 p.2.2; (x.1, r.2 ++ x.2)
    else (r.1, r.2 ++ List.replicate p.2.2 (0, false))) (d, [])
  let (cs, bad) := codesOf f n want l
  ⟨d, cs, bad⟩

/-- Read one element of an MMC: `c` selects the nibble of a 4-bit format. -/
def Device.readOne (d : Device) (f a c : Nat) : ElemRead :=
  let (d, l) := d.readTagAs .feeder (d.phys a) (fmtBytes f 1)
  ⟨d, [elemAt f (unmark l) (if fmtBits f = 4 then c % 2 else 0)], if anyMark l then 1 else 0⟩

/-- The K codes of activation row m (R81, R137); padding reads 0. -/
def Device.readAct (d : Device) (w : CmdWord) (g : Option Agd) (m : Nat) : ElemRead :=
  match g with
  | none => d.readElems (mmAfmt w) (cmdFld w 24 0 48 + m * cmdFld w 30 0 32) (mmK w) fun _ => true
  | some g => (List.range (mmK w)).foldl (fun r k =>
      match g.elem (fmtBits (mmAfmt w)) (cmdFld w 24 0 32) (cmdFld w 30 0 32) m k with
      | none => { r with codes := r.codes ++ [0] }
      | some (a, c) => let x := r.dev.readOne (mmAfmt w) a c; ⟨x.dev, r.codes ++ x.codes, r.bad + x.bad⟩) ⟨d, [], 0⟩

/-- The logical address of the first element of row m that is no padding. -/
def firstOperand (w : CmdWord) (g : Option Agd) (m : Nat) : Option Nat :=
  match g with
  | none => some (cmdFld w 24 0 48 + m * cmdFld w 30 0 32)
  | some g => (List.range (mmK w)).findSome? fun k =>
      (g.elem (fmtBits (mmAfmt w)) (cmdFld w 24 0 32) (cmdFld w 30 0 32) m k).map (·.1)

/-- Row m is challenge-only or all padding (R364). -/
def Device.rowWaste (d : Device) (w : CmdWord) (g : Option Agd) (m : Nat) : Bool :=
  match firstOperand w g m with
  | none => true
  | some a => d.tck.plan.man.slots.any fun s => decide (s.addr ≤ a) && decide (a < s.addr + s.len)

/-- Load the weights of a command with their scales and marks (R62, R63, R81). Elements of masked columns are not read;
every scale is, and marks the weights where it is poisoned (R85). -/
def Device.readWeights (d : Device) (e : Nat) (w : CmdWord) : Device × Weights :=
  let m := mmMask w
  let act := fun n => m.getLsbD n
  let (d, rows, bad) := (List.range (mmK w)).foldl (fun (r : Device × List (List Nat) × Nat) k =>
    let x := r.1.readElems (mmWfmt w) (cmdFld w 34 0 48 + k * cmdFld w 40 0 32) 32 act
    (x.dev, r.2.1 ++ [x.codes], r.2.2 + x.bad)) (d, [], 0)
  let (d, scs, bad) := (List.range (if mmScale w then ceilDiv (mmK w) 32 else 0)).foldl
    (fun (r : Device × List (List Byte) × Nat) b =>
      let x := r.1.readElems 13 (cmdFld w 56 0 48 + 32 * b) 32 fun _ => true
      (x.dev, r.2.1 ++ [x.codes.map (BitVec.ofNat 8)], r.2.2 + x.bad)) (d, [], bad)
  (d.perf e 4 bad, ⟨mmK w, mmWfmt w, mmScale w, m, rows, scs, decide (0 < bad)⟩)

/-! ## Results (R62, R97, R99, R100) -/

/-- A value times 2^(s - 127); the scale 0xFF makes it NaN (R97). -/
def scaled (s : Nat) (x : Fl) : Fl := if s = 255 then .nan else x.shift ((s : Int) - 127)

/-- The value of weight k of column n with its scale. -/
def Weights.val (h : Weights) (k n : Nat) : Fl :=
  let v := fmtDecode h.wfmt (nth (nth h.rows k []) n 0)
  if h.scaleEn then scaled (nth (nth h.scales (k / 32) []) n 0).toNat v else v

/-- The integer weight k of column n. -/
def Weights.int (h : Weights) (k n : Nat) : Int := intDecode h.wfmt (nth (nth h.rows k []) n 0)

/-- The checksum weight of row k (R62): the exact sum in integer classes. -/
def Weights.sumInt (h : Weights) (k : Nat) : Int := (activeCols h.nmask).foldl (fun a n => a + h.int k n) 0

/-- The checksum weight of row k in float classes: the sum rounded to FP32. -/
def Weights.sumFl (h : Weights) (k : Nat) : Fl := rnd32 (flSum ((activeCols h.nmask).map fun n => h.val k n))

/-- The fill output of a column from its products (R99): the sum of a group is exact, and adding it to the accumulator
rounds once (DESIGN CHOICE, log 135). -/
def fill (ps : List Fl) : Fl :=
  (List.range (ceilDiv ps.length 16)).foldl (fun acc g => rnd32 (acc.add (flSum ((ps.drop (16 * g)).take 16)))) Fl.zero

/-- The result row of integer activations (R99). -/
def rowInt (h : Weights) (afmt : Nat) (a : List Nat) (bad : Bool) : RowRes :=
  let v := a.map (intDecode afmt)
  let dot := fun (f : Nat → Int) => (v.zipIdx).foldl (fun s x => s + x.1 * f x.2) 0
  ⟨(List.range 32).map fun n => if h.nmask.getLsbD n then word (wrapN 32 (dot fun k => h.int k n)) else 0,
   BitVec.ofNat 48 (wrapN 48 (dot h.sumInt)), bad⟩

/-- The result row of float activations with their block scales. -/
def rowFl (h : Weights) (afmt : Nat) (a sc : List Nat) (bad : Bool) : RowRes :=
  let v := (a.zipIdx).map fun x => let y := fmtDecode afmt x.1; if h.scaleEn then scaled (nth sc (x.2 / 32) 127) y else y
  let dot := fun (f : Nat → Fl) => fill ((v.zipIdx).map fun x => x.1.mul (f x.2))
  ⟨(List.range 32).map fun n => if h.nmask.getLsbD n then word (toFp32 (dot fun k => h.val k n)) else 0,
   BitVec.ofNat 48 (toFp32 (dot h.sumFl)), bad⟩

/-- Read activation row m and form its result (R85 rules 1 and 2). -/
def Device.formRow (d : Device) (e : Nat) (x : MeCmd) (h : Weights) (biasBad : Bool) (m : Nat) : Device × RowRes :=
  let w := x.word
  let r := d.readAct w x.agd m
  let s := if mmScale w then r.dev.readElems 13 (cmdFld w 50 0 48 + 16 * m) (ceilDiv (mmK w) 32) fun _ => true
    else ⟨r.dev, [], 0⟩
  let bad := decide (0 < r.bad + s.bad) || h.poison || biasBad
  (s.dev.perf e 4 (r.bad + s.bad),
   if (classOf (mmAfmt w) (mmWfmt w)).int then rowInt h (mmAfmt w) r.codes bad else rowFl h (mmAfmt w) r.codes s.codes bad)

/-- Read the bias vector: its 32 words and whether one of them carries the mark (R79, R85). -/
def Device.readBias (d : Device) (e : Nat) (w : CmdWord) : Device × List Word × Bool :=
  if !mmBias w then (d, [], false)
  else
    let r := d.readElems 8 (cmdFld w 44 0 48) 32 fun _ => true
    (r.dev.perf e 4 r.bad, r.codes.map word, decide (0 < r.bad))

/-! ## Starting a matrix command -/

/-- A matrix command is taken: its weights load into the shadow register, it takes its place in the pipeline, and its
header WAIT is tested (R67, R68). -/
def Device.meBody (e : Nat) (d : Device) (h : FCmd) (w : CmdWord) : Device :=
  let m := d.meAt e
  let g := if isMmc w ∧ mmStreams w then some (tabGet (agdOf 0) m.agd (cmdFld w 28 0 4)) else none
  let inj := d.bitAt (Reg.meCtrl e) 2 && !(m.pipe.any (·.injected))
  let now := d.q / aQ
  let c := ctrOf e (cmdFld w 2 6 2) (cmdFld w 2 0 6)
  let met := !waitEn w || decide (waitN w ≤ d.ctr c)
  let d := if waitEn w && met then d.setCtr c (d.ctr c - waitN w) else d
  let (d, sh) := if mmLoads w then let (d, x) := d.readWeights e w; (d, some x) else (d, m.shadow)
  let x : MeCmd := ⟨h.addr, w, g, max m.sPrev now, if !waitEn w then some 0 else if met then some now else none, none, [],
    [], [], 0, false, inj, h.tag⟩
  let d := d.setMe e { m with pipe := m.pipe ++ [x], shadow := sh }
  let d := d.push e ⟨h.addr, w, 0, 0, [], 0, false, h.tag, 0⟩
  let d := d.stampWith h.tag 2 (d.sinceTick + loadTime w)
  if met then d else d.modEng e fun t => { t with phase := .waiting, blocked := some (c, waitN w) }

/-- The command at the head, an MM or MMC, is taken once every earlier command but streaming ones has completed. The
header WAIT is not tested by `start`. -/
def Device.runMm (d : Device) (e op : Nat) : Device :=
  if !((d.engAt e).acts.all fun a => decide (opcode a.word = 0x10) || decide (opcode a.word = 0x11)) then d
  else match d.headOp e op with
    | none => d
    | some h =>
      let w := stepWord h.word (d.engAt e).loops
      match hdrCauses h.word ++ mmCauses e h.word d w with
      | [] => (Device.meBody e (d.popCmd e) h w).settle e
      | l => d.illegal e (lowest l)

/-- AGD stores a descriptor (R136). -/
def Device.agdBody (e : Nat) (d : Device) (h : FCmd) (w : CmdWord) : Device :=
  let m := d.meAt e
  (d.setMe e { m with agd := tabSet (agdOf 0) m.agd (cmdFld w 8 0 4) (agdOf w) }).pushDone e h w

/-! ## Streams (R64, R67) -/

/-- The array of an engine works: in service, powered and not block reset. -/
def Device.meUp (d : Device) (e : Nat) : Bool :=
  !(d.engAt e).fenced && !(d.engAt e).stopped && d.facetUp (e / 42) && decide (engKind e = 0)

/-- The stream start of a pipeline entry that no freeze delays (R67). -/
def Me.startAt (m : Me) (x : MeCmd) : Nat := max (max (x.b + loadTime x.word) (m.sPrev + m.spanPrev)) (x.v.getD 0) + 4

/-- Rows are due that the drain has not written (R64, R67). -/
def Me.backed (m : Me) (now : Nat) : Bool :=
  m.pipe.any fun x => match x.s with
    | some s => decide (x.next < x.rows.length) && decide (s + 300 + x.next * (classOf (mmAfmt x.word) (mmWfmt x.word)).r < now)
    | none => false

/-- The next stream could have started and its feeders are empty (R64, R67). -/
def Me.starved (m : Me) (now : Nat) : Bool :=
  match m.pipe.find? fun x => x.s.isNone with
  | some x => mmStreams x.word && x.v.isSome && decide (m.startAt x < now)
  | none => false

/-- A frozen a-cycle delays what the array has before it by one (R64). -/
def Me.freeze (m : Me) (now : Nat) : Me :=
  { m with
    frozen := some now
    sPrev := if now < m.sPrev + m.spanPrev then m.sPrev + 1 else m.sPrev
    pipe := m.pipe.map fun x =>
      { x with b := if now < x.b + loadTime x.word then x.b + 1 else x.b
               s := x.s.map fun s => if x.next < x.rows.length then s + 1 else s } }

/-- Start the stream of a pipeline entry, delayed while its feeders were empty: the weight registers exchange roles, the operands are read and the result
rows formed. -/
def Device.startStream (d : Device) (e i : Nat) (x : MeCmd) : Device :=
  let w := x.word
  let m := d.meAt e
  let held := if mmReuse w then m.active else m.shadow
  let s := max (m.startAt x) (d.q / aQ)
  let (d, bias, bb) := d.readBias e w
  let h := held.getD ⟨0, 0, false, 0, [], [], false⟩
  let (d, rows) := (List.range (mmM w)).foldl (fun (r : Device × List RowRes) k =>
    let (d, y) := r.1.formRow e x h bb k
    (d, r.2 ++ [y])) (d, [])
  let x' := { x with s := some s, bias := bias, rows := rows, waste := (List.range (mmM w)).map fun k => d.rowWaste w x.agd k }
  let d := d.setMe e { d.meAt e with
    active := held, shadow := if mmReuse w then m.shadow else none, pipe := m.pipe.set i x'
    sPrev := s, spanPrev := mmM w * (classOf (mmAfmt w) (mmWfmt w)).r }
  let t := s - d.tck.tickQ / aQ
  let d := if mmReuse w then d.perf e 0x4A 1 else d
  (((d.stampWith x.tag 1 t).stampWith x.tag 2 (if mmReuse w then t else x.b + loadTime w - d.tck.tickQ / aQ)).stampWith x.tag 3 t)

/-- ME_STREAM_START: the oldest command whose stream has not started, once its header WAIT is satisfied. -/
def Device.streamStart (d : Device) (e : Nat) : Device :=
  let m := d.meAt e
  match m.pipe.findIdx? fun x => x.s.isNone with
  | none => d
  | some i =>
    match m.pipe[i]? with
    | some x => if mmStreams x.word && x.v.isSome && d.running e then (d.startStream e i x).settle e else d
    | none => d

/-! ## Result rows (R77 to R79, R85 to R88) -/

/-- The physical address of column n of accumulator row r of the engine's own accumulator memory (R77). -/
def accAddr (e r n : Nat) : Nat := accBase + (4 * (e / 7) + e % 7) * 0x100000 + r * 0x100 + 4 * n

/-- The sum of two accumulator words: modulo 2^32, or one rounding (R79). -/
def accAdd (int : Bool) (a b : Word) : Word :=
  if int then a + b else word (toFp32 ((ofFp32 a.toNat).add (ofFp32 b.toNat)))

/-- The bias sum for the checksum column (R79). -/
def biasSum (int : Bool) (m : BitVec 32) (b : List Word) : Word :=
  let l := (activeCols m).map fun n => nth b n 0
  if int then l.foldl (· + ·) 0 else word (toFp32 (flSum (l.map fun v => ofFp32 v.toNat)))

/-- The drain writes one accumulator word (R78): its mark is that of the row, or of the old word under ACCUM. -/
def Device.drainWord (d : Device) (e mode r n : Nat) (int : Bool) (bias : Word) (y : Word) (bad keep : Bool) : Device :=
  let a := accAddr e r n
  let x := if mode = 1 then d.readAs .drain a 4 else ⟨d, [], false⟩
  let old := word (leNat x.bytes)
  let v := if mode = 0 then y else if mode = 1 then if keep then old else accAdd int old y else if keep then bias else accAdd int bias y
  x.dev.engWrite (168 + e) a ((toLe 4 v.toNat).map fun b => (b, bad || x.poison))

/-- Write a row under ACC_MODE. `init`: a K = 0 command, whose data columns take the initial value (Table 3.7). -/
def Device.drainRow (d : Device) (e : Nat) (w : CmdWord) (bias : List Word) (r : Nat) (y : RowRes) (init : Bool) : Device :=
  let int := (classOf (mmAfmt w) (mmWfmt w)).int
  let d := (activeCols (mmMask w)).foldl (fun d n =>
    d.drainWord e (mmMode w) r n int (nth bias n 0) (nth y.y n 0) y.poison init) d
  d.drainWord e (mmMode w) r 32 int (biasSum int (mmMask w) bias) (word y.z.toNat) y.poison false

/-- A BF16 tolerance: its sign ignored, NaN taken as 0 (R91). -/
def tolVal (v : Nat) : Fl :=
  match (⟨8, 7, 127, 0⟩ : FFmt).decode (v % 32768) with
  | .nan => .zero
  | x => x

/-- A nonnegative value rounded to FP32 toward plus infinity. -/
def roundUp32 : Fl → Fl
  | .fin _ m e =>
    match fp32.roundMag m e with
    | none => .inf false
    | some c => if (ofFp32 c).lt (.fin false m e) then ofFp32 (c + 1) else ofFp32 c
  | x => x

/-- The threshold T of R87 for the sum A of magnitudes. -/
def threshold (tol : Word) (a : Fl) : Fl :=
  let rel := tolVal (bits tol 31 16)
  let abs := tolVal (bits tol 15 0)
  if !rel.isFin || !abs.isFin then .inf false else roundUp32 ((rel.mul a).add abs)

/-- The comparison of a row (R87): none where it is not compared, else whether it mismatches. -/
def compareRow (int : Bool) (m : BitVec 32) (tol : Word) (inj : Bool) (y : RowRes) : Option Bool :=
  let ys := (activeCols m).map fun n => nth y.y n 0
  if int then
    some (decide (ys.foldl (· + ·) (0 : Word) ≠ word (y.z.toNat + b2n inj)))
  else
    let vs := ys.map fun v => ofFp32 v.toNat
    let z := ofFp32 y.z.toNat
    if vs.all Fl.isFin then
      if !z.isFin then some true
      else
        let t := threshold tol (flSum (vs.map Fl.abs))
        if !t.isFin then some false
        else
          let z := if inj then z.add ((t.shift 1).add (.fin false 1 (-149))) else z
          some (t.lt ((flSum vs).add z.neg).abs)
    else if z.isFin then some true else none

/-- A mismatching row is counted, the first of the frame recorded, and the source raised once per command (R88). -/
def Device.mismatch (d : Device) (e : Nat) (x : MeCmd) (r : Nat) : Device :=
  let d := if d.reg (Reg.meAbftFrame e) = 0 then
      (d.setReg (Reg.meAbftRow e) (word (bits d.frame 10 0 * 65536 + r))).setReg (Reg.meAbftCmd e) (word x.addr) else d
  let d := ((d.incr (Reg.meAbftFrame e)).incr (Reg.meAbftTotal e)).raise (Reg.meErr e) 1
  if x.mismatched then d else d.pairRaise (Src.meAbft (4 * (e / 7) + e % 7))

/-- The comparator takes a written row that poison does not exempt (R86, R87): the answer is whether it mismatches. -/
def Device.compare (d : Device) (e : Nat) (x : MeCmd) (r : Nat) (y : RowRes) : Device × Bool :=
  let w := x.word
  if y.poison then ((d.incr (Reg.mePoisonRows e)).raise (Reg.meErr e) 2, false)
  else
    let tol := d.reg (Reg.meAbftTol0 e + 4 * cmdFld w 9 0 2)
    match compareRow (classOf (mmAfmt w) (mmWfmt w)).int (mmMask w) tol x.injected y with
    | none => (d.incr (Reg.meAbftNonfin e), false)
    | some false => (d.perf e 0x48 1, false)
    | some true => ((d.perf e 0x48 1).mismatch e x r, true)

/-- ME_ROW_WRITE: the next row of the oldest stream that has rows left. -/
def Device.rowWrite (d : Device) (e : Nat) : Device :=
  let m := d.meAt e
  match m.pipe.findIdx? fun x => decide (x.next < x.rows.length) with
  | none => d
  | some i =>
    match m.pipe[i]?, d.meUp e with
    | some x, true =>
      match x.rows[x.next]? with
      | some y =>
        let r := mmRow x.word + x.next
        let (d, hit) := d.compare e x r y
        let d := d.drainRow e x.word x.bias r y false
        d.setMe e { d.meAt e with pipe := m.pipe.set i { x with next := x.next + 1, mismatched := x.mismatched || hit } }
      | none => d
    | _, _ => d

/-! ## Completion (R67, Table 3.7) -/

/-- A pipeline entry at place `i` can complete: a stream with every row written; M = 0 or an empty mask once its WAIT
is satisfied; K = 0 once every earlier command has also completed. -/
def meDone (i : Nat) (x : MeCmd) : Bool :=
  if mmStreams x.word then x.s.isSome && decide (x.rows.length ≤ x.next)
  else x.v.isSome && (decide (mmM x.word = 0) || decide (mmMask x.word = 0) || decide (i = 0))

/-- A K = 0 command sets its rows (Table 3.7): fill outputs and checksum are 0, and the comparator takes each row (R86,
R87). -/
def Device.initRows (d : Device) (e : Nat) (x : MeCmd) : Device :=
  let w := x.word
  if mmM w = 0 ∨ mmMask w = 0 ∨ mmStreams w then d
  else
    let (d, bias, bb) := d.readBias e w
    let y : RowRes := ⟨List.replicate 32 0, 0, bb⟩
    let (d, _) := (List.range (mmM w)).foldl (fun (s : Device × MeCmd) k =>
      let (d, hit) := s.1.compare e s.2 (mmRow w + k) y
      (d.drainRow e w bias (mmRow w + k) y true, { s.2 with mismatched := s.2.mismatched || hit })) (d, x)
    d.perf e 0x49 1

/-- ME_COMMAND_DONE: the first matrix command of the pipeline that can complete does; a test injection ends. -/
def Device.meCommandDone (d : Device) (e : Nat) : Device :=
  let m := d.meAt e
  match m.pipe.zipIdx.find? fun x => meDone x.2 x.1 with
  | none => d
  | some (x, i) =>
    if !d.meUp e then d
    else
      let d := d.initRows e x
      let d := d.setMe e { d.meAt e with pipe := m.pipe.eraseIdx i }
      let d := if x.injected then d.clearBit (Reg.meCtrl e) 2 else d
      (d.finish e fun a => decide (a.addr = x.addr) && decide (a.word = x.word)).settle e

/-- ABFT_INJ (Table 3.9): accepted in STARTUP_TEST and MAINT alone. -/
def Device.armInjection (d : Device) (e : Nat) : Device :=
  if d.chk.dev = .startupTest ∨ d.chk.dev = .maint then d.event (Reg.meCtrl e) 2 else d.raise (Reg.meErr e) 5

/-! ## Commands -/

/-- The engine is an ME. -/
abbrev isMe (e : Nat) : Bool := decide (e < 168) && decide (engKind e = 0)

/-- MM (R67). -/
def execMm (e : Nat) (s : State) : Host.Outcome State Fault Refusal := act (isMe e) (fun d => d.runMm e 0x10) s

/-- MMC (R137). -/
def execMmc (e : Nat) (s : State) : Host.Outcome State Fault Refusal := act (isMe e) (fun d => d.runMm e 0x11) s

/-- AGD (R136). -/
def execAgd (e : Nat) (s : State) : Host.Outcome State Fault Refusal :=
  act (isMe e) (fun d => d.start e 0x12 (agdCauses e) (Device.agdBody e)) s

/-- ME_STREAM_START (R67). -/
def execMeStreamStart (e : Nat) (s : State) : Host.Outcome State Fault Refusal := act (isMe e) (fun d => d.streamStart e) s

/-- ME_ROW_WRITE (R79). -/
def execMeRowWrite (e : Nat) (s : State) : Host.Outcome State Fault Refusal := act (isMe e) (fun d => d.rowWrite e) s

/-- ME_COMMAND_DONE (R67). -/
def execMeCommandDone (e : Nat) (s : State) : Host.Outcome State Fault Refusal := act (isMe e) (fun d => d.meCommandDone e) s

/-- ABFT_INJ (R87). -/
def execAbftInj (e : Nat) (s : State) : Host.Outcome State Fault Refusal :=
  act (isMe e && s.dev.cmpAlive) (fun d => d.armInjection e) s

end Sys2Proof.Machine
end

