-- ==== Sys2Proof/Machine/Vector.lean ====
section
/-! DEFINITION. The vector engine (R98, R102, R103, R138 to R140). A command reads its sources when it starts and
writes its destination when it completes. A result whose order of roundings the spec does not state is a value of
`Config.veValue` (log 10). -/

namespace Sys2Proof.Machine

/-! ## Fields (Table 5.11) -/

/-- FUNC. -/
def vFunc (w : CmdWord) : Nat := cmdFld w 8 0 8
/-- DFMT. -/
def vDfmt (w : CmdWord) : Nat := cmdFld w 9 4 4
/-- SFMT. -/
def vSfmt (w : CmdWord) : Nat := cmdFld w 9 0 4
/-- SAT. -/
def vSat (w : CmdWord) : Bool := decide (cmdFld w 10 7 1 = 1)
/-- PRED_EN. -/
def vPred (w : CmdWord) : Bool := decide (cmdFld w 10 6 1 = 1)
/-- S1MODE. -/
def vMode (w : CmdWord) : Nat := cmdFld w 10 4 2
/-- COLS. -/
def vCols (w : CmdWord) : Nat := cmdFld w 12 0 16
/-- ROWS. -/
def vRows (w : CmdWord) : Nat := cmdFld w 14 0 16
/-- SRC0_ADDR. -/
def vSrc0 (w : CmdWord) : Nat := cmdFld w 16 0 48
/-- SRC1_ADDR. -/
def vSrc1 (w : CmdWord) : Nat := cmdFld w 22 0 48
/-- DST_ADDR. -/
def vDst (w : CmdWord) : Nat := cmdFld w 28 0 48
/-- SRC0_PITCH. -/
def vP0 (w : CmdWord) : Nat := cmdFld w 34 0 32
/-- SRC1_PITCH. -/
def vP1 (w : CmdWord) : Nat := cmdFld w 38 0 32
/-- DST_PITCH. -/
def vPd (w : CmdWord) : Nat := cmdFld w 42 0 32
/-- AUX_ADDR. -/
def vAux (w : CmdWord) : Nat := cmdFld w 46 0 48
/-- IMM0 to IMM2. -/
def vImm (w : CmdWord) (i : Nat) : Nat := cmdFld w (52 + 4 * i) 0 32
/-- Bytes of a row of the predicate layout (R139). -/
def predPitch (cols : Nat) : Nat := ceilDiv cols 128 * 16

/-- Opcodes of the VE. -/
abbrev opVew : Nat := 0x20
/-- VACT. -/
abbrev opVact : Nat := 0x21
/-- VNORM. -/
abbrev opVnorm : Nat := 0x22
/-- VSMAX. -/
abbrev opVsmax : Nat := 0x23
/-- VPOOL. -/
abbrev opVpool : Nat := 0x24
/-- VRESIZE. -/
abbrev opVresize : Nat := 0x25
/-- VRED. -/
abbrev opVred : Nat := 0x26
/-- VARGMAX. -/
abbrev opVargmax : Nat := 0x27
/-- VTOPK. -/
abbrev opVtopk : Nat := 0x28
/-- VCOMPACT. -/
abbrev opVcompact : Nat := 0x29
/-- VQMX. -/
abbrev opVqmx : Nat := 0x2A

/-- The command computes in INT32 (R139). -/
def vInt (w : CmdWord) : Bool :=
  isIntFmt (vSfmt w) && (decide (opcode w = opVew) || decide (opcode w = opVpool) || decide (opcode w = opVred) ||
    decide (opcode w = opVargmax) || decide (opcode w = opVtopk) || decide (opcode w = opVcompact))

/-- A compare function of VEW, which writes a bit mask. -/
def isCmp (w : CmdWord) : Bool := decide (opcode w = opVew) && decide (8 ≤ vFunc w)

/-- The output width of a pooling: as many windows as fit into the padded row. -/
def poolOw (w : CmdWord) : Nat :=
  let iw := natBits (vImm w 2) 31 16
  (iw + natBits (vImm w 1) 23 16 + natBits (vImm w 1) 31 24 - natBits (vImm w 0) 15 8) / natBits (vImm w 0) 31 24 + 1

/-- Rows and elements per row of source 0. -/
def vSrcShape (w : CmdWord) : Nat × Nat :=
  if opcode w = opVpool then (natBits (vImm w 2) 15 0, natBits (vImm w 2) 31 16 * vCols w)
  else if opcode w = opVresize then (natBits (vImm w 0) 15 0, natBits (vImm w 0) 31 16 * vCols w)
  else (vRows w, vCols w)

/-- Bytes of a destination row. -/
def vDstBytes (w : CmdWord) : Nat :=
  let op := opcode w
  if isCmp w then ceilDiv (vCols w) 8
  else if op = opVred ∨ op = opVargmax then fmtBytes (vDfmt w) 1
  else if op = opVtopk then fmtBytes (vDfmt w) (vImm w 0)
  else if op = opVpool then fmtBytes (vDfmt w) (poolOw w * vCols w)
  else if op = opVresize then fmtBytes (vDfmt w) (natBits (vImm w 1) 15 0 * vCols w)
  else fmtBytes (vDfmt w) (vCols w)

/-! ## Legality (R115, R138, R139, Table 5.12) -/

/-- Functions that an opcode has. -/
def vFuncs (op : Nat) : Nat :=
  if op = opVew then 10 else if op = opVact then 3 else if op = opVnorm ∨ op = opVpool ∨ op = opVresize then 2
  else if op = opVred then 4 else 1

/-- SRC1_ADDR is used. -/
def usesS1 (w : CmdWord) : Bool :=
  let op := opcode w
  (decide (op = opVew) && decide (vFunc w ≠ 6) && decide (vFunc w ≠ 7) && decide (vMode w ≠ 1)) ||
  (decide (op = opVact) && decide (vMode w = 2)) || decide (op = opVnorm) || decide (op = opVcompact)

/-- AUX_ADDR is used. -/
def usesAux (w : CmdWord) : Bool :=
  let op := opcode w
  vPred w || (decide (op = opVact) && decide (vFunc w = 2)) || decide (op = opVnorm) || decide (op = opVtopk) ||
  decide (op = opVcompact) || decide (op = opVqmx)

/-- Immediate `i` is used. -/
def usesImm (w : CmdWord) (i : Nat) : Bool :=
  let op := opcode w
  if op = opVew then (decide (i = 0) && decide (vMode w = 1)) || (decide (i = 1) && decide (vFunc w = 5))
  else if op = opVact then (decide (i = 0) && decide (vMode w ≠ 2)) || decide (i = 1) || (decide (i = 2) && decide (vFunc w = 1))
  else if op = opVpool then true
  else if op = opVresize then decide (i ≤ 1)
  else decide (i = 0) && (decide (op = opVnorm) || decide (op = opVsmax) || decide (op = opVtopk))

/-- S1MODE values that an operation takes. -/
def modeOk (w : CmdWord) : Bool :=
  let op := opcode w
  if op = opVew then decide (vMode w = 0) || (decide (vFunc w ≠ 6) && decide (vFunc w ≠ 7))
  else if op = opVact then true
  else if op = opVnorm then decide (vMode w ≠ 1) else decide (vMode w = 0)

/-- A field that the operation does not use is not 0 (R138); taken as cause 0x32 (DEDUCED, log 20). SAT is no such field of
CMPGT and CMPEQ (DESIGN CHOICE, log 139). -/
def vUnused (w : CmdWord) : Bool :=
  (!usesS1 w && decide (vSrc1 w ≠ 0)) ||
  (decide (vP1 w ≠ 0) && !(decide (opcode w = opVew) && usesS1 w && decide (vMode w = 0))) ||
  (!usesAux w && decide (vAux w ≠ 0)) || ((List.range 3).any fun i => !usesImm w i && decide (vImm w i ≠ 0)) ||
  (isCmp w && decide (vPd w ≠ 0)) || !modeOk w

/-- A shape or parameter lies out of range. -/
def vShapeBad (w : CmdWord) : Bool :=
  let op := opcode w
  let z := fun n => decide (n = 0)
  z (vCols w) || z (vRows w) ||
  (vPred w && !(decide (op = opVew) || (decide (op = opVact) && decide (vFunc w ≤ 1)))) ||
  ((decide (op = opVnorm) || decide (op = opVsmax)) && decide (8192 < vCols w)) ||
  (decide (op = opVtopk) && (z (vImm w 0) || decide (64 < vImm w 0))) ||
  (decide (op = opVqmx) && (decide (vCols w % 32 ≠ 0) || decide (512 < vCols w))) ||
  (decide (op = opVpool) && (z (natBits (vImm w 0) 7 0) || z (natBits (vImm w 0) 15 8) || z (natBits (vImm w 0) 23 16) ||
    z (natBits (vImm w 0) 31 24) || z (natBits (vImm w 2) 15 0) || z (natBits (vImm w 2) 31 16) ||
    decide (natBits (vImm w 2) 31 16 + natBits (vImm w 1) 23 16 + natBits (vImm w 1) 31 24 < natBits (vImm w 0) 15 8))) ||
  (decide (op = opVresize) && (z (natBits (vImm w 0) 15 0) || z (natBits (vImm w 0) 31 16) || z (natBits (vImm w 1) 15 0) ||
    decide (vImm w 1 / 65536 ≠ 0)))

/-- The ranges that a command touches: logical address, length. -/
def vRanges (w : CmdWord) : List (Nat × Nat) :=
  let op := opcode w
  let s := vSrcShape w
  [(vSrc0 w, rowSpan s.1 (fmtBytes (vSfmt w) s.2) (vP0 w)),
   (vDst w, rowSpan (vRows w) (vDstBytes w) (if isCmp w then predPitch (vCols w) else vPd w))] ++
  (if !usesS1 w then []
   else if op = opVcompact then [(vSrc1 w, 4)]
   else if op = opVew ∧ vMode w = 0 then [(vSrc1 w, rowSpan (vRows w) (4 * vCols w) (vP1 w))]
   else [(vSrc1 w, 4 * vCols w)]) ++
  (if !usesAux w then []
   else if op = opVact ∧ vFunc w = 2 then [(vAux w, 1040)]
   else if op = opVnorm then [(vAux w, 4 * vCols w)]
   else if op = opVtopk then [(vAux w, (vRows w - 1) * 256 + 4 * vImm w 0)]
   else if op = opVqmx then [(vAux w, (vRows w - 1) * 16 + vCols w / 32)]
   else [(vAux w, rowSpan (vRows w) (ceilDiv (vCols w) 8) (predPitch (vCols w)))])

/-- Conditions of a VE command. -/
def vCauses (e : Nat) (d : Device) (w : CmdWord) : List Nat :=
  let dst := if isCmp w then 10 else vDfmt w
  cause (decide (cmdFld w 10 0 4 ≠ 0) || decide (cmdFld w 11 0 8 ≠ 0) || decide (vMode w = 3) ||
    decide (vFuncs (opcode w) ≤ vFunc w) || decide (14 ≤ vSfmt w) || decide (14 ≤ dst)) 0x01 ++
  cause ((vRanges w).any fun r => !d.reach e [.scr, .acc] r.1 r.2) 0x30 ++
  cause ((vRanges w).any (fun r => decide (r.1 % 16 ≠ 0)) || decide (vP0 w % 16 ≠ 0) || decide (vP1 w % 16 ≠ 0) ||
    decide (vPd w % 16 ≠ 0)) 0x31 ++
  cause (vShapeBad w || vUnused w) 0x32 ++
  cause (decide (vSfmt w = 13) || decide (dst = 13) ||
    (decide (opcode w = opVqmx) && !(decide (3 ≤ dst) && decide (dst ≤ 7))) ||
    (isAcc (vDst w) && (isCmp w || decide (fmtBits dst < 32))) || (decide (opcode w = opVqmx) && isAcc (vAux w))) 0x33

/-! ## Elements -/

/-- A computing word with its mark. -/
abbrev VElem := Nat × Bool

/-- An element as the computing word: INT32 or FP32 (R103, R139). -/
def widen (int : Bool) (f v : Nat) : Nat := if int then wrapN 32 (intDecode f v) else toFp32 (fmtDecode f v)

/-- A computing word in the destination format (R102). -/
def narrow (int : Bool) (t : Nat) (sat : Bool) (v : Nat) : Cvt :=
  match ffmt t with
  | some f => cvtFloat f sat (if int then .ofInt (sext 32 v) else ofFp32 v)
  | none => if int then cvtIntInt t sat (sext 32 v) else cvtInt t (ofFp32 v)

/-- The elements of a marked byte string, widened. -/
def elemsOf (int : Bool) (f n : Nat) (l : Marked) : List VElem :=
  let bs := unmark l
  (List.range n).map fun i => (widen int f (elemAt f bs i),
    (List.range (fmtBytes f 1)).any fun b => (nth l (i * fmtBits f / 8 + b) (0, false)).2)

/-- Read `n` elements at a logical address; marked ones are noted. -/
def Device.vRead (d : Device) (e : Nat) (int : Bool) (f a n : Nat) : Device × List VElem :=
  let (d, l) := d.readTag (d.phys a) (fmtBytes f n)
  let es := elemsOf int f n l
  (d.notePoison e (countBy (·.2) es), es)

/-- Read `n` computing words. -/
def Device.vWords (d : Device) (e : Nat) (int : Bool) (a n : Nat) : Device × List VElem :=
  d.vRead e int (if int then 8 else 0) a n

/-- Predicate bits of a row (R139). -/
def Device.vPredRow (d : Device) (e a n : Nat) : Device × List (Bool × Bool) :=
  let (d, l) := d.readTag (d.phys a) (ceilDiv n 8)
  let bs := (List.range n).map fun j =>
    let x := nth l (j / 8) (0, false)
    (x.1.getLsbD (j % 8), x.2)
  (d.notePoison e (countBy (·.2) bs), bs)

/-! ## Collecting results -/

/-- The device after its reads, the bytes to write, conversions of NaN to a format without NaN. -/
structure VAcc where
  dev : Device
  out : List OutByte
  inv : Nat

/-- A byte of which only the bits of `mask` are written takes the rest from memory. -/
def VAcc.part (x : VAcc) (a mask v : Nat) (bad : Bool) : VAcc :=
  if mask = 0 then x
  else if mask = 0xFF then { x with out := x.out ++ [⟨a, BitVec.ofNat 8 v, bad⟩] }
  else
    let r := x.dev.readMem (x.dev.phys a) 1
    let old := leNat r.bytes
    { x with dev := r.dev
             out := x.out ++ [⟨a, BitVec.ofNat 8 ((old &&& (0xFF ^^^ mask)) ||| (v &&& mask)), bad || r.poison⟩] }

/-- Write elements, from index 0 of a row at logical address `a`; none is not written. -/
def VAcc.elems (x : VAcc) (int : Bool) (t : Nat) (sat : Bool) (a : Nat) (l : List (Option VElem)) : VAcc :=
  let cs := l.map fun o => o.map fun v => (narrow int t sat v.1, v.2)
  let x := { x with inv := x.inv + countBy (fun o => match o with | some c => c.1.invalid | none => false) cs }
  if fmtBits t = 4 then
    (List.range (ceilDiv l.length 2)).foldl (fun x j =>
      let lo := nth cs (2 * j) none
      let hi := nth cs (2 * j + 1) none
      let code := fun (o : Option (Cvt × Bool)) => match o with | some c => c.1.code % 16 | none => 0
      let bad := fun (o : Option (Cvt × Bool)) => match o with | some c => c.2 | none => false
      x.part (a + j) ((if lo.isSome then 0x0F else 0) + (if hi.isSome then 0xF0 else 0)) (code lo + 16 * code hi) (bad lo || bad hi)) x
  else
    let n := fmtBits t / 8
    (cs.zipIdx).foldl (fun x o => match o.1 with
      | none => x
      | some c => { x with out := x.out ++ ((toLe n c.1.code).zipIdx).map fun b => ⟨a + n * o.2 + b.2, b.1, c.2⟩ }) x

/-- Write a bit mask in the predicate layout; only the elements' own bits change. -/
def VAcc.mask (x : VAcc) (a : Nat) (l : List (Option (Bool × Bool))) : VAcc :=
  (List.range (ceilDiv l.length 8)).foldl (fun x j =>
    let byte := (List.range 8).map fun i => nth l (8 * j + i) none
    let m := (byte.zipIdx).foldl (fun s o => if o.1.isSome then s + 2 ^ o.2 else s) 0
    let v := (byte.zipIdx).foldl (fun s o => match o.1 with | some (true, _) => s + 2 ^ o.2 | _ => s) 0
    x.part (a + j) m v (byte.any fun o => match o with | some (_, b) => b | none => false)) x

/-- Write INT32 words. -/
def VAcc.ints (x : VAcc) (a : Nat) (l : List (Int × Bool)) : VAcc :=
  x.elems true 8 false a (l.map fun v => some (wrapN 32 v.1, v.2))

/-! ## Arithmetic (R93, R94, R103) -/

/-- A value the spec does not state, from the opcode and function, a place and the operands. -/
def vFree (w : CmdWord) (i : Nat) (l : List Nat) : Nat :=
  (Config.veValue (65536 * (256 * opcode w + vFunc w) + i) (l.map word)).toNat

/-- a < b of computing words; NaN is below nothing. -/
def vLt (int : Bool) (a b : Nat) : Bool :=
  if int then decide (sext 32 a < sext 32 b) else (ofFp32 a).lt (ofFp32 b)

/-- NaN of a computing word. -/
def vNan (int : Bool) (a : Nat) : Bool := !int && (ofFp32 a).isNan

/-- The larger (or smaller) of two. The result for one NaN operand, and which zero of ±0, are not stated. -/
def vSel (w : CmdWord) (int big : Bool) (a b : Nat) : Nat :=
  if vNan int a && vNan int b then 0x7FC00000
  else if vNan int a || vNan int b then vFree w 0 [a, b]
  else if vLt int a b then (if big then b else a)
  else if vLt int b a then (if big then a else b)
  else if Config.tieUp (opcode w) [a, b] then a else b

/-- Sum, product and fused multiply-add of computing words. -/
def vAdd (int : Bool) (a b : Nat) : Nat :=
  if int then (a + b) % 2 ^ 32 else toFp32 ((ofFp32 a).add (ofFp32 b))
/-- The difference. -/
def vSub (int : Bool) (a b : Nat) : Nat :=
  if int then wrapN 32 ((a : Int) - b) else toFp32 ((ofFp32 a).add (ofFp32 b).neg)
/-- The product. -/
def vMul (int : Bool) (a b : Nat) : Nat :=
  if int then (a * b) % 2 ^ 32 else toFp32 ((ofFp32 a).mul (ofFp32 b))
/-- a × b + c with one rounding. -/
def vFma (int : Bool) (a b c : Nat) : Nat :=
  if int then (a * b + c) % 2 ^ 32 else toFp32 (((ofFp32 a).mul (ofFp32 b)).add (ofFp32 c))
/-- The magnitude; of the most negative INT32 it wraps. -/
def vAbs (int : Bool) (a : Nat) : Nat :=
  if int then wrapN 32 (sext 32 a).natAbs else toFp32 (ofFp32 a).abs

/-- VEW functions 0x00 to 0x07. -/
def vewOp (w : CmdWord) (a b : Nat) : Nat :=
  let int := vInt w
  let f := vFunc w
  if f = 0 then vAdd int a b else if f = 1 then vSub int a b else if f = 2 then vMul int a b
  else if f = 3 then vSel w int true a b else if f = 4 then vSel w int false a b
  else if f = 5 then vFma int a b (vImm w 1) else if f = 6 then a else vAbs int a

/-- A VACT table: its 1,040 bytes with marks. -/
def tblWord (l : Marked) (o : Nat) : VElem :=
  let s := (l.drop o).take 4
  (leNat (unmark s), anyMark s)

/-- TABLE (Table 5.12): u, the segment, t and Horner's rule. -/
def vTable (w : CmdWord) (l : Marked) (x : Nat) : VElem :=
  let lo := tblWord l 0
  let inv := tblWord l 4
  let u := vMul false (vSub false x lo.1) inv.1
  if vNan false u then (vFree w 1 [x, lo.1, inv.1], lo.2 || inv.2)
  else
    let i : Nat := match ofFp32 u with
      | .inf s => if s then 0 else 63
      | v => (clampI 0 63 v.floor).toNat
    let t0 := vSub false u (toFp32 (.ofInt i))
    let t := if vLt false t0 0 then 0 else if vLt false 0x3F800000 t0 then 0x3F800000 else t0
    let c := fun j => tblWord l (16 + 16 * i + 4 * j)
    (vFma false (vFma false (vFma false (c 3).1 t (c 2).1) t (c 1).1) t (c 0).1,
     lo.2 || inv.2 || (c 0).2 || (c 1).2 || (c 2).2 || (c 3).2)

/-- VACT on one element with its scale. -/
def vactOp (w : CmdWord) (l : Marked) (a s : VElem) : VElem :=
  let x := vFma false a.1 s.1 (vImm w 1)
  let bad := a.2 || s.2
  let r := fun y => vSel w false true y 0
  if vFunc w = 0 then (r x, bad)
  else if vFunc w = 1 then (vSel w false false (r x) (vImm w 2), bad)
  else let y := vTable w l x; (y.1, bad || y.2)

/-- A magnitude in units of 2^-149. -/
def Fl.units : Fl → Nat
  | .fin _ m e => (scaleTo false m e (-149)).natAbs
  | _ => 0

/-- Every partial sum of finite FP32 values is exact in FP32, in whatever order they are added. -/
def sumExact (l : List Fl) : Bool :=
  let v := l.map Fl.units
  let t := v.foldl (· + ·) 0
  decide (t ≤ 2 ^ 24 * v.foldl Nat.gcd (2 ^ 300)) && decide (t ≤ (2 ^ 24 - 1) * 2 ^ 253)

/-- The sum of FP32 values where it depends neither on the order of the additions nor on their roundings: a NaN, opposite
infinities, one infinity among values that cannot overflow, or exact sums (R93, R94, R103). -/
def fixedSum (l : List Fl) : Option Fl :=
  if l.any Fl.isNan then some .nan
  else match l.contains (.inf false), l.contains (.inf true) with
    | true, true => some .nan
    | false, false => if sumExact l && l.any (fun x => decide (toFp32 x ≠ 0x80000000)) then some (flSum l) else none
    | pos, _ => if (l.map Fl.units).foldl (· + ·) 0 ≤ 2 ^ 276 then some (.inf (!pos)) else none

/-- A value divided by a count, rounded once when it is narrowed. -/
def Fl.divNat (x : Fl) (n : Nat) : Fl :=
  match x with
  | .fin s m e => .fin s (2 * (m * 2 ^ 64 / n) + b2n (decide (m * 2 ^ 64 % n ≠ 0))) (e - 65)
  | y => y

/-- Sum of a row: of one element it is the element, of two one rounding; in floating point the order beyond that is not
stated. -/
def vSum (w : CmdWord) (int : Bool) (l : List Nat) : Nat :=
  if int then l.foldl (vAdd true) 0
  else match l with
    | [a] => if vNan false a then 0x7FC00000 else a
    | [a, b] => vAdd false a b
    | l => match fixedSum (l.map ofFp32) with
      | some y => toFp32 y
      | none => vFree w 2 l

/-- Sum of the squares of a row: an infinite element makes it infinite; where the squares and their sums are exact it is
their sum; else the roundings are not stated. -/
def vSumSq (w : CmdWord) (l : List Nat) : Nat :=
  match l with
  | [a] => vMul false a a
  | l =>
    let v := l.map ofFp32
    let sq := v.map fun x => rnd32 (x.mul x)
    if v.any Fl.isNan then 0x7FC00000
    else if v.any fun x => !x.isFin then 0x7F800000
    else if (v.zip sq).all (fun y => decide (toFp32 ((y.1.mul y.1).add y.2.neg) = 0)) && sumExact sq then toFp32 (flSum sq)
    else vFree w 3 l

/-- VRED on a row. -/
def vredOp (w : CmdWord) (l : List Nat) : Nat :=
  let int := vInt w
  if vFunc w = 0 then vSum w int l
  else if vFunc w = 3 then
    if int then l.foldl (fun s a => vFma true a a s) 0 else vSumSq w l
  else match l with
    | [] => 0
    | a :: t => t.foldl (vSel w int (decide (vFunc w = 1))) a

/-- Places of a row in descending order of value, ties to the lower index, NaN left out. -/
def ranked (int : Bool) (l : List Nat) : List (Nat × Nat) :=
  ((l.zipIdx).filter fun x => !vNan int x.1).insertionSort fun x y => vLt int x.1 y.1 = false

/-- AVG of pooling taps: one tap is its own average; in INT32 an exact quotient; in FP32 a sum that no rounding touches,
divided with one rounding; else not stated. -/
def vAvg (w : CmdWord) (int : Bool) (l : List Nat) : Nat :=
  match l with
  | [] => vFree w 4 []
  | [a] => if vNan int a then 0x7FC00000 else a
  | l =>
    let s := sext 32 (l.foldl (vAdd true) 0)
    if int then (if s % l.length = 0 then wrapN 32 (s / l.length) else vFree w 4 l)
    else match fixedSum (l.map ofFp32) with
      | some y => toFp32 (y.divNat l.length)
      | none => vFree w 4 l

/-- A pooling window (Table 5.12): the taps that are no padding. -/
def poolTaps (w : CmdWord) (rows : List (List VElem)) (oy ox c : Nat) : List VElem :=
  let kh := natBits (vImm w 0) 7 0
  let kw := natBits (vImm w 0) 15 8
  let sy := natBits (vImm w 0) 23 16
  let sx := natBits (vImm w 0) 31 24
  let pt := natBits (vImm w 1) 7 0
  let pl := natBits (vImm w 1) 23 16
  let ih := natBits (vImm w 2) 15 0
  let iw := natBits (vImm w 2) 31 16
  ((List.range kh).flatMap fun ky => (List.range kw).map fun kx => (oy * sy + ky, ox * sx + kx)).filterMap fun p =>
    if p.1 < pt ∨ pt + ih ≤ p.1 ∨ p.2 < pl ∨ pl + iw ≤ p.2 then none
    else some (nth (nth rows (p.1 - pt) []) ((p.2 - pl) * vCols w + c) (0, false))

/-- VPOOL on one output. -/
def vpoolOp (w : CmdWord) (taps : List VElem) : VElem :=
  let l := taps.map (·.1)
  let v := if vFunc w = 1 then vAvg w (vInt w) l
    else match l with | [] => vFree w 5 [] | a :: t => t.foldl (vSel w (vInt w) true) a
  (v, taps.any (·.2))

/-- The source coordinate of output `o`, in units of 1 / (2·out), and its neighbours (Table 5.12). -/
def resizeAt (o n out : Nat) : Int := (2 * o + 1) * n - (out : Int)

/-- NEAREST: the source index; which way a tie goes is not stated. -/
def nearestIdx (o n out : Nat) : Nat :=
  let c := resizeAt o n out
  let f := c / (2 * out : Nat)
  let r := c % (2 * out : Nat)
  let i := if r < (out : Int) then f else if (out : Int) < r then f + 1 else if Config.tieUp opVresize [o, n, out] then f + 1 else f
  (clampI 0 (n - 1 : Nat) i).toNat

/-- The source indices around a coordinate clamped to the input (R196, step 4), and how far it lies past the first, in 1/(2 out). -/
def lerpAt (o n out : Nat) : List Nat × Nat :=
  let c := (clampI 0 (2 * out * (n - 1) : Nat) (resizeAt o n out)).toNat
  let f := c / (2 * out)
  let r := c % (2 * out)
  if r = 0 then ([f], 0) else ([f, f + 1], r)

/-- BILINEAR: the value at whole coordinates is the element; elsewhere a NaN operand gives NaN (R94), and the roundings are
not stated. -/
def bilinear (w : CmdWord) (at_ : Nat → Nat → VElem) (oy ox ih iw oh ow : Nat) : VElem :=
  let (ys, ry) := lerpAt oy ih oh
  let (xs, rx) := lerpAt ox iw ow
  let t := ys.flatMap fun y => xs.map fun x => at_ y x
  match t with
  | [v] => v
  | _ => (if t.any (fun v => vNan false v.1) then 0x7FC00000 else vFree w 6 (t.map (·.1) ++ [ry, rx, oh, ow]), t.any (·.2))

/-- E8M0 exponent of the largest normal (R98). -/
def emaxOf (t : Nat) : Int := if t = 3 then 8 else if t = 4 then 15 else if t = 5 then 4 else 2

/-- The exponent of the largest magnitude of a block; none for a block of zeros (R98). -/
def amaxExp (l : List Fl) : Option Int :=
  let m := l.foldl (fun a x => if a.lt x.abs then x.abs else a) Fl.zero
  match m with
  | .fin _ m e => if m = 0 then none else some (flog2 m e)
  | _ => none

/-- VQMX on a block: the scale code and the element codes (R98). -/
def vqmxBlock (t : Nat) (l : List Nat) : Nat × List Nat :=
  let v := l.map ofFp32
  if !v.all Fl.isFin then (0xFF, l.map fun _ => 0)
  else match amaxExp v, ffmt t with
    | some k, some f =>
      let x := clampI (-127) 127 (k - emaxOf t)
      ((x + 127).toNat, v.map fun y => (cvtFloat f true (y.shift (-x))).code)
    | _, _ => (127, l.map fun _ => 0)

/-! ## The operations, row by row -/

/-- Row `r` of source 0. -/
def Device.vRow (d : Device) (e : Nat) (w : CmdWord) (r : Nat) : Device × List VElem :=
  d.vRead e (vInt w) (vSfmt w) (vSrc0 w + r * vP0 w) (vSrcShape w).2

/-- Source 1 of row `r` under S1MODE, one word per column. -/
def Device.vS1 (d : Device) (e : Nat) (w : CmdWord) (r : Nat) : Device × List VElem :=
  if !usesS1 w then (d, List.replicate (vCols w) (vImm w 0, false))
  else if vMode w = 0 then d.vWords e (vInt w) (vSrc1 w + r * vP1 w) (vCols w)
  else d.vWords e (vInt w) (vSrc1 w) (vCols w)

/-- The predicate of row `r`; all true without PRED_EN. -/
def Device.vPreds (d : Device) (e : Nat) (w : CmdWord) (r : Nat) : Device × List (Bool × Bool) :=
  if vPred w then d.vPredRow e (vAux w + r * predPitch (vCols w)) (vCols w)
  else (d, List.replicate (vCols w) (true, false))

/-- Elements under a predicate. -/
def underPred {α : Type} (l : List (α × Bool)) (p : List (Bool × Bool)) : List (Option (α × Bool)) :=
  (l.zip p).map fun x => if x.2.1 then some (x.1.1, x.1.2 || x.2.2) else none

/-- VEW, row `r`. -/
def vewRow (e : Nat) (w : CmdWord) (r : Nat) (x : VAcc) : VAcc :=
  let (d, a) := x.dev.vRow e w r
  let (d, b) := d.vS1 e w r
  let (d, p) := d.vPreds e w r
  let x := { x with dev := d }
  let int := vInt w
  if isCmp w then
    let c := (a.zip b).map fun y =>
      (if vFunc w = 8 then vLt int y.2.1 y.1.1
       else !vNan int y.1.1 && !vNan int y.2.1 && !vLt int y.1.1 y.2.1 && !vLt int y.2.1 y.1.1, y.1.2 || y.2.2)
    x.mask (vDst w + r * predPitch (vCols w)) (underPred c p)
  else
    let c := (a.zip b).map fun y => (vewOp w y.1.1 y.2.1, y.1.2 || y.2.2)
    x.elems int (vDfmt w) (vSat w) (vDst w + r * vPd w) (underPred c p)

/-- VACT, row `r`. -/
def vactRow (e : Nat) (w : CmdWord) (tbl : Marked) (r : Nat) (x : VAcc) : VAcc :=
  let (d, a) := x.dev.vRow e w r
  let (d, s) := if usesS1 w then d.vWords e false (vSrc1 w) (vCols w) else (d, List.replicate (vCols w) (vImm w 0, false))
  let (d, p) := d.vPreds e w r
  let c := (a.zip s).map fun y => vactOp w tbl y.1 y.2
  ({ x with dev := d } : VAcc).elems false (vDfmt w) (vSat w) (vDst w + r * vPd w) (underPred c p)

/-- VNORM and VSMAX on column `j` of a row: a NaN among the operands gives NaN (R94), and the softmax of a single finite
column is 1; beyond that the spec states the function and not its roundings. -/
def vnormOp (w : CmdWord) (j : Nat) (l : List Nat) (s t : Nat) : Nat :=
  let x := vMul false (nth l 0 0) (vImm w 0)
  if (l ++ [vImm w 0]).any (vNan false) || (decide (opcode w ≠ opVsmax) && (vNan false s || vNan false t)) then 0x7FC00000
  else if opcode w = opVsmax ∧ l.length = 1 then (if (ofFp32 x).isFin then 0x3F800000 else 0x7FC00000)
  else vFree w (7 + j) (l ++ [s, t, vImm w 0])

/-- VNORM and VSMAX, row `r`. -/
def vnormRow (e : Nat) (w : CmdWord) (r : Nat) (x : VAcc) : VAcc :=
  let (d, a) := x.dev.vRow e w r
  let (d, s) := if usesS1 w then d.vWords e false (vSrc1 w) (vCols w) else (d, [])
  let (d, t) := if usesAux w then d.vWords e false (vAux w) (vCols w) else (d, [])
  let bad := a.any (·.2) || s.any (·.2) || t.any (·.2)
  let l := a.map (·.1)
  let c := (List.range (vCols w)).map fun j =>
    some (vnormOp w j l (nth s j (0, false)).1 (nth t j (0, false)).1, bad)
  ({ x with dev := d } : VAcc).elems false (vDfmt w) (vSat w) (vDst w + r * vPd w) c

/-- Every row of source 0. -/
def Device.vAll (d : Device) (e : Nat) (w : CmdWord) : Device × List (List VElem) :=
  (List.range (vSrcShape w).1).foldl (fun (s : Device × List (List VElem)) r =>
    let (d, a) := s.1.vRow e w r
    (d, s.2 ++ [a])) (d, [])

/-- VPOOL: every output row. -/
def vpoolAll (e : Nat) (w : CmdWord) (x : VAcc) : VAcc :=
  let (d, rows) := x.dev.vAll e w
  (List.range (vRows w)).foldl (fun x oy =>
    let c := (List.range (poolOw w * vCols w)).map fun i => some (vpoolOp w (poolTaps w rows oy (i / vCols w) (i % vCols w)))
    x.elems (vInt w) (vDfmt w) (vSat w) (vDst w + oy * vPd w) c) { x with dev := d }

/-- VRESIZE: every output row. -/
def vresizeAll (e : Nat) (w : CmdWord) (x : VAcc) : VAcc :=
  let (d, rows) := x.dev.vAll e w
  let ih := natBits (vImm w 0) 15 0
  let iw := natBits (vImm w 0) 31 16
  let ow := natBits (vImm w 1) 15 0
  (List.range (vRows w)).foldl (fun x oy =>
    let c := (List.range (ow * vCols w)).map fun i =>
      let ox := i / vCols w
      let ch := i % vCols w
      let at_ := fun y z => nth (nth rows y []) (z * vCols w + ch) (0, false)
      some (if vFunc w = 0 then at_ (nearestIdx oy ih (vRows w)) (nearestIdx ox iw ow)
        else bilinear w at_ oy ox ih iw (vRows w) ow)
    x.elems false (vDfmt w) (vSat w) (vDst w + oy * vPd w) c) { x with dev := d }

/-- VRED, row `r`. -/
def vredRow (e : Nat) (w : CmdWord) (r : Nat) (x : VAcc) : VAcc :=
  let (d, a) := x.dev.vRow e w r
  ({ x with dev := d } : VAcc).elems (vInt w) (vDfmt w) (vSat w) (vDst w + r * vPd w)
    [some (vredOp w (a.map (·.1)), a.any (·.2))]

/-- VARGMAX, row `r`: an INT32 index. -/
def vargmaxRow (e : Nat) (w : CmdWord) (r : Nat) (x : VAcc) : VAcc :=
  let (d, a) := x.dev.vRow e w r
  let i : Int := match ranked (vInt w) (a.map (·.1)) with | y :: _ => y.2 | [] => -1
  ({ x with dev := d } : VAcc).elems true (vDfmt w) (vSat w) (vDst w + r * vPd w) [some (wrapN 32 i, a.any (·.2))]

/-- VTOPK, row `r`. -/
def vtopkRow (e : Nat) (w : CmdWord) (r : Nat) (x : VAcc) : VAcc :=
  let (d, a) := x.dev.vRow e w r
  let bad := a.any (·.2)
  let k := vImm w 0
  let l := (ranked (vInt w) (a.map (·.1))).take k
  let vals := (List.range k).map fun j => some ((nth (l.map (·.1)) j 0), bad)
  let idx := (List.range k).map fun j => ((match l[j]? with | some y => (y.2 : Int) | none => -1), bad)
  (({ x with dev := d } : VAcc).elems (vInt w) (vDfmt w) (vSat w) (vDst w + r * vPd w) vals).ints (vAux w + r * 256) idx

/-- VCOMPACT: the selected rows densely, then zeros, and the count. -/
def vcompactAll (e : Nat) (w : CmdWord) (x : VAcc) : VAcc :=
  let (d, rows) := x.dev.vAll e w
  let (d, ps) := (List.range (vRows w)).foldl (fun (s : Device × List (Bool × Bool)) r =>
    let (d, p) := s.1.vPredRow e (vAux w + r * predPitch (vCols w)) 1
    (d, s.2 ++ p)) (d, [])
  let sel := ((rows.zip ps).filter fun y => y.2.1).map (·.1)
  let x := (List.range (vRows w)).foldl (fun x r =>
    let row := nth sel r (List.replicate (vCols w) (0, false))
    x.elems (vInt w) (vDfmt w) (vSat w) (vDst w + r * vPd w) (row.map some)) { x with dev := d }
  x.ints (vSrc1 w) [((sel.length : Int), ps.any (·.2))]

/-- VQMX, row `r` (R98). -/
def vqmxRow (e : Nat) (w : CmdWord) (r : Nat) (x : VAcc) : VAcc :=
  let (d, a) := x.dev.vRow e w r
  let bad := a.any (·.2)
  let bs := (List.range (vCols w / 32)).map fun b => vqmxBlock (vDfmt w) (((a.map (·.1)).drop (32 * b)).take 32)
  let codes := bs.flatMap (·.2)
  let els := ((packElems (vDfmt w) codes).zipIdx).map fun v => (⟨vDst w + r * vPd w + v.2, v.1, bad⟩ : OutByte)
  let scs := ((bs.map (·.1)).zipIdx).map fun v => (⟨vAux w + r * 16 + v.2, BitVec.ofNat 8 v.1, bad⟩ : OutByte)
  { x with dev := d, out := x.out ++ els ++ scs }

/-! ## Start and completion -/

/-- Run `row` over every row. -/
def overRows (w : CmdWord) (row : Nat → VAcc → VAcc) (x : VAcc) : VAcc := (List.range (vRows w)).foldl (fun x r => row r x) x

/-- A VE command starts: it reads and computes; its results wait for its completion. -/
def Device.veBody (e : Nat) (f : CmdWord → VAcc → VAcc) (d : Device) (h : FCmd) (w : CmdWord) : Device :=
  let x := f w ⟨d, [], 0⟩
  let d := x.dev.perf e 9 x.inv
  let d := d.modEng e fun g => { g with veOut := x.out }
  d.push e ⟨h.addr, w, 0, 0, [], 0, false, h.tag, 0⟩

/-- The VE command of opcode `op` at the head of engine `e` starts. -/
def Device.runVe (d : Device) (e op : Nat) (f : CmdWord → VAcc → VAcc) : Device :=
  d.start e op (vCauses e) (Device.veBody e f)

/-- Bytes to write as runs of rising addresses. -/
def runsOf : List OutByte → List (Nat × Marked)
  | [] => []
  | b :: t =>
    match runsOf t with
    | (a, l) :: r => if a = b.addr + 1 then (b.addr, (b.val, b.poison) :: l) :: r else (b.addr, [(b.val, b.poison)]) :: (a, l) :: r
    | [] => [(b.addr, [(b.val, b.poison)])]

/-- Write the results of engine `e`. -/
def Device.veWrite (d : Device) (e : Nat) (out : List OutByte) : Device :=
  (runsOf out).foldl (fun d r => d.engWrite e (d.phys r.1) r.2) d

/-- VE_COMMAND_COMPLETE: the last destination element is written (Table 5.1). -/
def Device.veComplete (d : Device) (e : Nat) : Device :=
  let g := d.engAt e
  if g.fenced || g.stopped || d.tck.abandoning || !(g.acts.any fun a => !a.done) then d
  else
    let d := (d.veWrite e g.veOut).modEng e fun g => { g with veOut := [] }
    (d.finish e fun _ => true).settle e

/-! ## Commands -/

/-- The engine is a VE. -/
abbrev isVe (e : Nat) : Bool := decide (e < 168) && decide (engKind e = 1)

/-- VEW (R140). -/
def execVew (e : Nat) (s : State) : Host.Outcome State Fault Refusal :=
  act (isVe e) (fun d => d.runVe e opVew fun w => overRows w (vewRow e w)) s

/-- VACT (R140). -/
def execVact (e : Nat) (s : State) : Host.Outcome State Fault Refusal :=
  act (isVe e) (fun d => d.runVe e opVact fun w x =>
    let (d, t) := if vFunc w = 2 then x.dev.readTag (x.dev.phys (vAux w)) 1040 else (x.dev, [])
    overRows w (vactRow e w t) { x with dev := d }) s

/-- VNORM (R140). -/
def execVnorm (e : Nat) (s : State) : Host.Outcome State Fault Refusal :=
  act (isVe e) (fun d => d.runVe e opVnorm fun w => overRows w (vnormRow e w)) s

/-- VSMAX (R140). -/
def execVsmax (e : Nat) (s : State) : Host.Outcome State Fault Refusal :=
  act (isVe e) (fun d => d.runVe e opVsmax fun w => overRows w (vnormRow e w)) s

/-- VPOOL (R140). -/
def execVpool (e : Nat) (s : State) : Host.Outcome State Fault Refusal :=
  act (isVe e) (fun d => d.runVe e opVpool (vpoolAll e)) s

/-- VRESIZE (R140). -/
def execVresize (e : Nat) (s : State) : Host.Outcome State Fault Refusal :=
  act (isVe e) (fun d => d.runVe e opVresize (vresizeAll e)) s

/-- VRED (R140). -/
def execVred (e : Nat) (s : State) : Host.Outcome State Fault Refusal :=
  act (isVe e) (fun d => d.runVe e opVred fun w => overRows w (vredRow e w)) s

/-- VARGMAX (R140). -/
def execVargmax (e : Nat) (s : State) : Host.Outcome State Fault Refusal :=
  act (isVe e) (fun d => d.runVe e opVargmax fun w => overRows w (vargmaxRow e w)) s

/-- VTOPK (R140). -/
def execVtopk (e : Nat) (s : State) : Host.Outcome State Fault Refusal :=
  act (isVe e) (fun d => d.runVe e opVtopk fun w => overRows w (vtopkRow e w)) s

/-- VCOMPACT (R140). -/
def execVcompact (e : Nat) (s : State) : Host.Outcome State Fault Refusal :=
  act (isVe e) (fun d => d.runVe e opVcompact (vcompactAll e)) s

/-- VQMX (R98). -/
def execVqmx (e : Nat) (s : State) : Host.Outcome State Fault Refusal :=
  act (isVe e) (fun d => d.runVe e opVqmx fun w => overRows w (vqmxRow e w)) s

/-- VE_COMMAND_COMPLETE (R140). -/
def execVeCommandComplete (e : Nat) (s : State) : Host.Outcome State Fault Refusal :=
  act (isVe e) (fun d => d.veComplete e) s

end Sys2Proof.Machine
end

