-- ==== Sys2Proof/Machine/Movers.lean ====
section
/-! DEFINITION. Fetch and store engines (R125 to R134): transfers in 64-byte requests, conversion, corner turns, gathers,
remote requests (R186), and page decodes that hold requests (R151). -/

namespace Sys2Proof.Machine

/-! ## Fields (Tables 5.8 and 5.9) -/

/-- SRC_ADDR (COPY, FETCH2D, STORE, STORE_T), INDEX_ADDR of a GATHER. -/
def mSrc (w : CmdWord) : Nat := cmdFld w 8 0 48
/-- DST_ADDR. -/
def mDst (w : CmdWord) : Nat := cmdFld w 14 0 48
/-- COLS, ROW_BYTES of FETCH2D. -/
def mCols (w : CmdWord) : Nat := cmdFld w 20 0 16
/-- ROWS. -/
def mRows (w : CmdWord) : Nat := cmdFld w 22 0 16
/-- SRC_PITCH. -/
def mSp (w : CmdWord) : Nat := cmdFld w 24 0 32
/-- DST_PITCH. -/
def mDp (w : CmdWord) : Nat := cmdFld w 28 0 32
/-- TRANS of a FETCH2D. -/
def mTrans (w : CmdWord) : Bool := decide (cmdFld w 32 0 1 = 1)
/-- The unit of a transpose in bytes. -/
def mTu (w : CmdWord) : Nat := if opcode w = 0x31 then 2 + 2 * cmdFld w 32 1 1 else 2 + 2 * cmdFld w 33 1 1
/-- SFMT of a store. -/
def sSfmt (w : CmdWord) : Nat := cmdFld w 32 0 4
/-- DFMT of a store. -/
def sDfmt (w : CmdWord) : Nat := cmdFld w 32 4 4
/-- SAT of a store. -/
def sSat (w : CmdWord) : Bool := decide (cmdFld w 33 0 1 = 1)
/-- Bytes of a converted row of a store. -/
def sRowBytes (w : CmdWord) : Nat := fmtBytes (sDfmt w) (mCols w)
/-- TABLE_BASE. -/
def gTable (w : CmdWord) : Nat := cmdFld w 20 0 48
/-- ROW_BYTES of a GATHER. -/
def gBytes (w : CmdWord) : Nat := cmdFld w 26 0 16
/-- COUNT. -/
def gCount (w : CmdWord) : Nat := cmdFld w 28 0 16
/-- TABLE_PITCH. -/
def gPitch (w : CmdWord) : Nat := cmdFld w 30 0 32
/-- DST_PITCH of a GATHER. -/
def gDp (w : CmdWord) : Nat := cmdFld w 34 0 32
/-- TABLE_LEN. -/
def gLen (w : CmdWord) : Nat := cmdFld w 38 0 32

/-! ## Legality -/

/-- Reads of an FE (Table 5.3). -/
abbrev feReads : List Region := [.dram, .fbuf, .facetScr, .remote]
/-- Writes of an FE. -/
abbrev feWrites : List Region := [.scr, .fbuf]
/-- Reads of an SE. -/
abbrev seReads : List Region := [.scr, .acc]
/-- Writes of an SE. -/
abbrev seWrites : List Region := [.dram, .fbuf, .facetScr, .remote]

/-- A value is no multiple of 16. -/
def un16 (n : Nat) : Bool := decide (n % 16 ≠ 0)

/-- Conditions of COPY. -/
def copyCauses (e : Nat) (d : Device) (w : CmdWord) : List Nat :=
  let n := cmdFld w 20 0 32
  cause (!zeroFrom w 24) 0x01 ++
  cause (!d.reach e feReads (mSrc w) n || !d.reach e feWrites (mDst w) n) 0x30 ++
  cause (un16 (mSrc w) || un16 (mDst w)) 0x31 ++ cause (decide (n = 0)) 0x32

/-- Conditions of FETCH2D. -/
def fetch2dCauses (e : Nat) (d : Device) (w : CmdWord) : List Nat :=
  let b := mCols w
  let dst := if mTrans w then rowSpan (b / mTu w) (mRows w * mTu w) (mDp w) else rowSpan (mRows w) b (mDp w)
  cause (!zeroFrom w 33 || decide (cmdFld w 32 2 6 ≠ 0)) 0x01 ++
  cause (!d.reach e feReads (mSrc w) (rowSpan (mRows w) b (mSp w)) || !d.reach e feWrites (mDst w) dst) 0x30 ++
  cause (un16 (mSrc w) || un16 (mDst w) || un16 (mSp w) || un16 (mDp w)) 0x31 ++
  cause (decide (b = 0) || decide (mRows w = 0) || (mTrans w && decide (b % mTu w ≠ 0))) 0x32

/-- Conditions of GATHER. -/
def gatherCauses (e : Nat) (d : Device) (w : CmdWord) : List Nat :=
  cause (!zeroFrom w 42) 0x01 ++
  cause (!d.reach e [.scr] (mSrc w) (4 * gCount w) || !d.reach e feReads (gTable w) (gLen w * gPitch w) ||
    !d.reach e feWrites (mDst w) (rowSpan (gCount w) (gBytes w) (gDp w))) 0x30 ++
  cause (un16 (mSrc w) || un16 (mDst w) || un16 (gTable w) || un16 (gPitch w) || un16 (gDp w)) 0x31 ++
  cause (decide (gBytes w = 0) || decide (4096 < gBytes w) || decide (gCount w = 0) || decide (gLen w = 0)) 0x32

/-- Geometry of a transfer: start of row 0, pitch, bytes per row and rows, at source lines for COPY and FETCH2D and
at destination lines for the others (DEDUCED, log 21). -/
def geom (w : CmdWord) : Nat × Nat × Nat × Nat :=
  let op := opcode w
  if op = 0x30 then (mSrc w, 0, cmdFld w 20 0 32, 1)
  else if op = 0x31 then (mSrc w, mSp w, mCols w, mRows w)
  else if op = 0x32 then (mDst w, gDp w, gBytes w, gCount w)
  else if op = 0x40 then (mDst w, mDp w, sRowBytes w, mRows w)
  else if op = 0x41 then (mDst w, mDp w, mRows w * mTu w, sRowBytes w / mTu w)
  else (0, 0, 0, 0)

/-- A store writes into a protected section or a view of a Facet's DRAM (R169, R199, R205). -/
def Device.storeForbidden (d : Device) (w : CmdWord) : Bool :=
  let (x, p, b, n) := geom w
  !isRemote x && decide (x < 0x400000000) &&
  (d.protRanges ++ d.viewRanges).any fun r => rowsTouch (x % 2 ^ 32) n b p r.1 r.2

/-- Conditions of STORE and STORE_T. -/
def storeCauses (e : Nat) (d : Device) (w : CmdWord) : List Nat :=
  let t := decide (opcode w = 0x41)
  let s := sSfmt w
  let f := sDfmt w
  let (x, p, b, n) := geom w
  cause (!zeroFrom w 34 || decide (cmdFld w 33 2 6 ≠ 0) || (!t && decide (cmdFld w 33 1 1 ≠ 0)) ||
    decide (14 ≤ s) || decide (14 ≤ f)) 0x01 ++
  cause (!d.reach e seReads (mSrc w) (rowSpan (mRows w) (fmtBytes s (mCols w)) (mSp w)) ||
    !d.reach e seWrites x (rowSpan n b p) || d.storeForbidden w) 0x30 ++
  cause (un16 (mSrc w) || un16 (mDst w) || un16 (mSp w) || un16 (mDp w)) 0x31 ++
  cause (decide (mCols w = 0) || decide (mRows w = 0) ||
    ((decide (fmtBits s = 4) || decide (fmtBits f = 4)) && decide (mCols w % 2 ≠ 0)) ||
    (t && decide (sRowBytes w % mTu w ≠ 0))) 0x32 ++
  cause ((decide (s = 13) || decide (f = 13)) && decide (s ≠ f)) 0x33

/-! ## Requests (R126) -/

/-- Lines of 64 bytes that `b` bytes from `x` touch. -/
def linesAt (x b : Nat) : Nat := if b = 0 then 0 else ceilDiv (x % 64 + b) 64

/-- Lines of the first `n` rows. -/
def linesOf (x p b n : Nat) : Nat :=
  let per := sumBy (fun j => linesAt (x + j * p) b) (List.range 4)
  n / 4 * per + sumBy (fun j => linesAt (x + j * p) b) (List.range (n % 4))

/-- Requests of a transfer. -/
def reqTotal (w : CmdWord) : Nat := let (x, p, b, n) := geom w; linesOf x p b n

/-- Row, offset in the row and length of request `i`. Pitches are multiples of 16, so lines repeat every four rows. -/
def reqAt (w : CmdWord) (i : Nat) : Nat × Nat × Nat :=
  let (x, p, b, _) := geom w
  let per := max 1 (sumBy (fun j => linesAt (x + j * p) b) (List.range 4))
  let k := i % per
  let j := countBy (fun j => decide (sumBy (fun t => linesAt (x + t * p) b) (List.range (j + 1)) ≤ k)) (List.range 4)
  let l := k - sumBy (fun t => linesAt (x + t * p) b) (List.range j)
  let r := 4 * (i / per) + j
  let s := (x + r * p) % 64
  let lo := if l = 0 then 0 else 64 * l - s
  (r, lo, min b (64 * (l + 1) - s) - lo)

/-- Destination pieces of request `i`: logical address, offset in the request's data, length. -/
def reqDst (w : CmdWord) (i : Nat) : List (Nat × Nat × Nat) :=
  let (r, lo, n) := reqAt w i
  let op := opcode w
  if op = 0x30 then [(mDst w + lo, 0, n)]
  else if op = 0x31 then
    if mTrans w then (List.range (n / mTu w)).map fun k => (mDst w + (lo / mTu w + k) * mDp w + r * mTu w, k * mTu w, mTu w)
    else [(mDst w + r * mDp w + lo, 0, n)]
  else let (x, p, _, _) := geom w; [(x + r * p + lo, 0, n)]

/-- The 64-byte destination lines of a request. -/
def reqLines (w : CmdWord) (i : Nat) : List Nat :=
  (reqDst w i).flatMap fun t => (List.range (linesAt t.1 t.2.2)).map fun k => t.1 / 64 + k

/-- Source ranges of request `i` whose address does not depend on data. -/
def reqSrc (w : CmdWord) (i : Nat) : List (Nat × Nat) :=
  let (r, lo, n) := reqAt w i
  let op := opcode w
  if op = 0x30 then [(mSrc w + lo, n)]
  else if op = 0x31 then [(mSrc w + r * mSp w + lo, n)]
  else if op = 0x40 then
    [(mSrc w + r * mSp w + lo * 8 / fmtBits (sDfmt w) * fmtBits (sSfmt w) / 8, fmtBytes (sSfmt w) (n * 8 / fmtBits (sDfmt w)))]
  else if op = 0x41 then
    let c0 := r * mTu w * 8 / fmtBits (sDfmt w)
    let c1 := ceilDiv ((r + 1) * mTu w * 8) (fmtBits (sDfmt w))
    (List.range (n / mTu w)).map fun k =>
      (mSrc w + (lo / mTu w + k) * mSp w + c0 * fmtBits (sSfmt w) / 8, fmtBytes (sSfmt w) (c1 - c0))
  else []

/-! ## Data -/

/-- Bytes [lo, lo + n) of row `r` of a store after conversion (R102, R134), with the marks of their elements. Each element
is counted once, with its first byte. -/
def Device.convRow (d : Device) (e : Nat) (w : CmdWord) (r lo n : Nat) : Device × Marked :=
  let sf := sSfmt w
  let df := sDfmt w
  let c0 := lo * 8 / fmtBits df
  let c1 := ceilDiv ((lo + n) * 8) (fmtBits df)
  let c0 := if fmtBits sf = 4 ∨ fmtBits df = 4 then c0 / 2 * 2 else c0
  let (d, l) := d.readTag (d.phys (mSrc w + r * mSp w + c0 * fmtBits sf / 8)) (fmtBytes sf (c1 - c0))
  let bs := unmark l
  let els := (List.range (c1 - c0)).map fun i =>
    (convert sf df (sSat w) (elemAt sf bs i),
     (List.range (fmtBytes sf 1)).any fun b => (nth l (i * fmtBits sf / 8 + b) (0, false)).2)
  let mine := (els.zipIdx).filterMap fun x => if lo ≤ (c0 + x.2) * fmtBits df / 8 then some x.1 else none
  let d := d.perf e 9 (countBy (fun x => x.1.invalid) mine)
  let d := d.notePoison e (countBy (·.2) mine)
  let out := (packElems df (els.map fun x => x.1.code)).zipIdx.map fun b =>
    (b.1, if fmtBits df = 4 then (nth els (2 * b.2) (⟨0, false⟩, false)).2 || (nth els (2 * b.2 + 1) (⟨0, false⟩, false)).2
          else (nth els (b.2 * 8 / fmtBits df) (⟨0, false⟩, false)).2)
  (d, (out.drop (lo - c0 * fmtBits df / 8)).take n)

/-- The index word of row `r` of a GATHER: its value and mark. -/
def Device.idxWord (d : Device) (w : CmdWord) (r : Nat) : Int × Bool :=
  let a := d.phys (mSrc w + 4 * r)
  (sext 32 (leNat (d.peek a 4)), d.peekPoison a 4)

/-- The index of row `r` of a GATHER: none where the row is zeros marked as poisoned (R132). The first request of a row
reads the index and reports it. -/
def Device.gatherIdx (d : Device) (e : Nat) (w : CmdWord) (r : Nat) (first : Bool) : Device × Option Nat :=
  let (i, bad) := d.idxWord w r
  let d := if first then d.sense (d.phys (mSrc w + 4 * r)) 4 else d
  if bad then (if first then d.notePoison e 1 else d, none)
  else if i < 0 ∨ (gLen w : Int) ≤ i then
    (if first then (d.raise (Reg.xxErr e) 2).pairRaise (Src.feIdx (e / 7)) else d, none)
  else (d, some i.toNat)

/-- The data of request `i` as it will be written. -/
def Device.reqData (d : Device) (e : Nat) (w : CmdWord) (i : Nat) : Device × Marked :=
  let (r, lo, n) := reqAt w i
  let op := opcode w
  let note := fun (x : Device × Marked) => (x.1.notePoison e (countBy (·.2) x.2), x.2)
  if op = 0x40 then d.convRow e w r lo n
  else if op = 0x41 then
    (List.range (n / mTu w)).foldl (fun (s : Device × Marked) k =>
      let (d, l) := s.1.convRow e w (lo / mTu w + k) (r * mTu w) (mTu w)
      (d, s.2 ++ l)) (d, [])
  else if op = 0x32 then
    match d.gatherIdx e w r (decide (lo = 0)) with
    | (d, some j) => note (d.readTag (d.phys (gTable w + j * gPitch w + lo)) n)
    | (d, none) => (d, List.replicate n (0, true))
  else match reqSrc w i with
    | (a, n) :: _ => note (d.readTag (d.phys a) n)
    | [] => (d, [])

/-- Write the data of a request to its destination. -/
def Device.reqWrite (d : Device) (e : Nat) (w : CmdWord) (i : Nat) (l : Marked) : Device :=
  (reqDst w i).foldl (fun d t => d.engWrite e (d.phys t.1) ((l.drop t.2.1).take t.2.2)) d

/-! ## Remote requests (R186) -/

/-- The device and address that a remote address names. -/
def remDev (a : Nat) : Nat := natBits a 46 43
/-- Bits [35:0] of it. -/
def remAddr (a : Nat) : Nat := a % 2 ^ 36

/-- The remote end of request `i`: read or write, its address and length. -/
def Device.reqRemote (d : Device) (w : CmdWord) (i : Nat) : Option (Bool × Nat × Nat) :=
  let (r, lo, n) := reqAt w i
  let op := opcode w
  let rd := fun a => if isRemote a then some (true, a, n) else none
  if op = 0x30 then rd (mSrc w + lo)
  else if op = 0x31 then rd (mSrc w + r * mSp w + lo)
  else if op = 0x32 then
    let (i, bad) := d.idxWord w r
    if bad ∨ i < 0 ∨ (gLen w : Int) ≤ i then none else rd (gTable w + i.toNat * gPitch w + lo)
  else let (x, p, _, _) := geom w; if isRemote x then some (false, x + r * p + lo, n) else none

/-- The POISON field of a flit. -/
def poisonField (l : Marked) : BitVec 8 :=
  BitVec.ofNat 8 ((List.range 8).foldl (fun s k => if anyMark ((l.drop (8 * k)).take 8) then s + 2 ^ k else s) 0)

/-! ## Issue and completion (R125 to R127) -/

/-- Outstanding-request limit (Table 5.7). -/
def reqLimit (e : Nat) : Nat := if engKind e = 2 then 4096 else if engKind e = 3 then 1024 else 0

/-- Requests in flight. -/
def Eng.outstanding (g : Eng) : Nat := sumBy (fun a => a.out.length) g.acts

/-- The outstanding requests of an engine in order of issue, with the place of their command. -/
def Eng.flight (g : Eng) : List (Nat × Act × Request) :=
  (g.acts.zipIdx).flatMap fun a => a.1.out.map fun r => (a.2, a.1, r)

/-- Request number `i` in flight shares a destination line with an earlier one (R127). -/
def clash (fl : List (Nat × Act × Request)) (i : Nat) : Bool :=
  match fl[i]? with
  | none => false
  | some (_, a, r) =>
    let mine := reqLines a.word r.idx
    (fl.take i).any fun x => (reqLines x.2.1.word x.2.2.idx).any fun n => mine.contains n

/-- Note request `i` of the command at place `k` as issued; `keep` says that it stays in flight. -/
def Device.noteIssue (d : Device) (e k i : Nat) (keep remote : Bool) (ready : Option Marked) : Device :=
  let r : Request := ⟨i, d.q / aQ, [], remote, ready⟩
  (d.modEng e fun g => { g with acts := g.acts.modify k fun a =>
    { a with next := i + 1, out := if keep then a.out ++ [r] else a.out
             last := if keep then a.last else d.q / aQ } }).perf e 6 1

/-- Request `r` of the command at place `k` has completed. -/
def Device.dropReq (d : Device) (e k : Nat) (r : Request) : Device :=
  (d.modEng e fun g => { g with acts := g.acts.modify k fun a =>
    { a with out := a.out.erase r, last := d.q / aQ } }).perf e 8 (d.q / aQ - r.at_)

/-- Write the data that waits for no earlier request any more, at most `n` requests (R127). -/
def Device.flushReady (d : Device) (e : Nat) : Nat → Device
  | 0 => d
  | n + 1 =>
    let fl := (d.engAt e).flight
    match (fl.zipIdx).find? fun x => x.1.2.2.ready.isSome && !clash fl x.2 with
    | none => d
    | some ((k, a, r), _) =>
      ((d.reqWrite e a.word r.idx (r.ready.getD [])).dropReq e k r).flushReady e n

/-- Issue request `i` of the command at place `k`. A remote one travels; one to an unreachable device completes at
once, a read with poisoned zeros (R186). -/
def Device.issueOne (d : Device) (e k : Nat) (a : Act) : Device :=
  let i := a.next
  match d.reqRemote a.word i with
  | none => d.noteIssue e k i true false none
  | some (rd, x, n) =>
    let (r, lo, _) := reqAt a.word i
    let d := if opcode a.word = 0x32 ∧ lo = 0 then d.sense (d.phys (mSrc a.word + 4 * r)) 4 else d
    if (d.route (remDev x)).isNone then
      let d := d.unreach
      if rd then (d.noteIssue e k i true true (some (List.replicate n (0, true)))).flushReady e 1
      else d.noteIssue e k i false true none
    else
      let d := d.noteIssue e k i true true none
      let d := { d with dsk := { d.dsk with rem := d.dsk.rem ++ [RemReq.mk e i (remDev x) (remAddr x) rd] } }
      if rd then d.sendTo FT.rdReq (remDev x) (remAddr x) n 0 []
      else
        let (d, l) := d.reqData e a.word i
        d.sendTo FT.wr (remDev x) (remAddr x) n (poisonField l) (unmark l)

/-- Issue requests in list order while the limit allows (R125), at most `n`. -/
def Device.issueN (d : Device) (e : Nat) : Nat → Device
  | 0 => d
  | n + 1 =>
    if reqLimit e ≤ (d.engAt e).outstanding then d
    else match (d.engAt e).acts.findIdx? fun a => decide (a.next < a.total) with
    | none => d
    | some k =>
      match (d.engAt e).acts[k]? with
      | some a => (d.issueOne e k a).issueN e n
      | none => d

/-- A transfer is complete in the a-cycle after its last request (R126); `t` is the present one. -/
def xferDone (t : Nat) (a : Act) : Bool :=
  a.out.isEmpty && decide (a.next = a.total) && decide (0 < a.total) && decide (a.last < t)

/-- Complete every transfer that is done, at most `n`. -/
def Device.finishXfers (d : Device) (e : Nat) : Nat → Device
  | 0 => d
  | n + 1 =>
    if (d.engAt e).acts.any (fun a => !a.done && xferDone (d.q / aQ) a)
    then (d.finish e (xferDone (d.q / aQ))).finishXfers e n else d

/-- Complete the transfers that are done, and look at the next command. -/
def Device.finishDue (d : Device) (e : Nat) : Device := (d.finishXfers e (d.engAt e).acts.length).settle e

/-- Issue what the limit allows; nothing during abandonment (R51) nor in a self-test segment (R21). -/
def Device.issue (d : Device) (e : Nat) : Device :=
  let d := if d.tck.abandoning || (d.prismAt (e / 7)).seg.isSome then d
    else d.issueN e (sumBy (fun a => a.total - a.next) (d.engAt e).acts)
  d.finishDue e

/-- A transfer starts (R130). -/
def Device.moverBody (e : Nat) (d : Device) (h : FCmd) (w : CmdWord) : Device :=
  (d.push e ⟨h.addr, w, reqTotal w, 0, [], 0, false, h.tag, 0⟩).issue e

/-- Request `r` of the command at place `k` has completed: data that waited for it is written, and the engine goes on. -/
def Device.reqDone (d : Device) (e k : Nat) (r : Request) : Device :=
  let d := d.dropReq e k r
  (d.flushReady e (d.engAt e).outstanding).issue e

/-- Spans of uncorrectable words that a request would read (R151). -/
def Device.badSpans (d : Device) (w : CmdWord) (i : Nat) : List Nat :=
  ((reqSrc w i).flatMap fun t =>
    (pieces (wordSize (d.phys t.1)) (t.2 + 1) (d.phys t.1) 0 t.2).filterMap fun p =>
      let x := wordBase p.1
      if (d.viewOf p.1).isNone ∧ wordDec x (d.mem.synAt x) = .bad then some (spanBase x) else none).dedup

/-- A span that a request reads or writes is being decoded (R152). -/
def Device.spanBusy (d : Device) (w : CmdWord) (i : Nat) : Bool :=
  ((reqDst w i).any fun t => decide (spanBase (d.phys t.1) ∈ d.mem.decode)) ||
  (reqSrc w i).any fun t => (pieces 64 (t.2 + 1) (d.phys t.1) 0 t.2).any fun p => decide (spanBase p.1 ∈ d.mem.decode)

/-- The DRAM refresh of a Facet that a request reads or writes is Forced: it goes ahead of the request (Table 2.4). -/
def Device.refreshHolds (d : Device) (w : CmdWord) (i : Nat) : Bool :=
  ((reqDst w i).map (·.1) ++ (reqSrc w i).map (·.1)).any fun a =>
    match placeOf (d.phys a) with
    | some (.dram f) => decide ((d.bgAt (.refresh f)).level = .forced)
    | _ => false

/-- MEMORY_REQUEST_COMPLETE: request number `i` in flight completes, unless an earlier one touches a destination line
of it (R127), a page decode or a Forced refresh holds it, or it is remote. An uncorrectable source word starts a page decode, which holds
the request (R151). -/
def Device.requestComplete (d : Device) (e i : Nat) : Device :=
  let fl := (d.engAt e).flight
  match fl[i]? with
  | none => d
  | some (k, a, r) =>
    if clash fl i || !r.held.isEmpty || r.remote || d.spanBusy a.word r.idx || d.refreshHolds a.word r.idx then d
    else
      match d.badSpans a.word r.idx with
      | [] =>
        let (d, l) := d.reqData e a.word r.idx
        (d.reqWrite e a.word r.idx l).reqDone e k r
      | sp =>
        let d := d.setMem { d.mem with decode := (d.mem.decode ++ sp).dedup }
        d.modEng e fun g => { g with acts := g.acts.modify k fun a =>
          { a with out := a.out.map fun x => if x = r then { x with held := sp } else x } }

/-- PAGE_DECODE_COMPLETE (R151): the span is decoded and the requests that waited for it alone are released. -/
def Device.decodeComplete (d : Device) (b : Nat) : Device := if b ∈ d.mem.decode then d.decodeSpan b else d

/-- A remote request is answered: `l` is the data of a read, which waits for an earlier request on its line (R127). -/
def Device.remoteDone (d : Device) (q : RemReq) (l : Marked) : Device :=
  match (d.engAt q.eng).flight.find? fun x => x.2.2.remote && decide (x.2.2.idx = q.idx) &&
      (match d.reqRemote x.2.1.word q.idx with | some (_, y, _) => decide (remDev y = q.dev) && decide (remAddr y = q.addr) | none => false) with
  | none => d
  | some (k, _, r) =>
    if q.read then
      let d := (d.notePoison q.eng (countBy (·.2) l)).modEng q.eng fun g => { g with acts := g.acts.modify k fun a =>
        { a with out := a.out.map fun x => if x = r then { x with ready := some l } else x } }
      (d.flushReady q.eng (d.engAt q.eng).outstanding).issue q.eng
    else d.reqDone q.eng k r

/-! ## Commands -/

/-- The engine is an FE. -/
abbrev isFe (e : Nat) : Bool := decide (e < 168) && decide (engKind e = 2)
/-- The engine is an SE. -/
abbrev isSe (e : Nat) : Bool := decide (e < 168) && decide (engKind e = 3)

/-- COPY (R130). -/
def execCopy (e : Nat) (s : State) : Host.Outcome State Fault Refusal :=
  act (isFe e) (fun d => d.start e 0x30 (copyCauses e) (Device.moverBody e)) s

/-- FETCH2D (R131). -/
def execFetch2d (e : Nat) (s : State) : Host.Outcome State Fault Refusal :=
  act (isFe e) (fun d => d.start e 0x31 (fetch2dCauses e) (Device.moverBody e)) s

/-- GATHER (R132). -/
def execGather (e : Nat) (s : State) : Host.Outcome State Fault Refusal :=
  act (isFe e) (fun d => d.start e 0x32 (gatherCauses e) (Device.moverBody e)) s

/-- STORE (R134). -/
def execStore (e : Nat) (s : State) : Host.Outcome State Fault Refusal :=
  act (isSe e) (fun d => d.start e 0x40 (storeCauses e) (Device.moverBody e)) s

/-- STORE_T (R134). -/
def execStoreT (e : Nat) (s : State) : Host.Outcome State Fault Refusal :=
  act (isSe e) (fun d => d.start e 0x41 (storeCauses e) (Device.moverBody e)) s

/-- MEMORY_REQUEST_COMPLETE (R126). -/
def execMemoryRequestComplete (e i : Nat) (s : State) : Host.Outcome State Fault Refusal :=
  act (decide (e < 168)) (fun d => d.requestComplete e i) s

/-- PAGE_DECODE_COMPLETE (R151). -/
def execPageDecodeComplete (span : Nat) (s : State) : Host.Outcome State Fault Refusal :=
  act true (fun d => d.decodeComplete span) s

end Sys2Proof.Machine
end

