-- ==== Sys2Proof/Machine/Wear.lean ====
section
/-! DEFINITION. The blocks of the flash (R386, R387): which block holds which logical block, erase counts, retired blocks and
spares. -/

namespace Sys2Proof.Machine

/-- Block `p`. -/
def Device.blkAt (d : Device) (p : Nat) : Blk := tabGet Blk.fresh d.nvm.blk p
/-- Replace block `p`. -/
def Device.setBlk (d : Device) (p : Nat) (b : Blk) : Device := { d with nvm := { d.nvm with blk := tabSet Blk.fresh d.nvm.blk p b } }

/-- The block that holds logical block `n`. -/
def Device.holder (d : Device) (n : Nat) : Option Nat := (d.nvm.blk.find? fun x => decide (x.2.holds = some n)).map (·.1)

/-- The lowest block that no entry names, where one exists: it has never been erased. -/
def Device.freshBlk (d : Device) : Option Nat :=
  let n := d.nvm.blk.foldl (fun a x => if x.1 = a then a + 1 else a) 0
  if n < d.nvm.blocks then some n else none

/-- The block with the lower erase count of two. -/
def lowerBlk (a b : Option (Nat × Nat)) : Option (Nat × Nat) :=
  match a, b with
  | some x, some y => if y.2 < x.2 then b else a
  | none, b => b
  | a, none => a

/-- The free block with the lowest erase count (R387), the lowest block on ties (DESIGN CHOICE, log 40). -/
def Device.freeBlk (d : Device) : Option Nat :=
  let used := d.nvm.blk.foldl (fun (a : Option (Nat × Nat)) x =>
    if x.2.bad ∨ x.2.holds.isSome then a else lowerBlk a (some (x.1, x.2.erases))) none
  let all := match used, d.freshBlk with
    | some x, some f => if x.2 = 0 ∧ x.1 < f then some x else some (f, 0)
    | none, some f => some (f, 0)
    | u, none => u
  all.map (·.1)

/-- A block is erased: it is free, with one more erase (an erase takes place when the data has left, DESIGN CHOICE, log 40). -/
def Device.eraseBlk (d : Device) (p : Nat) : Device := d.setBlk p { d.blkAt p with holds := none, erases := (d.blkAt p).erases + 1 }

/-- Logical block `n` is written: its data goes to the free block with the lowest erase count, and the old one is erased. -/
def Device.putBlk (d : Device) (n : Nat) : Device :=
  match d.freeBlk with
  | none => d
  | some p =>
    let d := match d.holder n with | some o => d.eraseBlk o | none => d
    d.setBlk p { d.blkAt p with holds := some n }

/-- The good blocks that have an entry. -/
def Device.goodBlks (d : Device) : List (Nat × Blk) := d.nvm.blk.filter fun x => !x.2.bad

/-- The highest erase count of a good block. -/
def Device.maxErase (d : Device) : Nat := d.goodBlks.foldl (fun a x => max a x.2.erases) 0

/-- The good block with the lowest erase count, and that count. -/
def Device.minErase (d : Device) : Option (Nat × Nat) :=
  let l := d.goodBlks.foldl (fun (a : Option (Nat × Nat)) x => lowerBlk a (some (x.1, x.2.erases))) none
  match l, d.freshBlk with
  | some x, some f => if x.2 = 0 then some x else some (f, 0)
  | none, some f => some (f, 0)
  | l, none => l

/-- Where the erase counts differ by more than 1,000, the data of the block with the lowest count is moved (R387). -/
def Device.levelWear (d : Device) : Device :=
  match d.minErase with
  | none => d
  | some (p, n) =>
    match (d.blkAt p).holds with
    | some l => if n + 1000 < d.maxErase then d.putBlk l else d
    | none => d

/-- NVM_WEAR. -/
def Device.wearWord (d : Device) : Word :=
  word (min 0xFFFF d.maxErase * 65536 + min 0xFFFF (match d.minErase with | some x => x.2 | none => 0))

/-- The logical blocks that bytes at `a` touch. -/
def Device.blksOf (d : Device) (a n : Nat) : List Nat :=
  let b := d.nvm.blkBytes
  if b = 0 ∨ n = 0 then [] else (List.range ((a + n - 1) / b + 1 - a / b)).map fun i => a / b + i

/-- Data is written at `a` of the logical flash. -/
def Device.wearPut (d : Device) (a n : Nat) : Device := (d.blksOf a n).foldl (fun d l => (d.putBlk l).levelWear) d

/-- The logical blocks that lie wholly in [a, a + n) are erased. -/
def Device.wearErase (d : Device) (a n : Nat) : Device :=
  (d.blksOf a n).foldl (fun d l =>
    if a ≤ l * d.nvm.blkBytes ∧ (l + 1) * d.nvm.blkBytes ≤ a + n
    then (match d.holder l with | some p => d.eraseBlk p | none => d) else d) d

/-- A block is retired after its data has been rewritten elsewhere (R386). -/
def Device.retireBlk (d : Device) (p : Nat) : Device :=
  if d.nvm.blocks ≤ p ∨ (d.blkAt p).bad then d
  else
    let h := (d.blkAt p).holds
    let d := d.setBlk p { d.blkAt p with bad := true, holds := none }
    let d := match h with | some l => d.putBlk l | none => d
    (d.count Reg.nvmBadCnt 31 16 1).raise Reg.nvmStatus 4

/-- Blocks that report a failure are retired. -/
def Device.retireBlks (d : Device) (l : List Nat) : Device := l.foldl (fun d p => d.retireBlk p) d

/-- The good blocks at first use. -/
def Device.goodFirst (d : Device) : Nat := d.nvm.blocks - countBy (fun (x : Nat × Blk) => x.2.factory) d.nvm.blk

/-- The free good blocks. -/
def Device.freeBlks (d : Device) : Nat :=
  d.nvm.blocks - countBy (fun (x : Nat × Blk) => x.2.bad || x.2.holds.isSome) d.nvm.blk

/-- Fewer than 1 % of the good blocks remain free spares (R386). -/
def Device.flashLow (d : Device) : Bool := decide (d.freeBlks * 100 < d.goodFirst)

/-- The flash at the release of the compute reset (R384, R386): at first use its blocks are counted, and those whose factory
marker is not 0xFF are bad. -/
def Device.flashFirst (d : Device) (fl : FlashTrain) : Device :=
  if d.nvm.blocks ≠ 0 then d
  else
    let d := { d with nvm := { d.nvm with blocks := fl.blocks, blkBytes := fl.blkBytes, page := fl.page, blk := [] } }
    (fl.factoryBad.filter fun p => decide (p < fl.blocks)).foldl (fun d p => d.setBlk p ⟨0, none, true, true⟩) d

/-- NVM_CAP: 93 % of the good blocks at first use, in MiB, rounded down (DESIGN CHOICE, log 40). -/
def Device.flashMiB (d : Device) : Nat := d.goodFirst * d.nvm.blkBytes * 93 / 100 / 2 ^ 20

end Sys2Proof.Machine
end

