-- ==== Sys2Proof/Machine/Background.lean ====
section
/-! DEFINITION. Background classes and their levels (R55, R56), and periodic self-test (R57, R58, R307 to R310). -/

namespace Sys2Proof.Machine

/-- Replace a class instance. -/
def Device.setBg (d : Device) (c : BgClass) (b : Bg) : Device := { d with bg := tabSet Bg.reset d.bg (bgKey c) b }

/-- The device runs test frames, not frames of a plan (R306). -/
def Device.inTest (d : Device) : Bool := decide (d.chk.dev = .startupTest) || decide (d.chk.dev = .maint)

/-- The classes that run in test frames (R306). -/
def inTestFrames : BgClass → Bool
  | .refresh _ | .calib | .telemetry => true
  | .scrub | .flash | .selftest _ => false

/-- The resource of a class instance is in service. -/
def Device.bgResource (d : Device) : BgClass → Bool
  | .refresh f => (d.facetAt f).powered
  | .selftest q => (d.facetAt (q / 6)).powered && !(d.prismAt q).disabled && !(d.prismAt q).fenced &&
      decide ((d.facetAt (q / 6)).st = .healthy)
  | _ => true

/-- A class runs: in every state with a running tick (R55). -/
def Device.bgRuns (d : Device) (c : BgClass) : Bool :=
  d.cmpAlive && d.tck.running && (!d.inTest || inTestFrames c) && d.bgResource c

/-- The deadline of a class in q (Table 2.4). `hot`: the DRAM is above 85 °C. -/
def bgDeadline (hot : Bool) : BgClass → Nat
  | .refresh _ => (if hot then 156 else 312) * usQ / 10
  | .scrub => 12 * 3600 * sQ
  | .calib | .telemetry => 100 * msQ
  | .flash => 7 * 24 * 3600 * sQ
  | .selftest _ => 600 * sQ

/-- The age of a class: the time since it last completed a unit of work. -/
def Device.bgAge (d : Device) (c : BgClass) : Nat := d.q - (d.bgAt c).ageFrom

/-- A class becomes Urgent at 75 % of its deadline (R56). -/
def Device.bgUrgent (d : Device) (c : BgClass) (hot : Bool) : Device :=
  if (d.bgAt c).level ≠ .normal ∨ 4 * d.bgAge c < 3 * bgDeadline hot c then d
  else (d.setBg c { d.bgAt c with level := .urgent }).raise Reg.tckStatus 5

/-- A class becomes Forced at its deadline (R56). -/
def Device.bgForce (d : Device) (c : BgClass) (hot : Bool) : Device :=
  if (d.bgAt c).level = .forced ∨ d.bgAge c < bgDeadline hot c then d
  else (((d.setBg c { d.bgAt c with level := .forced }).raise Reg.tckStatus 6).incr Reg.tckBgForcedCnt).pairRaise Src.bgForced

/-- A unit of work completes: Normal again, and the age restarts (R56). -/
def Device.bgDone (d : Device) (c : BgClass) : Device := d.setBg c ⟨.normal, d.q⟩

/-- The Facet of a controller (Table 6.2). -/
def ctrlFacet (c : Nat) : Nat :=
  if c < 32 then c / 8 else if c < 36 then c - 32 else if c < 60 then (c - 36) / 6 else (c - 64) / 24

/-- A controller exists. -/
def okCtrl (c : Nat) : Bool := decide (c < 60) || (decide (64 ≤ c) && decide (c < 160))

/-- Every controller of a powered Facet has visited its spans. -/
def Device.lapFull (d : Device) : Bool :=
  (List.range 160).all fun c => !okCtrl c || !d.facetUp (ctrlFacet c) || d.mem.scrubDone.contains c

/-- A lap of the scrubber completes (R164). -/
def Device.lapDone (d : Device) : Device :=
  let d := d.setReg Reg.memScrubLap (word ((d.q - d.mem.lapAt) / msQ))
  (d.setMem { d.mem with scrubDone := [], scrubPos := [], lapAt := d.q }).bgDone .scrub

/-- A pass of the self-test over a Prism completes (R307). -/
def Device.passDone (d : Device) (q : Nat) : Device :=
  ((d.setPrism q { d.prismAt q with nextSeg := 0 }).incr Reg.fltStPassCnt).bgDone (.selftest q)

/-- An uncorrectable codeword (R385). -/
def Device.nvmUe (d : Device) : Device := ((d.incr Reg.nvmUeCnt).raise Reg.nvmStatus 3).pairRaise Src.nvmUe

/-- What a read of flash met: corrected codewords, RETRY, an uncorrectable one (R385). -/
def Device.flashMet (d : Device) (r : FlashRead) : Device :=
  let d := (d.count Reg.nvmLdpcCnt 31 0 r.corrected).perf 200 0x102 r.corrected
  let d := if r.retry then d.raise Reg.nvmStatus 0 else d
  if r.bad then d.nvmUe else d

/-- What the retention scan found (R385 to R388). -/
def Device.flashReport (d : Device) (r : BgReport) : Device :=
  let d := (d.flashMet r.read).retireBlks r.retired
  let d := if r.moved.isEmpty then d else (r.moved.foldl (fun d n => (d.putBlk n).levelWear) d).raise Reg.nvmStatus 5
  if r.lap then { d.setReg Reg.nvmRetLap (word ((d.q - d.nvm.lapAt) / (60000 * msQ))) with nvm := { d.nvm with lapAt := d.q } }
  else d

/-- A unit of a class completes; a lap of the scrubber does where every span has been visited (R164). -/
def Device.unitDone (d : Device) (c : BgClass) (r : BgReport) : Device :=
  match c with
  | .scrub => if d.lapFull then d.lapDone else d
  | .selftest q => d.passDone q
  | .flash => (d.flashReport r).bgDone .flash
  | c => d.bgDone c

/-! ## Self-test segments -/

/-- The longest a segment lasts, in µs (Table 12.7). -/
def segUs (n : Nat) : Nat := if n < 4 then 40 else if n < 8 then 36 else if n = 8 then 24 else 16

/-- A Prism may take a segment: no other Prism of its Facet is in one (R308). -/
def Device.segFree (d : Device) (q : Nat) : Bool :=
  d.bgRuns (.selftest q) && (List.range 6).all fun p => (d.prismAt (6 * (q / 6) + p)).seg.isNone

/-- The next segment goes to Prism `q`: the greatest age, the lowest index on ties (R308). -/
def Device.segTurn (d : Device) (q : Nat) : Bool :=
  d.segFree q && (List.range 24).all fun p =>
    let a := (d.bgAt (.selftest q)).ageFrom
    let b := (d.bgAt (.selftest p)).ageFrom
    !d.segFree p || decide (a < b) || (decide (a = b) && decide (q ≤ p))

/-- The interval to the next tick in µs: the plan's period, on a follower the one its master announced (R189). -/
def Device.spanUs (d : Device) : Nat := if d.follower && decide (d.dsk.periodUs ≠ 0) then d.dsk.periodUs else d.tck.period

/-- The earliest possible next tick in ns of the time unit (R57). -/
def Device.earliestTick (d : Device) : Nat :=
  let w := d.spanUs * 1000 / 64
  if d.follower then match d.dsk.nextTick with | some (t, _) => t | none => d.tck.expected - w
  else if d.tck.sync = .locked then d.tck.expected - w
  else d.tck.expected

/-- A segment of `l` µs may start now (R57). Windows are half-open (R267). In the guard of an abandonment the windows of
the new frame are not known yet, and none starts (DESIGN CHOICE, log 130). -/
def Device.segFits (d : Device) (l : Nat) : Bool :=
  let t := d.chkNs - d.stw.tickNs
  let e := t + (l + 10) * 1000
  !d.tck.abandoning && decide (d.timNs + (l + 10) * 1000 ≤ d.earliestTick) &&
  d.stw.wins.all fun w => !w.safety || decide (w.closeUs * 1000 ≤ t) || decide (e ≤ w.openUs * 1000)

/-- Every engine of the Prism is at END or at a WAIT whose count is not reached (R58). -/
def Device.prismIdle (d : Device) (q : Nat) : Bool :=
  (List.range 7).all fun i => let g := d.engAt (7 * q + i); g.fenced || g.atEnd || decide (g.phase = .waiting)

/-- The reserve account of a resource in µs (R56). -/
def Device.account (d : Device) (c : BgClass) : Nat := tabGet 0 d.rsv (bgKey c)

/-- Begin the segment on Prism `q`. -/
def Device.segBegin (d : Device) (q : Nat) : Device :=
  d.setPrism q { d.prismAt q with seg := some ((d.prismAt q).nextSeg, d.q) }

/-- SELFTEST_SEGMENT_START (R57, R58, R308). An Urgent segment on a busy Prism draws L + 10 µs, what its account must hold
(DESIGN CHOICE, log 131). -/
def Device.segStart (d : Device) (q : Nat) : Device :=
  let l := segUs (d.prismAt q).nextSeg
  if !d.segTurn q then d
  else if !d.segFits l then d.incr Reg.fltStDeferCnt
  else
    match (d.bgAt (.selftest q)).level with
    | .normal => if d.prismIdle q then d.segBegin q else d
    | .urgent =>
      if d.prismIdle q then d.segBegin q
      else if l + 10 ≤ d.account (.selftest q) then
        { d.segBegin q with rsv := tabSet 0 d.rsv (bgKey (.selftest q)) (d.account (.selftest q) - (l + 10)) }
      else d
    | .forced =>
      if (d.prismAt q).forcedFrame = some d.frame then d
      else
        let d := d.segBegin q
        d.setPrism q { d.prismAt q with forcedFrame := some d.frame }

/-- The unit that a failing segment fences (R309). -/
def Device.segFence (d : Device) (q n : Nat) : Device :=
  if n < 4 then
    let d := (d.fenceEngine (7 * q + n)).raise (Reg.meErr (7 * q + n)) 3
    d.pairRaise (Src.meSelftest q)
  else
    let d := if n < 8 then d.fencePrism q
      else if n = 8 then d.fenceEngine (7 * q + 4)
      else (d.fenceEngine (7 * q + 5)).fenceEngine (7 * q + 6)
    d.pairRaise (Src.prmSelftest q)

/-- SELFTEST_SEGMENT_END (R21, R307, R309): the Prism is released and goes on at its next command; its engines test the
counters that they wait for, and issue their requests. -/
def Device.segEnd (d : Device) (q : Nat) (r : SegResult) : Device :=
  match (d.prismAt q).seg with
  | none => d
  | some (n, _) =>
    let d := d.setPrism q { d.prismAt q with seg := none }
    let d := match r with
      | .pass => if 9 ≤ n then d.passDone q else d.setPrism q { d.prismAt q with nextSeg := n + 1 }
      | .fail => ((d.setPrism q { d.prismAt q with nextSeg := 0, failSeg := n }).segFence q n).reportEnd
    (List.range 7).foldl (fun d i => (d.retry (7 * q + i)).issue (7 * q + i)) d

/-! ## Commands -/

/-- BG_LEVEL_URGENT (R56). -/
def execBgLevelUrgent (c : BgCase) (s : State) : Host.Outcome State Fault Refusal :=
  act (s.dev.bgRuns c.cls) (fun d => d.bgUrgent c.cls c.hot) s

/-- BG_LEVEL_FORCED (R56). -/
def execBgLevelForced (c : BgCase) (s : State) : Host.Outcome State Fault Refusal :=
  act (s.dev.bgRuns c.cls) (fun d => d.bgForce c.cls c.hot) s

/-- BG_UNIT_COMPLETE (R56). -/
def execBgUnitComplete (c : BgClass) (rep : BgReport) (s : State) : Host.Outcome State Fault Refusal :=
  act (s.dev.bgRuns c) (fun d => d.unitDone c rep) s

/-- SELFTEST_SEGMENT_START (R57). -/
def execSelftestSegmentStart (q : Nat) (s : State) : Host.Outcome State Fault Refusal :=
  act (decide (q < 24)) (fun d => d.segStart q) s

/-- SELFTEST_SEGMENT_END (R309). -/
def execSelftestSegmentEnd (q : Nat) (r : SegResult) (s : State) : Host.Outcome State Fault Refusal :=
  act (decide (q < 24)) (fun d => d.segEnd q r) s

end Sys2Proof.Machine
end

