-- ==== Sys2Proof/Machine/MemRows.lean ====
section
/-! DEFINITION. Merge drains, fences, the scrubber (R153, R155, R157, R162 to R164), powering a Facet (R146), check-bit
test mode (R165) and host memory access (R142, R169, R343). -/

namespace Sys2Proof.Machine

/-! ## Facet power (R146, R287, R362) -/

/-- No buffer of a stream stands in Facet `f` (R199). -/
def Lens.lacks (l : Lens) (f : Nat) : Lens :=
  { l with missing := (List.range 3).foldl (fun t i => tabSet [] t i (f :: tabGet [] t i).dedup) l.missing }

/-- What a Facet loses with its power: memories, engines, arrays, registers but the S fields, and its pairs. -/
def Device.facetLose (d : Device) (f : Nat) : Device :=
  let lo := 0x1000000 + f * 0x400000
  let tol := fun k => (List.range 24).any fun i => isTol (meEngine (24 * f + i)) k
  let mine := (d.flt.pair.map (·.1)).filter fun s => decide (srcFacet s = some f)
  let d := mine.foldl (fun d s => (d.setPair s Pair.reset).setBit (Reg.fltCdPair (s / 32)) (s % 32) false) d
  let d := d.wipeFacet f
  let d := { d with lens := d.lens.map fun (l : Nat × Lens) => (l.1, l.2.lacks f) }
  let d := d.setMem { d.mem with
    scrubPos := d.mem.scrubPos.filter fun e => ctrlFacet e.1 ≠ f
    scrubDone := d.mem.scrubDone.filter fun c => ctrlFacet c ≠ f }
  let d := (List.range 42).foldl (fun d i => d.dropSigs (42 * f + i)) d
  let d := { d with
    regs := d.regs.filter fun r => decide (r.1 < lo) || decide (lo + 0x400000 ≤ r.1) || tol r.1
    eng := tabDrop d.eng (42 * f) (42 * f + 42), me := tabDrop d.me (42 * f) (42 * f + 42) }
  let d := (List.range 6).foldl (fun d p =>
    let q := 6 * f + p
    let x := d.prismAt q
    (d.setPrism q { Prism.reset with disabled := x.disabled, failSeg := x.failSeg }).cntClear (168 + q)) d
  (((List.range 42).foldl (fun d i =>
    (d.cntClear (42 * f + i)).modEng (42 * f + i) fun g => { g with fenced := true }) d).cntClear (192 + f))

/-- The rings stop where their Facet powers down (R206). -/
def Device.ringStop (d : Device) (f : Nat) : Device :=
  if d.fld Reg.ethCfg 1 0 = f ∧ (d.facetAt f).powered
  then ({ d with eth := { d.eth with ringsLost := true } } : Device).raise Reg.ethStatus 1 else d

/-- Power a Facet down; its engines stay fenced. -/
def Device.facetOff (d : Device) (f : Nat) : Device :=
  ((d.ringStop f).facetLose f).modFacet f fun x => { x with powered := false, zeroing := false }

/-- Power a Facet up: its memories are being zeroed, and its repair record is applied (R71 to R75, R146, R297). -/
def Device.facetOn (d : Device) (f : Nat) : Device :=
  let d := (d.facetLose f).modFacet f fun x => { x with powered := true, zeroing := true, powerAt := d.q }
  (List.range 24).foldl (fun d i => d.applyRepair (meEngine (24 * f + i))) d

/-- FACET_ZEROING_COMPLETE (R146). -/
def Device.facetZeroed (d : Device) (f : Nat) : Device :=
  if (d.facetAt f).powered && (d.facetAt f).zeroing then d.modFacet f fun x => { x with zeroing := false } else d

/-! ## Drains and fences -/

/-- MERGE_DRAIN (R155): the oldest entry of a controller drains. -/
def Device.drainOldest (d : Device) (c : Nat) : Device :=
  match d.mem.merge.find? fun t => decide (t.ctrl = c) with | some t => d.drain t | none => d

/-- MEM_FENCE (R157): a fence is in progress. -/
def Device.fenceStart (d : Device) : Device := d.setBit Reg.memStatus 8 true

/-- FENCE_COMPLETE (R157). -/
def Device.fenceEnd (d : Device) : Device :=
  if d.bitAt Reg.memStatus 8 then d.memDrainAll.setBit Reg.memStatus 8 false else d

/-! ## Scrubber (R153, R162 to R164) -/

/-- How many spans a controller has. -/
def ctrlSpans (c : Nat) : Nat := if c < 32 then 262144 else if c < 36 then 2048 else if c < 60 then 1024 else 128

/-- The base of span `k` of a controller. -/
def ctrlSpan (c k : Nat) : Nat :=
  if c < 32 then (c / 8) * 2 ^ 32 + (8 * k + c % 8) * 2048
  else if c < 36 then fbufBase + (c - 32) * 0x1000000 + k * 4096
  else if c < 60 then scrBase + (c - 36) * 0x400000 + k * 4096
  else accBase + (c - 64) * 0x100000 + k * 4096

/-- log of `r` to base α below `n`. -/
def gfLog (r n : Nat) : Option Nat := (List.range n).find? fun w => decide (gfPow w 1 = r)

/-- The position that a lane with syndromes `x`, `y` points to: a data word, check word 0 (n) or 1 (n + 1); none where
it points nowhere (R153). -/
def lanePoint (n x y : Nat) : Option Nat :=
  if y = 0 then some n else if x = 0 then some (n + 1) else gfLog (gfMul y (gfInv x)) n

/-- The positions of the nonzero lanes of a span. -/
def lanePoints (n : Nat) (s0 s1 : DWord) : List (Option Nat) :=
  ((List.range 4).filter fun j => decide (lane s0 j ≠ 0) || decide (lane s1 j ≠ 0)).map fun j =>
    lanePoint n (lane s0 j) (lane s1 j)

/-- Every data word of a span is rewritten as poisoned (R153). -/
def Device.poisonSpan (d : Device) (b : Nat) : Device :=
  let m := (List.range (spanWords b)).foldl (fun m k => let w := spanAddr b k; m.setSyn w (patAt w)) d.mem
  let d := d.setMem (m.setSpan b .zero)
  let d := d.count Reg.memPoisonCnt 31 0 (spanWords b)
  (((d.raise Reg.memStatus 2).raise Reg.memStatus 3).memLog 4 (ctrlOf b) b).memSrc 0x12C b

/-- The scrubber's check of a span in which no word is flagged (R153): a located word is corrected, a check word rewritten. -/
def Device.scrubClean (d : Device) (b : Nat) : Device :=
  let n := spanWords b
  let e := d.mem.spanAt b
  if (chkWordDec b e.cw0).2 || (chkWordDec b e.cw1).2 then d.pageDecode b
  else
    match (lanePoints n e.s0 e.s1).dedup with
    | [] => d
    | [some p] => if p < n then d.fixWord (spanAddr b p) e.s0 else (d.setMem (d.mem.setSpan b .zero)).noteFixed 2 b
    | _ => d.poisonSpan b

/-- The scrubber reads and checks a span (R162) once the entries held for it have drained: words that the word code
corrects are corrected; an uncorrectable one brings the page decode. -/
def Device.scrubSpan (d : Device) (b : Nat) : Device :=
  let d := if b ∈ d.mem.decode then d.decodeSpan b else d.drainWhere fun t => decide (spanBase t.line = b)
  let fl := (d.mem.flagged b).filter fun w => decide (wordDec w (d.mem.synAt w) ≠ .poison)
  if fl.any fun w => decide (wordDec w (d.mem.synAt w) = .bad) then d.pageDecode b
  else
    let d := (fl.foldl (fun d w => d.ceWord w) d).fixChecks b
    if fl.isEmpty then d.scrubClean b else d

/-- SCRUB_SPAN_VISIT: the next span of a controller. -/
def Device.scrubVisit (d : Device) (c : Nat) : Device :=
  let k := tabGet 0 d.mem.scrubPos c
  let d := d.scrubSpan (ctrlSpan c k)
  let last := decide (ctrlSpans c ≤ k + 1)
  let d := d.setMem { d.mem with
    scrubPos := tabSet 0 d.mem.scrubPos c (if last then 0 else k + 1)
    scrubDone := if last then (c :: d.mem.scrubDone).dedup else d.mem.scrubDone }
  if d.lapFull then d.lapDone else d

/-! ## Test mode (R165) -/

/-- A write to MEM_TEST. -/
def Device.testWrite (d : Device) (v : Word) : Device :=
  let d := d.plainWrite Reg.memTest v
  if bits v 1 0 = 0 then d.setFld Reg.memTest 1 0 0
  else if bits v 1 0 = 1 then
    (if d.chk.dev = .maint then d.setFld Reg.memTest 1 0 1 else d.raise Reg.memStatus 7)
  else d

/-- Test mode RAW is in force for an address. -/
def Device.rawAt (d : Device) (a : Nat) : Bool := decide (d.fld Reg.memTest 1 0 = 1) && !isAcc a

/-- The stored check bits of the word at `w`. -/
def MemSys.checkAt (m : MemSys) (w : Nat) : Nat := m.synAt w ^^^ checkBits (colsAt w) (m.word w)

/-- Store a word raw: data and check bits as given; the page checks are not updated. -/
def Device.rawStore (d : Device) (w v chk : Nat) : Device :=
  let d := if spanBase w ∈ d.mem.decode then d.decodeSpan (spanBase w) else d
  let x := d.mem.word w ^^^ v
  d.setMem (((d.mem.putBytes w 8 v).residue w x).setSyn w (chk ^^^ checkBits (colsAt w) v))

/-- A raw host write. -/
def Device.rawWrite (d : Device) (a : Nat) (bs : List Byte) : Device :=
  if a % 8 ≠ 0 ∨ bs.length % 8 ≠ 0 then d.raise Reg.memStatus 7
  else (List.range (bs.length / 8)).foldl (fun d i => d.rawStore (a + 8 * i) (leAt bs (8 * i) 8) (d.fld Reg.memTest 15 8)) d

/-- A raw host read: the stored bytes; the check bits of the last word are latched. -/
def Device.rawRead (d : Device) (a n : Nat) : Device × List Byte :=
  (d.setFld Reg.memTest 31 24 (d.mem.checkAt ((a + n - 1) / 8 * 8)),
   (List.range n).map fun i => tabGet 0 d.mem.data (a + i))

/-! ## Host access through BAR2 (R343) -/

/-- The base of the BAR2 window. -/
def Device.bar2Base (d : Device) : Nat := (d.reg Reg.hifBar2BaseHi).toNat * 2 ^ 32 + (d.reg Reg.hifBar2BaseLo).toNat

/-- The internal address of BAR2 offset `y`; 2^48 where it names nothing. -/
def Device.hostAddr (d : Device) (y : Nat) : Nat :=
  let a := d.bar2Base + y
  if a < 0x400000000 then a else if a < 0x800000000 then a + 0x400000000 else 2 ^ 48

/-- Every byte of [a, a + n) names storage now. -/
def Device.allMapped (d : Device) (a n : Nat) : Bool := (pieces 64 (n + 1) a 0 n).all fun p => d.mapped p.1

/-- The ranges [x, x + n) and r overlap. -/
def overlaps (x n : Nat) (r : Nat × Nat) : Bool := decide (x < r.2) && decide (r.1 < x + n)

/-- The base of plan slot 0 (A) or 1 (B). -/
def Device.slotBase (d : Device) (i : Nat) : Nat :=
  if i = 0 then (d.reg Reg.tckSlotAHi).toNat * 2 ^ 32 + (d.reg Reg.tckSlotALo).toNat
  else (d.reg Reg.tckSlotBHi).toNat * 2 ^ 32 + (d.reg Reg.tckSlotBLo).toNat

/-- The area of a plan slot: 4 MiB (R47). -/
def Device.slotArea (d : Device) (i : Nat) : Nat × Nat := (d.slotBase i, d.slotBase i + 0x400000)

/-- The slots that host writes do not reach: the active one and one that a swap names (R48, R50). -/
def Device.heldSlots (d : Device) : List Nat :=
  (match d.tck.active with | some i => [i] | none => []) ++ (match d.tck.swap with | some w => [w.slot] | none => [])

/-- A host write to memory. -/
def Device.hostWrite (d : Device) (y : Nat) (bs : List Byte) (ep : Bool) : Device :=
  let d := d.perf 196 0x100 (ceilDiv bs.length 64)
  let a := d.hostAddr y
  let n := bs.length
  if !d.allMapped a n then (d.raise Reg.memStatus 6).memLog 6 0 a
  else if d.heldSlots.any fun i => overlaps a n (d.slotArea i) then d.raise Reg.tckStatus 7
  else if a < 0x400000000 && d.protRanges.any (overlaps (a % 2 ^ 32) n) then d.event Reg.hifModelState 31
  else if a < 0x400000000 && d.viewRanges.any (overlaps (a % 2 ^ 32) n) then d
  else if d.rawAt a then d.rawWrite a bs
  else d.writeMem a bs ep

/-- A host read of memory: the answer is in `hif.rsp`. -/
def Device.hostRead (d : Device) (y n : Nat) : Device :=
  let d := d.perf 196 0x101 (ceilDiv n 64)
  let a := d.hostAddr y
  let ans := fun (d : Device) r => { d with hif := { d.hif with rsp := r } }
  if !d.allMapped a n then
    ans (((d.raise Reg.memStatus 6).memLog 6 0 a).raise Reg.hifStatus 0) ⟨[], false, true⟩
  else if d.rawAt a then
    let (d, l) := d.rawRead a n
    ans d ⟨l, false, false⟩
  else
    let (d, l) := d.readTag a n
    ans d ⟨unmark l, anyMark l, false⟩

/-- The host reaches BAR2 offsets [y, y + n). -/
def Device.bar2Ok (d : Device) (y n : Nat) : Bool :=
  d.linkOk && !d.hif.d3 && decide (y + n ≤ 2 ^ d.hif.bar2Log)

/-! ## Commands -/

/-- MERGE_DRAIN (R155). -/
def execMergeDrain (ctrl : Nat) (s : State) : Host.Outcome State Fault Refusal :=
  act s.dev.cmpAlive (fun d => d.drainOldest ctrl) s

/-- FACET_ZEROING_COMPLETE (R146). -/
def execFacetZeroingComplete (f : Nat) (s : State) : Host.Outcome State Fault Refusal :=
  act (decide (f < 4) && s.dev.cmpAlive) (fun d => d.facetZeroed f) s

/-- SCRUB_SPAN_VISIT (R162). -/
def execScrubSpanVisit (ctrl : Nat) (s : State) : Host.Outcome State Fault Refusal :=
  act (okCtrl ctrl && s.dev.facetUp (ctrlFacet ctrl) && s.dev.bgRuns .scrub) (fun d => d.scrubVisit ctrl) s

/-- MEM_FENCE (R157). -/
def execMemFence (s : State) : Host.Outcome State Fault Refusal := act s.dev.cmpAlive Device.fenceStart s

/-- FENCE_COMPLETE (R157). -/
def execFenceComplete (s : State) : Host.Outcome State Fault Refusal := act s.dev.cmpAlive Device.fenceEnd s

/-- MEM_TEST_MODE_WRITE (R165). -/
def execMemTestModeWrite (v : Word) (s : State) : Host.Outcome State Fault Refusal :=
  act s.dev.cmpAlive (fun d => d.testWrite v) s

/-- HOST_MEMORY_WRITE (R343). -/
def execHostMemoryWrite (ofs : Nat) (bytes : List Byte) (ep : Bool) (s : State) : Host.Outcome State Fault Refusal :=
  act (s.dev.bar2Ok ofs bytes.length) (fun d => d.hostWrite ofs bytes ep) s

end Sys2Proof.Machine
end

