-- ==== Sys2Proof/Machine/HostReq.lean ====
section
/-! DEFINITION. Requests of the host (R312, R313, R350, R352 to R355), with those that need nothing beyond the plan
slots, the resident entries and the Facets; version and window registers (R343, R350). -/

namespace Sys2Proof.Machine

/-- The host reaches the device through a BAR: in D3hot no memory request is taken. -/
def Device.hostUp (d : Device) : Bool := d.linkOk && !d.hif.d3

/-- A minor version is agreed (R350). -/
def Device.agreed (d : Device) : Bool := d.bitAt Reg.hifVer 31

/-- The arguments of a request are those of the registers (R352). -/
def Device.setArgs (d : Device) (a : ReqArgs) : Device :=
  (((d.setReg (Reg.hifReqArg 0) a.a0).setReg (Reg.hifReqArg 1) a.a1).setReg (Reg.hifReqArg 2) a.a2).setReg
    (Reg.hifReqArg 3) a.a3

/-- The device is in CONFIGURED, RUN, DEGRADED or SAFE. -/
def Device.inService (d : Device) : Bool :=
  decide (d.chk.dev = .configured) || decide (d.chk.dev = .run) || decide (d.chk.dev = .degraded) || decide (d.chk.dev = .safe)

/-- The device is in CONFIGURED, SAFE or MAINT. -/
def Device.inStandby (d : Device) : Bool :=
  decide (d.chk.dev = .configured) || decide (d.chk.dev = .safe) || decide (d.chk.dev = .maint)

/-- HIF_REQ_STATUS.BUSY: the checker has not made both checks of the last submission (R352). -/
def Device.reqBusy (d : Device) : Bool := decide (d.q < d.hif.busyTill)

/-- A submission: dropped with OVERLAP while BUSY reads 1; else OVERLAP is cleared, and BUSY reads 1 for at most 8,000 c-cycles
(R352; how long is free, and both checks are judged at its beginning: DESIGN CHOICE, log 158). -/
def Device.submission (d : Device) (f : Device → Device) : Device :=
  if d.reqBusy then d.setBit Reg.hifReqStatus 30 true
  else
    let d := d.setBit Reg.hifReqStatus 30 false
    f { d with hif := { d.hif with busyTill := d.q + cQ * (1 + Config.checkTime d.q % 8000) } }

/-- A request passes both checks of R312, and then does `body`: arguments first, then the state; in the ROM-only
condition MAINT and WARM_RESET alone are accepted (R382). -/
def Device.request (d : Device) (op : Nat) (tag : Byte) (a : ReqArgs) (argsOk stateOk : Bool)
    (body : Device → Device) : Device :=
  d.submission fun d =>
    let d := d.setArgs a
    if !d.agreed || !argsOk then d.complete op tag 2 0
    else if (d.chk.romOnly && decide (op ≠ 8) && decide (op ≠ 9)) || !stateOk then d.stateReject op tag
    else body d

/-- Arguments 1 to 3 are 0. -/
def args0 (a : ReqArgs) : Bool := decide (a.a1 = 0) && decide (a.a2 = 0) && decide (a.a3 = 0)

/-- No argument. -/
def noArgs (a : ReqArgs) : Bool := decide (a.a0 = 0) && args0 a

/-! ## SWAP (R48, R49) -/

/-- A SWAP may be accepted in the present state. -/
def Device.swapOk (d : Device) (slot : Nat) : Bool :=
  d.inService && d.tck.swap.isNone && decide (d.tck.active ≠ some slot)

/-- SWAP: validation starts. -/
def Device.reqSwap (d : Device) (tag : Byte) (a : ReqArgs) : Device :=
  let slot := bits a.a0 0 0
  d.request 1 tag a (decide (bits a.a0 31 1 = 0) && args0 a) (d.swapOk slot) fun d =>
    let d := d.startReq 1 tag a.a0
    { d with tck := { d.tck with swap := some ⟨tag, slot, .validating, 0⟩ } }

/-! ## LOAD, UNLOAD, REPLACE (R174, R179, R180) -/

/-- The source of a LOAD is well-formed. -/
def loadArgs (a : ReqArgs) : Bool :=
  decide (bits a.a0 31 4 = 0) &&
  ((decide (a.a0.toNat < 4) && args0 a) ||
   (decide (a.a0.toNat = 15) && decide (bits a.a1 11 0 = 0) && decide (bits a.a2 31 16 = 0)))

/-- How many models are resident. -/
def Device.residents (d : Device) : Nat := b2n (decide (d.model0.st = .resident)) + b2n (decide (d.model1.st = .resident))

/-- Replace resident entry `n`. -/
def Device.setModel (d : Device) (n : Nat) (m : Model) : Device :=
  if n = 0 then { d with model0 := m } else { d with model1 := m }

/-- The resident entry that a load fills: the lowest empty one. -/
def Device.freeEntry (d : Device) : Nat := if d.model0.st = .empty then 0 else 1

/-- A load into entry `n` is in progress. -/
def Device.loadInto (d : Device) (op : Nat) (tag : Byte) (a : ReqArgs) (n : Nat) : Device :=
  ({ d with load := some ⟨op, tag, a, n, false⟩ }).setModel n { Model.reset with st := .loading }

/-- LOAD (R174). -/
def Device.reqLoad (d : Device) (tag : Byte) (a : ReqArgs) : Device :=
  d.request 2 tag a (loadArgs a)
    ((d.inService || decide (d.chk.dev = .maint)) && decide (d.residents < 2) && d.load.isNone) fun d =>
    (d.startReq 2 tag a.a0).loadInto 2 tag a d.freeEntry

/-- The MODEL_TAG that the plan in a slot names. -/
def Device.slotTag (d : Device) (slot : Nat) : DWord := BitVec.ofNat 64 (leNat (d.peek (d.slotBase slot + 0x10) 8))

/-- A resident entry is active or named by a swap in progress (R178, R179). -/
def Device.entryHeld (d : Device) (n : Nat) : Bool :=
  let t := (d.modelAt n).tag
  (d.tck.active.isSome && decide (d.tck.modelTag = t)) ||
  (match d.tck.swap with | some w => decide (d.slotTag w.slot = t) | none => false)

/-- The tag that a swap in progress names is read (R149). -/
def Device.heldRead (d : Device) : Device :=
  match d.tck.swap with | some w => d.sense (d.slotBase w.slot + 0x10) 8 | none => d

/-- UNLOAD (R179). -/
def Device.reqUnload (d : Device) (tag : Byte) (a : ReqArgs) : Device :=
  let n := bits a.a0 0 0
  d.request 3 tag a (decide (bits a.a0 31 1 = 0) && args0 a && decide ((d.modelAt n).st ≠ .empty))
    ((d.inService || decide (d.chk.dev = .maint)) && d.load.isNone && !d.entryHeld n) fun d =>
    let d := d.heldRead.startReq 3 tag a.a0
    { d with load := some ⟨3, tag, a, n, false⟩ }

/-- REPLACE (R180): SAFE with cause MODEL_SWAP is decided for the next tick. -/
def Device.reqReplace (d : Device) (tag : Byte) (a : ReqArgs) : Device :=
  d.request 4 tag a (loadArgs a) (d.inService && d.load.isNone) fun d =>
    let d := d.startReq 4 tag a.a0
    ({ d with load := some ⟨4, tag, a, 0, true⟩ }).decideSafe 0xE1 false

/-! ## MAINT, WARM_RESET, FACET_RETURN (R297, R306, R313) -/

/-- Entry into MAINT (R157, R306): ticks stop, the memory fence starts, MAINT requests complete. -/
def Device.enterMaint (d : Device) : Device :=
  let d := (d.setState .maint).fenceStart
  let t := { d.tck with running := false, testWait := false, testEnd := false, testPlan := [], firstTick := true, frameOpen := false }
  let d := { d with tck := t, chk := { d.chk with causes := [], lockout := false } }
  d.withdraw.completeWhere (fun r => r.op = 8) 0 0

/-- MAINT: the device enters MAINT at the next tick; where no tick runs (R382), at once (DEDUCED, log 22). -/
def Device.reqMaint (d : Device) (tag : Byte) (a : ReqArgs) : Device :=
  d.request 8 tag a (noArgs a) (decide (d.chk.dev = .configured) || decide (d.chk.dev = .safe)) fun d =>
    let d := d.startReq 8 tag a.a0
    if d.tck.running then d else d.enterMaint

/-- WARM_RESET: completes before the reset begins (Table 14.6). -/
def Device.reqWarm (d : Device) (tag : Byte) (a : ReqArgs) : Device :=
  d.request 9 tag a (noArgs a) (decide (d.chk.dev = .maint)) fun d => (d.complete 9 tag 0 0).askWarm 0xE6

/-- FACET_RETURN (R297). -/
def Device.reqReturn (d : Device) (tag : Byte) (a : ReqArgs) : Device :=
  let f := bits a.a0 1 0
  d.request 10 tag a (decide (bits a.a0 31 2 = 0) && args0 a) (d.inService && decide ((d.facetAt f).st = .ready)) fun d =>
    (d.startReq 10 tag a.a0).modFacet f fun x => { x with st := .returnPending, acceptedAt := d.q }

/-! ## HIF_HOST_VER and HIF_BAR2_BASE -/

/-- A write of HIF_HOST_VER (R350): this device speaks 1.0. -/
def Device.hostVer (d : Device) (v : Word) : Device :=
  if bits v 15 8 = 1 then
    ((d.setReg Reg.hifHostVer (word (bits v 15 0))).setFld Reg.hifVer 7 0 (min (bits v 7 0) 0)).setBit Reg.hifVer 31 true
  else d.raise Reg.hifStatus 3

/-- A write of one half of HIF_BAR2_BASE (R343). -/
def Device.bar2Write (d : Device) (hi : Bool) (v : Word) : Device :=
  let lo' := if hi then d.reg Reg.hifBar2BaseLo else word (bits v 31 30 * 2 ^ 30)
  let hi' := if hi then word (bits v 3 0) else d.reg Reg.hifBar2BaseHi
  if (hi'.toNat * 2 ^ 32 + lo'.toNat) % 2 ^ d.hif.bar2Log = 0
  then (d.setReg Reg.hifBar2BaseLo lo').setReg Reg.hifBar2BaseHi hi'
  else d.raise Reg.hifStatus 4

/-! ## Commands -/

/-- SWAP (R49). -/
def execSwap (tag : Byte) (a : ReqArgs) (s : State) : Host.Outcome State Fault Refusal :=
  act s.dev.hostUp (fun d => d.reqSwap tag a) s

/-- LOAD (R174). -/
def execLoad (tag : Byte) (a : ReqArgs) (s : State) : Host.Outcome State Fault Refusal :=
  act s.dev.hostUp (fun d => d.reqLoad tag a) s

/-- UNLOAD (R179). -/
def execUnload (tag : Byte) (a : ReqArgs) (s : State) : Host.Outcome State Fault Refusal :=
  act s.dev.hostUp (fun d => d.reqUnload tag a) s

/-- REPLACE (R180). -/
def execReplace (tag : Byte) (a : ReqArgs) (s : State) : Host.Outcome State Fault Refusal :=
  act s.dev.hostUp (fun d => d.reqReplace tag a) s

/-- MAINT (R313). -/
def execMaint (tag : Byte) (a : ReqArgs) (s : State) : Host.Outcome State Fault Refusal :=
  act s.dev.hostUp (fun d => d.reqMaint tag a) s

/-- WARM_RESET (R313). -/
def execWarmReset (tag : Byte) (a : ReqArgs) (s : State) : Host.Outcome State Fault Refusal :=
  act s.dev.hostUp (fun d => d.reqWarm tag a) s

/-- FACET_RETURN (R297). -/
def execFacetReturn (tag : Byte) (a : ReqArgs) (s : State) : Host.Outcome State Fault Refusal :=
  act s.dev.hostUp (fun d => d.reqReturn tag a) s

/-- HIF_HOST_VER_WRITE (R350). -/
def execHifHostVerWrite (v : Word) (s : State) : Host.Outcome State Fault Refusal :=
  act s.dev.hostUp (fun d => d.hostVer v) s

/-- HIF_BAR2_BASE_WRITE (R343). -/
def execHifBar2BaseWrite (hi : Bool) (v : Word) (s : State) : Host.Outcome State Fault Refusal :=
  act s.dev.hostUp (fun d => d.bar2Write hi v) s

end Sys2Proof.Machine
end

