-- ==== Sys2Proof/Machine/CheckValue.lean ====
section
/-! DEFINITION. The check-value unit (R271 to R283). -/

namespace Sys2Proof.Machine

/-! ## Contexts (R271 to R273) -/

/-- Context `c`. -/
def Device.ctxAt (d : Device) (c : Nat) : Ctx := tabGet Ctx.reset d.cvu.ctx c
/-- Replace context `c`. -/
def Device.setCtx (d : Device) (c : Nat) (x : Ctx) : Device :=
  { d with cvu := { d.cvu with ctx := tabSet Ctx.reset d.cvu.ctx c x } }

/-- Enable a context: its counters are cleared, and it enters SEQ where it may (R272, Table 11.3). -/
def Device.enableCtx (d : Device) (c : Nat) (o : Owner) (cap : Bool) (seed : Word) (gap : Nat) (dest : Word) : Device :=
  d.setCtx c { Ctx.reset with en := true, owner := o, seqMode := cap, seqCap := cap, seed := seed, maxGap := gap, dest := dest }

/-- The contexts of an owner go. -/
def Device.dropCtxs (d : Device) (o : Owner) : Device :=
  { d with cvu := { d.cvu with ctx := d.cvu.ctx.filter fun c => c.2.owner ≠ o } }

/-- The owner that resident entry `n` is. -/
def ownerOf (n : Nat) : Owner := if n = 0 then .model0 else .model1

/-- The seed of a manifest context (R273). -/
def manifestSeed (ctx : Nat) (tag : DWord) : Word := word (crc32c 0xFFFFFFFF (toLe 2 ctx ++ toLe 8 tag.toNat))

/-- The DEST of a structure-image context under a safety parameter set (R273). -/
def destOf (p : SafetySet) (ctx : Nat) : Word :=
  match (p.range.sensor.zipIdx).find? fun s => p.range.sensors.getLsbD s.2 && s.1.prot && decide (s.1.ctx = ctx) with
  | some s => word s.1.udpPort
  | none => 0

/-- The structure image's contexts are enabled at boot (R271). -/
def Device.imageCtxs (d : Device) (l : List CtxEntry) (p : SafetySet) : Device :=
  (l.filter (·.en)).foldl (fun d e => d.enableCtx e.ctx .image e.seqCap e.seed e.maxGap (destOf p e.ctx)) d

/-- The contexts of a model are enabled (R271, R273). -/
def Device.modelCtxs (d : Device) (n : Nat) : Device :=
  let m := d.modelAt n
  m.ctxs.foldl (fun d c => d.enableCtx c (ownerOf n) true (manifestSeed c m.tag) 0 0) d

/-! ## Judgement (R277 to R280) -/

/-- How a packet is judged (Table 11.8). -/
inductive PktOut where
  | pass | crc | rep | loss
deriving DecidableEq, Repr

/-- The code of an outcome. -/
def PktOut.code : PktOut → Nat
  | .pass => 0 | .crc => 1 | .rep => 2 | .loss => 3

/-- What the context was at time `t`, where it has entered a mode since (R277). -/
def Ctx.was (c : Ctx) (t : Nat) : Option CtxWas := c.past.find? fun x => decide (t < x.till)

/-- The mode in force at time `t`. -/
def Ctx.modeAt (c : Ctx) (t : Nat) : Bool := match c.was t with | some x => x.seqMode | none => c.seqMode

/-- Steps 2 and 3 of R277 in mode `c.seqMode`: the layout of Table 11.2 and the CRC. -/
def pktSound (c : Ctx) (bs : List Byte) (max : Nat) (dest : Word) : Bool :=
  let n := leAt bs 4 2
  let flags := leAt bs 6 1
  decide (1 ≤ n) && decide (n ≤ max) && decide (bs.length = 16 + n) && decide (flags / 2 = 0) && decide (leAt bs 7 1 = 0) &&
  decide ((flags % 2 = 1) = (c.seqMode = true)) && (c.seqMode || decide (leAt bs 8 4 = 0)) &&
  decide (leAt bs (12 + n) 4 =
    crc32c c.seed.toNat (slice bs 0 (12 + n) ++ (if c.seqMode then toLe 4 dest.toNat else [])))

/-- Step 4 of R277 (R278): the context after, and the outcome. -/
def seqJudge (c : Ctx) (alive : BitVec 16) (seq : Word) : Ctx × PktOut :=
  let set := { c with last := alive, lastSeq := seq, lastValid := true }
  if !c.lastValid then (set, .pass)
  else
    let dd := (alive - c.last).toNat
    let g := if c.seqMode then 0 else c.maxGap
    if dd = 0 ∨ (c.seqMode ∧ seq = c.lastSeq) then (c, .rep)
    else if dd ≤ g + 1 ∧ (!c.seqMode ∨ seq = c.lastSeq + 1) then ({ set with gap := satAdd 16 c.gap (dd - 1) }, .pass)
    else (set, .loss)

/-- Count an outcome in its context. -/
def Ctx.note (c : Ctx) (o : PktOut) : Ctx :=
  let c := { c with lastOut := o.code }
  match o with
  | .pass => { c with pass := satAdd 32 c.pass 1 }
  | .crc => { c with crc := satAdd 16 c.crc 1 }
  | .rep => { c with rep := satAdd 16 c.rep 1 }
  | .loss => { c with loss := satAdd 16 c.loss 1 }

/-- Count and log a failure charged to frame `f` (R279). -/
def Device.cvuFailLog (d : Device) (ctx alive : Nat) (o : PktOut) (f : Word) : Device :=
  let d := d.incr (if o = .crc then Reg.cvuCntCrc else if o = .rep then Reg.cvuCntRepeat else Reg.cvuCntLoss)
  let i := d.fld Reg.cvuStatus 19 16
  let d := d.setReg (Reg.cvuLogId i) (word (o.code * 2 ^ 30 + ctx))
  let d := d.setReg (Reg.cvuLogAt i) (word (f.toNat % 65536 * 65536 + alive))
  (d.setFld Reg.cvuStatus 19 16 ((i + 1) % 16)).event Reg.cvuStatus 1

/-- Add a cause to the frame in progress; after its verdict, LATE to the next (R225, R242). -/
def Device.addCause (d : Device) (b : Nat) : Device :=
  if d.apt.issued then { d with apt := { d.apt with carry := d.apt.carry ||| 0x8000 } }
  else { d with apt := { d.apt with causes := d.apt.causes ||| BitVec.ofNat 32 (2 ^ b) } }

/-- Charge a failure to the frame in progress, or to the next one (R228, R279): CHECK_VALUE, and CVU_FAIL once per
frame. -/
def Device.cvuCharge (d : Device) (next : Bool) : Device :=
  if next then
    let first := !d.apt.carry.getLsbD 3
    let d := { d with apt := { d.apt with carry := d.apt.carry ||| 8 }
                      cvu := { d.cvu with nextFail := d.cvu.nextFail + 1 } }
    if first then d.chkRaise Src.cvuFail else d
  else
    let first := !d.cvu.raised
    let d := { d.addCause 3 with cvu := { d.cvu with frameFail := d.cvu.frameFail + 1, raised := true } }
    if first then d.chkRaise Src.cvuFail else d

/-- The state of a context before a judgement of this c-cycle is kept for its snapshots (R280). -/
def Device.keepCtx (d : Device) (k : Nat) : Device :=
  let l := d.cvu.before.filter fun x => decide (x.1 = d.q / cQ)
  { d with cvu := { d.cvu with before := if l.any fun x => decide (x.2.1 = k) then l else l ++ [(d.q / cQ, k, d.ctxAt k)] } }

/-- Judge a packet expected in context `ctx` (R277), in the mode in force when its first byte arrived, `lead` c-cycles ago:
its bytes, the largest payload, its DEST and whether it is charged to the next frame. -/
def Device.judge (d : Device) (ctx : Nat) (bs : List Byte) (max : Nat) (dest : Word) (next : Bool) (lead : Nat) :
    Device × PktOut :=
  let d := d.keepCtx ctx
  let named := leAt bs 0 2
  let alive := leAt bs 2 2
  let d := if (d.ctxAt named).en then d else (d.incr Reg.cvuCntUnknown).event Reg.cvuStatus 2
  let c := d.ctxAt ctx
  let now := c.seqMode
  let c := { c with seqMode := c.modeAt (d.q - lead * cQ) }
  let (c, o) := if named = ctx && c.en && pktSound c bs max dest
    then seqJudge c (BitVec.ofNat 16 alive) (word (leAt bs 8 4)) else (c, PktOut.crc)
  let d := d.setCtx ctx { c.note o with seqMode := now }
  if o = .pass then (d.incr Reg.cvuCntPass, o)
  else ((d.cvuFailLog ctx alive o (if next then d.frame + 1 else d.frame)).cvuCharge next, o)

/-! ## Modes (R282) and snapshots (R283) -/

/-- Channel A's firmware runs, and its stores are released (R251, R255). -/
def Device.chanA (d : Device) : Bool :=
  d.chk.power && decide (d.chk.dev ≠ .fatal) && !d.core.held && !d.core.split && !d.core.discard && !d.core.haltA && !d.core.haltB

/-- The states that accept a mode change (R282). -/
def Device.modeState (d : Device) : Bool := decide (d.chk.dev = .startupTest) || d.inStandby

/-- A context may change to a mode in some state. -/
def Device.modeOk (d : Device) (ctx : Nat) (seq : Bool) : Bool := (d.ctxAt ctx).en && (!seq || (d.ctxAt ctx).seqCap)

/-- Channel A writes CVU_A_CFG.MODE: an accepted mode reads back (R9). -/
def Device.modeWrite (d : Device) (v : Word) : Device :=
  let c := d.fld (Reg.cvuSel 0) 15 0
  if d.modeState && d.modeOk c (bit v 24) then
    (d.setCtx c ((d.ctxAt c).enter d.q (bit v 24))).setBit (Reg.cvuCfg 0) 24 (bit v 24)
  else d.event Reg.cvuStatus 3

/-- The request CVU_MODE. -/
def Device.reqMode (d : Device) (tag : Byte) (a : ReqArgs) : Device :=
  let c := bits a.a0 15 0
  let m := bit a.a0 16
  d.request 7 tag a (decide (bits a.a0 31 17 = 0) && args0 a && d.modeOk c m) d.modeState fun d =>
    (d.setCtx c ((d.ctxAt c).enter d.q m)).complete 7 tag 0 0

/-- The code of an owner (Table 11.7). -/
def Owner.code : Owner → Nat
  | .image => 1 | .model0 => 2 | .model1 => 3

/-- Context `k` as a snapshot shows it: from before a judgement of this c-cycle (R280). -/
def Device.ctxShown (d : Device) (k : Nat) : Ctx :=
  match d.cvu.before.find? fun x => decide (x.1 = d.q / cQ) && decide (x.2.1 = k) with
  | some x => x.2.2
  | none => d.ctxAt k

/-- Latch a snapshot of the context that `v` names for reader `x`: 0 channel A, 1 the host. -/
def Device.cvuSnap (d : Device) (x : Nat) (v : Word) : Device :=
  let k := bits v 15 0
  let c := d.ctxShown k
  let cfg := 2 ^ 31 + c.owner.code * 2 ^ 29 + b2n c.seqCap * 2 ^ 28 + b2n c.seqMode * 2 ^ 24 + c.maxGap % 16 * 2 ^ 16 + c.dest.toNat % 65536
  let w := fun n : Nat => if c.en then word n else 0
  let d := (d.setReg (Reg.cvuSel x) (word k)).setReg (Reg.cvuCfg x) (w cfg)
  let d := d.setReg (Reg.cvuState x) (w (b2n c.lastValid * 2 ^ 31 + c.lastOut % 4 * 2 ^ 16 + c.last.toNat))
  let d := (d.setReg (Reg.cvuSeq x) (w c.lastSeq.toNat)).setReg (Reg.cvuSeed x) (w c.seed.toNat)
  let d := d.setReg (Reg.cvuPass x) (w c.pass)
  (d.setReg (Reg.cvuCnt0 x) (w (c.crc * 65536 + c.rep))).setReg (Reg.cvuCnt1 x) (w (c.loss * 65536 + c.gap))

/-! ## Commands -/

/-- CVU_MODE (R282). -/
def execCvuMode (tag : Byte) (a : ReqArgs) (s : State) : Host.Outcome State Fault Refusal :=
  act s.dev.hostUp (fun d => d.reqMode tag a) s

/-- CVU_MODE_WRITE (R282). -/
def execCvuModeWrite (v : Word) (s : State) : Host.Outcome State Fault Refusal :=
  act s.dev.chanA (fun d => d.modeWrite v) s

/-- CVU_SNAPSHOT (R283). -/
def execCvuSnapshot (m : Master) (v : Word) (s : State) : Host.Outcome State Fault Refusal :=
  match m with
  | .host => act s.dev.hostUp (fun d => d.cvuSnap 1 v) s
  | .channelA => act s.dev.chanA (fun d => d.cvuSnap 0 v) s

end Sys2Proof.Machine
end

