-- ==== Sys2Proof/Machine/Crypto.lean ====
section
/-! DEFINITION. The standards' functions that the spec names (R168, R378, R379, R393): SHA-384 (FIPS 180-4),
HMAC-SHA-384 (FIPS 198-1) and ECDSA verification on P-384 (FIPS 186-5). The spec names them and does not restate them:
PRESUMED from the standards, log 9. -/

namespace Sys2Proof.Machine

/-! ## SHA-384 -/

/-- The first 80 primes. -/
def primes80 : List Nat :=
  (List.range 410).filter fun n => decide (2 ≤ n) && (List.range 21).all fun d => decide (d < 2) || decide (n ≤ d) || decide (n % d ≠ 0)

/-- The largest `r` below 2^`n` above `r₀` with r^`k` ≤ `x`, bit by bit. -/
def rootOf (k x : Nat) : Nat → Nat → Nat
  | 0, r => r
  | n + 1, r => rootOf k x n (if (r + 2 ^ n) ^ k ≤ x then r + 2 ^ n else r)

/-- The first 64 bits of the fractional part of the `k`-th root of `p`. -/
def rootFrac (k p : Nat) : Nat := rootOf k (p * 2 ^ (64 * k)) 70 0 % 2 ^ 64

/-- The round constants: cube roots of the first 80 primes (FIPS 180-4, 4.2.3). -/
def shaK : List Nat := primes80.map (rootFrac 3)

/-- The initial hash value: square roots of the ninth through sixteenth primes (FIPS 180-4, 5.3.4). -/
def shaInit : List Nat := ((primes80.drop 8).take 8).map (rootFrac 2)

/-- A 64-bit sum. -/
def add64 (l : List Nat) : Nat := l.foldl (· + ·) 0 % 2 ^ 64
/-- Rotate right. -/
def rotr64 (n x : Nat) : Nat := x / 2 ^ n + x % 2 ^ n * 2 ^ (64 - n)
/-- Σ0, Σ1, σ0, σ1: two rotations, and a third rotation or a shift. -/
def shaSigma (a b : Nat) (rot : Bool) (c x : Nat) : Nat :=
  rotr64 a x ^^^ rotr64 b x ^^^ (if rot then rotr64 c x else x / 2 ^ c)
/-- Ch. -/
def shaCh (x y z : Nat) : Nat := (x &&& y) ^^^ ((2 ^ 64 - 1 - x) &&& z)
/-- Maj. -/
def shaMaj (x y z : Nat) : Nat := (x &&& y) ^^^ (x &&& z) ^^^ (y &&& z)

/-- The message schedule, newest word first: 16 words of the block, then `n` more. -/
def shaSched : Nat → List Nat → List Nat
  | 0, w => w
  | n + 1, w => shaSched n
      (add64 [shaSigma 19 61 false 6 (nth w 1 0), nth w 6 0, shaSigma 1 8 false 7 (nth w 14 0), nth w 15 0] :: w)

/-- One round with its constant and word. -/
def shaRound (h : List Nat) (kw : Nat × Nat) : List Nat :=
  match h with
  | [a, b, c, d, e, f, g, i] =>
    let t1 := add64 [i, shaSigma 14 18 true 41 e, shaCh e f g, kw.1, kw.2]
    let t2 := add64 [shaSigma 28 34 true 39 a, shaMaj a b c]
    [add64 [t1, t2], a, b, c, add64 [d, t1], e, f, g]
  | h => h

/-- One block of 128 bytes. -/
def shaBlock (h : List Nat) (b : List Byte) : List Nat :=
  let w := (shaSched 64 (((List.range 16).map fun i => beNat (slice b (8 * i) 8)).reverse)).reverse
  ((shaK.zip w).foldl shaRound h).zipWith (fun x y => add64 [x, y]) h

/-- The message with its padding: a one bit, zeros, and the length in bits as 16 bytes. -/
def shaPad (m : List Byte) : List Byte :=
  m ++ 0x80 :: List.replicate ((239 - m.length % 128) % 128) 0 ++ (toLe 16 (8 * m.length)).reverse

/-- The blocks of a padded message, folded. -/
def shaRun (h : List Nat) (m : List Byte) : Nat → List Nat
  | 0 => h
  | n + 1 => shaRun (shaBlock h (m.take 128)) (m.drop 128) n

/-- SHA-384, as a number whose most significant byte is digest byte 0 (R168). -/
def sha384 (m : List Byte) : BitVec 384 :=
  let p := shaPad m
  BitVec.ofNat 384 (((shaRun shaInit p (p.length / 128)).take 6).foldl (fun a x => a * 2 ^ 64 + x) 0)

/-- A digest as its 48 bytes, byte 0 first (R168). -/
def digestBytes (x : BitVec 384) : List Byte := (toLe 48 x.toNat).reverse

/-- HMAC-SHA-384 (R393) under a key of at most 128 bytes. -/
def hmacSha384 (key m : List Byte) : BitVec 384 :=
  let k := slice key 0 128
  sha384 (k.map (· ^^^ 0x5C) ++ digestBytes (sha384 (k.map (· ^^^ 0x36) ++ m)))

/-! ## ECDSA on P-384 -/

/-- The prime of the field. -/
def p384 : Nat := 2 ^ 384 - 2 ^ 128 - 2 ^ 96 + 2 ^ 32 - 1
/-- The order of the base point. -/
def n384 : Nat := 0xffffffffffffffffffffffffffffffffffffffffffffffffc7634d81f4372ddf581a0db248b0a77aecec196accc52973
/-- The coefficient b; a is -3. -/
def b384 : Nat := 0xb3312fa7e23ee7e4988e056be3f82d19181d9c6efe8141120314088f5013875ac656398d8a2ed19d2a85c8edd3ec2aef

/-- A point of the curve; none is the point at infinity. -/
abbrev Point : Type := Option (Nat × Nat)

/-- The base point. -/
def g384 : Point :=
  some (0xaa87ca22be8b05378eb1c71ef320ad746e1d3b628ba79b9859f741e082542a385502f25dbf55296c3a545e3872760ab7,
        0x3617de4a96262c6f5d9e98bf9292dc29f8f41dbd289a147ce9da3113b5f0b8c00a60b1ce1d7e819d7a431d7c90ea0e5f)

/-- `a` to the power `e` modulo `m`, over `n` bits of `e` from bit 0 up. -/
def powMod (m : Nat) : Nat → Nat → Nat → Nat → Nat
  | 0, _, _, acc => acc
  | n + 1, a, e, acc => powMod m n (a * a % m) (e / 2) (if e % 2 = 1 then acc * a % m else acc)

/-- The inverse modulo a prime below 2^384: the power m - 2. -/
def invMod (m a : Nat) : Nat := powMod m 384 (a % m) (m - 2) 1

/-- A difference modulo the field's prime. -/
def subP (a b : Nat) : Nat := (a + p384 - b % p384) % p384

/-- The sum of two points. -/
def ptAdd (p q : Point) : Point :=
  match p, q with
  | none, q => q
  | p, none => p
  | some (x1, y1), some (x2, y2) =>
    if x1 = x2 ∧ (y1 ≠ y2 ∨ y1 = 0) then none
    else
      let l := if x1 = x2 then subP (3 * x1 * x1) 3 * invMod p384 (2 * y1) % p384
        else subP y2 y1 * invMod p384 (subP x2 x1) % p384
      let x := subP (l * l) (x1 + x2)
      some (x, subP (l * subP x1 x) y1)

/-- `k` times a point, over `n` bits of `k` from bit 0 up. -/
def ptMul : Nat → Nat → Point → Point → Point
  | 0, _, _, acc => acc
  | n + 1, k, p, acc => ptMul n (k / 2) (ptAdd p p) (if k % 2 = 1 then ptAdd acc p else acc)

/-- The public key as stored: X then Y, each highest byte first (Table 16.2). -/
def keyBytes (k : BitVec 768) : List Byte := (toLe 96 k.toNat).reverse

/-- SHA-384 of a public key (R379). -/
def keyHash (k : BitVec 768) : BitVec 384 := sha384 (keyBytes k)

/-- ECDSA on P-384 verifies (r, s) over a digest with a public key (FIPS 186-5, 6.4.2). -/
def ecdsaP384 (key : BitVec 768) (digest r s : BitVec 384) : Bool :=
  let x := key.toNat / 2 ^ 384
  let y := key.toNat % 2 ^ 384
  let r := r.toNat
  let s := s.toNat
  decide (x < p384) && decide (y < p384) && decide (y * y % p384 = subP (x * x * x + b384) (3 * x)) &&
  decide (1 ≤ r) && decide (r < n384) && decide (1 ≤ s) && decide (s < n384) &&
  (let w := invMod n384 s
   match ptAdd (ptMul 384 (digest.toNat * w % n384) g384 none) (ptMul 384 (r * w % n384) (some (x, y)) none) with
   | some (u, _) => decide (u % n384 = r)
   | none => false)

end Sys2Proof.Machine
end

