-- ==== Sys2Proof/Machine/CorePair.lean ====
section
/-! DEFINITION. Channel A: lockstep comparison (R250 to R253), restart (R254), debug (R255, R256), the question-and-answer
watchdog (R257 to R262) and the escalation ladder (R263). -/

namespace Sys2Proof.Machine

/-- The pair runs in lockstep: its firmware has initialized after a passed comparator test (Table 10.5). -/
def Device.synced (d : Device) : Bool := d.core.sync && d.core.testPassed && !d.core.split && !d.core.held

/-! ## Channel A restart (Table 10.1) -/

/-- Channel A's drive is removed from both outputs (R254, R255). -/
def Output.offA (o : Output) (i : Chan) (q : Nat) : Output := o.open_ i true false q

/-- Channel A's enable request is forced off in hardware. -/
def Device.dropA (d : Device) : Device :=
  { d with sio := { d.sio with chA := { d.sio.chA with req := false }
                               outA := d.sio.outA.offA .a d.q, outB := d.sio.outB.offA .b d.q } }

/-- The cause of a channel A restart is registered: `k` is LAST_CAUSE, `cause` the code in CHK_STATE. -/
def Device.restartCause (d : Device) (k cause : Nat) : Device :=
  let d := (d.setFld Reg.chkCore 19 16 k).count Reg.chkCore 15 0 1
  let d := { d with core := { d.core with due := true, held := true, sync := false } }
  d.dropA.safeFromRun cause true

/-! ## Escalation ladder (R263) -/

/-- WDG_MAX_TRIES of the option fuses, 1 to 7, 3 where the fuses hold 0 (R263). -/
def Device.maxTries (d : Device) : Nat := if d.boot.otp.wdgMaxTries % 8 = 0 then 3 else d.boot.otp.wdgMaxTries % 8

/-- A channel A failure: `src` and `cause` of its source, `k` its code in LAST_CAUSE. -/
def Device.channelFail (d : Device) (src cause k : Nat) : Device :=
  if d.chk.dev = .fatal then d
  else
    let l := d.ladder
    let n := min (l.expCnt + 1) 7
    let d := { d with ladder := { l with expCnt := n, runSince := false, timerAt := some d.q } }
    if d.maxTries ≤ n then d.enterFatal src cause
    else if 2 ≤ n ∧ (!l.runSince ∨ l.timerAt.isSome) then d.askWarm cause
    else d.restartCause k cause

/-- Evidence of a channel A failure (R262): the main core's PC and the kind. -/
def Device.evidence (d : Device) (pc : Word) (kind : Nat) : Device :=
  { d.setReg Reg.wdgEvidPc pc with ladder := { d.ladder with lastKind := kind } }

/-! ## Comparator (R250 to R253) -/

/-- A mismatch of kind `k` (Table 10.6) with the lanes that differ. -/
def Device.cmpMismatch (d : Device) (k : Nat) (lo hi : Word) (retired : Nat) (pc : Word) : Device :=
  let d := (d.event Reg.chkCmpStatus 31).setFld Reg.chkCmpStatus 30 28 k
  let d := (d.setReg Reg.chkCmpDiffLo lo).setReg Reg.chkCmpDiffHi hi
  let d := (d.setReg Reg.chkCmpRetired (word retired)).evidence pc 4
  (d.chkRaise Src.lockstep).channelFail Src.lockstep 0x49 2

/-- The comparisons run: not in reset, not split, not after a failing store. -/
def Device.comparing (d : Device) : Bool :=
  d.chk.power && decide (d.chk.dev ≠ .fatal) && !d.core.held && !d.core.split && !d.core.discard

/-! ## What enters and leaves the pair (R247 to R249, R251) -/

/-- One register write into a signature (R249): x0 and control registers are not folded. -/
def foldWrite (s : Word) (w : RegWrite) : Word :=
  match w with
  | .x n v => if n = 0 then s else word (crcRun s.toNat (toLe 1 n ++ toLe 4 v.toNat))
  | .f n v => word (crcRun s.toNat (toLe 1 (32 + n) ++ toLe 4 v.toNat))
  | .csr _ _ => s

/-- The signature after a core's writes. -/
def foldWrites (s : Word) (l : List RegWrite) : Word := l.foldl foldWrite s

/-- The TCM corrects a word of which one bit reads wrong; any other error is uncorrectable (R148, R247). -/
def Device.tcmRead (d : Device) (flips : BitVec 39) : Device :=
  let syn := checkBits cols32 (flips.toNat % 2 ^ 32) ^^^ flips.toNat / 2 ^ 32
  if syn = 0 then d
  else if (cols32 ++ [1, 2, 4, 8, 16, 32, 64]).contains syn then d.incr Reg.chkTcmCeCnt
  else d.chkRaise Src.chkTcmUe

/-- A step of the delay queue (R248): with 32 values waiting the main core stalls; the Mirror core takes a value from 3 c-cycles
after its capture on, and a trap at the main core's count. -/
def Device.coreStep (d : Device) (s : CoreStep) : Device :=
  match s with
  | .capture t i =>
    if 32 ≤ d.core.delay.length then d
    else
      let d := { d with core := { d.core with delay := d.core.delay ++ [(t, i)] } }
      match i with | .tcm _ e => d.tcmRead e | _ => d
  | .deliver t n =>
    match d.core.delay with
    | (t0, .trap k) :: l => if t0 + 3 ≤ t ∧ k = n then { d with core := { d.core with delay := l } } else d
    | (t0, _) :: l => if t0 + 3 ≤ t then { d with core := { d.core with delay := l } } else d
    | [] => d

/-- Steps in order. -/
def Device.coreSteps (d : Device) (l : List CoreStep) : Device := l.foldl (fun d s => d.coreStep s) d

/-- Bytes into the TCM. -/
def Device.tcmPut (d : Device) (a : Nat) (bs : List Byte) : Device :=
  { d with core := { d.core with tcm := (bs.zipIdx).foldl (fun t b => tabSet 0 t (a + b.2) b.1) d.core.tcm } }

/-- `n` bytes of the TCM. -/
def Device.tcmGet (d : Device) (a n : Nat) : List Byte := (List.range n).map fun i => tabGet 0 d.core.tcm (a + i)

/-- A store is released into its target: one to the TCM writes the bytes of its mask; one to a register acts by the command
that writes it. -/
def Device.storeRelease (d : Device) (x : StoreEntry) : Device :=
  match x.tcm with
  | none => d
  | some w => (List.range 4).foldl (fun d i =>
      if x.mask.getLsbD i && decide (w < 0x20000) then d.tcmPut (4 * w + i) [BitVec.ofNat 8 (x.data.toNat / 256 ^ i)] else d) d

/-- Two checkpoints of the same number are compared. -/
def Device.compareCkpt (d : Device) (m x : Checkpoint) : Device :=
  let d := d.incr Reg.chkCkptCnt
  let d := { d with core := { d.core with
    sigM := foldWrites d.core.sigM m.writes, sigX := foldWrites d.core.sigX x.writes, pc := m.pc, retired := d.core.retired + 128 } }
  let a := d.core.sigM
  let b := d.core.sigX
  if a ≠ b then d.cmpMismatch 1 (a ^^^ b) (m.pc ^^^ x.pc) d.core.retired m.pc
  else if m.pc ≠ x.pc then d.cmpMismatch 2 0 (m.pc ^^^ x.pc) d.core.retired m.pc
  else d

/-- A checkpoint of one core has no partner: the lane difference is not stated, and is free. -/
def Device.ckptTimeout (d : Device) (pc : Word) : Device :=
  let d' := ({ d with core := { d.core with pc := pc } } : Device).draw.draw
  d'.cmpMismatch 4 (word d.freeNat) (word d.draw.freeNat) (d.core.retired + 128) pc

/-- Stores of the main core enter the output-compare buffer, which holds 8 (R251); with 8 unmatched the main core stalls. -/
def Device.storesIn (d : Device) (m : List StoreEntry) : Device :=
  { d with core := { d.core with stores := (d.core.stores ++ m).take 8 } }

/-- A Mirror-core store against the oldest unmatched entry: address and data, then the byte mask. A match releases the store. -/
def Device.compareStore (d : Device) (x : StoreEntry) (pc : Word) (retired : Nat) : Device :=
  let d := { d with core := { d.core with pc := pc } }
  let fail := fun (d : Device) lo hi =>
    ({ d with core := { d.core with discard := true } } : Device).cmpMismatch 3 lo hi retired pc
  match d.core.stores with
  | [] => d
  | m :: l =>
    if m.addr ≠ x.addr ∨ m.data ≠ x.data then fail d (m.addr ^^^ x.addr) (m.data ^^^ x.data)
    else if m.mask ≠ x.mask then fail d (word (m.mask ^^^ x.mask).toNat) 0
    else ({ d with core := { d.core with stores := l } } : Device).storeRelease m

/-- The comparator test has run (R253): `t` is the first failing trial. -/
def Device.cmpTest (d : Device) (t : Option Nat) : Device :=
  let w := 2 ^ 31 + b2n t.isNone * 2 ^ 30 + (t.getD 0x7F) % 128 * 65536 + d.fld Reg.chkCmpTest 15 0
  let d := (d.setReg Reg.chkCmpTest (word w)).count Reg.chkCmpTest 15 0 1
  { d with core := { d.core with testPassed := t.isNone, split := d.core.split && t.isSome } }

/-- A core pair in reset (R249, R254): its signatures are reseeded, and delay queue and output-compare buffer are cleared. -/
def CorePair.cleared (c : CorePair) : CorePair :=
  { c with sigM := 0xFFFFFFFF, sigX := 0xFFFFFFFF, retired := 0, delay := [], stores := [], discard := false }

/-- CHANNEL_A_RESTART: the pair is in reset, and the comparator is tested. -/
def Device.chanRestart (d : Device) (t : Option Nat) : Device :=
  if !d.core.due ∨ d.chk.dev = .fatal then d
  else
    let d := { d with core := { d.core.cleared with due := false, held := true, haltA := false, haltB := false } }
    let d := d.dropA.cmpTest t
    if t.isSome then d.chkRaise Src.chkCmpTest else d

/-! ## Watchdog (R257 to R262) -/

/-- The next question (R257). -/
def wdgNextQ (q : Nat) : Nat :=
  let fb := (natBits q 7 7 + natBits q 5 5 + natBits q 4 4 + natBits q 3 3) % 2
  (2 * q + fb) % 256

/-- The token expected for a question and a sequence count (R258). -/
def wdgToken (seq q : Nat) : Nat :=
  let x := q * 256 + (q ^^^ 0xFF)
  let r := q % 16
  let rol := (x * 2 ^ r + x / 2 ^ (16 - r)) % 65536
  (seq ^^^ 0xA5C3) * 65536 + (rol ^^^ 0x3C96)

/-- The watchdog starts: question 1, count 0; `first` where the first cycle has no closed phase (R260). -/
def Device.wdgStart (d : Device) (first : Bool) : Device :=
  let d := (d.setReg Reg.wdgQ 1).setReg Reg.wdgSeq 0
  { d with wdg := ⟨true, first, d.q, none, first⟩ }

/-- A failure of the watchdog: LAST_KIND 1 MISSED, 2 EARLY, 3 WRONG; its evidence is the PC last shown (DESIGN CHOICE, log 156). -/
def Device.wdgFailure (d : Device) (kind : Nat) : Device :=
  let d := d.evidence d.core.pc kind
  (d.chkRaise Src.wdgFail).channelFail Src.wdgFail 0x4A 1

/-- An accepted service (R258). -/
def Device.wdgAccept (d : Device) : Device :=
  let s := (d.fld Reg.wdgSeq 15 0 + 1) % 65536
  let d := (d.setReg Reg.wdgSeq (word s)).setReg Reg.wdgQ (word (wdgNextQ (d.fld Reg.wdgQ 7 0)))
  let d := (d.setReg Reg.wdgEvidNs (word d.ctime.ns)).setReg Reg.wdgEvidSec (word d.ctime.sec)
  let d := (d.setReg Reg.wdgEvidSeq (word s)).setBit Reg.wdgCtrl 31 true
  { d with wdg := ⟨true, false, d.q, none, false⟩ }

/-- C and C + O of the cycle in progress, in c-cycles (R259, R260). -/
def Device.wdgBounds (d : Device) : Nat × Nat :=
  let c := if d.wdg.first then 0 else d.fld Reg.wdgClosed 23 0 * 400
  (c, c + if d.wdg.first then 40000000 else d.fld Reg.wdgOpen 23 0 * 400)

/-- The c-cycle of the cycle that passes now; it stands still while a core is halted (R261). -/
def Device.wdgNow (d : Device) : Nat := (d.wdg.frozenAt.getD d.q - d.wdg.from_) / cQ

/-- A write to WDG_SERVICE reaches the watchdog (R259). -/
def Device.wdgServe (d : Device) (tok : Word) : Device :=
  if !d.wdg.running ∨ d.wdg.frozenAt.isSome then d
  else if d.wdgNow < d.wdgBounds.1 then d.wdgFailure 2
  else if d.wdgBounds.2 ≤ d.wdgNow then d.wdgFailure 1
  else if tok.toNat = wdgToken (d.fld Reg.wdgSeq 15 0) (d.fld Reg.wdgQ 7 0) then d.wdgAccept
  else d.wdgFailure 3

/-- The watchdog counts. -/
def Device.wdgCounts (d : Device) : Bool :=
  d.chk.power && d.wdg.running && d.wdg.frozenAt.isNone && !d.core.held && decide (d.chk.dev ≠ .fatal)

/-- A write of 1 to WDG_CTRL.EN (R260). -/
def Device.wdgEn (d : Device) : Device :=
  if d.boot.otp.wdgHwstart ∨ d.wdg.running then d
  else ((d.setBit Reg.wdgCtrl 31 true).setBit Reg.wdgCtrl 0 true).wdgStart false

/-- A write of a phase length (R260): ignored under LOCK, refused out of range. -/
def Device.wdgConfig (d : Device) (isOpen : Bool) (v : Word) : Device :=
  let n := bits v 23 0
  if d.bitAt Reg.wdgCtrl 31 then d
  else if n < 100 ∨ 1000000 < n then d.event Reg.wdgStatus 0
  else d.setReg (if isOpen then Reg.wdgOpen else Reg.wdgClosed) (word n)

/-! ## Release, debug -/

/-- Registers of the watchdog that a restart as from reset returns to their Reset values (Table 10.1; DEDUCED, log 59). -/
def Device.wdgReset (d : Device) : Device :=
  let d := [Reg.wdgCtrl, Reg.wdgClosed, Reg.wdgOpen, Reg.wdgQ, Reg.wdgSeq].foldl (fun d k => d.setReg k (Reg.resetVal k)) d
  { d.setBit Reg.wdgStatus 0 false with wdg := ⟨false, true, d.q, none, false⟩ }

/-- At a restart the ROM compares the digest of the TCM copy; where it differs the firmware is reloaded from the boot slot in
use (R378). The answer says whether the firmware is sound. -/
def Device.fwCheck (d : Device) (reload : List Byte) : Device × Bool :=
  let n := d.boot.fwLen
  if d.chk.dev = .boot ∨ !d.boot.bootOk ∨ sha384 (d.tcmGet 0 n) = d.boot.fwDigest then (d, true)
  else (d.tcmPut 0 (slice reload 0 n), decide (sha384 (slice reload 0 n) = d.boot.fwDigest))

/-- CORE_PAIR_RELEASE (R254, R378): the pair leaves reset at the ROM vector `vec`, whose address the spec does not give, with fresh
signatures, and the watchdog restarts as from reset. -/
def Device.release' (d : Device) (vec : Word) (reload : List Byte) : Device :=
  if !d.core.held ∨ d.core.due ∨ !d.chk.power ∨ d.chk.dev = .fatal then d
  else
    let (d, ok) := d.fwCheck reload
    if !ok then d.chkRaise Src.chkMem
    else
      let d := (d.setReg Reg.chkCkptCnt 0).wdgReset
      let d := { d with core := { d.core.cleared with held := false, sync := false, pc := vec } }
      if d.boot.otp.wdgHwstart then d.wdgStart true else d

/-- FIRMWARE_INIT_COMPLETE: CHK_RESTART requests complete once SYNC reads 1. -/
def Device.fwInit (d : Device) : Device :=
  if d.core.held ∨ !d.chk.power ∨ d.chk.dev = .fatal then d
  else
    let d := { d with core := { d.core with sync := true } }
    if d.synced then d.completeWhere (fun r => r.op = 6) 0 0 else d

/-- A debugger halts a core (R255, R261). -/
def Device.debugHalt (d : Device) (c : Chan) : Device :=
  if !d.chk.power ∨ d.chk.dev = .fatal ∨ d.core.held then d
  else
    let d := { d with core := { d.core with
      split := true, haltA := d.core.haltA || decide (c = Chan.a), haltB := d.core.haltB || decide (c = Chan.b) } }
    let d := if d.wdg.frozenAt.isNone then { d with wdg := { d.wdg with frozenAt := some d.q } } else d
    (d.chkRaise Src.dbgSplit).dropA.safeFromRun 0x48 true

/-- A core runs again; when both do, the watchdog counts on where it stopped (R261). -/
def Device.debugResume (d : Device) (c : Chan) : Device :=
  let k : CorePair := { d.core with haltA := d.core.haltA && decide (c = Chan.b), haltB := d.core.haltB && decide (c = Chan.a) }
  let d := { d with core := k }
  match d.wdg.frozenAt, k.haltA || k.haltB with
  | some t, false => { d with wdg := { d.wdg with from_ := d.wdg.from_ + (d.q - t), frozenAt := none } }
  | _, _ => d

/-- The request CHK_RESTART (R254). -/
def Device.reqRestart (d : Device) (tag : Byte) (a : ReqArgs) : Device :=
  d.request 6 tag a (noArgs a) d.inStandby fun d => (d.startReq 6 tag a.a0).restartCause 3 0xE3

/-! ## Commands -/

/-- CHK_RESTART (R254). -/
def execChkRestart (tag : Byte) (a : ReqArgs) (s : State) : Host.Outcome State Fault Refusal :=
  act s.dev.hostUp (fun d => d.reqRestart tag a) s

/-- CHECKPOINT (R250): `l` is what passed at the delay queue since. -/
def execCheckpoint (m : MainCkpt) (x : Checkpoint) (s : State) : Host.Outcome State Fault Refusal :=
  act s.dev.comparing (fun d => (d.coreSteps m.steps).compareCkpt m.ckpt x) s

/-- CHECKPOINT_TIMEOUT (R250): `pc` is the main core's. -/
def execCheckpointTimeout (m : LateCkpt) (s : State) : Host.Outcome State Fault Refusal :=
  act s.dev.comparing (fun d => (d.coreSteps m.steps).ckptTimeout m.pc) s

/-- STORE_COMPARE (R251): `m` are the main core's stores since. -/
def execStoreCompare (m : MainStores) (x : MirrorStore) (s : State) : Host.Outcome State Fault Refusal :=
  act s.dev.comparing (fun d => ((d.coreSteps m.steps).storesIn m.stores).compareStore x.entry x.pc x.retired) s

/-- CHANNEL_A_RESTART (R254). -/
def execChannelARestart (failTrial : Option Nat) (s : State) : Host.Outcome State Fault Refusal :=
  act s.dev.chk.power (fun d => d.chanRestart failTrial) s

/-- CORE_PAIR_RELEASE (R254). -/
def execCorePairRelease (vec : Word) (reload : List Byte) (s : State) : Host.Outcome State Fault Refusal :=
  act true (fun d => d.release' vec reload) s

/-- FIRMWARE_INIT_COMPLETE (R254). -/
def execFirmwareInitComplete (s : State) : Host.Outcome State Fault Refusal := act true Device.fwInit s

/-- DEBUG_HALT (R255). -/
def execDebugHalt (c : Chan) (s : State) : Host.Outcome State Fault Refusal := act true (fun d => d.debugHalt c) s

/-- DEBUG_RESUME (R261). -/
def execDebugResume (c : Chan) (s : State) : Host.Outcome State Fault Refusal := act true (fun d => d.debugResume c) s

/-- The main core stands at `pc`. -/
def Device.atPc (d : Device) (pc : Word) : Device := { d with core := { d.core with pc := pc } }

/-- WDG_SERVICE (R259): `pc` is the main core's. -/
def execWdgService (w : Service) (s : State) : Host.Outcome State Fault Refusal :=
  act s.dev.chanA (fun d => (d.atPc w.pc).wdgServe w.token) s

/-- WDG_PHASE_OPEN (R259): C c-cycles of the cycle have passed. -/
def execWdgPhaseOpen (s : State) : Host.Outcome State Fault Refusal :=
  act (s.dev.wdgCounts && !s.dev.wdg.openPhase && decide (s.dev.wdgBounds.1 ≤ s.dev.wdgNow))
    (fun d => { d with wdg := { d.wdg with openPhase := true } }) s

/-- WDG_MISSED (R259): C + O c-cycles have passed without an accepted service. -/
def execWdgMissed (s : State) : Host.Outcome State Fault Refusal :=
  act (s.dev.wdgCounts && decide (s.dev.wdgBounds.2 ≤ s.dev.wdgNow)) (fun d => d.wdgFailure 1) s

/-- WDG_ENABLE (R260). -/
def execWdgEnable (s : State) : Host.Outcome State Fault Refusal := act s.dev.chanA Device.wdgEn s

/-- WDG_PHASE_CONFIG (R260). -/
def execWdgPhaseConfig (isOpen : Bool) (v : Word) (s : State) : Host.Outcome State Fault Refusal :=
  act s.dev.chanA (fun d => d.wdgConfig isOpen v) s

/-- LADDER_TIMER_EXPIRY (R263). -/
def execLadderTimerExpiry (s : State) : Host.Outcome State Fault Refusal :=
  act s.dev.chk.power (fun d => { d with ladder := { d.ladder with timerAt := none } }) s

/-- EXP_CNT_CLEAR (R263): RUN or DEGRADED has lasted without a failure. -/
def execExpCntClear (s : State) : Host.Outcome State Fault Refusal :=
  act (s.dev.chk.power && s.dev.ladder.runFrom.isSome) (fun d => { d with ladder := { d.ladder with expCnt := 0 } }) s

end Sys2Proof.Machine
end

