-- ==== Sys2Proof/Machine/Time.lean ====
section
/-! DEFINITION. The time unit (R209 to R213), timestamp queues (R216), capture and trigger (R217 to R219), and the checker's
time copy (R220 to R222). -/

namespace Sys2Proof.Machine

/-- One second in ns. -/
abbrev secNs : Nat := 1000000000

/-- What a read returns to its master. -/
def Device.answer (d : Device) (bs : List Byte) : Device := { d with hif := { d.hif with rsp := ⟨bs, false, false⟩ } }

/-! ## Reads that latch (R210, R217, R222) -/

/-- A read of TIM_NS latches the seconds. -/
def Device.readTimNs (d : Device) : Device :=
  let d := (d.setReg Reg.timSecLo (word d.tim.sec)).setReg Reg.timSecHi (word (natBits d.tim.sec 47 32))
  d.answer (toLe 4 d.tim.ns)

/-- Channel `n`. -/
def Device.capAt (d : Device) (n : Nat) : Capture := tabGet ⟨0, 0, 0⟩ d.tim.cap n

/-- A read of TIM_CAPn_NS latches the seconds and the count. -/
def Device.readCapNs (d : Device) (n : Nat) : Device :=
  let c := d.capAt n
  ((d.setReg (Reg.timCapSec n) (word c.sec)).setReg (Reg.timCapCnt n) c.count).answer (toLe 4 c.ns)

/-- A read of CHK_TIME_NS latches CHK_TIME_SEC. -/
def Device.readChkNs (d : Device) : Device := (d.setReg Reg.chkTimeSec (word d.ctime.sec)).answer (toLe 4 d.ctime.ns)

/-- Capture channel `n` fires (R217). -/
def Device.capture (d : Device) (n : Nat) : Device :=
  { d with tim := { d.tim with cap := tabSet ⟨0, 0, 0⟩ d.tim.cap n ⟨d.tim.ns, d.tim.sec, (d.capAt n).count + 1⟩ } }

/-! ## Timestamp queues (R216) -/

/-- Pop a queue into the holding registers at `k`: ID, NS, SEC. -/
def Device.popTs (d : Device) (k : Nat) (q : List TxStamp) : Device :=
  match q with
  | [] => d.setBit k 31 false
  | t :: _ =>
    let d := d.setReg k (word (2 ^ 31 + natBits t.sec 46 32 * 65536 + t.id % 65536))
    (d.setReg (k + 4) (word t.ns)).setReg (k + 8) (word t.sec)

/-- ETH_TSQm_POP. -/
def Device.popEth (d : Device) (m : Nat) : Device :=
  let q := tabGet [] d.eth.tsq m
  let d := d.popTs (Reg.ethTsqId m) q
  { d with eth := { d.eth with tsq := tabSet [] d.eth.tsq m q.tail } }

/-- CHK_RNGn_TSQ_POP. -/
def Device.popRng (d : Device) (n : Nat) : Device :=
  let q := tabGet [] d.rng.tsq n
  let d := d.popTs (Reg.chkRngTsqId n) q
  { d with rng := { d.rng with tsq := tabSet [] d.rng.tsq n q.tail } }

/-! ## Rate and steps (R209, R211 to R213) -/

/-- TIM_INCR. -/
def Device.incrWrite (d : Device) (v : Word) : Device :=
  if !d.isMaster then d.raise Reg.timStatus 5
  else if 0x01FF7CEE ≤ v.toNat ∧ v.toNat ≤ 0x02008312 then d.setReg Reg.timIncr v
  else d.raise Reg.timStatus 4

/-- Move a time in ns by a signed offset. -/
def moveNs (t : Nat) (o : Int) : Nat := ((t : Int) + o).toNat

/-- The time unit takes a step: the tick schedule moves with it (R213). -/
def Device.applyStep (d : Device) (o : Int) : Device :=
  let t := moveNs d.timNs o
  { d with tim := { d.tim with sec := t / secNs, ns := t % secNs, tickNs := moveNs d.tim.tickNs o }
           tck := { d.tck with expected := moveNs d.tck.expected o, phaseRef := moveNs d.tck.phaseRef o } }

/-- A step is refused. -/
def Device.refuseStep (d : Device) : Device :=
  ((d.raise Reg.timStatus 3).incr Reg.timStepRejCnt).pairRaise Src.timStepRefused

/-- A step within the limit, or of any size under a grant, is applied; a granted one marks the interval, and the frame
in progress gets TIMEBASE (R213, R225). -/
def Device.tryStep (d : Device) (o : Int) : Device :=
  let g := d.tim.grantAt.isSome
  if (d.timNs : Int) + o < 0 ∨ (!g ∧ (d.reg Reg.timStepMax).toNat < o.natAbs) then d.refuseStep
  else
    let d := (d.applyStep o).raise Reg.timStatus 2
    if g then
      let d := { d.raise Reg.timStatus 1 with tim := { d.tim with grantAt := none }, tck := { d.tck with grantedStep := true } }
      d.addCause 13
    else d

/-- STEP_GO. -/
def Device.stepGo (d : Device) : Device :=
  if !d.isMaster then d.raise Reg.timStatus 5
  else d.tryStep (sext 64 ((d.reg Reg.timStepHi).toNat * 2 ^ 32 + (d.reg Reg.timStepLo).toNat))

/-- The request TIME_GRANT (R212). -/
def Device.reqGrant (d : Device) (tag : Byte) (a : ReqArgs) : Device :=
  d.request 5 tag a (noArgs a) d.inStandby fun d =>
    ({ d with tim := { d.tim with grantAt := some d.q }, ctime := { d.ctime with grant := true } }).complete 5 tag 0 0

/-- A grant lapses. -/
def Device.grantLapse (d : Device) : Device :=
  { d with tim := { d.tim with grantAt := none }, ctime := { d.ctime with grant := false } }

/-! ## Triggers (R218, R219) -/

/-- Output `n`. -/
def Device.trgAt (d : Device) (n : Nat) : Trigger := tabGet ⟨none, false⟩ d.tim.trg n
/-- Replace output `n`. -/
def Device.setTrg (d : Device) (n : Nat) (t : Trigger) : Device :=
  { d with tim := { d.tim with trg := tabSet ⟨none, false⟩ d.tim.trg n t } }

/-- An output is enabled; output 10 always is. -/
def Device.trgOn (d : Device) (n : Nat) : Bool := decide (n = 10) || d.bitAt (Reg.timTrgCfg n) 31
/-- Tick-relative mode. -/
def Device.trgTick (d : Device) (n : Nat) : Bool := decide (n = 10) || decide (d.fld (Reg.timTrgCfg n) 29 28 = 0)
/-- DIV + 1. -/
def Device.trgDiv (d : Device) (n : Nat) : Nat := if n = 10 then 1 else d.fld (Reg.timTrgCfg n) 27 24 + 1

/-- The registers of an output keep the ranges of R218. -/
def Device.trgValid (d : Device) (n : Nat) : Bool :=
  let o := (d.reg (Reg.timTrgOfs n)).toNat
  let w := (d.reg (Reg.timTrgWidth n)).toNat
  let p := (d.reg (Reg.timTrgPer n)).toNat
  decide (n = 10) ||
  (decide (100 ≤ w) && decide (w ≤ 10000000) &&
   (if d.trgTick n then decide (o < d.tck.period * 1000)
    else decide (p ≠ 0) && decide (secNs % p = 0) && decide (o < p) && decide (w < p)))

/-- The time of a pulse has come (R218): OFS after the tick, or in absolute mode the update of the time unit that takes
the nanoseconds modulo PER to OFS or past it (2 ns resolution; DEDUCED, log 148). -/
def Device.trgDue (d : Device) (n : Nat) : Bool :=
  let o := if n = 10 then 0 else (d.reg (Reg.timTrgOfs n)).toNat
  if d.trgTick n then (d.trgAt n).pending && decide (d.tim.tickNs + o ≤ d.timNs)
  else
    let p := (d.reg (Reg.timTrgPer n)).toNat * 2 ^ 24
    decide ((d.tim.ns * 2 ^ 24 + d.tim.frac + p - o * 2 ^ 24) % p < (d.reg Reg.timIncr).toNat)

/-- A pulse is due: it starts, or is withheld. -/
def Device.pulseStart (d : Device) (n : Nat) : Device :=
  if !d.trgOn n ∨ (d.trgTick n ∧ !(d.trgAt n).pending) ∨ (d.trgValid n ∧ !d.trgDue n) then d
  else if d.trgValid n then d.setTrg n ⟨some d.q, false⟩
  else (d.setTrg n { d.trgAt n with pending := false }).raise Reg.timStatus 7

/-- A pulse ends. -/
def Device.pulseEnd (d : Device) (n : Nat) : Device := d.setTrg n { d.trgAt n with since := none }

/-- A tick drops a pulse that has not started, and makes those of its frame pending. -/
def Device.tickTriggers (d : Device) : Device :=
  (List.range 16).foldl (fun d n =>
    let d := if (d.trgAt n).pending then d.raise Reg.timStatus 6 else d
    let due := d.trgOn n && d.trgTick n && decide (d.frame.toNat % d.trgDiv n = 0)
    d.setTrg n { d.trgAt n with pending := due }) d

/-! ## The time copy (R220, R221) -/

/-- Set the copy to a time in ns; the interval measurement of R41 sees the step. -/
def Device.setCopy (d : Device) (t : Int) : Device :=
  let o := t - d.chkNs
  { d with ctime := { d.ctime with sec := t.toNat / secNs, ns := t.toNat % secNs }
           tck := { d.tck with copySteps := d.tck.copySteps + o } }

/-- The copy runs free. -/
def Device.copyFree (d : Device) : Device :=
  if d.ctime.st = .freeRun then d
  else ({ d with ctime := { d.ctime with st := .freeRun } } : Device).chkRaise Src.timeCopy

/-- A message is refused. -/
def Device.refuseMsg (d : Device) : Device :=
  let n := d.ctime.refused + 1
  let d := { d.incr Reg.chkTimeRejCnt with ctime := { d.ctime with refused := n } }
  if n < 3 then d else d.copyFree

/-- The copy follows a message. -/
def Device.disciplined (d : Device) : Device := { d with ctime := { d.ctime with st := .disciplined, refused := 0 } }

/-- A time message of `c` ns arrives. -/
def Device.timeMsg (d : Device) (c : Nat) : Device :=
  let th : Int := (c : Int) + Config.linkDelayNs - d.chkNs
  let d := d.setReg Reg.chkTimeOfs (BitVec.ofInt 32 (clampI (-2147483648) 2147483647 th))
  let lim := d.boot.img.device.timStepMax.toNat
  if d.ctime.st = .notStarted then (d.setCopy (c + Config.linkDelayNs)).disciplined
  else if th.natAbs ≤ 100 ∧ (d.ctime.st = .disciplined ∨ th.natAbs ≤ lim ∨ d.ctime.grant) then
    let i := (d.ctime.inc : Int) + th
    if i < 998900 ∨ 1001100 < i then d.copyFree
    else ({ d with ctime := { d.ctime with inc := i.toNat } } : Device).disciplined
  else if th.natAbs ≤ lim then (d.setCopy (c + Config.linkDelayNs)).disciplined
  else if d.ctime.grant then
    let d := (d.setCopy (c + Config.linkDelayNs)).disciplined
    { d with ctime := { d.ctime with grant := false } }
  else d.refuseMsg

/-- The message under way, if any, arrives with the time it carries, in ns; no other message exists. -/
def Device.timeArrives (d : Device) (c : Nat) : Device :=
  if d.tim.msg = some c then ({ d with tim := { d.tim with msg := none } } : Device).timeMsg c else d

/-! ## Commands -/

/-- TIM_NS_READ (R210). -/
def execTimNsRead (s : State) : Host.Outcome State Fault Refusal := act s.dev.hostUp Device.readTimNs s

/-- TIM_CAP_NS_READ (R217). -/
def execTimCapNsRead (n : Nat) (s : State) : Host.Outcome State Fault Refusal :=
  act (s.dev.hostUp && decide (n < 32)) (fun d => d.readCapNs n) s

/-- CHK_TIME_NS_READ (R222). -/
def execChkTimeNsRead (s : State) : Host.Outcome State Fault Refusal := act s.dev.chk.power Device.readChkNs s

/-- ETH_TSQ_POP (R216). -/
def execEthTsqPop (m : Nat) (s : State) : Host.Outcome State Fault Refusal :=
  act (s.dev.hostUp && decide (m < 2)) (fun d => d.popEth m) s

/-- CHK_RNG_TSQ_POP (R216). -/
def execChkRngTsqPop (n : Nat) (s : State) : Host.Outcome State Fault Refusal :=
  act (s.dev.chk.power && decide (n < 2)) (fun d => d.popRng n) s

/-- TIM_INCR_WRITE (R209). -/
def execTimIncrWrite (v : Word) (s : State) : Host.Outcome State Fault Refusal :=
  act s.dev.hostUp (fun d => d.incrWrite v) s

/-- STEP_GO (R211). -/
def execStepGo (s : State) : Host.Outcome State Fault Refusal := act s.dev.hostUp Device.stepGo s

/-- TIME_GRANT (R212). -/
def execTimeGrant (tag : Byte) (a : ReqArgs) (s : State) : Host.Outcome State Fault Refusal :=
  act s.dev.hostUp (fun d => d.reqGrant tag a) s

/-- TIME_GRANT_LAPSE (R212). -/
def execTimeGrantLapse (s : State) : Host.Outcome State Fault Refusal := act s.dev.chk.power Device.grantLapse s

/-- CAPTURE_EVENT (R217). -/
def execCaptureEvent (n : Nat) (s : State) : Host.Outcome State Fault Refusal :=
  act (s.dev.cmpAlive && decide (n < 32)) (fun d => d.capture n) s

/-- TRIGGER_PULSE_START (R218). -/
def execTriggerPulseStart (n : Nat) (s : State) : Host.Outcome State Fault Refusal :=
  act (s.dev.cmpAlive && decide (n < 16)) (fun d => d.pulseStart n) s

/-- TRIGGER_PULSE_END (R218). -/
def execTriggerPulseEnd (n : Nat) (s : State) : Host.Outcome State Fault Refusal :=
  act (s.dev.cmpAlive && decide (n < 16)) (fun d => d.pulseEnd n) s

/-- TIME_MESSAGE (R220). -/
def execTimeMessage (sec ns : Nat) (s : State) : Host.Outcome State Fault Refusal :=
  act (s.dev.cmpAlive && decide (ns < secNs)) (fun d => d.timeArrives (sec * secNs + ns)) s

/-- TIME_COPY_TIMEOUT (R221). -/
def execTimeCopyTimeout (s : State) : Host.Outcome State Fault Refusal :=
  act (s.dev.chk.power && decide (s.dev.ctime.st = .disciplined)) Device.copyFree s

end Sys2Proof.Machine
end

