-- ==== Sys2Proof/Machine/Lens.lean ====
section
/-! DEFINITION. Camera ingest (R193 to R202): CSI-2 packets, the pixel pipeline, camera frames and their buffers. The
bytes of a camera frame are written to memory when the last of them is acknowledged (DESIGN CHOICE, log 25). -/

namespace Sys2Proof.Machine

/-! ## Streams -/

/-- Stream `s`. -/
def Device.lensAt (d : Device) (s : Nat) : Lens := tabGet Lens.reset d.lens s
/-- Replace stream `s`. -/
def Device.setLens (d : Device) (s : Nat) (l : Lens) : Device := { d with lens := tabSet Lens.reset d.lens s l }
/-- The enabled stream records with their numbers. -/
def Device.streams (d : Device) : List (LensRec × Nat) := d.boot.img.lens.zipIdx.filter fun r => r.1.en
/-- Lens port `p` is enabled (R399). -/
def Device.lensPort (d : Device) (p : Nat) : Bool := d.cmpAlive && d.boot.img.pins.lensEn.getLsbD p

/-- The newest complete buffer (R198). -/
def Lens.newest (l : Lens) : Option Nat := l.done.head?.map (·.buf)

/-- The buffer that a new frame may be written into (R198). A frame whose writes are not acknowledged keeps its own
(DESIGN CHOICE, log 145). -/
def Lens.freeBuf (l : Lens) : Option Nat :=
  [0, 1, 2].find? fun i => decide (l.newest ≠ some i) && decide (l.shown ≠ some i) && decide (l.latched ≠ some i) &&
    !l.frames.any fun x => decide (x.buf = some i)

/-- A frame takes a buffer, and its waiting lines follow. -/
def LensFrame.take (x : LensFrame) (i : Nat) : LensFrame :=
  { x with buf := some i, lines := x.lines ++ x.waiting, waiting := [] }

/-- The oldest frame without a buffer takes one where one qualifies. -/
def Lens.assignOne (l : Lens) : Lens :=
  match l.frames.findIdx? fun x => x.buf.isNone, l.freeBuf with
  | some k, some i => { l with frames := l.frames.modify k fun x => x.take i }
  | _, _ => l

/-- The frames in progress take buffers as far as they qualify. -/
def Lens.assign (l : Lens) : Lens := iterN (fun _ l => l.assignOne) l.frames.length l

/-- The camera frame that is open. -/
def Lens.cur (l : Lens) : Option LensFrame := l.frames.getLast?.filter fun x => !x.ended

/-- Replace the last frame. -/
def Lens.setCur (l : Lens) (x : LensFrame) : Lens := { l with frames := l.frames.dropLast ++ [x] }

/-- Lines in the line buffer (R202). -/
def Lens.held (l : Lens) : Nat := sumBy (fun x => x.waiting.length) l.frames

/-! ## Pixels of a packet (Table 8.1). Their byte order is that of CSI-2 (PRESUMED, log 26). -/

/-- YUV422 8-bit: each chroma pair goes to both pixels of its pair. -/
def pxYuv : List Byte → List Nat
  | u :: y0 :: v :: y1 :: r => [y0.toNat, u.toNat, v.toNat, y1.toNat, u.toNat, v.toNat] ++ pxYuv r
  | _ => []

/-- RGB888. -/
def pxRgb : List Byte → List Nat
  | b :: g :: r :: t => [r.toNat, g.toNat, b.toNat] ++ pxRgb t
  | _ => []

/-- RAW10: four pixels in five bytes. -/
def px10 : List Byte → List Nat
  | a :: b :: c :: e :: x :: t =>
    let l := x.toNat
    [4 * a.toNat + l % 4, 4 * b.toNat + l / 4 % 4, 4 * c.toNat + l / 16 % 4, 4 * e.toNat + l / 64] ++ px10 t
  | _ => []

/-- RAW12: two pixels in three bytes. -/
def px12 : List Byte → List Nat
  | a :: b :: x :: t => [16 * a.toNat + x.toNat % 16, 16 * b.toNat + x.toNat / 16] ++ px12 t
  | _ => []

/-- RAW16: the high byte first. -/
def px16 : List Byte → List Nat
  | a :: b :: t => (256 * a.toNat + b.toNat) :: px16 t
  | _ => []

/-- The channel values of a packet, pixel by pixel. -/
def pixelsOf (dt : Nat) (l : List Byte) : List Nat :=
  if dt = 0x1E then pxYuv l else if dt = 0x24 then pxRgb l else if dt = 0x2A then l.map (·.toNat)
  else if dt = 0x2B then px10 l else if dt = 0x2C then px12 l else if dt = 0x2E then px16 l else []

/-- Channels of a data type. -/
def chansOf (dt : Nat) : Nat := if dt = 0x1E ∨ dt = 0x24 then 3 else 1

/-! ## The pipeline (R196, R197) -/

/-- Steps 2 and 3 for channel `c` of a pixel: an FP32 word. -/
def lensMatrix (r : LensRec) (u : List Nat) (c : Nat) : Nat :=
  if r.matrixEn then
    let t := (List.range 3).foldl (fun (a : Int) i =>
      a + nth r.matrix (3 * c + i) 0 * ((nth u i 0 : Nat) - (nth r.offset i 0 : Nat) : Int)) 0
    toFp32 (.fin (decide (t < 0)) t.natAbs (-13))
  else toFp32 (.ofInt (nth u c 0))

/-- Channel `c` of the input pixel at column `x` of a line. -/
def LensLine.chan (l : LensLine) (r : LensRec) (x c : Nat) : Nat :=
  let n := chansOf r.dt
  lensMatrix r ((l.px.drop (n * x)).take n) c

/-- The line at row `y` of the crop; none where it has not come. -/
def LensFrame.line (l : LensFrame) (y : Nat) : Option LensLine := l.lines.find? fun t => decide (t.y = y)

/-- Output row `oy` uses a bad or missing line (R201). -/
def LensFrame.rowBad (l : LensFrame) (r : LensRec) (oy : Nat) : Bool :=
  (lerpAt oy r.h r.oh).1.any fun y => match l.line y with | some t => t.bad | none => true

/-- Steps 4 and 5: the value at whole coordinates is the pixel; elsewhere its roundings are not stated (log 10). -/
def LensFrame.sample (l : LensFrame) (r : LensRec) (oy ox c : Nat) : Nat :=
  let (ys, ry) := lerpAt oy r.h r.oh
  let (xs, rx) := lerpAt ox r.w r.ow
  let t := ys.flatMap fun y => xs.map fun x => ((l.line y).getD ⟨y, [], true⟩).chan r x c
  let v := match t with
    | [v] => v
    | _ => (Config.veValue (2 ^ 24) ((t ++ [ry, rx, r.oh, r.ow]).map word)).toNat
  toFp32 (((ofFp32 v).mul (ofFp32 (nth r.gain c 0).toNat)).add (ofFp32 (nth r.bias c 0).toNat))

/-- Bytes per pixel (R197). -/
def lensPb (r : LensRec) : Nat := if r.dense then chansOf r.dt * (fmtBits r.ofmt / 8) else 16

/-- The bytes of output row `oy` (R196 step 6, R197). -/
def LensFrame.rowBytes (l : LensFrame) (r : LensRec) (oy : Nat) : List Byte :=
  if l.rowBad r oy then List.replicate (r.ow * lensPb r) 0
  else (List.range r.ow).flatMap fun ox =>
    slice ((List.range (chansOf r.dt)).flatMap fun c =>
      toLe (fmtBits r.ofmt / 8) (convert 0 r.ofmt true (l.sample r oy ox c)).code) 0 (lensPb r)

/-- Output rows written as poisoned. -/
def LensFrame.badRows (l : LensFrame) (r : LensRec) : Nat := countBy (fun y => l.rowBad r y) (List.range r.oh)

/-- The header of a buffer (Table 8.3), frame `seq` of the stream. -/
def LensFrame.header (l : LensFrame) (r : LensRec) (seq : Nat) : List Byte :=
  toLe 4 l.sofNs ++ toLe 4 l.sofSec ++ toLe 4 l.eofNs ++ toLe 4 l.eofSec ++ toLe 2 l.num ++ toLe 2 l.lines.length ++
  toLe 4 seq ++ toLe 2 (l.badRows r) ++ toLe 1 (b2n l.truncated + 2 * b2n l.overflow) ++ List.replicate 37 0

/-- Write the frame into buffer `i` of Facet `f`. -/
def Device.lensStore (d : Device) (l : LensFrame) (r : LensRec) (seq i f : Nat) : Device :=
  let b := f * 2 ^ 32 + r.bufOfs + i * r.bufStride
  (List.range r.oh).foldl (fun d y => d.writeMem (b + 64 + y * r.rowPitch) (l.rowBytes r y) (l.rowBad r y))
    (d.writeMem b (l.header r seq) false)

/-! ## Camera frames (R198, R201, R202) -/

/-- Count `n` bad lines of a stream. -/
def Device.badLines (d : Device) (s n : Nat) : Device :=
  if n = 0 then d else (d.count (Reg.lnsStrErr s) 31 16 n).raise Reg.lnsStatus 2

/-- Newest and latched buffer of a stream in its status register: 3 is none. -/
def Device.lensStatus (d : Device) (s : Nat) : Device :=
  let l := d.lensAt s
  d.setReg (Reg.lnsStrStatus s) (word (l.latched.getD 3 * 4 + l.newest.getD 3))

/-- The oldest camera frame, which has ended, is complete: its bytes stand in every powered Facet, and it is the newest
(R198). One without a buffer still waits for it. -/
def Device.lensComplete (d : Device) (s : Nat) (r : LensRec) : Device :=
  let l := (d.lensAt s).assign
  match l.frames with
  | x :: rest =>
    match x.ended, x.buf with
    | true, some i =>
      let up := (List.range 4).filter fun f => d.facetUp f
      let d := up.foldl (fun d f => d.lensStore x r (l.seq + 1) i f) d
      let d := d.setLens s ({ l with
        frames := rest, seq := l.seq + 1, done := (⟨i, 0, x.sofNs, x.sofSec, d.q / aQ⟩ :: l.done).take 2
        missing := tabSet [] l.missing i ((List.range 4).filter fun f => f ∉ up) } : Lens).assign
      let d := (d.incr (Reg.lnsStrFrames s)).lensStatus s
      if 0 < x.badRows r then d.pairRaise Src.lnsIngest else d
    | _, _ => d
  | [] => d

/-- The open frame `x` ends: lines that have not come count as bad. -/
def Device.lensClose (d : Device) (s : Nat) (r : LensRec) (x : LensFrame) : Device :=
  (d.setLens s ((d.lensAt s).setCur { x with ended := true })).badLines s (r.h - (x.lines.length + x.waiting.length))

/-- A Frame Start cuts a frame in progress: it ends as TRUNCATED, with an EOF time that nothing states. -/
def Device.lensCut (d : Device) (s : Nat) (r : LensRec) : Device :=
  match (d.lensAt s).cur with
  | none => d
  | some x =>
    let d' := d.draw.draw
    (d'.count (Reg.lnsStrErr s) 15 0 1).lensClose s r { x with truncated := true, eofNs := d.freeNat, eofSec := d.draw.freeNat }

/-- A camera frame opens. -/
def Device.lensOpen (d : Device) (s num : Nat) : Device :=
  let l := d.lensAt s
  let x : LensFrame := ⟨false, none, num, d.tim.ns, d.tim.sec, 0, 0, [], [], false, false⟩
  d.setLens s ({ l with lineNo := 0, frames := l.frames ++ [x] } : Lens).assign

/-- What a packet tells of its port: lane rate, lanes and state, for which no rule says how they follow the lines
(DESIGN CHOICE, log 39). -/
def Device.portHeard (d : Device) (p : Nat) : Device :=
  (d.setReg (Reg.lnsPortStatus p) (word d.freeNat &&& 0xFFFF000F)).draw

/-- The header ECC of a packet (R194): what it cannot correct is discarded, a correction is counted, and the packet
goes on to `body`. -/
def Device.lensHeader (d : Device) (p : Nat) (ok fixed : Bool) (body : Device → Device) : Device :=
  let d := d.portHeard p
  if !ok then (d.count (Reg.lnsPortCnt p) 15 0 1).raise Reg.lnsStatus 0
  else body (if fixed then d.count (Reg.lnsPortCnt p) 31 16 1 else d)

/-- FRAME_START (R201). -/
def Device.frameStart (d : Device) (p vc num : Nat) : Device :=
  d.streams.foldl (fun d r => if r.1.port = p ∧ r.1.vc = vc then (d.lensCut r.2 r.1).lensOpen r.2 num else d) d

/-- FRAME_END (R198). -/
def Device.frameEnd (d : Device) (p vc : Nat) : Device :=
  d.streams.foldl (fun d r =>
    match (d.lensAt r.2).cur with
    | some x => if r.1.port = p ∧ r.1.vc = vc then d.lensClose r.2 r.1 { x with eofNs := d.tim.ns, eofSec := d.tim.sec } else d
    | none => d) d

/-- A line of a stream arrives (R196, R201, R202). -/
def Device.lensLine (d : Device) (s : Nat) (r : LensRec) (crcOk : Bool) (pl : List Byte) : Device :=
  let l := (d.lensAt s).assign
  match l.cur with
  | none => d
  | some x =>
    let y := l.lineNo
    let l := { l with lineNo := y + 1 }
    if y < r.y0 ∨ r.y0 + r.h ≤ y then d.setLens s l
    else
      let n := chansOf r.dt
      let px := pixelsOf r.dt pl
      let bad := !crcOk || decide (px.length < n * (r.x0 + r.w))
      let t : LensLine := ⟨y - r.y0, (px.drop (n * r.x0)).take (n * r.w), bad⟩
      if x.buf.isSome then (d.setLens s (l.setCur { x with lines := x.lines ++ [t] })).badLines s (b2n bad)
      else if l.held < 16 then (d.setLens s (l.setCur { x with waiting := x.waiting ++ [t] })).badLines s (b2n bad)
      else
        let l := l.setCur { x with overflow := true, lines := x.lines ++ [⟨y - r.y0, [], true⟩] }
        ((d.setLens s l).raise Reg.lnsStatus 3).badLines s 1

/-- CSI2_LONG_PACKET (R194, R196). -/
def Device.csiPacket (d : Device) (p : Nat) (h : Csi2Header) (crcOk : Bool) (pl : List Byte) : Device :=
  (d.perf 198 0x100 (ceilDiv pl.length 64)).lensHeader p h.eccOk h.corrected fun d =>
    match d.streams.find? fun r => decide (r.1.port = p) && decide (r.1.vc = h.vc) && decide (r.1.dt = h.dt) with
    | some (r, s) => d.lensLine s r crcOk pl
    | none => (d.count (Reg.lnsPortCnt p) 15 0 1).raise Reg.lnsStatus 1

/-! ## Ticks and restarts (R199, R200) -/

/-- At a tick the newest complete buffer of stream `s` is latched, and its age judged. A frame that became complete in
this a-cycle counts as complete after the tick (R199). -/
def Device.lensTick (d : Device) (s : Nat) (r : LensRec) : Device :=
  let l := d.lensAt s
  let now := fun x : LensDone => decide (x.at_ = d.q / aQ)
  let l := { l with done := l.done.map fun x => if now x then x else { x with age := x.age + 1 } }
  match l.done.find? fun x => !now x with
  | none => (d.setLens s { l with latched := none, latStale := false }).lensStatus s
  | some x =>
    let old := decide (r.maxAge < x.age)
    let d := (d.setLens s { l with latched := some x.buf, latStale := old }).lensStatus s
    let d := (d.setReg (Reg.lnsStrSofNs s) (word x.sofNs)).setReg (Reg.lnsStrSofSec s) (word x.sofSec)
    if old then ((d.raise Reg.lnsStatus 4).incr (Reg.lnsStrStaleCnt s)).pairRaise Src.lnsStale else d

/-- Every stream at a tick. -/
def Device.tickLens (d : Device) : Device := d.streams.foldl (fun d r => d.lensTick r.2 r.1) d

/-- At the restart the views switch, and frames that wait take the buffers that came free. -/
def Device.restartLens (d : Device) : Device :=
  d.streams.foldl (fun d r =>
    let l := d.lensAt r.2
    d.setLens r.2 ({ l with shown := l.latched, stale := l.latStale } : Lens).assign) d

/-! ## Commands -/

/-- CSI2_LONG_PACKET (R196). -/
def execCsi2LongPacket (p : Nat) (h : Csi2Header) (crcOk : Bool) (payload : List Byte) (s : State) :
    Host.Outcome State Fault Refusal :=
  act (s.dev.lensPort p) (fun d => d.csiPacket p h crcOk payload) s

/-- FRAME_START (R201). -/
def execFrameStart (h : ShortHead) (vc num : Nat) (s : State) : Host.Outcome State Fault Refusal :=
  act (s.dev.lensPort h.port) (fun d => d.lensHeader h.port h.eccOk h.corrected fun d => d.frameStart h.port vc num) s

/-- FRAME_END (R198). -/
def execFrameEnd (h : ShortHead) (vc : Nat) (s : State) : Host.Outcome State Fault Refusal :=
  act (s.dev.lensPort h.port) (fun d => d.lensHeader h.port h.eccOk h.corrected fun d => d.frameEnd h.port vc) s

/-- LENS_FRAME_COMPLETE (R198): the writes of the oldest frame, which has ended, are acknowledged. -/
def execLensFrameComplete (n : Nat) (s : State) : Host.Outcome State Fault Refusal :=
  act s.dev.cmpAlive
    (fun d => match d.streams.find? fun r => decide (r.2 = n) with | some (r, _) => d.lensComplete n r | none => d) s

end Sys2Proof.Machine
end

