-- ==== Sys2Proof/Machine/Ethernet.lean ====
section
/-! DEFINITION. Ethernet (R203 to R206, R214 to R216): filters, views, rings, timestamps and one-step insertion. Field
offsets inside frames are those of IEEE 802.3, 802.1Q, IP, UDP and IEEE 1588 (PRESUMED, log 27). -/

namespace Sys2Proof.Machine

/-! ## Frames -/

/-- What a frame carries behind up to two VLAN tags: EtherType, where its content starts, its outermost VLAN ID. -/
structure EthHead where
  type : Nat
  ofs : Nat
  vlan : Option Nat
deriving DecidableEq, Repr

/-- The 16-bit field at `o`, high byte first. -/
def be16 (bs : List Byte) (o : Nat) : Nat := beNat (slice bs o 2)
/-- A VLAN tag protocol. -/
def isTag (t : Nat) : Bool := decide (t = 0x8100) || decide (t = 0x88A8)

/-- The head of a frame. -/
def ethHead (bs : List Byte) : EthHead :=
  let t0 := be16 bs 12
  let t1 := be16 bs 16
  if !isTag t0 then ⟨t0, 14, none⟩
  else if !isTag t1 then ⟨t1, 18, some (be16 bs 14 % 4096)⟩
  else ⟨be16 bs 20, 22, some (be16 bs 14 % 4096)⟩

/-- The UDP header of a frame: where it starts, and whether it lies over IPv4. -/
def udpAt (bs : List Byte) : Option (Nat × Bool) :=
  let h := ethHead bs
  if h.type = 0x0800 ∧ leAt bs (h.ofs + 9) 1 = 17 then some (h.ofs + 4 * (leAt bs h.ofs 1 % 16), true)
  else if h.type = 0x86DD ∧ leAt bs (h.ofs + 6) 1 = 17 then some (h.ofs + 40, false)
  else none

/-- The UDP destination port. -/
def udpPort (bs : List Byte) : Option Nat := (udpAt bs).map fun u => be16 bs (u.1 + 2)

/-- A PAUSE frame. -/
def isPause (bs : List Byte) : Bool := decide ((ethHead bs).type = 0x8808) && decide (be16 bs (ethHead bs).ofs = 1)

/-- A filter entry matches a frame (R204). -/
def filterHits (x : EthFilter) (bs : List Byte) : Bool :=
  (if x.udp then decide (udpPort bs = some x.value) else decide ((ethHead bs).type = x.value)) &&
  (!x.vlan || decide ((ethHead bs).vlan = some x.vlanId))

/-- The lowest-numbered entry that a frame matches. -/
def Device.filterOf (d : Device) (p : Nat) (bs : List Byte) : Option (EthFilter × Nat) :=
  (nth d.boot.img.filters p []).zipIdx.find? fun x => filterHits x.1 bs

/-! ## Times -/

/-- A time in seconds and ns with a signed 16-bit correction in ns. -/
def adjTime (sec ns adj : Nat) : Nat × Nat :=
  let t := moveNs (sec * secNs + ns) (sext 16 adj)
  (t / secNs, t % secNs)

/-- The time of an event at port `p` now, with its ingress or egress correction (R214). -/
def Device.portTime (d : Device) (p : Nat) (egress : Bool) : Nat × Nat :=
  let a := d.reg (Reg.ethPortTsAdj p)
  adjTime d.tim.sec d.tim.ns (if egress then bits a 15 0 else bits a 31 16)

/-! ## Views (R205) -/

/-- View `v`. -/
def Device.viewAt (d : Device) (v : Nat) : EthView := tabGet EthView.reset d.eth.view v
/-- Replace view `v`. -/
def Device.setView (d : Device) (v : Nat) (x : EthView) : Device :=
  { d with eth := { d.eth with view := tabSet EthView.reset d.eth.view v x } }

/-- A frame is dropped and counted. -/
def Device.ethDrop (d : Device) (p : Nat) : Device := (d.count (Reg.ethPortDropCnt p) 15 0 1).perf 199 0x102 1

/-- Write bytes at a Facet-local offset of every powered Facet. -/
def Device.writeAll (d : Device) (o : Nat) (bs : List Byte) : Device :=
  (List.range 4).foldl (fun d f => if d.facetUp f then d.writeMem (f * 2 ^ 32 + o) bs false else d) d

/-- A record of a view: its head and the padded frame. -/
def viewRecord (p filter : Nat) (chk : Bool) (sec ns : Nat) (bs : List Byte) : List Byte :=
  toLe 2 bs.length ++ toLe 1 p ++ toLe 1 filter ++ toLe 1 (b2n chk) ++ toLe 3 0 ++ toLe 4 ns ++ toLe 6 sec ++
  List.replicate 14 0 ++ slice bs 0 (ceilDiv bs.length 16 * 16)

/-- Append a record to the collecting buffer of view `v`, or count it as dropped where it does not fit. -/
def Device.viewAppend (d : Device) (v : Nat) (rec : List Byte) : Device :=
  let r := nth d.boot.img.views v ⟨0, 0, 0⟩
  let x := d.viewAt v
  if r.bufBytes < 64 + x.bytes + rec.length then
    let p := leAt rec 2 1
    ((d.setView v { x with dropped := x.dropped + 1 }).ethDrop p).raise Reg.ethStatus 2
  else
    let d := d.writeAll (r.bufOfs + x.collecting * r.bufBytes + 64 + x.bytes) rec
    d.setView v { x with count := x.count + 1, bytes := x.bytes + rec.length }

/-- A frame for view `v`: between a tick and its restart it is held. -/
def Device.viewFrame (d : Device) (v : Nat) (rec : List Byte) : Device :=
  let x := d.viewAt v
  if x.next.isSome then d.setView v { x with held := x.held ++ [rec] } else d.viewAppend v rec

/-- At a tick the collecting buffer of a view takes its header and waits for the restart. -/
def Device.viewTick (d : Device) (v : Nat) (r : EthViewRec) : Device :=
  let x := d.viewAt v
  let h := toLe 4 x.count ++ toLe 4 x.bytes ++ toLe 4 x.dropped ++ toLe 4 d.frame.toNat ++ List.replicate 48 0
  (d.writeAll (r.bufOfs + x.collecting * r.bufBytes) h).setView v { x with next := some x.collecting }

/-- The views that the structure image defines. -/
def Device.ethViews (d : Device) : List (EthViewRec × Nat) := d.boot.img.views.zipIdx.filter fun v => decide (0 < v.1.bufBytes)

/-- Every view at a tick. -/
def Device.tickEth (d : Device) : Device := d.ethViews.foldl (fun d v => d.viewTick v.2 v.1) d

/-- At the restart the views switch, and the other buffers start collecting. -/
def Device.restartEth (d : Device) : Device :=
  d.ethViews.foldl (fun d v =>
    let x := d.viewAt v.2
    match x.next with
    | none => d
    | some i =>
      let d := d.setView v.2 ⟨1 - i, 0, 0, 0, some i, none, []⟩
      x.held.foldl (fun d r => d.viewAppend v.2 r) d) d

/-! ## Rings (R206, Table 8.7) -/

/-- A ring: its base, its size, where HEAD and TAIL stand. -/
structure Ring where
  base : Nat
  size : Nat
  head : Nat
  tail : Nat
deriving DecidableEq, Repr

/-- The receive or transmit ring of port `p`. -/
def Device.ring (d : Device) (p : Nat) (tx : Bool) : Ring :=
  let lo := d.reg (if tx then Reg.ethPortTxrLo p else Reg.ethPortRxrLo p)
  let hi := d.reg (if tx then Reg.ethPortTxrHi p else Reg.ethPortRxrHi p)
  let n := 2 ^ bits hi 19 16
  ⟨bits hi 15 0 * 2 ^ 32 + lo.toNat, n,
   d.fld (if tx then Reg.ethPortTxHead p else Reg.ethPortRxHead p) 11 0 % n,
   d.fld (if tx then Reg.ethPortTxTail p else Reg.ethPortRxTail p) 11 0 % n⟩

/-- [a, a + n) lies in the DRAM region of RING_FACET, which is up. -/
def Device.inRingFacet (d : Device) (a n : Nat) : Bool :=
  let f := d.fld Reg.ethCfg 1 0
  !d.eth.ringsLost && d.facetUp f && decide (f * 2 ^ 32 ≤ a) && decide (a + n ≤ (f + 1) * 2 ^ 32)

/-- The address of the descriptor `k` places past HEAD; none where none is posted there. -/
def Device.descAt (d : Device) (p : Nat) (tx : Bool) (k : Nat) : Option Nat :=
  let r := d.ring p tx
  let a := r.base + 32 * ((r.head + k) % r.size)
  if 16 ≤ r.size ∧ r.size ≤ 4096 ∧ k < (r.tail + r.size - r.head) % r.size ∧ d.inRingFacet a 32 ∧
      natBits (leAt (d.peek a 32) 12 1) 0 0 = 1
  then some a else none

/-- The descriptor that `descAt` examines is read (R149, R160). -/
def Device.descRead (d : Device) (p : Nat) (tx : Bool) (k : Nat) : Device :=
  let r := d.ring p tx
  let a := r.base + 32 * ((r.head + k) % r.size)
  if 16 ≤ r.size ∧ r.size ≤ 4096 ∧ k < (r.tail + r.size - r.head) % r.size ∧ d.inRingFacet a 32 then d.sense a 32 else d

/-- HEAD moves on by one. -/
def Device.headOn (d : Device) (p : Nat) (tx : Bool) : Device :=
  let r := d.ring p tx
  d.setReg (if tx then Reg.ethPortTxHead p else Reg.ethPortRxHead p) (word ((r.head + 1) % r.size))

/-- Write a descriptor back: OWN = 0, ERR and CHECKER_TIME as given, the other flags as posted. -/
def Device.writeBack (d : Device) (a : Nat) (old : List Byte) (err chk : Bool) : Device :=
  let fl := natBits (leAt old 12 1) 2 1 * 2 + b2n err * 8 + b2n chk * 16
  d.writeMem a (patch old 12 (toLe 1 fl)) false

/-- A frame with the action HOST (R206): `x` is the filter entry. -/
def Device.hostFrame (d : Device) (p x : Nat) (chk : Bool) (t : Nat × Nat) (bs : List Byte) : Device :=
  match d.descAt p false 0 with
  | none => (d.descRead p false 0).ethDrop p
  | some a =>
    let old := d.peek a 32
    let d := d.descRead p false 0
    let size := leAt old 8 2
    let buf := leAt old 0 6
    if !d.inRingFacet buf (min size bs.length) then d.ethDrop p
    else
      let d := d.writeMem buf (bs.take size) false
      let new := patch (patch (patch (patch old 8 (toLe 2 bs.length)) 13 (toLe 1 x)) 16 (toLe 4 t.2)) 20 (toLe 6 t.1)
      ((d.writeBack a new (decide (size < bs.length)) chk).headOn p false).fire (16 + 2 * p)

/-- A frame that passed its check sequence: `t` is its timestamp. -/
def Device.ethDeliver (d : Device) (p : Nat) (chk : Bool) (t : Nat × Nat) (bs : List Byte) : Device :=
  let d := (d.incr (Reg.ethPortRxCnt p)).perf 199 0x100 (ceilDiv bs.length 64)
  if isPause bs then d.ethDrop p
  else
    let x := d.filterOf p bs
    let act := match x with | some (f, _) => f.action | none => 0
    let n := match x with | some (_, i) => i | none => 0xFF
    if act = 1 then d.ethDrop p
    else if 0x80 ≤ act then d.viewFrame (act - 0x80) (viewRecord p n chk t.1 t.2 bs)
    else d.hostFrame p n chk t bs

/-- A port of the compute die is enabled (R399). -/
def Device.ethPort (d : Device) (p : Nat) : Bool := d.cmpAlive && decide (p < 6) && d.boot.img.pins.ethEn.getLsbD p

/-- ETH_FRAME_RECEIVE (R203). Frames above 9,216 bytes are not accepted. -/
def Device.ethReceive (d : Device) (p : Nat) (fcsOk : Bool) (bs : List Byte) : Device :=
  if !fcsOk then (d.count (Reg.ethPortDropCnt p) 31 16 1).perf 199 0x102 1
  else if 9216 < bs.length then d
  else d.ethDeliver p false (d.portTime p false) bs

/-! ## Transmission (R208, R214 to R216) -/

/-- A timestamp joins a queue of four (R216): the queue, and whether the timestamp was discarded. -/
def tsPush (q : List TxStamp) (t : TxStamp) : List TxStamp × Bool := if q.length < 4 then (q ++ [t], false) else (q, true)

/-- The PTP message of a frame that one-step insertion may modify: where it starts, and whether it lies over UDP. -/
def ptpAt (bs : List Byte) : Option (Nat × Option Nat) :=
  let h := ethHead bs
  if h.type = 0x88F7 then some (h.ofs, none)
  else match udpAt bs with
    | some (u, true) => if be16 bs (u + 2) = 319 then some (u + 8, some u) else none
    | _ => none

/-- Bytes of a number, highest first. -/
def toBe (n v : Nat) : List Byte := (toLe n v).reverse

/-- One-step insertion (R215): the frame to send; none where it is sent unmodified. `old` is the descriptor. -/
def oneStep (bs old : List Byte) (t : Nat × Nat) : Option (List Byte) :=
  match ptpAt bs with
  | none => none
  | some (o, u) =>
    let fix := fun l => match u with | some u => patch l (u + 6) [0, 0] | none => l
    let m := leAt bs o 1 % 16
    if m = 0 then some (fix (patch bs (o + 34) (toBe 6 t.1 ++ toBe 4 t.2)))
    else if m = 3 then
      let dt : Int := ((t.1 * secNs + t.2 : Nat) : Int) - ((leAt old 20 6 * secNs + leAt old 16 4 : Nat) : Int)
      some (fix (patch bs (o + 8) (toBe 8 (wrapN 64 ((beNat (slice bs (o + 8) 8) : Int) + dt * 65536)))))
    else none

/-- A frame leaves on port `p`. -/
def Device.ethSend (d : Device) (p : Nat) (bs : List Byte) : Device :=
  let d := (d.setFld (Reg.ethPortTxCnt p) 15 0 (d.fld (Reg.ethPortTxCnt p) 15 0 + 1)).perf 199 0x101 (ceilDiv bs.length 64)
  { d with eth := { d.eth with wire := d.eth.wire ++ [(p, bs)] } }

/-- The timestamp of a frame sent on a management port enters its queue (R216). -/
def Device.ethStamp (d : Device) (p id : Nat) (t : Nat × Nat) : Device :=
  let m := p - 4
  let (q, lost) := tsPush (tabGet [] d.eth.tsq m) ⟨id, t.1, t.2⟩
  let d := { d with eth := { d.eth with tsq := tabSet [] d.eth.tsq m q } }
  if lost then (d.count Reg.ethTsqOvfCnt (16 * m + 15) (16 * m) 1).raise Reg.ethStatus 3 else d

/-- The end of a transmission: the write-back and its vector. -/
def Device.txDone (d : Device) (p a : Nat) (old : List Byte) (err chk : Bool) : Device :=
  ((d.writeBack a old err chk).headOn p true).fire (17 + 2 * p)

/-- Send the frame of the descriptor at `a` on port 0 to 5. -/
def Device.txFrame (d : Device) (p a : Nat) (old bs : List Byte) : Device :=
  let fl := leAt old 12 1
  let t := d.portTime p true
  let ts := decide (natBits fl 1 1 = 1)
  let one := decide (natBits fl 2 2 = 1) && decide (p < 4)
  let new := if one then oneStep bs old t else none
  let d := if one && new.isNone then d.count (Reg.ethPortTxCnt p) 31 16 1 else d
  let d := d.ethSend p (new.getD bs)
  let d := if ts && decide (4 ≤ p) then d.ethStamp p (leAt old 10 2) t else d
  let old := if ts && decide (p < 4) then patch (patch old 16 (toLe 4 t.2)) 20 (toLe 6 t.1) else old
  d.txDone p a old false false

/-- ETH_TRANSMIT: the next posted frame of a port; on ports 6 and 7 it passes to the checker (R208). -/
def Device.ethTransmit (d : Device) (p : Nat) : Device :=
  let q := tabGet [] d.rng.tx (p - 6)
  let k := if p < 6 then 0 else q.length
  match d.descAt p true k with
  | none => d.descRead p true k
  | some a =>
    let old := d.peek a 32
    let d := d.descRead p true k
    let n := leAt old 8 2
    let buf := leAt old 0 6
    let bad := decide (n = 0) || decide (9216 < n) || !d.inRingFacet buf n
    let bs := if bad then [] else d.peek buf n
    let d := if bad then d else d.sense buf n
    if p < 6 then (if bad then d.txDone p a old true false else d.txFrame p a old bs)
    else
      let x : RngTx := ⟨bs, leAt old 10 2, decide (natBits (leAt old 12 1) 1 1 = 1), a⟩
      { d with rng := { d.rng with tx := tabSet [] d.rng.tx (p - 6) (q ++ [x]) } }

/-- RING_FACET_WRITE (R206): every ring pointer is 0 again. -/
def Device.ringFacet (d : Device) (v : Word) : Device :=
  let d := d.setReg Reg.ethCfg (word (bits v 1 0))
  let d := { d with eth := { d.eth with ringsLost := false } }
  (List.range 8).foldl (fun d p =>
    (((d.setReg (Reg.ethPortRxTail p) 0).setReg (Reg.ethPortRxHead p) 0).setReg (Reg.ethPortTxTail p) 0).setReg
      (Reg.ethPortTxHead p) 0) d

/-- ETH_LINK_CHANGE: `speed` is the code of ETH_PORTn_STATUS; a range port also has the checker's register. -/
def Device.ethLink (d : Device) (p : Nat) (up : Bool) (speed : Nat) : Device :=
  let d := if 6 ≤ p then d.setReg (Reg.chkRngStatus (p - 6)) (word ((speed - 1) * 2 + b2n up)) else d
  if d.cmpAlive then (d.setReg (Reg.ethPortStatus p) (word (speed * 2 + b2n up))).raise Reg.ethStatus 0 else d

/-! ## Commands -/

/-- ETH_FRAME_RECEIVE (R204). -/
def execEthFrameReceive (p : Nat) (fcsOk : Bool) (bytes : List Byte) (s : State) : Host.Outcome State Fault Refusal :=
  act (s.dev.ethPort p) (fun d => d.ethReceive p fcsOk bytes) s

/-- ETH_TAIL_WRITE (R206). -/
def execEthTailWrite (p : Nat) (tx : Bool) (v : Word) (s : State) : Host.Outcome State Fault Refusal :=
  act (s.dev.hostUp && decide (p < 8))
    (fun d => d.setReg (if tx then Reg.ethPortTxTail p else Reg.ethPortRxTail p) (word (bits v 11 0))) s

/-- ETH_TRANSMIT (R215). -/
def execEthTransmit (p : Nat) (s : State) : Host.Outcome State Fault Refusal :=
  act (s.dev.cmpAlive && decide (p < 8) && (decide (6 ≤ p) || s.dev.ethPort p)) (fun d => d.ethTransmit p) s

/-- RING_FACET_WRITE (R206). -/
def execRingFacetWrite (v : Word) (s : State) : Host.Outcome State Fault Refusal :=
  act s.dev.hostUp (fun d => d.ringFacet v) s

/-- ETH_LINK_CHANGE (R203). -/
def execEthLinkChange (p : Nat) (up : Bool) (speed : Nat) (s : State) : Host.Outcome State Fault Refusal :=
  act (decide (speed ≤ 5) && (s.dev.ethPort p || (decide (6 ≤ p) && decide (p < 8) && s.dev.chk.power &&
    decide (1 ≤ speed) && decide (speed ≤ 3)))) (fun d => d.ethLink p up speed) s

end Sys2Proof.Machine
end

