-- ==== Sys2Proof/Machine/Range.lean ====
section
/-! DEFINITION. Range ports and the binning unit (R207, R208, R226 to R229). -/

namespace Sys2Proof.Machine

/-- The selected safety parameter set (R316); the empty one before the seal read selects one. -/
def Device.safetySet (d : Device) : SafetySet := nth d.boot.img.safety d.boot.sealed.sel.toNat default

/-! ## Matching (R227) -/

/-- The payload of a UDP datagram that the binning unit recognises, with its destination port: as many bytes as its
header says and the frame holds. -/
def rngUdp (bs : List Byte) : Option (Nat × List Byte) :=
  let h := ethHead bs
  let go := fun u => some (be16 bs (u + 2), (bs.drop (u + 8)).take (be16 bs (u + 4) - 8))
  if h.type = 0x0800 ∧ leAt bs (h.ofs + 9) 1 = 17 ∧ be16 bs (h.ofs + 6) % 16384 = 0 then go (h.ofs + 4 * (leAt bs h.ofs 1 % 16))
  else if h.type = 0x86DD ∧ leAt bs (h.ofs + 6) 1 = 17 then go (h.ofs + 40)
  else none

/-- The enabled sensor that a frame on range port `n` belongs to, its number and the UDP payload. -/
def Device.sensorOf (d : Device) (n : Nat) (bs : List Byte) : Option (SensorRec × Nat × List Byte) :=
  match rngUdp bs with
  | none => none
  | some (p, pl) =>
    let r := d.safetySet.range
    (r.sensor.zipIdx.find? fun s => r.sensors.getLsbD s.2 && decide (s.1.port = n) &&
      decide (s.1.srcMac = leAt bs 6 6) && decide (s.1.udpPort = p)).map fun s => (s.1, s.2, pl)

/-! ## Binning (R227) -/

/-- n / d rounded to nearest, ties away from zero, clamped to ±(2^31 - 1). -/
def roundAway (n : Int) (d : Nat) : Int :=
  let q : Int := ((2 * n.natAbs + d) / (2 * d) : Nat)
  clampI (-2147483647) 2147483647 (if n < 0 then -q else q)

/-- A coordinate in mm; none for a value that is not finite. -/
def coordMm (r : SensorRec) (v : Nat) : Option Int :=
  if r.ftype = 2 then
    match ofFp32 v with
    | .fin s m e =>
      let k : Int := if s then -(m * 1000 : Nat) else (m * 1000 : Nat)
      some (if 0 ≤ e then roundAway (k * (2 ^ e.toNat : Nat)) 1 else roundAway k (2 ^ (-e).toNat))
    | _ => none
  else some (roundAway (sext (if r.ftype = 0 then 16 else 32) v * r.unitUm) 1000)

/-- The raw coordinates of the point at `b`; none where one lies beyond the payload. -/
def rawPoint (r : SensorRec) (pl : List Byte) (b : Nat) : Option (List Nat) :=
  let n := if r.ftype = 0 then 2 else 4
  let os := [b + r.xofs, b + r.yofs, b + r.zofs]
  if os.any fun o => decide (pl.length < o + n) then none else some (os.map fun o => leAt pl o n)

/-- A machine coordinate of a point. -/
def machineAt (r : SensorRec) (ps : List Int) (i : Nat) : Int :=
  let t := (List.range 3).foldl (fun a j => a + nth r.rot (3 * i + j) 0 * nth ps j 0) 8192
  t / 16384 + nth r.trans i 0

/-- The cell of a point; none where the height band or the grid skips it. -/
def cellOf (g : RangeRec) (r : SensorRec) (ps : List Int) : Option Nat :=
  let z := machineAt r ps 2
  let cx := (machineAt r ps 0 - g.gx0) / (g.cellMm : Int)
  let cy := (machineAt r ps 1 - g.gy0) / (g.cellMm : Int)
  if z < g.zmin ∨ g.zmax < z ∨ cx < 0 ∨ 127 < cx ∨ cy < 0 ∨ 127 < cy then none else some (128 * cy.toNat + cx.toNat)

/-- One point of sensor `s` at `b` of the payload. -/
def Rng.point (x : Rng) (g : RangeRec) (r : SensorRec) (s : Nat) (pl : List Byte) (b : Nat) : Rng :=
  match rawPoint r pl b with
  | none => x
  | some v =>
    if v.all (· = 0) then x
    else
      let ps := v.filterMap (coordMm r)
      if ps.length < 3 then x
      else
        let x := { x with pts := tabSet 0 x.pts s (tabGet 0 x.pts s + 1) }
        match cellOf g r ps with
        | none => x
        | some c => { x with grid := tabSet 0 x.grid c (min 255 (tabGet 0 x.grid c + 1)), binned := satAdd 32 x.binned 1 }

/-- Every point of a payload. -/
def Rng.bin (x : Rng) (g : RangeRec) (r : SensorRec) (s : Nat) (pl : List Byte) : Rng :=
  (List.range ((pl.length - r.hdr) / r.stride)).foldl (fun x i => x.point g r s pl (r.hdr + i * r.stride)) x

/-- What the registers show of the closed grid: its points, and the sensors that fell short (R229). -/
def Device.showGrid (d : Device) (binned : Nat) : Device :=
  let g := d.safetySet.range
  let low := (List.range 8).foldl (fun a s =>
    if g.sensors.getLsbD s && decide (tabGet 0 d.rng.closedPts s < (nth g.sensor s default).minPts) then a + 2 ^ s else a) 0
  (d.setReg Reg.aptRangePts (word binned)).setReg Reg.aptRangeSilent (word low)

/-- A frame of sensor `s`: its packet is judged where it is protected, and its points are binned. `late`: its checker
timestamp lies before the tick, so the grid and the verdict of the frame in progress take it (R228, R279). `lead`: the
c-cycles from its first byte to its last. -/
def Device.sensorFrame (d : Device) (r : SensorRec) (s : Nat) (pl : List Byte) (late : Bool) (lead : Nat) : Device :=
  let d := if r.prot then (d.judge r.ctx pl 8192 (d.ctxAt r.ctx).dest (!late) lead).1 else d
  let pts := if r.prot then (pl.drop 12).take (leAt pl 4 2) else pl
  if late then
    let x := ({ d.rng with grid := d.rng.closed, pts := d.rng.closedPts, binned := (d.reg Reg.aptRangePts).toNat } : Rng).bin
      d.safetySet.range r s pts
    ({ d with rng := { d.rng with closed := x.grid, closedPts := x.pts } } : Device).showGrid x.binned
  else { d with rng := d.rng.bin d.safetySet.range r s pts }

/-! ## Receiving and forwarding (R207) -/

/-- The checker's time with a correction of range port `n`, as seconds and ns (R214, R222). -/
def Device.rngTime (d : Device) (n : Nat) (egress : Bool) : Nat × Nat :=
  let a := nth d.boot.img.tsAdj (6 + n) 0
  adjTime d.ctime.sec d.ctime.ns (if egress then bits a 15 0 else bits a 31 16)

/-- A frame is not forwarded. -/
def Device.notForwarded (d : Device) (n : Nat) : Device := d.count (Reg.chkRngDropCnt n) 15 0 1

/-- RANGE_FRAME_RECEIVE: a frame takes a place of the forwarding buffer, which holds 64. -/
def Device.rngReceive (d : Device) (n : Nat) (fcsOk : Bool) (bs : List Byte) (lead : Nat) : Device :=
  if !fcsOk then d.count (Reg.chkRngDropCnt n) 31 16 1
  else
    let t := d.rngTime n false
    let d := d.incr (Reg.chkRngRxCnt n)
    let late := decide (((t.1 * secNs + t.2 : Nat) : Int) < d.tck.lastTickChk + d.tck.copySteps)
    let d := match d.sensorOf n bs with | some (r, s, pl) => d.sensorFrame r s pl late lead | none => d
    if !d.cmpAlive ∨ 64 ≤ d.rng.fwd.length then d.notForwarded n
    else { d with rng := { d.rng with fwd := d.rng.fwd ++ [(n, ⟨bs, t.1, t.2⟩)] } }

/-- RANGE_FRAME_FORWARD: the oldest frame of the forwarding buffer, one of range port `n`, reaches compute port 6 + n. -/
def Device.rngForward (d : Device) (n : Nat) : Device :=
  match d.rng.fwd with
  | [] => d
  | (m, f) :: q =>
    if m ≠ n then d
    else
    let d := { d with rng := { d.rng with fwd := q } }
    if d.cmpAlive then d.ethDeliver (6 + n) true (f.sec, f.ns) f.bytes else d.notForwarded n

/-! ## Transmission (R208) -/

/-- A PTP message as R208 has it. -/
def isPtp (bs : List Byte) : Bool :=
  decide ((ethHead bs).type = 0x88F7) || decide (udpPort bs = some 319) || decide (udpPort bs = some 320)

/-- The timestamp of a frame sent on range port `n` enters its queue (R216). -/
def Device.rngStamp (d : Device) (n id : Nat) : Device :=
  let t := d.rngTime n true
  let (q, lost) := tsPush (tabGet [] d.rng.tsq n) ⟨id, t.1, t.2⟩
  let d := { d with rng := { d.rng with tsq := tabSet [] d.rng.tsq n q } }
  if lost then (d.incr (Reg.chkRngTsqOvfCnt n)).raise Reg.ethStatus 3 else d

/-- RANGE_TRANSMIT: the oldest host frame for range port `n` is sent, or dropped in RUN and DEGRADED. -/
def Device.rngTransmit (d : Device) (n : Nat) : Device :=
  match tabGet [] d.rng.tx n with
  | [] => d
  | x :: q =>
    let d := { d with rng := { d.rng with tx := tabSet [] d.rng.tx n q } }
    let old := d.peek x.desc 32
    let d := d.sense x.desc 32
    if x.bytes = [] then d.txDone (6 + n) x.desc old true false
    else if d.chk.dev.running ∧ !isPtp x.bytes then (d.incr (Reg.chkRngTxBlockCnt n)).txDone (6 + n) x.desc old true false
    else
      let d := { d with rng := { d.rng with wire := d.rng.wire ++ [(n, x.bytes)] } }
      let d := d.setFld (Reg.ethPortTxCnt (6 + n)) 15 0 (d.fld (Reg.ethPortTxCnt (6 + n)) 15 0 + 1)
      let d := if x.tsReq then d.rngStamp n x.tsId else d
      d.txDone (6 + n) x.desc old false false

/-- The grid of the frame closes at a tick, and a fresh one opens (R228). -/
def Device.closeGrid (d : Device) : Device :=
  let n := d.rng.binned
  ({ d with rng := { d.rng with closed := d.rng.grid, closedPts := d.rng.pts, grid := [], pts := [], binned := 0 } } : Device).showGrid n

/-! ## Commands -/

/-- RANGE_FRAME_RECEIVE (R207). -/
def execRangeFrameReceive (n : Nat) (fcsOk : Bool) (f : RngIn) (s : State) : Host.Outcome State Fault Refusal :=
  act (s.dev.chk.power && decide (n < 2)) (fun d => d.rngReceive n fcsOk f.bytes f.lead) s

/-- RANGE_FRAME_FORWARD (R207). -/
def execRangeFrameForward (n : Nat) (s : State) : Host.Outcome State Fault Refusal :=
  act (s.dev.chk.power && decide (n < 2)) (fun d => d.rngForward n) s

/-- RANGE_TRANSMIT (R208). -/
def execRangeTransmit (n : Nat) (s : State) : Host.Outcome State Fault Refusal :=
  act (s.dev.chk.power && s.dev.cmpAlive && decide (n < 2)) (fun d => d.rngTransmit n) s

end Sys2Proof.Machine
end

