-- ==== Sys2Proof/Machine/Diesk.lean ====
section
/-! DEFINITION. Diesk links and systems of devices (R181 to R192): training, sequence and replay, inbound requests, ticks and
time from the master, election, system variants. -/

namespace Sys2Proof.Machine

/-! ## Ports (R181, R183, R184) -/

/-- DSK_PORTn_STATUS of a port (Table 7.18). -/
def portWord (t : DskPort) : Word :=
  word (t.partner * 2 ^ 28 + t.major * 2 ^ 20 + t.minor * 2 ^ 16 +
    (if t.up then (if t.x8 then 8 else 4) + 2 else if t.failed then 3 else if t.training then 1 else 0))

/-- Replace a port and show it. -/
def Device.showPort (d : Device) (p : Nat) (t : DskPort) : Device := (d.setPort p t).setReg (Reg.dskPortStatus p) (portWord t)

/-- The balls of a port are enabled (R399). -/
def Device.portOn (d : Device) (p : Nat) : Bool := d.cmpAlive && decide (p < 4) && d.boot.img.pins.dskEn.getLsbD p

/-- A link that carries flits. -/
def Device.linkOn (d : Device) (p : Nat) : Bool := d.portOn p && (d.portAt p).up

/-- Remote requests whose device no route reaches any more complete as R186 says of an unreachable one. -/
def Device.dropRemote (d : Device) : Device :=
  let l := d.dsk.rem.filter fun r => (d.route r.dev).isNone
  let d := { d with dsk := { d.dsk with rem := d.dsk.rem.filter fun r => (d.route r.dev).isSome } }
  l.foldl (fun d r => d.unreach.remoteDone r (List.replicate 64 (0, true))) d

/-- A port goes down (R183). -/
def Device.portDown (d : Device) (p : Nat) : Device :=
  let t := d.portAt p
  let d := d.showPort p { DskPort.reset with failed := true, partner := t.partner, major := t.major, minor := t.minor }
  ((d.raise Reg.dskStatus 0).pairRaise Src.dskLink).dropRemote

/-! ## STATUS and claims (R190, R191) -/

/-- The active model; none where no plan is active. -/
def Device.activeModel (d : Device) : Option Model :=
  if d.tck.active.isNone then none
  else if d.model0.st = .resident ∧ d.model0.tag = d.tck.modelTag then some d.model0
  else if d.model1.st = .resident ∧ d.model1.tag = d.tck.modelTag then some d.model1
  else none

/-- SYS_TAG of the active model where it is sharded, else 0. -/
def Device.sysTag (d : Device) : DWord := match d.activeModel with | some m => if m.sharded then m.sysTag else 0 | none => 0

/-- This device may claim. -/
def Device.mayClaim (d : Device) : Bool := d.bitAt Reg.dskCfg 12

/-- The payload of a STATUS flit: state, claim, SYS_TAG (DESIGN CHOICE, log 143). -/
def Device.statusBytes (d : Device) : List Byte :=
  toLe 1 d.chk.dev.code ++ toLe 1 (b2n (d.mayClaim && (d.dsk.claimAt.isSome || d.isMaster))) ++ toLe 8 d.sysTag.toNat

/-- A STATUS flit to every device of the system. -/
def Device.sendStatus (d : Device) : Device :=
  (List.range 16).foldl (fun d j => d.sendTo FT.status j 0 10 0 d.statusBytes) d

/-- Mastership is claimed in STATUS flits (R190): at link-up and when the master is lost. -/
def Device.claim (d : Device) : Device :=
  if d.topo = 0 then d
  else (if d.dsk.claimAt.isSome then d else { d with dsk := { d.dsk with claimAt := some d.q } }).sendStatus

/-- A link has come up: the claim goes to the partner, to which no route may lead before the next tick, and to the rest. -/
def Device.linkClaim (d : Device) (p : Nat) : Device :=
  let d := d.claim
  if d.topo = 0 ∨ (d.route (d.portAt p).partner).isSome then d
  else d.sendOn p FT.status (d.portAt p).partner 0 10 0 d.statusBytes

/-! ## Training (R181, R184) -/

/-- Training with a partner at version `major`.`minor` on `lanes` lanes (R181, R184): this device speaks 1.0. -/
def Device.trained (d : Device) (p : Nat) (f : Flit) (major minor lanes : Nat) : Device :=
  if (d.portAt p).up then d
  else if major ≠ 1 then
    (d.showPort p { DskPort.reset with partner := f.src }).raise Reg.dskStatus 1
  else if lanes ≠ 8 ∧ lanes ≠ 4 then d.showPort p { DskPort.reset with partner := f.src }
  else (d.showPort p { DskPort.reset with
    up := true, x8 := decide (lanes = 8), partner := f.src, major := 1, minor := min 0 minor, rxSeq := 4095 }).linkClaim p

/-- A port that is down trains again, with a TRAIN flit. -/
def Device.retrain (d : Device) (p : Nat) : Device :=
  let t := d.portAt p
  if t.up then d
  else (d.showPort p { DskPort.reset with training := true }).sendOn p FT.train t.partner 0 3 0 (toLe 1 1 ++ toLe 1 0 ++ toLe 1 d.devId)

/-! ## Sequence numbers and replay (R183) -/

/-- The flits that an acknowledgement of `a` leaves in the replay buffer. -/
def acked (l : List TxFlit) (a : Nat) : List TxFlit :=
  match l.findIdx? fun x => decide (x.flit.seq = a) with
  | some i => l.drop (i + 1)
  | none => l

/-- Take in an acknowledgement: flits that waited for room are sent. -/
def Device.takeAck (d : Device) (p a : Nat) : Device :=
  let t := d.portAt p
  (d.setPort p { t with replay := acked t.replay a }).pushWait p

/-- Answer NAK with the last good SEQ. -/
def Device.sendNak (d : Device) (p : Nat) : Device := d.sendOn p FT.nak (d.portAt p).partner 0 0 0 []

/-- A flit with a CRC error. -/
def Device.crcError (d : Device) (p : Nat) : Device := (d.count (Reg.dskPortCnt p) 15 0 1).sendNak p

/-- Replay every flit after the acknowledged SEQ; a flit replayed 8 times takes the port down. -/
def Device.replay (d : Device) (p a : Nat) : Device :=
  let d := d.takeAck p a
  let t := d.portAt p
  let l := t.replay.map fun x => { x with replays := x.replays + 1 }
  let d := (d.setPort p { t with replay := l }).count (Reg.dskPortCnt p) 31 16 l.length
  let d := d.perf 197 0x102 l.length
  let d := { d with dsk := { d.dsk with out := d.dsk.out ++ l.map fun x => (p, x) } }
  if l.any fun x => decide (8 ≤ x.replays) then d.portDown p else d

/-- Pass a flit on without involving an engine (R185). -/
def Device.relay (d : Device) (type : Nat) (f : Flit) : Device :=
  match d.route f.dst with
  | none => d
  | some p => d.pushFlit p ⟨type, f, 0⟩

/-- How many flits have gone out on port `p`. -/
def Device.sentOn (d : Device) (p : Nat) : Nat := countBy (fun x => decide (x.1 = p)) d.dsk.out

/-- The ACK goes back in an IDLE flit where nothing else has been sent on the port since (DESIGN CHOICE, log 142). -/
def Device.ackIdle (d : Device) (p sent : Nat) : Device :=
  if d.sentOn p = sent then d.sendOn p FT.idle (d.portAt p).partner 0 0 0 [] else d

/-- A flit arrives on port `p`: with a CRC error or out of order it is discarded with a NAK, its ACK with it (R183); for
another device it is passed on; else `body` acts. Types of one link (`own`) are for whoever receives them. -/
def Device.receive (d : Device) (p type : Nat) (f : Flit) (own : Bool) (body : Device → Device) : Device :=
  let t := d.portAt p
  if !d.linkOn p then d
  else if f.crc ≠ flitCrc type f then d.crcError p
  else if f.seq ≠ (t.rxSeq + 1) % 4096 then d.sendNak p
  else
    let sent := d.sentOn p
    let d := (d.setPort p { t with rxSeq := f.seq }).takeAck p f.ack
    let d := d.perf 197 0x100 1
    (if own || decide (f.dst = d.devId) then body d else d.relay type f).ackIdle p sent

/-- A flit of link control arrives: with a CRC error it is discarded with a NAK. -/
def Device.control (d : Device) (p type : Nat) (f : Flit) (body : Device → Device) : Device :=
  if f.crc ≠ flitCrc type f then d.crcError p else body d

/-! ## Routes (R185) -/

/-- The port towards `b` from `a` around `n` places: `p` upwards, `p` + 1 downwards, `p` on ties. -/
def shorter (p n a b : Nat) : Nat := if (b + n - a) % n ≤ (a + n - b) % n then p else p + 1

/-- The port to device `j` from the ports that are up. -/
def Device.findRoute (d : Device) (j : Nat) : Option Nat :=
  let i := d.devId
  let up := fun p => (d.portAt p).up
  if i = j ∨ !d.inSystem j then none
  else if d.topo = 1 then
    let n := d.fld Reg.dskCfg 7 4 + 1
    let p := shorter 0 n (i % n) j
    if up p then some p else if up (1 - p) then some (1 - p) else none
  else if d.topo = 2 then
    let x := if i % 4 = j % 4 then none else some (shorter 0 4 (i % 4) (j % 4))
    let y := if i / 4 = j / 4 then none else some (shorter 2 4 (i / 4) (j / 4))
    match x, y with
    | some a, some b => if up a then some a else if up b then some b else none
    | some a, none => if up a then some a else none
    | none, some b => if up b then some b else none
    | none, none => none
  else none

/-- Routes are recomputed at each tick. -/
def Device.tickRoutes (d : Device) : Device :=
  { d with dsk := { d.dsk with routes := (List.range 16).foldl (fun t j =>
      match d.findRoute j with | some p => tabSet 0 t j (p + 1) | none => t) [] } }

/-! ## Inbound requests (R186, R187) -/

/-- A range lies in a WORK section of the active model that carries flag `bit`, on a logical Facet that runs. -/
def Device.shared (d : Device) (bit a n : Nat) : Bool :=
  match d.activeModel with
  | none => false
  | some m =>
    m.sharded && decide (a < 0x400000000) && decide (d.phys a < 2 ^ 48) && m.sections.any fun s =>
      decide (s.type = 4) && decide (natBits s.flags bit bit = 1) && decide (s.place ≤ a % 2 ^ 32) &&
      decide (a % 2 ^ 32 + n ≤ s.place + s.length)

/-- An inbound access is refused. -/
def Device.inbRej (d : Device) : Device :=
  ((d.incr Reg.dskInbCnt).raise Reg.dskStatus 3).pairRaise Src.dskInbound

/-- A stale WR or SIG is discarded. -/
def Device.staleFlit (d : Device) : Device := (d.incr Reg.dskStaleCnt).raise Reg.dskStatus 4

/-- A flit of another frame than this device's. -/
def Device.isStale (d : Device) (f : Flit) : Bool := decide (f.frame.toNat ≠ d.frame.toNat % 65536)

/-- The payload of a flit with its marks. -/
def flitData (f : Flit) : Marked := ((f.payload.take f.len).zipIdx).map fun x => (x.1, f.poison.getLsbD (x.2 / 8))

/-- Acknowledge a WR. -/
def Device.ackWr (d : Device) (f : Flit) (dropped : Bool) : Device := d.sendTo FT.wrAck f.src f.addr 1 0 (toLe 1 (b2n dropped))

/-- LEN bytes at ADDR lie within one 64-byte line (Table 7.10). -/
def inLine (f : Flit) : Bool := decide (1 ≤ f.len) && decide (f.addr % 64 + f.len ≤ 64)

/-- WR: one that crosses a line is none that is accepted (DEDUCED, log 144). -/
def Device.inWr (d : Device) (f : Flit) : Device :=
  if d.isStale f then d.staleFlit.ackWr f true
  else if inLine f && d.shared 1 f.addr f.len then (d.writeTag (d.phys f.addr) (flitData f)).ackWr f false
  else d.inbRej.ackWr f true

/-- RD_REQ: served whatever its FRAME. -/
def Device.inRd (d : Device) (f : Flit) : Device :=
  let (d, l) := if d.shared 0 f.addr f.len then d.readTag (d.phys f.addr) f.len
    else (d.inbRej, List.replicate f.len (0, true))
  d.sendTo FT.rdResp f.src f.addr f.len (poisonField l) (unmark l)

/-- An answer completes the oldest remote request that it fits. -/
def Device.answered (d : Device) (f : Flit) (rd : Bool) : Device :=
  match d.dsk.rem.find? fun r => decide (r.dev = f.src) && decide (r.addr = f.addr) && decide (r.read = rd) with
  | none => d
  | some r => ({ d with dsk := { d.dsk with rem := d.dsk.rem.erase r } } : Device).remoteDone r (if rd then flitData f else [])

/-- SIG: adds to a device counter. -/
def Device.inSig (d : Device) (f : Flit) : Device :=
  if d.isStale f then d.staleFlit
  else
    let c := Ctr.dev (leAt f.payload 0 1 % 16)
    (d.addTokens c [⟨c, leAt f.payload 2 2, 168, d.q / aQ⟩]).releaseAll c

/-! ## The master's ticks and time (R189) -/

/-- ID of the master. -/
def Device.masterId (d : Device) : Nat := d.fld Reg.dskStatus 31 28

/-- TICK at a follower. -/
def Device.inTick (d : Device) (f : Flit) : Device :=
  if !d.follower ∨ f.src ≠ d.masterId then d
  else
    let b := f.payload
    let sv := leAt b 18 1
    { d with dsk := { d.dsk with
        nextTick := some (leAt b 0 6 * secNs + leAt b 6 4, leAt b 10 4, leAt b 14 4, sv % 16, decide (128 ≤ sv))
        periodUs := leAt b 14 4, lost := 0 } }

/-- The master sends a TICK flit to every follower. -/
def Device.sendTick (d : Device) : Device :=
  let b := toLe 6 (d.tck.expected / secNs) ++ toLe 4 (d.tck.expected % secNs) ++ toLe 4 (d.frame + 1).toNat ++
    toLe 4 d.tck.period ++ toLe 1 (d.dsk.annSv.getD 0 + 128 * b2n d.dsk.annSafe)
  (List.range 16).foldl (fun d j => d.sendTo FT.tick j 0 19 0 b) d

/-- A follower holds no TICK flit: the frame that its expected tick starts is UNTRUSTED; the second in a row declares
the master lost. -/
def Device.tickMissing (d : Device) : Device :=
  let d := d.raise Reg.dskStatus 5
  let n := d.dsk.lost + 1
  let d := { d with dsk := { d.dsk with sysCause := true, lost := n } }
  if n < 2 then d
  else
    let d := d.raise Reg.dskStatus 7
    let d := { d with dsk := { d.dsk with sys := d.dsk.sys.map fun (x : Nat × SysDev) => if x.1 = d.masterId then (x.1, { x.2 with claim := false }) else x } }
    ({ d with dsk := { d.dsk with hasMaster := false, lost := 0 } } : Device).claim

/-- TIME on a link with the peer delay measured, in ns: a follower whose master lies that way is stepped to the time
that the payload carries plus that delay (the payload's layout: DESIGN CHOICE, log 143). -/
def Device.inTime (d : Device) (p : Nat) (f : Flit) (delay : Nat) : Device :=
  let d := d.setPort p { d.portAt p with peerDelay := delay }
  let ofs : Int := ((leAt f.payload 0 6 * secNs + leAt f.payload 6 4 + delay : Nat) : Int) - d.timNs
  if d.follower && decide (d.route d.masterId = some p) && decide (ofs ≠ 0) then d.tryStep ofs else d

/-- TIME sent on a link with this device's time. -/
def Device.sendTime (d : Device) (p : Nat) : Device :=
  d.sendOn p FT.time (d.portAt p).partner 0 10 0 (toLe 6 d.tim.sec ++ toLe 4 d.tim.ns)

/-! ## STATUS, mastership and system variants (R190, R191) -/

/-- Entry `n` of the system. -/
def Device.sysAt (d : Device) (n : Nat) : SysDev := tabGet default d.dsk.sys n
/-- Replace entry `n`. -/
def Device.setSys (d : Device) (n : Nat) (v : SysDev) : Device :=
  { d with dsk := { d.dsk with sys := tabSet default d.dsk.sys n v } }

/-- A device state that qualifies: CONFIGURED, RUN or DEGRADED. -/
def stQual (n : Nat) : Bool := decide (n = 2) || decide (n = 3) || decide (n = 4)

/-- Follow device `m` as master, or be it; a change makes the next tick the first under a new master. The claims are
settled: a later election starts without them. -/
def Device.setMaster (d : Device) (m : Nat) : Device :=
  let same := d.dsk.hasMaster && decide (d.masterId = m)
  let d := (d.setFld Reg.dskStatus 31 28 m).setBit Reg.dskStatus 27 (decide (m = d.devId))
  { d with dsk := { d.dsk with hasMaster := true, claimAt := none, lost := 0, newMaster := d.dsk.newMaster || !same,
                               sys := d.dsk.sys.map fun (x : Nat × SysDev) => (x.1, { x.2 with claim := false }) } }

/-- State, claim and SYS_TAG that the payload of a STATUS flit reports (log 143). -/
def flitState (f : Flit) : Nat := leAt f.payload 0 1
/-- Its master claim. -/
def flitClaim (f : Flit) : Bool := decide (leAt f.payload 1 1 % 2 = 1)
/-- Its SYS_TAG. -/
def flitTag (f : Flit) : DWord := BitVec.ofNat 64 (leAt f.payload 2 8)
/-- The report as its payload spells it. -/
def flitReport (f : Flit) : StatusRep := ⟨flitState f, flitTag f, flitClaim f⟩

/-- STATUS of another device. -/
def Device.inStatus (d : Device) (f : Flit) : Device :=
  let s := d.sysAt f.src
  let q := stQual (flitState f) && decide (flitTag f = d.sysTag)
  let d := d.setSys f.src { s with state := flitState f, sysTag := flitTag f, claim := flitClaim f, fresh := true
                                   streak := if q then s.streak + 1 else 0 }
  if decide (d.topo ≠ 0) && d.isMaster && flitClaim f && decide (f.src < d.devId)
  then ((d.setMaster f.src).raise Reg.dskStatus 6).pairRaise Src.dskMaster
  else d

/-- The lowest claiming ID among this device and the reachable ones becomes master; without one the device enters
SAFE (R190). -/
def Device.elect (d : Device) : Device :=
  let l := (List.range 16).filter fun n =>
    if n = d.devId then d.mayClaim else (d.route n).isSome && (d.sysAt n).claim
  match l with
  | m :: _ => d.setMaster m
  | [] =>
    let d := (d.setBit Reg.dskStatus 27 false)
    let d := { d with dsk := { d.dsk with hasMaster := false, claimAt := none } }
    if d.chk.dev = .configured ∨ d.chk.dev.running ∨ d.chk.dev = .safe then d.enterSafe [⟨0xE2, false⟩] else d

/-- Device `n` belongs to PRESENT now (R191). -/
def Device.presentNow (d : Device) (n : Nat) : Bool :=
  let s := d.sysAt n
  decide (n = d.devId) ||
  (d.inSystem n && s.fresh && stQual s.state && decide (s.sysTag = d.sysTag) && (!s.left || decide (2 ≤ s.streak)))

/-- Mask of a list of device IDs. -/
def idMask (l : List Nat) : Nat := sumBy (fun n => 2 ^ n) l

/-- At a tick the master forms PRESENT and chooses what the next TICK flit announces (R191). -/
def Device.formPresent (d : Device) : Device :=
  if d.topo = 0 ∨ !d.isMaster then d
  else
    let now := (List.range 16).filter fun n => d.presentNow n
    let d := (List.range 16).foldl (fun d n =>
      let s := d.sysAt n
      let gone := decide (n ∈ d.dsk.present) && decide (n ∉ now)
      d.setSys n { s with fresh := false, left := (s.left || gone) && decide (n ∉ now), streak := if gone then 0 else s.streak }) d
    let d := { d with dsk := { d.dsk with present := now } }
    let d := d.setFld Reg.dskPresent 15 0 (idMask now)
    match d.activeModel with
    | some m =>
      if m.sharded then
        match (List.range m.svs).find? fun v => (List.range 16).all fun n =>
          decide (natBits (nth m.reqMask v 0) n n = 0) || decide (n ∈ now) with
        | some v => { d with dsk := { d.dsk with annSv := some v, annSafe := false } }
        | none => { d with dsk := { d.dsk with annSv := some 0, annSafe := true } }
      else { d with dsk := { d.dsk with annSv := some 0, annSafe := false } }
    | none => { d with dsk := { d.dsk with annSv := some 0, annSafe := false } }

/-! ## Commands -/

/-- WR (R186). -/
def execWr (p : Nat) (f : Flit) (s : State) : Host.Outcome State Fault Refusal :=
  act f.wf (fun d => d.receive p FT.wr f false fun d => d.inWr f) s

/-- WR_ACK (R186). -/
def execWrAck (p : Nat) (f : Flit) (s : State) : Host.Outcome State Fault Refusal :=
  act f.wf (fun d => d.receive p FT.wrAck f false fun d => d.answered f false) s

/-- RD_REQ (R186). -/
def execRdReq (p : Nat) (f : Flit) (s : State) : Host.Outcome State Fault Refusal :=
  act f.wf (fun d => d.receive p FT.rdReq f false fun d => d.inRd f) s

/-- RD_RESP (R186). -/
def execRdResp (p : Nat) (f : Flit) (s : State) : Host.Outcome State Fault Refusal :=
  act f.wf (fun d => d.receive p FT.rdResp f false fun d => d.answered f true) s

/-- SIG (R187). -/
def execSig (p : Nat) (f : Flit) (s : State) : Host.Outcome State Fault Refusal :=
  act f.wf (fun d => d.receive p FT.sig f false fun d => d.inSig f) s

/-- TICK_FLIT (R189). -/
def execTickFlit (p : Nat) (f : Flit) (s : State) : Host.Outcome State Fault Refusal :=
  act f.wf (fun d => d.receive p FT.tick f false fun d => d.inTick f) s

/-- TICK_FLIT_SEND (R189). -/
def execTickFlitSend (s : State) : Host.Outcome State Fault Refusal :=
  act (s.dev.cmpAlive && decide (s.dev.topo ≠ 0) && s.dev.isMaster) Device.sendTick s

/-- TICK_FLIT_MISSING (R189). -/
def execTickFlitMissing (s : State) : Host.Outcome State Fault Refusal :=
  act (s.dev.cmpAlive && s.dev.follower && s.dev.dsk.nextTick.isNone) Device.tickMissing s

/-- TIME_FLIT (R189). -/
def execTimeFlit (p : Nat) (f : Flit) (delay : Nat) (s : State) : Host.Outcome State Fault Refusal :=
  act f.wf (fun d => d.receive p FT.time f true fun d => d.inTime p f delay) s

/-- TIME_FLIT_SEND (R189). -/
def execTimeFlitSend (p : Nat) (s : State) : Host.Outcome State Fault Refusal :=
  act (s.dev.linkOn p) (fun d => d.sendTime p) s

/-- STATUS_FLIT (R191). The report is the one that the payload spells. -/
def execStatusFlit (p : Nat) (f : Flit) (r : StatusRep) (s : State) : Host.Outcome State Fault Refusal :=
  act (f.wf && decide (r = flitReport f)) (fun d => d.receive p FT.status f false fun d => d.inStatus f) s

/-- MASTER_ELECTION (R190). -/
def execMasterElection (s : State) : Host.Outcome State Fault Refusal :=
  act (s.dev.cmpAlive && decide (s.dev.topo ≠ 0) && s.dev.dsk.claimAt.isSome) Device.elect s

/-- TRAIN (R184). -/
def execTrain (p : Nat) (f : Flit) (major minor lanes : Nat) (s : State) : Host.Outcome State Fault Refusal :=
  act (f.wf && s.dev.portOn p) (fun d => d.control p FT.train f fun d => d.trained p f major minor lanes) s

/-- NAK (R183). -/
def execNak (p : Nat) (f : Flit) (s : State) : Host.Outcome State Fault Refusal :=
  act (f.wf && s.dev.linkOn p) (fun d => d.control p FT.nak f fun d => d.replay p f.ack) s

/-- IDLE (R182). -/
def execIdle (p : Nat) (f : Flit) (s : State) : Host.Outcome State Fault Refusal :=
  act (f.wf && s.dev.linkOn p) (fun d => d.control p FT.idle f fun d => d.takeAck p f.ack) s

/-- DSK_PORT_RETRAIN (R183). -/
def execDskPortRetrain (p : Nat) (s : State) : Host.Outcome State Fault Refusal :=
  act (s.dev.portOn p) (fun d => d.retrain p) s

/-- FLIT_CRC_ERROR (R183). -/
def execFlitCrcError (p : Nat) (s : State) : Host.Outcome State Fault Refusal :=
  act (s.dev.linkOn p) (fun d => d.crcError p) s

end Sys2Proof.Machine
end

