-- ==== Sys2Proof/Machine/Stage.lean ====
section
/-! DEFINITION. Stage windows (R265 to R270). -/

namespace Sys2Proof.Machine

/-- The window of stage `n`. -/
def Device.winAt (d : Device) (n : Nat) : Option StwWin := d.stw.wins.find? fun w => decide (w.stage = n)

/-- Change the window of stage `n`. -/
def Device.modWin (d : Device) (n : Nat) (f : StwWin → StwWin) : Device :=
  { d with stw := { d.stw with wins := d.stw.wins.map fun w => if w.stage = n then f w else w } }

/-- Checker time since the tick, in ns. -/
def Device.sinceTickNs (d : Device) : Int := (d.chkNs : Int) - d.stw.tickNs

/-- The stages whose window `p` selects, as two words. -/
def stageMask (l : List StwWin) (p : StwWin → Bool) : Nat := sumBy (fun w => if p w then 2 ^ w.stage else 0) l

/-- Publish the faults of the frame as the last judged one (Table 10.12). -/
def Device.stwPublish (d : Device) : Device :=
  let e := stageMask d.stw.wins (·.extra)
  let m := stageMask d.stw.wins (·.missing)
  let t := stageMask d.stw.wins (·.timing)
  let d := d.setReg Reg.stwFault (word (d.stw.frame.toNat * 65536 + d.stw.flags.toNat))
  ((d.setReg64 Reg.stwExtraLo e).setReg64 Reg.stwMissingLo m).setReg64 Reg.stwTimingLo t

/-- Every window of the frame has closed. -/
def Device.winsClosed (d : Device) : Bool := d.stw.wins.all (·.closed)

/-- A stage fault of the frame: its flag, STAGE and STW_FAULT (R267). -/
def Device.stageFault (d : Device) (flag : Nat) : Device :=
  let d := if d.stw.flags = 0 then d.incr Reg.stwFaultCnt else d
  let d := { d with stw := { d.stw with flags := d.stw.flags ||| BitVec.ofNat 6 (2 ^ flag) } }
  let d := if d.winsClosed then d.stwPublish else d
  (d.addCause 12).chkRaise Src.stwFault

/-- A check-in of the frame at stage `n` (Table 10.3). -/
def Device.checkIn (d : Device) (n : Nat) : Device :=
  match d.winAt n with
  | none => if d.tck.active.isNone then d.incr Reg.stwIgnoredCnt else d.stageFault 4
  | some w =>
    let t := d.sinceTickNs
    if t < (w.openUs * 1000 : Nat) then (d.modWin n fun w => { w with timing := true }).stageFault 2
    else if t < (w.closeUs * 1000 : Nat) ∧ !w.closed then
      let d := d.modWin n fun w => { w with got := min 15 (w.got + 1) }
      if w.count ≤ w.got ∧ !w.extra then (d.modWin n fun w => { w with extra := true }).stageFault 0 else d
    else (d.modWin n fun w => { w with timing := true }).stageFault 3

/-- A check-in of the frame before at stage `n`, after the tick: LATE against that frame's window, UNDECLARED where it had
none (R269). The verdict of that frame has been issued, so LATE is set for this one. -/
def Device.lateCheckIn (d : Device) (known : Bool) (n : Nat) : Device :=
  let was := d.fld Reg.stwFault 5 0
  let d := if was = 0 then d.incr Reg.stwFaultCnt else d
  let d := d.setBit Reg.stwFault (if known then 3 else 4) true
  let d := if known then d.setBit (Reg.stwTimingLo + 4 * (n / 32)) (n % 32) true else d
  (d.addCause 15).chkRaise Src.stwFault

/-- A check-in of the frame before, whose windows are kept: with no plan active it is ignored where the structure image has no
window for it (R270), and so is one of a test frame (R306). -/
def Device.prevCheckIn (d : Device) (n : Nat) : Device :=
  match d.stw.prev with
  | none => d.incr Reg.stwIgnoredCnt
  | some (l, plan) => if !plan && !l.contains n then d.incr Reg.stwIgnoredCnt else d.lateCheckIn (l.contains n) n

/-- MARK_CHECKIN: the oldest MARK message reaches the checker. -/
def Device.markIn (d : Device) : Device :=
  match d.marks with
  | [] => d
  | m :: l =>
    let d := { d with marks := l }
    if !d.stw.armed then d.incr Reg.stwIgnoredCnt
    else if m.frame = d.stw.frame then d.checkIn m.stage
    else if m.frame + 1 = d.stw.frame then d.prevCheckIn m.stage
    else d.stageFault 5

/-- The window of stage `n` closes: a count below COUNT is MISSING. -/
def Device.winClose (d : Device) (n : Nat) : Device :=
  match d.winAt n with
  | none => d
  | some w =>
    if w.closed then d
    else
      let miss := decide (w.got < w.count)
      let d := d.modWin n fun w => { w with closed := true, missing := miss }
      if miss then d.stageFault 1 else if d.winsClosed then d.stwPublish else d

/-- STAGE_WINDOW_CLOSE: the close offset of stage `n` has come. -/
def Device.winDue (d : Device) (n : Nat) : Device :=
  match d.winAt n with
  | none => d
  | some w => if d.stw.armed && decide ((w.closeUs * 1000 : Nat) ≤ d.sinceTickNs) then d.winClose n else d

/-- A tick closes every window that is still open (R270) and judges the frame. -/
def Device.winsEnd (d : Device) : Device :=
  if !d.stw.armed then d
  else ((d.stw.wins.map (·.stage)).foldl (fun d n => d.winClose n) d).stwPublish

/-- A window entry in force. -/
def armWin (w : StageWin) (image : Bool) : StwWin :=
  ⟨w.stage, w.count, w.safety, image, w.openUs, w.closeUs, 0, false, false, false, false⟩

/-- The windows of the frame that ends are kept for its late check-ins (R269): before a swap or a new variant takes effect. -/
def Device.winsKeep (d : Device) : Device :=
  { d with stw := { d.stw with prev := if d.stw.armed then some (d.stw.wins.map (·.stage), d.tck.active.isSome) else none } }

/-- The windows of a new frame are timed from its tick, not from the restart (R37, R265); test frames arm none
(R306). -/
def Device.winsStart (d : Device) (test : Bool) : Device :=
  let plan := if d.tck.active.isSome then d.tck.plan.windows else []
  let l := (plan.map fun w => armWin w false) ++ (d.boot.img.stage.map fun w => armWin w true)
  { d with stw := ⟨if test then [] else l, d.tck.lastTickChk, BitVec.ofNat 16 d.frame.toNat, 0, !test, d.stw.prev⟩ }

/-! ## Commands -/

/-- MARK_CHECKIN (R267). -/
def execMarkCheckin (s : State) : Host.Outcome State Fault Refusal := act s.dev.cmpAlive Device.markIn s

/-- STAGE_WINDOW_CLOSE (R267). -/
def execStageWindowClose (n : Nat) (s : State) : Host.Outcome State Fault Refusal :=
  act s.dev.chk.power (fun d => d.winDue n) s

end Sys2Proof.Machine
end

