-- ==== Sys2Proof/Machine/Aperture.lean ====
section
/-! DEFINITION. The Aperture: SEND and its packets (R135, R223, R224, R275), challenge tiles (R230 to R235), comparisons
(R234, R236), the verdict (R237 to R244) and the result record (R245). -/

namespace Sys2Proof.Machine

/-! ## SEND (R133, R135) -/

/-- ENTRY of a SEND. -/
def sendEntry (w : CmdWord) : Nat := cmdFld w 14 0 8
/-- LEN of a SEND. -/
def sendLen (w : CmdWord) : Nat := cmdFld w 16 0 32

/-- Entry `i` of the manifest in force. -/
def Device.manEntry (d : Device) (i : Nat) : Option ManEntry := d.tck.plan.man.entries[i]?

/-- Conditions of SEND. -/
def sendCauses (e : Nat) (d : Device) (w : CmdWord) : List Nat :=
  cause (!zeroFrom w 20 || decide (cmdFld w 15 0 8 ≠ 0)) 0x01 ++
  cause (!d.reach e seReads (mSrc w) (sendLen w)) 0x30 ++ cause (un16 (mSrc w)) 0x31 ++
  cause (decide (sendLen w = 0)) 0x32 ++
  cause (match d.manEntry (sendEntry w) with | some m => decide (m.len ≠ sendLen w) | none => true) 0x34

/-- The marks of data as the Aperture carries them: one bit per 64-bit word (R158). -/
def wordMarks (l : Marked) : List Bool := (List.range (ceilDiv l.length 8)).map fun i => anyMark ((l.drop (8 * i)).take 8)

/-- The packets of a tensor. -/
def packetsOf (e i : Nat) (l : Marked) : List Packet :=
  let n := ceilDiv l.length 1024
  (List.range n).map fun k =>
    let part := (l.drop (1024 * k)).take 1024
    ⟨e, i, 1024 * k, unmark part, wordMarks part, decide (k + 1 = n)⟩

/-- SEND: the tensor goes to the sender, and the SE goes on. -/
def Device.sendBody (e : Nat) (d : Device) (h : FCmd) (w : CmdWord) : Device :=
  let (d, l) := d.readTag (d.phys (mSrc w)) (sendLen w)
  let d := d.notePoison e (countBy (·.2) l)
  let ps := packetsOf e (sendEntry w) l
  let d := { d with apt := { d.apt with packets := d.apt.packets ++ ps } }
  d.push e ⟨h.addr, w, 0, 0, [], ps.length, false, h.tag, 0⟩

/-- The next packet: the sender takes them from the SEs in turn, by ascending engine index (R135). -/
def Apt.next (a : Apt) : Option Packet :=
  let es := a.packets.map (·.eng)
  let after := es.filter fun e => decide (a.turn < e)
  match (if after.isEmpty then es else after) with
  | [] => none
  | e :: l => let m := l.foldl min e; a.packets.find? fun p => decide (p.eng = m)

/-- A packet of context `k` as it is sent in mode `m` with the sender's counters (Table 11.2, R275). -/
def packetBytes (k : Nat) (c : Ctx) (m : Bool) (alive : BitVec 16) (seq : Word) (p : Packet) : List Byte :=
  let body := toLe 2 k ++ toLe 2 alive.toNat ++ toLe 2 p.bytes.length ++ toLe 1 (b2n m) ++ toLe 1 0 ++
    toLe 4 (if m then seq.toNat else 0) ++ p.bytes
  let dest := if m then toLe 4 (p.entry * 2 ^ 24 + p.ofs) else []
  body ++ toLe 4 (crc32c c.seed.toNat (body ++ dest))

/-- What has been received of entry `i`. -/
def Device.recvAt (d : Device) (i : Nat) : Recv := tabGet default d.apt.recv i
/-- Replace it. -/
def Device.setRecv (d : Device) (i : Nat) (r : Recv) : Device :=
  { d with apt := { d.apt with recv := tabSet default d.apt.recv i r } }

/-- An entry's arrival lies outside the open interval of its window (R238). -/
def Device.lateEntry (d : Device) (m : ManEntry) : Bool :=
  match d.winAt m.stage with
  | some w => decide (d.sinceTickNs < (w.openUs * 1000 : Nat)) || decide ((w.closeUs * 1000 : Nat) ≤ d.sinceTickNs)
  | none => false

/-- Kinds of entries that a comparison judges: CHAL_OUT and REPLICA. -/
def ManEntry.judged (m : ManEntry) : Bool := decide (m.kind = 3) || decide (m.kind = 4)

/-- A packet is stored toward entry `i` (R224): out of turn it belongs to a second SEND of the entry. -/
def Device.storePacket (d : Device) (m : ManEntry) (p : Packet) : Device :=
  let r := d.recvAt p.entry
  if r.arrival.isSome ∨ p.ofs ≠ r.data.length then d.addCause 2
  else
    let full := decide (m.len ≤ p.ofs + p.bytes.length)
    let bad := r.poison || p.marks.any id
    let d := d.setRecv p.entry ⟨r.data ++ p.bytes, bad, if full then some d.chkNs else none, bad && full⟩
    let d := if p.marks.any id then d.addCause 4 else d
    if full && d.lateEntry m then d.addCause 12 else d

/-- A message of a higher class of Table 9.1 that was ready at time `t` is still on its way to the checker (R223): a MARK, a
time message or the all-END report. -/
def Device.apertureBusy (d : Device) (t : Nat) : Bool :=
  (d.marks.any fun m => decide (m.at_ * aQ ≤ t)) ||
  (d.tim.msg.isSome && decide (d.q - (d.q - d.chk.relAt) % msQ ≤ t)) ||
  (d.tck.allEndSent && decide (d.apt.allEndAt = none))

/-- The sender's counters move past a packet whose first byte left at time `t`, where they are still those of that time. -/
def Ctx.sent (c : Ctx) (t : Nat) : Ctx :=
  match c.was t with
  | some _ => c
  | none => { c with sndAlive := c.sndAlive + 1, sndSeq := c.sndSeq + 1 }

/-- A packet as it left at time `t` in context `k`. -/
def Ctx.packet (k : Nat) (c : Ctx) (t : Nat) (p : Packet) : List Byte :=
  match c.was t with
  | some x => packetBytes k c x.seqMode x.alive x.seq p
  | none => packetBytes k c c.seqMode c.sndAlive c.sndSeq p

/-- A SEND packet reaches the checker, whose first byte came `lead` c-cycles ago: the check-value unit judges the bytes, `bs`
where the link has changed them. -/
def Device.packetIn (d : Device) (bs : Option (List Byte)) (lead : Nat) : Device :=
  let t := d.q - lead * cQ
  if d.apertureBusy t then d
  else
  match d.apt.next with
  | none => d
  | some p =>
    let d := { d with apt := { d.apt with packets := d.apt.packets.erase p, turn := p.eng, acks := d.apt.acks ++ [p.eng] } }
    let d := (d.perf 201 0x101 (ceilDiv p.bytes.length 64)).perf 201 0x102 1
    match d.manEntry p.entry with
    | none => d
    | some m =>
      let c := d.ctxAt m.ctx
      let d := d.setCtx m.ctx (c.sent t)
      let d := (d.judge m.ctx (bs.getD (c.packet m.ctx t p)) 1024 (word (p.entry * 2 ^ 24 + p.ofs)) false lead).1
      d.storePacket m p

/-- The oldest packet acknowledgement reaches its SE (R223); the last one completes the SEND (R135). -/
def Device.ackIn (d : Device) (e : Nat) : Device :=
  if d.apt.acks.head? ≠ some e then d
  else
    let d := { d with apt := { d.apt with acks := d.apt.acks.tail } }
    match (d.engAt e).acts.findIdx? fun a => decide (opcode a.word = 0x42) && decide (0 < a.acks) with
    | none => d
    | some k =>
      let d := d.modEng e fun g => { g with acts := g.acts.modify k fun a => { a with acks := a.acks - 1 } }
      (d.finish e fun a => decide (opcode a.word = 0x42) && decide (a.acks = 0)).settle e

/-! ## Comparison (R234) -/

/-- m · 2^e in units of 2^q, for q ≤ e. -/
def unitsOf (m : Nat) (e q : Int) : Nat := m * 2 ^ (e - q).toNat

/-- A finite value in units of 2^q. -/
def Fl.inUnits (x : Fl) (q : Int) : Int :=
  match x with
  | .fin s m e => if s then -(unitsOf m e q : Int) else unitsOf m e q
  | _ => 0

/-- |x - y| ≤ REL · |r| + ABS, evaluated exactly. -/
def withinTol (x y r rel abs : Fl) : Bool :=
  match x, y, r, rel, abs with
  | .fin _ _ ex, .fin _ _ ey, .fin _ mr er, .fin _ ml el, .fin _ ma ea =>
    let q := min (min ex ey) (min (er + el) ea)
    decide ((x.inUnits q - y.inUnits q).natAbs ≤ unitsOf (mr * ml) (er + el) q + unitsOf ma ea q)
  | _, _, _, _, _ => false

/-- The greater magnitude of two finite values. -/
def Fl.maxMag (x y : Fl) : Fl := if Fl.lt x.abs y.abs then y.abs else x.abs

/-- An element passes: `pair` for a replica pair, else `y` is the answer. -/
def elemPasses (x y rel abs : Fl) (pair : Bool) : Bool :=
  match x, y with
  | .inf a, .inf b => decide (a = b)
  | .fin _ _ _, .fin _ _ _ => withinTol x y (if pair then x.maxMag y else y) rel.abs abs.abs
  | _, _ => false

/-- A BF16 value. -/
def ofBf16 (v : BitVec 16) : Fl := (FFmt.mk 8 7 127 0).decode v.toNat

/-- Every element of a tensor passes against its reference. -/
def tensorPasses (m : ManEntry) (a b : List Byte) (pair : Bool) : Bool :=
  (List.range (m.len * 8 / fmtBits m.fmt)).all fun i =>
    elemPasses (fmtDecode m.fmt (elemAt m.fmt a i)) (fmtDecode m.fmt (elemAt m.fmt b i)) (ofBf16 m.rel) (ofBf16 m.abs) pair

/-- The tile drawn for slot `s`. -/
def Device.tileAt (d : Device) (s : Nat) : Option Tile :=
  match d.apt.draws[s]?, d.activeModel with
  | some t, some m => m.tiles[t]?
  | _, _ => none

/-- Entry `i` has come whole. -/
def Device.arrived (d : Device) (i : Nat) : Bool := (d.recvAt i).arrival.isSome

/-- The comparison of entry `i` is still due: for a pair, that of its lower entry. -/
def Device.cmpDue (d : Device) (i : Nat) : Bool :=
  match d.manEntry i with
  | some m => m.judged && !(d.recvAt i).cmpDone
  | none => false

/-- The comparison of entry `i` can end: everything it needs has come. -/
def Device.cmpReady (d : Device) (i : Nat) : Bool :=
  match d.manEntry i with
  | some m =>
    d.cmpDue i && d.arrived i &&
    (if m.kind = 4 then d.arrived m.partner else (d.tileAt m.partner).isSome)
  | none => false

/-- The comparison of entry `i` ends. -/
def Device.compareEntry (d : Device) (i : Nat) : Device :=
  match d.manEntry i with
  | none => d
  | some m =>
    let r := d.recvAt i
    if m.kind = 4 then
      let o := d.recvAt m.partner
      let d := (d.setRecv i { r with cmpDone := true }).setRecv m.partner { o with cmpDone := true }
      if o.poison ∨ tensorPasses m r.data o.data true then d
      else
        let d := d.addCause 10
        { d with apt := { d.apt with parFail := some (d.apt.parFail.getD (min i m.partner)) } }
    else
      let d := d.setRecv i { r with cmpDone := true }
      match d.tileAt m.partner with
      | some t =>
        if tensorPasses m r.data t.answer false then d
        else
          let d := d.addCause 8
          { d with apt := { d.apt with chalFail := some (d.apt.chalFail.getD m.partner) } }
      | none => d

/-- COMPARISON_COMPLETE: the lowest entry whose comparison can end. -/
def Device.compareNext (d : Device) : Device :=
  match (List.range d.tck.plan.man.entries.length).find? fun i => d.cmpReady i with
  | some i => d.compareEntry i
  | none => d

/-! ## Challenge tiles (R232, R233) -/

/-- Tile `t` may be drawn for slot `s`: its shape, and not the slot's last one where another has that shape. -/
def Device.drawOk (d : Device) (s t : Nat) : Bool :=
  match d.activeModel, d.tck.plan.man.slots[s]? with
  | some m, some sl =>
    let l := (List.range m.tiles.length).filter fun i => decide ((nth m.tiles i default).shape = sl.shape)
    l.contains t && (decide (l.length < 2) || decide (d.apt.prevDraws[s]? ≠ some t))
  | _, _ => false

/-- The checker draws the tiles and starts the splice. -/
def Device.spliceStart (d : Device) (draws : List Nat) : Device :=
  let n := d.tck.plan.man.slots.length
  if d.apt.spliceDue && decide (draws.length = n) && (draws.zipIdx.all fun t => d.drawOk t.2 t.1) then
    { d with apt := { d.apt with draws := draws, spliceDue := false, splicing := decide (0 < n), slotNext := 0 } }
  else d

/-- The logical Facet that holds a slot. -/
def slotFacet (s : ManSlot) : Nat :=
  match placeOf s.addr with | some p => p.facet | none => 4

/-- The physical address of a tile's input in physical Facet `f`. -/
def Device.tileAddr (d : Device) (f : Nat) (t : Tile) : Nat :=
  match d.activeModel with
  | some m => f * 2 ^ 32 + m.chalBase + t.inOfs
  | none => 2 ^ 48

/-- The next slot's writes are acknowledged; after the last slot of a logical Facet, counter 31 of the Facet gets
READERS (R233). -/
def Device.slotDone (d : Device) : Device :=
  match d.tck.plan.man.slots[d.apt.slotNext]?, d.tileAt d.apt.slotNext with
  | some s, some t =>
    if !d.apt.splicing then d
    else
      let i := slotFacet s
      let f := d.phi i
      let r := d.readMem (d.tileAddr f t) t.inLen
      let bad := r.poison || decide (crc32c 0xFFFFFFFF r.bytes ≠ t.inCrc.toNat)
      let d := r.dev.writeMem (r.dev.phys s.addr) r.bytes bad
      let d := if bad then d.addCause 9 else d
      let k := d.apt.slotNext + 1
      let rest := d.tck.plan.man.slots.drop k
      let d := { d with apt := { d.apt with slotNext := k, splicing := !rest.isEmpty } }
      if rest.any fun x => decide (slotFacet x = i) then d
      else
        let c := Ctr.fct f 31
        (d.addTokens c [⟨c, nth d.tck.plan.man.readers i 0, 168, d.q / aQ⟩]).releaseAll c
  | _, _ => d

/-! ## What the verdict judges (R229, R230) -/

/-- Bit `b` of a bitmap (R228). -/
def mapBit (m : List Byte) (b : Nat) : Bool := (nth m (b / 8) 0).getLsbD (b % 8)

/-- The class that the protective-field map gives for a bitmap in zone `z` (R324). -/
def mapClass (s : SafetySet) (z : Nat) (m : List Byte) : Nat :=
  ((List.range 7).find? fun c => (List.range 4).any fun r =>
    let f := nth s.field (28 * z + 4 * c + r) ⟨1, 0, 0, 0⟩
    (List.range 16384).any fun b => mapBit m b && decide (f.cx0 ≤ b % 128) && decide (b % 128 ≤ f.cx1) &&
      decide (f.cy0 ≤ b / 128) && decide (b / 128 ≤ f.cy1)).getD 7

/-- The entry of a kind that has come whole, with its data. -/
def Device.kindData (d : Device) (k : Nat) : Option (List Byte) :=
  match (d.tck.plan.man.entries.zipIdx).find? fun m => decide (m.1.kind = k) with
  | some (_, i) => if d.arrived i then some (d.recvAt i).data else none
  | none => none

/-- Cells occupied in the grid of the frame and free in the bitmap. -/
def Device.missedCells (d : Device) (occ : List Byte) : List Nat :=
  let g := d.safetySet.range
  (d.rng.closed.filter fun (c : Nat × Nat) => decide (g.thr ≤ c.2) && !g.ignore.contains c.1 && !mapBit occ c.1).map (·.1)

/-- MISSED_OCCUPANCY and APT_MISSED. -/
def Device.judgeOcc (d : Device) : Device :=
  match d.kindData 1 with
  | none => d
  | some occ =>
    match d.missedCells occ with
    | [] => d
    | b :: l => (d.setReg Reg.aptMissed (word (min 0xFFFF (l.length + 1) * 65536 + b))).addCause 5

/-- RANGE_SILENT. -/
def Device.judgeSilent (d : Device) : Device :=
  let g := d.safetySet.range
  if (List.range 8).any fun s => g.sensors.getLsbD s && decide (tabGet 0 d.rng.closedPts s < (nth g.sensor s default).minPts)
  then d.addCause 6 else d

/-- ENTRY_ERROR and ZONE of a ZONE_REQ tensor (R230). -/
def Device.judgeZone (d : Device) : Device :=
  match d.kindData 2 with
  | none => d
  | some z =>
    let c := leAt z 0 1
    let n := leAt z 1 1
    let d := if 7 < c ∨ 3 < n ∨ !allZero (z.drop 2) then d.addCause 2 else d
    let low := match d.kindData 1 with | some occ => mapClass d.safetySet n occ | none => 7
    if n ≠ d.apt.zone ∨ low < c then d.addCause 7 else d

/-! ## The verdict (R240 to R244) -/

/-- Every entry has been received. -/
def Device.allArrived (d : Device) : Bool := (List.range d.tck.plan.man.entries.length).all fun i => d.arrived i
/-- Every comparison has ended. -/
def Device.allCompared (d : Device) : Bool := (List.range d.tck.plan.man.entries.length).all fun i => !d.cmpDue i
/-- 2 µs have passed since the all-END report. -/
def Device.endSettled (d : Device) : Bool := match d.apt.allEndAt with | some t => decide (t + 2 * usQ ≤ d.q) | none => false

/-- The conditions of R240. -/
def Device.verdictReady (d : Device) : Bool :=
  d.endSettled && (d.apt.none_ || (d.allArrived && d.allCompared)) && d.winsClosed

/-- The verdict of the frame (Table 9.6). -/
def Device.frameVerdict (d : Device) : Verdict :=
  if d.apt.none_ then .none
  else if d.apt.causes.getLsbD 0 then .overrun
  else if d.apt.causes.toNat % 0x20000 ≠ 0 then .untrusted
  else if d.apt.healthy < 4 ∨ d.apt.sv ≠ 0 then .degraded
  else .trusted

/-- The code of a verdict. -/
def Verdict.code : Verdict → Nat
  | .none => 0 | .trusted => 1 | .degraded => 2 | .untrusted => 3 | .overrun => 4

/-- A trusted verdict. -/
def Verdict.good (v : Verdict) : Bool := decide (v = .trusted) || decide (v = .degraded)
/-- An untrusted verdict. -/
def Verdict.bad (v : Verdict) : Bool := decide (v = .untrusted) || decide (v = .overrun)

/-- Untrusted verdicts in the window. -/
def Apt.badCount (a : Apt) : Nat := countBy Verdict.bad a.window

/-- SPEED_CLASS of the frame's ZONE_REQ, 0 without one. -/
def Device.askedClass (d : Device) : Nat := match d.kindData 2 with | some z => leAt z 0 1 | none => 0

/-- The restriction count, the class in force and the m-of-n window follow a verdict (R243, R244). -/
def Device.followVerdict (d : Device) (v : Verdict) : Device :=
  let n := if v.good then d.apt.restrict - 1 else 2
  let c := if n = 0 then d.askedClass else 0
  let w := if d.chk.dev.running ∧ v ≠ .none then (v :: d.apt.window).take d.safetySet.n else d.apt.window
  let d := { d with apt := { d.apt with restrict := n, speed := c, window := w, verdict := v, issued := true } }
  if d.chk.dev.running ∧ v ≠ .none ∧ d.safetySet.m ≤ d.apt.badCount then d.decideSafe 0xE0 true else d

/-- Count a verdict and show it (Tables 9.9, 9.10). -/
def Device.showVerdict (d : Device) (v : Verdict) : Device :=
  let d := d.setReg Reg.aptVerdict (word (d.frame.toNat % 65536 * 65536 + v.code))
  match v with
  | .none => d
  | .trusted => d.incr Reg.aptCntTrusted
  | .degraded => d.incr Reg.aptCntDegraded
  | .untrusted => d.incr Reg.aptCntUntrusted
  | .overrun => d.incr Reg.aptCntOverrun

/-- APT_CAUSE, APT_CHAL, APT_PARALLAX and CVU_FRAME of the frame. -/
def Device.showCauses (d : Device) : Device :=
  let d := d.setReg Reg.aptCause d.apt.causes
  let d := d.setReg Reg.cvuFrame (word (d.frame.toNat % 65536 * 65536 + min 65535 d.cvu.frameFail))
  let s := d.apt.chalFail
  let t := match s with | some s => nth d.apt.draws s 0 | none => 0
  let d := d.setReg Reg.aptChal (word (d.apt.draws.length % 16 * 2 ^ 24 + (s.getD 0xFF) % 256 * 2 ^ 16 + t % 256))
  d.setReg Reg.aptParallax (word (match d.apt.parFail with | some e => 2 ^ 31 + e % 256 * 2 ^ 16 | none => 0))

/-- The lowest-numbered healthy physical Facet. -/
def Device.lowFacet (d : Device) : Nat := d.tck.map.headD 0

/-- Physical address of the result buffer of frame `k` (R245). -/
def Device.resBuffer (d : Device) (k : Nat) : Nat :=
  d.lowFacet * 2 ^ 32 + d.boot.img.device.resOfs + k % 2 * d.boot.img.device.resBytes

/-- Offsets of the entries in the result buffer. -/
def resOffsets (l : List ManEntry) : List Nat :=
  (l.foldl (fun (s : Nat × List Nat) m => (s.1 + ceilDiv m.len 64 * 64, s.2 ++ [s.1])) (0, [])).2

/-- STAMP[i] of a record. -/
def Device.stampOf (d : Device) (fwd : Bool) (i ofs : Nat) (m : ManEntry) : List Byte :=
  let r := d.recvAt i
  if fwd then toLe 4 ofs ++ toLe 4 m.len ++ toLe 4 (crc32c d.boot.img.device.resSeed.toNat r.data) ++ toLe 1 1 ++ toLe 3 0
  else toLe 4 0 ++ toLe 4 m.len ++ toLe 4 0 ++ toLe 1 (2 * b2n (r.poison && r.arrival.isSome)) ++ toLe 3 0

/-- The record of the frame, to be published (Table 9.8). -/
def Device.queueRecord (d : Device) (v : Verdict) : Device :=
  let k := d.frame.toNat
  let es := if d.tck.active.isSome then d.tck.plan.man.entries else []
  let ofs := resOffsets es
  let fwd := v.good
  let addr := d.resBuffer k
  let p : Pub :=
    { frame := k
      pre := toLe 4 k ++ toLe 1 v.code ++ toLe 1 d.apt.speed ++ toLe 1 d.apt.restrict ++
        toLe 1 (d.apt.healthy + 16 * d.apt.sv) ++ toLe 4 d.apt.causes.toNat
      post := toLe 2 es.length ++ toLe 8 (if fwd then addr else 0) ++ toLe 8 d.tck.modelTag.toNat ++
        toLe 1 d.apt.badCount ++ List.replicate 27 0
      stamps := ((es.zip ofs).zipIdx.map fun x => d.stampOf fwd x.2 x.1.2 x.1.1).flatten
      copies := if fwd then (es.zip ofs).zipIdx.map fun x => (addr + x.1.2, (d.recvAt x.2).data) else [] }
  { d with apt := { d.apt with pub := d.apt.pub ++ [p] } }

/-- Issue the verdict of the frame. -/
def Device.issueVerdict (d : Device) : Device :=
  let d := if d.apt.none_ then d else d.judgeOcc.judgeSilent.judgeZone
  let v := d.frameVerdict
  let d := d.followVerdict v
  let d := (d.showVerdict v).queueRecord v
  let d := if v = .none then d else d.showCauses
  let d := if v.bad then d.chkRaise Src.aptUntrusted else d
  if v.bad ∧ d.chk.dev.running then d.noteEvent (if v = .overrun then 2 else 1) d.apt.causes.toNat else d

/-- VERDICT: the conditions of R240 hold. -/
def Device.verdictDue (d : Device) : Device := if !d.apt.issued && d.verdictReady then d.issueVerdict else d

/-- At the tick a verdict that is still open is issued with the causes of R240; a frame that ended inside the checker's
20 µs is judged as it stands. -/
def Device.verdictAtTick (d : Device) (overrun : Bool) : Device :=
  if d.apt.issued then d
  else if d.verdictReady ∨ d.apt.none_ then d.issueVerdict
  else
    let d := if overrun then d.addCause 0 else d
    let d := if d.allArrived then d else d.addCause 1
    let d := if !overrun && d.allArrived && !(d.endSettled && d.allCompared) then d.addCause 16 else d
    d.issueVerdict

/-- The all-END report reaches the checker (R53). -/
def Device.endReport (d : Device) : Device :=
  if d.tck.allEndSent ∧ d.apt.allEndAt = none then { d with apt := { d.apt with allEndAt := some d.q } } else d

/-! ## The result record (R245) -/

/-- RESULT_RECORD_PUBLISH: the entries are copied and the oldest record that waits is published. -/
def Device.publish (d : Device) : Device :=
  match d.apt.pub with
  | [] => d
  | p :: l =>
    let d := p.copies.foldl (fun d c => d.writeMem c.1 c.2 false) d
    let alive := (d.fld Reg.aptAlive 15 0 + 1) % 65536
    let d := d.setReg Reg.aptAlive (word alive)
    let head := p.pre ++ toLe 2 alive ++ p.post
    let r := head ++ toLe 4 (crc32c d.boot.img.device.resSeed.toNat (head ++ p.stamps)) ++ p.stamps
    let d := { d with apt := { d.apt with pub := l, records := tabSet [] d.apt.records (p.frame % 2) r } }
    d.fire 2

/-! ## Commands -/

/-- SEND (R135). -/
def execSend (e : Nat) (s : State) : Host.Outcome State Fault Refusal :=
  act (isSe e) (fun d => d.start e 0x42 (sendCauses e) (Device.sendBody e)) s

/-- ALL_END_REPORT (R53). -/
def execAllEndReport (s : State) : Host.Outcome State Fault Refusal := act s.dev.cmpAlive Device.endReport s

/-- APERTURE_PACKET (R224). -/
def execAperturePacket (l : LinkIn) (s : State) : Host.Outcome State Fault Refusal :=
  act s.dev.cmpAlive (fun d => d.packetIn l.corrupt l.lead) s

/-- PACKET_ACK (R135). -/
def execPacketAck (e : Nat) (s : State) : Host.Outcome State Fault Refusal := act (isSe e) (fun d => d.ackIn e) s

/-- COMPARISON_COMPLETE (R234). -/
def execComparisonComplete (s : State) : Host.Outcome State Fault Refusal :=
  act s.dev.chk.power Device.compareNext s

/-- CHALLENGE_SPLICE (R233). -/
def execChallengeSplice (draws : List Nat) (s : State) : Host.Outcome State Fault Refusal :=
  act s.dev.cmpAlive (fun d => d.spliceStart draws) s

/-- CHALLENGE_SLOT_DONE (R233). -/
def execChallengeSlotDone (s : State) : Host.Outcome State Fault Refusal := act s.dev.cmpAlive Device.slotDone s

/-- VERDICT (R240). -/
def execVerdict (s : State) : Host.Outcome State Fault Refusal :=
  act (s.dev.chk.power && decide (s.dev.chk.dev ≠ .fatal)) Device.verdictDue s

/-- RESULT_RECORD_PUBLISH (R245). -/
def execResultRecordPublish (s : State) : Host.Outcome State Fault Refusal :=
  act (s.dev.chk.power && decide (s.dev.chk.dev ≠ .fatal)) Device.publish s

end Sys2Proof.Machine
end

