-- ==== Sys2Proof/Machine/Flash.lean ====
section
/-! DEFINITION. Flash: its logical contents, the partition table (R389, R390), host flash operations (R391, R392), the
repair record (R75, R76, R393, R394) and the event recorder (R395, R396). -/

namespace Sys2Proof.Machine

/-! ## Logical contents -/

/-- `n` bytes of flash; a byte that nothing has written reads 0xFF (PRESUMED, log 8). -/
def Device.flashGet (d : Device) (a n : Nat) : List Byte := (List.range n).map fun i => tabGet 0xFF d.nvm.flash (a + i)

/-- Write bytes to flash: their blocks take new places (R387). -/
def Device.flashPut (d : Device) (a : Nat) (bs : List Byte) : Device :=
  let d := d.wearPut a bs.length
  { d with nvm := { d.nvm with flash := (bs.zipIdx).foldl (fun t b => tabSet 0xFF t (a + b.2) b.1) d.nvm.flash } }

/-- Erase a range of flash. -/
def Device.flashErase (d : Device) (a n : Nat) : Device :=
  let d := d.wearErase a n
  { d with nvm := { d.nvm with flash := tabDrop d.nvm.flash a (a + n) } }

/-- `n` free bytes: what a transfer that fails has left is not stated. -/
def Device.freeBytes (d : Device) (n : Nat) : Device × List Byte :=
  ({ d with free := d.free + n }, (List.range n).map fun i => BitVec.ofNat 8 (Config.freeNat (d.free + i)))

/-! ## Partition table (R390) -/

/-- Partition `i`. -/
def Device.partAt (d : Device) (i : Nat) : Partition := nth d.boot.parts i default

/-- Bytes of a table copy without its CRC: START, LENGTH, FLAGS and VERSION of each entry, in this order (PRESUMED,
log 29). -/
def tableBody (gen : Nat) (l : List Partition) : List Byte :=
  [0x46, 0x5A, 0x50, 0x00] ++ toLe 4 gen ++ List.replicate 8 0 ++
  ((List.range 10).map fun i =>
    let p := nth l i default
    toLe 8 p.start ++ toLe 8 p.length ++ toLe 4 (b2n p.valid) ++ toLe 4 p.version ++ List.replicate 8 0).flatten

/-- CRC-32C of a flash table or header, with initial value 0xFFFF_FFFF. -/
def flashCrc (bs : List Byte) : List Byte := toLe 4 (crc32c 0xFFFFFFFF bs)

/-- The logical offset of a table copy. -/
def tableAt (c : Nat) : Nat := 0x10000 * c

/-- The entries and GEN of a copy, where its CRC is correct. -/
def parseTable (bs : List Byte) : Option (Nat × List Partition) :=
  if slice bs 336 4 = flashCrc (slice bs 0 336) then
    some (leAt bs 4 4, (List.range 10).map fun i =>
      let o := 16 + 32 * i
      ⟨leAt bs o 8, leAt bs (o + 8) 8, decide (leAt bs (o + 16) 4 % 2 = 1), leAt bs (o + 20) 4⟩)
  else none

/-- PARTITION_TABLE_READ: the copy with a correct CRC and the higher GEN is used. -/
def Device.readTable (d : Device) : Device :=
  let c := fun i => parseTable (d.flashGet (tableAt i) 4096)
  let use := fun i (t : Nat × List Partition) =>
    { d with boot := { d.boot with parts := t.2, partGen := t.1, partCopy := i } }
  match c 0, c 1 with
  | some a, some b => if a.1 < b.1 then use 1 b else use 0 a
  | some a, none => use 0 a
  | none, some b => use 1 b
  | none, none => { d with boot := { d.boot with parts := [] } }

/-- Change partition `i`: the other copy is written with GEN + 1. -/
def Device.setPart (d : Device) (i : Nat) (f : Partition → Partition) : Device :=
  let l := d.boot.parts.modify i f
  let g := (d.boot.partGen + 1) % 2 ^ 32
  let c := 1 - d.boot.partCopy
  let b := tableBody g l
  let d := { d with boot := { d.boot with parts := l, partGen := g, partCopy := c } }
  d.flashPut (tableAt c) (b ++ flashCrc b)

/-! ## Host operations (R391) -/

/-- The device-memory address of a host operation. -/
def Device.nvmAddr (d : Device) : Nat := (d.reg Reg.nvmAddrHi).toNat * 2 ^ 32 + (d.reg Reg.nvmAddrLo).toNat

/-- NVM_OP_STATUS. -/
def Device.nvmStatus (d : Device) (busy : Bool) (op tag status : Nat) : Device :=
  d.setReg Reg.nvmOpStatus (word (b2n busy * 2 ^ 31 + tag * 65536 + op * 256 + status))

/-- An operation completes. -/
def Device.nvmEnd (d : Device) (op tag status : Nat) : Device := (d.nvmStatus false op tag status).raise Reg.nvmStatus 1

/-- An operation is refused in the present state: nothing but OP_REJ. -/
def Device.nvmReject (d : Device) (op tag : Nat) : Device := (d.nvmStatus false op tag 1).raise Reg.nvmStatus 2

/-- The arguments of an operation hold: its partition, its range, and memory at its address. -/
def Device.nvmArgs (d : Device) (op part : Nat) : Bool :=
  let n := (d.reg Reg.nvmLen).toNat
  if op = 3 then decide (part = 9)
  else
    (decide (op = 1) || decide (op = 2)) && decide (part < 10) && (decide (op = 1) || decide (part < 8)) && decide (1 ≤ n) &&
    decide (((d.reg Reg.nvmOfs).toNat + n) * 4096 ≤ (d.partAt part).length) && d.allMapped d.nvmAddr (n * 4096)

/-- A LOAD or REPLACE reads a flash slot. -/
def Device.slotRead (d : Device) (part : Nat) : Bool :=
  match d.load with
  | some l => decide (l.op ≠ 3) && decide (l.args.a0.toNat + 4 = part)
  | none => false

/-- The boot or structure slot in use since boot. -/
def Device.slotInUse (d : Device) (part : Nat) : Bool :=
  if part < 2 then d.boot.bootOk && decide (d.fld Reg.bootStatus 4 4 = part)
  else d.boot.imgOk && decide (d.fld Reg.bootStatus 5 5 + 2 = part)

/-- The state accepts an operation. -/
def Device.nvmState (d : Device) (op part : Nat) : Bool :=
  let maint := decide (d.chk.dev = .maint)
  if op = 1 then d.inService || maint
  else if op = 2 then
    (if part < 4 then maint && !d.slotInUse part else (d.inService || maint) && !d.slotRead part)
  else maint

/-- A write to NVM_OP of operation `op`. -/
def Device.nvmOp (d : Device) (op : Nat) (v : Word) : Device :=
  let tag := bits v 23 16
  let part := bits v 3 0
  if d.nvm.op.isSome then d.raise Reg.nvmStatus 2
  else if !d.nvmArgs op part then d.nvmEnd op tag 2
  else if !d.nvmState op part then d.nvmReject op tag
  else
    let d := d.nvmStatus true op tag 0
    let d := if op = 2 then d.setPart part fun p => { p with valid := false } else d
    let o : NvmOp :=
      { op := op, tag := tag, part := part, addr := d.nvmAddr, ofs := (d.reg Reg.nvmOfs).toNat * 4096,
        len := (d.reg Reg.nvmLen).toNat * 4096 }
    { d with nvm := { d.nvm with op := some o } }

/-- An operation that is running has ended: `x` is what a READ met (R385), `cut` tells that a warm reset ended
it (R392). Blocks that failed are retired, which loses no data (R386). -/
def Device.nvmFinish (d : Device) (x : FlashRead) (cut : Bool) (failed : List Nat) : Device :=
  match d.nvm.op with
  | none => d
  | some o =>
    let d := ({ d with nvm := { d.nvm with op := none } } : Device).retireBlks failed
    let at_ := (d.partAt o.part).start + o.ofs
    if o.op = 1 then
      let d := (d.perf 200 0x100 (ceilDiv o.len 64)).flashMet x
      if x.bad ∨ cut then
        let (d, l) := d.freeBytes o.len
        (d.writeMem o.addr l false).nvmEnd 1 o.tag 0x0A
      else (d.writeMem o.addr (d.flashGet at_ o.len) false).nvmEnd 1 o.tag 0
    else if o.op = 2 then
      let d := d.perf 200 0x101 (ceilDiv o.len 64)
      if cut || d.flashLow then
        let (d, l) := d.freeBytes o.len
        (d.flashPut at_ l).nvmEnd 2 o.tag 0x0A
      else
        let r := d.readMem o.addr o.len
        let d := (r.dev.flashPut at_ r.bytes).setPart o.part fun p => { p with valid := true, version := leAt r.bytes 8 4 }
        d.nvmEnd 2 o.tag 0
    else
      if cut then d.nvmEnd 3 o.tag 0x0A
      else
        let d := d.flashErase (d.partAt 9).start (d.partAt 9).length
        ({ d with nvm := { d.nvm with seq := 0 } } : Device).nvmEnd 3 o.tag 0

/-- FATAL stops the operation in progress at a page boundary (R392); how many pages are done is not stated. -/
def Device.nvmStop (d : Device) : Device :=
  match d.nvm.op with
  | none => d
  | some o =>
    let n := d.freeNat % (o.len / d.nvm.page + 1) * d.nvm.page
    let at_ := (d.partAt o.part).start + o.ofs
    let d := if o.op = 1 then d.writeMem o.addr (d.flashGet at_ n) false
      else if o.op = 2 then (d.readMem o.addr n).dev.flashPut at_ (d.peek o.addr n)
      else d.flashErase at_ (min n (d.partAt o.part).length)
    ({ d with nvm := { d.nvm with op := none } } : Device).draw

/-- NVM_OP_COMPLETE: host flash requests wait while the flash class is Forced (Table 2.4). In FATAL the operation stops. -/
def Device.nvmDone (d : Device) (r : FlashEnd) : Device :=
  if d.chk.dev = .fatal then d.nvmStop
  else if (d.bgAt .flash).level = .forced then d else d.nvmFinish r.read false r.failed

/-- A warm reset ends the host operation as MEDIA_ERROR (R392). -/
def Device.nvmAbort (d : Device) : Device := if d.nvm.op.isSome then d.nvmFinish ⟨0, false, false⟩ true [] else d

/-! ## Repair decisions (R71 to R75) -/

/-- MODE of a repair word: 0 full, 1 narrowed, 2 unusable. -/
def repMode (w : Word) : Nat := bits w 31 30

/-- Two fields less than 0x3F in ascending order, padded with 0x3F. -/
def lowTwo (l : List Nat) : Nat × Nat :=
  let l := l.dedup.filter fun c => decide (c < 0x3F)
  let a := l.foldl min 0x3F
  (a, (l.filter fun c => decide (c ≠ a)).foldl min 0x3F)

/-- A repair word. -/
def repWord (mode half colB colA row : Nat) : Word :=
  word (mode * 2 ^ 30 + half * 2 ^ 29 + colB * 2 ^ 18 + colA * 2 ^ 12 + row)

/-- The columns a repair word names. -/
def repCols (w : Word) : List Nat := [bits w 17 12, bits w 23 18].filter fun c => decide (c < 0x3F)

/-- The faulty data row a repair word names. -/
def repRow (w : Word) : Option Nat := if bits w 8 0 < 256 then some (bits w 8 0) else none

/-- The word of an engine that has become unusable: the lowest faults known. -/
def repUnusable (rows cols : List Nat) : Word :=
  let c := lowTwo cols
  repWord 2 0 c.2 c.1 (if rows.isEmpty then 0x1FF else rows.foldl min 0x1FF)

/-- Mode and columns for the faulty data columns `l`; `two` where the upper half is known to hold two (R72, R73). None
where no half is usable. -/
def repChoose (narrow two : Bool) (l : List Nat) (row : Nat) : Option Word :=
  let up := l.filter fun c => decide (16 ≤ c)
  let lo := l.filter fun c => decide (c < 16)
  if !two && decide (up.length ≤ 1) then
    some (if !narrow && decide (l.length ≤ 1) then repWord 0 0 0x3F (l.headD 0x3F) row
      else repWord 1 1 (lo.foldl min 0x3F) (up.headD 0x3F) row)
  else if lo.isEmpty then some (repWord 1 0 (up.foldl min 0x3F) 0x3F row)
  else none

/-- The faulty physical rows known of an engine: those its word names, and the spare row where that was found faulty
(`spare`; DESIGN CHOICE, log 134). -/
def repRows (spare : Bool) (w : Word) : List Nat :=
  (if repMode w = 2 then [bits w 8 0].filter fun r => decide (r ≤ 256) else (repRow w).toList) ++ (if spare then [256] else [])

/-- The record of an engine with one more fault (R71 to R75): physical row 256 is the spare, column 33 the checksum. -/
def repAdd (spare : Bool) (w : Word) (f : ArrayFault) : Word :=
  let rows := (repRows spare w ++ f.row.toList).dedup
  let cols := ((repCols w ++ f.col.toList).dedup).filter fun c => decide (c ≤ 32)
  let narrow := decide (repMode w = 1)
  if repMode w = 2 ∨ f.col = some 33 ∨ 2 ≤ rows.length then repUnusable rows cols
  else (repChoose narrow (narrow && decide (bits w 29 29 = 0)) cols (rows.headD 256)).getD (repUnusable rows cols)

/-! ## The repair record (R393, R394) -/

/-- A record without its HMAC. -/
def repairBody (gen : Nat) (ws : List Word) (fl : List (BitVec 3)) : List Byte :=
  [0x46, 0x5A, 0x52, 0x00] ++ toLe 4 gen ++ ((List.range 96).map fun j => toLe 4 (nth ws j 0x00FFF100).toNat).flatten ++
  (List.range 24).map fun q => BitVec.ofNat 8 (nth fl q 0).toNat

/-- The logical offset of a record copy. -/
def Device.repairAt (d : Device) (c : Nat) : Nat := (d.partAt 8).start + 0x80000 * c

/-- The faults that a factory word records. -/
def repFaults (w : Word) : List ArrayFault :=
  (repRow w).toList.map (fun r => ⟨some r, none⟩) ++ (repCols w).map fun c => ⟨none, some c⟩

/-- A record holds every fault that the factory data of an engine records. -/
def repCovers (rec_ fac : Word) : Bool :=
  decide (repMode fac ≠ 2 ∨ repMode rec_ = 2) && (repFaults fac).all fun f => decide (repAdd false rec_ f = rec_)

/-- GEN, words and unit flags of a copy that is valid. -/
def Device.repairCopy (d : Device) (c : Nat) : Option (Nat × List Word × List (BitVec 3)) :=
  let bs := d.flashGet (d.repairAt c) 464
  let ws := (List.range 96).map fun j => word (leAt bs (8 + 4 * j) 4)
  let ok := decide (slice bs 416 48 = digestBytes (hmacSha384 (toLe 32 d.boot.otp.deviceKey.toNat) (slice bs 0 416)))
  if ok && (List.range 96).all fun j => repCovers (nth ws j 0) (nth d.boot.otp.factoryRepair j 0x00FFF100) then
    some (leAt bs 4 4, ws, (List.range 24).map fun q => BitVec.ofNat 3 (leAt bs (392 + q) 1))
  else none

/-- Use a record: copy `c` is 2 for the OTP data alone. -/
def Device.useRepair (d : Device) (c gen : Nat) (ws : List Word) (fl : List (BitVec 3)) : Device :=
  let d := { d with boot := { d.boot with
    repair := ws, unitFlags := fl, repairGen := gen, repairCopy := c } }
  d.setReg Reg.bootRepair (word (gen % 65536 * 65536 + c))

/-- REPAIR_RECORD_VERIFY: the valid copy with the higher GEN, else the OTP data alone. -/
def Device.readRepair (d : Device) : Device :=
  match d.repairCopy 0, d.repairCopy 1 with
  | some a, some b => if a.1 < b.1 then d.useRepair 1 b.1 b.2.1 b.2.2 else d.useRepair 0 a.1 a.2.1 a.2.2
  | some a, none => d.useRepair 0 a.1 a.2.1 a.2.2
  | none, some b => d.useRepair 1 b.1 b.2.1 b.2.2
  | none, none => (d.useRepair 2 0 d.boot.otp.factoryRepair []).chkRaise Src.bootVerify

/-- REPAIR_RECORD_UPDATE: the new record is written to the copy not in use and verified; without that, and where FATAL stops the write
(R392), the engine stays fenced until the next warm reset. -/
def Device.updateRepair (d : Device) (j : Nat) (f : ArrayFault) (ok : Bool) : Device :=
  let ws := (List.range 96).map fun i => if i = j then repAdd (d.boot.spare.contains j) (d.repairWord j) f else d.repairWord i
  let d := if f.row = some 256 then { d with boot := { d.boot with spare := (j :: d.boot.spare).dedup } } else d
  let c := if d.boot.repairCopy = 0 then 1 else 0
  let g := (d.boot.repairGen + 1) % 2 ^ 32
  let b := repairBody g ws d.boot.unitFlags
  if ok && decide (d.chk.dev ≠ .fatal) then
    (d.flashPut (d.repairAt c) (b ++ digestBytes (hmacSha384 (toLe 32 d.boot.otp.deviceKey.toNat) b))).useRepair c g ws d.boot.unitFlags
  else
    let (d, l) := d.freeBytes 464
    let d := d.flashPut (d.repairAt c) l
    let e := meEngine j
    ({ d with boot := { d.boot with keep := e :: d.boot.keep } } : Device).modEng e fun g => { g with unusable := true, fenced := true }

/-! ## The event recorder (R395, R396) -/

/-- The header and items of a record; its directory entries hold type, offset and length in 8 bytes each (DESIGN
CHOICE, log 28). -/
def recordBytes (kind flags seq : Nat) (head result : List Byte) (items : List (Nat × List Byte)) : List Byte :=
  let dir := (items.foldl (fun (s : Nat × List Byte) (t : Nat × List Byte) =>
    (s.1 + t.2.length, s.2 ++ toLe 8 t.1 ++ toLe 8 s.1 ++ toLe 8 t.2.length ++ toLe 8 0)) (4096, [])).2
  let h := [0x46, 0x5A, 0x45, 0x00] ++ toLe 1 kind ++ toLe 1 flags ++ toLe 2 0 ++ toLe 4 seq ++ slice head 0 20 ++
    slice result 0 64 ++ dir
  let h := slice h 0 4092
  h ++ flashCrc h ++ (items.map (·.2)).flatten

/-- Events in a staging buffer. -/
def Device.buffersUsed (d : Device) : Nat := countBy (fun r => decide (r.flags % 2 = 0)) d.nvm.staging

/-- EVENT_STAGING: the oldest event noted takes a buffer; with both taken it keeps its header alone. -/
def Device.stageEvent (d : Device) : Device :=
  match d.nvm.due with
  | [] => d
  | r :: l =>
    let full := decide (2 ≤ d.buffersUsed)
    let r := if full then { r with flags := 1, items := [], lensDone := true } else r
    let d := { d with nvm := { d.nvm with due := l, staging := d.nvm.staging ++ [r] } }
    if full then d.raise Reg.nvmStatus 6 else d

/-- Where the latched buffer of stream `s` lies in the lowest healthy Facet. -/
def Device.latchedAt (d : Device) (s : Nat) : Option (Nat × Nat) :=
  let r := nth d.boot.img.lens s default
  (tabGet Lens.reset d.lens s).latched.map fun i => (d.lowFacet * 2 ^ 32 + r.bufOfs + i * r.bufStride, r.bufStride)

/-- What stands there. -/
def Device.lensBytes (d : Device) (s : Nat) : List Byte :=
  match d.latchedAt s with | some x => d.peek x.1 x.2 | none => []

/-- Reading it has its effects (R149, R160). -/
def Device.lensSense (d : Device) (s : Nat) : Device :=
  match d.latchedAt s with | some x => d.sense x.1 x.2 | none => d

/-- EVENT_LENS_APPEND: the latched buffers of the streams of EVT_STREAMS; where ingest claims one, the copy stops at a
point that is not stated. -/
def Device.appendLens (d : Device) (claimed : Bool) : Device :=
  match d.nvm.staging.findIdx? fun r => !r.lensDone with
  | none => d
  | some k =>
    let on := (List.range 16).filter fun s => d.boot.img.device.evtStreams.getLsbD s
    let all := on.map fun s => d.lensBytes s
    let d := on.foldl (fun d s => d.lensSense s) d
    let cut := if claimed then (all.flatten).take (d.freeNat % (all.flatten.length + 1)) else all.flatten
    let d := if claimed then d.draw else d
    { d with nvm := { d.nvm with staging := d.nvm.staging.modify k fun r =>
        { r with lensDone := true, flags := if claimed then r.flags ||| 2 else r.flags, items := r.items ++ [(3, cut)] } } }

/-- The first 64 bytes of the result record of a frame. -/
def Device.resultHead (d : Device) (k : Nat) : List Byte :=
  let r := tabGet [] d.apt.records (k % 2)
  if leAt r 0 4 = k then slice r 0 64 else List.replicate 64 0

/-- EVENT_FLASH_WRITE: the oldest staged event is written and its buffer freed; it is lost where free spares run low. Blocks that
failed are retired, which loses no data (R386). FATAL stops the write at a page boundary (R392). -/
def Device.writeEvent (d : Device) (failed : List Nat) : Device :=
  match d.nvm.staging with
  | [] => d
  | r :: l =>
    if !r.lensDone then d
    else
      let d := ({ d with nvm := { d.nvm with staging := l } } : Device).retireBlks failed
      let p := d.partAt 9
      if d.flashLow ∨ p.length = 0 then d
      else
        let n := d.nvm.seq
        let b := (recordBytes r.kind r.flags (n + 1) r.head (d.resultHead r.frame) r.items).take d.boot.img.device.evtBytes
        let at_ := p.start + n % 64 * d.boot.img.device.evtBytes
        if d.chk.dev = .fatal then d.draw.flashPut at_ (b.take (d.freeNat % (b.length / d.nvm.page + 1) * d.nvm.page))
        else
          let d := d.flashPut at_ b
          { d with nvm := { d.nvm with seq := n + 1 } }

/-- The fatal record (R303, R396): source and cause, checker time, the collector log, the WDG evidence. -/
def Device.fatalBytes (d : Device) : List Byte :=
  let log := (List.range 32).map fun i =>
    toLe 4 (d.reg (Reg.fltLogSrc i)).toNat ++ toLe 4 (d.reg (Reg.fltLogNs i)).toNat ++ toLe 4 (d.reg (Reg.fltLogFrame i)).toNat
  let wdg := toLe 4 (d.reg Reg.wdgEvidPc).toNat ++ toLe 4 (d.reg Reg.wdgEvidNs).toNat ++
    toLe 4 (d.reg Reg.wdgEvidSec).toNat ++ toLe 4 (d.reg Reg.wdgEvidSeq).toNat
  let head := toLe 4 d.frame.toNat ++ toLe 4 d.ctime.ns ++ toLe 4 d.ctime.sec ++ toLe 4 d.chk.cause ++ toLe 4 d.stateWord.toNat
  recordBytes 4 0 d.nvm.seq head [] [(4, toLe 4 (d.reg Reg.fltFatal).toNat ++ log.flatten ++ wdg)]

/-- FATAL_RECORD_ACK: the fatal record stands in entry 64, and compute power goes. -/
def Device.fatalAck (d : Device) : Device :=
  let p := d.partAt 9
  let d := if p.length = 0 then d else d.flashPut (p.start + 64 * d.boot.img.device.evtBytes) d.fatalBytes
  { d with chk := { d.chk with recordAt := none } }.computeOff

/-! ## Commands -/

/-- The device is in BOOT with the compute die out of reset. -/
def Device.booting (d : Device) : Bool := d.cmpAlive && decide (d.chk.dev = .boot)

/-- PARTITION_TABLE_READ (R390). -/
def execPartitionTableRead (s : State) : Host.Outcome State Fault Refusal := act s.dev.booting Device.readTable s

/-- REPAIR_RECORD_VERIFY (R393). -/
def execRepairRecordVerify (s : State) : Host.Outcome State Fault Refusal := act s.dev.booting Device.readRepair s

/-- REPAIR_RECORD_UPDATE (R394). -/
def execRepairRecordUpdate (j : Nat) (fault : ArrayFault) (writeOk : Bool) (s : State) : Host.Outcome State Fault Refusal :=
  act (s.dev.cmpAlive && decide (j < 96)) (fun d => d.updateRepair j fault writeOk) s

/-- READ (R391). -/
def execRead (v : Word) (s : State) : Host.Outcome State Fault Refusal := act s.dev.hostUp (fun d => d.nvmOp 1 v) s

/-- PROGRAM (R391). -/
def execProgram (v : Word) (s : State) : Host.Outcome State Fault Refusal := act s.dev.hostUp (fun d => d.nvmOp 2 v) s

/-- ERASE (R391). -/
def execErase (v : Word) (s : State) : Host.Outcome State Fault Refusal := act s.dev.hostUp (fun d => d.nvmOp 3 v) s

/-- NVM_OP_COMPLETE (R391). -/
def execNvmOpComplete (r : FlashEnd) (s : State) : Host.Outcome State Fault Refusal :=
  act s.dev.cmpAlive (fun d => d.nvmDone r) s

/-- EVENT_STAGING (R395). -/
def execEventStaging (s : State) : Host.Outcome State Fault Refusal := act s.dev.cmpAlive Device.stageEvent s

/-- EVENT_LENS_APPEND (R395). -/
def execEventLensAppend (claimed : Bool) (s : State) : Host.Outcome State Fault Refusal :=
  act s.dev.cmpAlive (fun d => d.appendLens claimed) s

/-- EVENT_FLASH_WRITE (R395). -/
def execEventFlashWrite (failed : List Nat) (s : State) : Host.Outcome State Fault Refusal :=
  act s.dev.cmpAlive (fun d => d.writeEvent failed) s

/-- FATAL_RECORD_ACK (R303). -/
def execFatalRecordAck (s : State) : Host.Outcome State Fault Refusal :=
  act (s.dev.cmpAlive && decide (s.dev.chk.dev = .fatal) && s.dev.chk.recordAt.isSome) Device.fatalAck s

/-- FATAL_ACK_TIMEOUT (R303): 50 ms without an acknowledgement. -/
def execFatalAckTimeout (s : State) : Host.Outcome State Fault Refusal :=
  act (s.dev.chk.power && decide (s.dev.chk.dev = .fatal) && s.dev.chk.pwrEn)
    (fun d => { d with chk := { d.chk with recordAt := none } }.computeOff) s

end Sys2Proof.Machine
end

