-- ==== Sys2Proof/Machine/SafetyIO.lean ====
section
/-! DEFINITION. Machine safety I/O: encoders and speed limits (R320 to R328), emergency stop (R329, R330), outputs, test
pulses and readback (R314, R315, R331 to R333), the sealed switches (R318, R319) and the reset button (R334 to R337). -/

namespace Sys2Proof.Machine

/-! ## Parts -/

/-- A safety channel. -/
def Device.chanAt (d : Device) (c : Chan) : Channel := if c = .a then d.sio.chA else d.sio.chB
/-- Replace a channel. -/
def Device.setChan (d : Device) (c : Chan) (v : Channel) : Device :=
  if c = .a then { d with sio := { d.sio with chA := v } } else { d with sio := { d.sio with chB := v } }
/-- An output. -/
def Device.outAt (d : Device) (o : Chan) : Output := if o = .a then d.sio.outA else d.sio.outB
/-- Replace an output. -/
def Device.setOut (d : Device) (o : Chan) (v : Output) : Device :=
  if o = .a then { d with sio := { d.sio with outA := v } } else { d with sio := { d.sio with outB := v } }
/-- The other channel or output. -/
def otherChan (c : Chan) : Chan := if c = Chan.a then .b else .a
/-- Encoder `n` of a channel. -/
def Device.encAt (d : Device) (c : Chan) (n : Nat) : Encoder := if n = 0 then (d.chanAt c).enc0 else (d.chanAt c).enc1
/-- Replace encoder `n` of a channel. -/
def Device.setEnc (d : Device) (c : Chan) (n : Nat) (v : Encoder) : Device :=
  d.setChan c (if n = 0 then { d.chanAt c with enc0 := v } else { d.chanAt c with enc1 := v })

/-- Set a bit of SIO_LOCK: both channels withdraw their requests (R314). -/
def Device.setLock (d : Device) (i : Nat) : Device :=
  ({ d with sio := { d.sio with lock := d.sio.lock ||| BitVec.ofNat 7 (2 ^ i) } } : Device).withdraw

/-! ## Encoders (R320, R322, R327) -/

/-- SIO_ENC_DISC: its lock, and the position becomes unreferenced (R338). -/
def Device.encDiscRaise (d : Device) : Device :=
  (({ d with sio := { d.sio with
    chA := { d.sio.chA with referenced := false }, chB := { d.sio.chB with referenced := false } } } : Device).setLock 3).chkRaise
    Src.encDisc

/-- +1 or -1 by quadrature phase: A leading B counts up (PRESUMED, log 30). -/
def quadStep (e : Encoder) (a b : Bool) : Int := if a ≠ e.a then (if a = b then -1 else 1) else (if b = a then 1 else -1)

/-- The reference pulse in a channel: its rising edge while unreferenced sets the position to Z_POS (R327). -/
def Device.refPulse (d : Device) (c : Chan) (rise : Bool) : Device :=
  let s := d.safetySet
  let h := d.chanAt c
  if rise && s.slpEn && !h.referenced then
    d.setChan c { h with referenced := true, posOfs := s.zPos * 1000 - h.enc0.count * s.enc0Nm, posArmed := false }
  else d

/-- Illegal transitions are counted as channel B meets them (DESIGN CHOICE, log 41). -/
def Device.encErr (d : Device) (c : Chan) (n : Nat) : Device :=
  if c = .a then d else if n = 0 then d.count Reg.sioEncErr 15 0 1 else d.count Reg.sioEncErr 31 16 1

/-- ENCODER_EDGE: the levels of an encoder in a channel after an edge, and for how many ns they held: less than 25 ns is
rejected (R320). -/
def Device.encEdge (d : Device) (c : Chan) (n : Nat) (a b z : Bool) (held : Nat) : Device :=
  let e := d.encAt c n
  let rise := z && !e.z && decide (n = 0)
  if held < 25 then d
  else if a ≠ e.a ∧ b ≠ e.b then
    let l := d.q :: e.bad.filter fun t => decide (d.q < t + 10 * msQ)
    let d := (d.setEnc c n { e with a := a, b := b, z := z, bad := l }).encErr c n
    let d := if 4 < l.length then d.encDiscRaise else d
    d.refPulse c rise
  else
    let k := if a = e.a ∧ b = e.b then 0 else quadStep e a b
    (d.setEnc c n { e with a := a, b := b, z := z, count := e.count + k }).refPulse c rise

/-! ## Speed, direction and position limits (R321, R322, R325 to R328) -/

/-- The window of a channel's speed in µs (R321). -/
def winUs (c : Chan) : Nat := if c = Chan.a then 1000 else 400

/-- The displacements of both encoders over a channel's last window, in nm: a speed in mm/s times the window in µs. -/
def Device.motion (d : Device) (c : Chan) : Int × Int :=
  let s := d.safetySet
  let h := d.chanAt c
  ((nth h.hist0 0 0 - nth h.hist0 4 0) * s.enc0Nm, (nth h.hist1 0 0 - nth h.hist1 4 0) * s.enc1Nm)

/-- Record `k` of the speed classes. -/
def classRec (s : SafetySet) (k : Nat) : ClassRec := nth s.cls k default

/-- The limit L of a channel (R325) in mm/s times `sQ`. -/
def Channel.limit (h : Channel) (s : SafetySet) (q : Nat) : Nat :=
  max ((classRec s h.cls).vmax * sQ) (h.limFrom - s.decel * (q - h.clsFrom - s.rampDelay * msQ))

/-- The limit in force (R325, R327). -/
def Device.limitNow (d : Device) (c : Chan) : Nat :=
  let s := d.safetySet
  let l := (d.chanAt c).limit s d.q
  if s.slpEn && (!(d.chanAt c).referenced || (d.chanAt c).posArmed) then min l (s.vRef * sQ) else l

/-- The larger speed of the two encoders exceeds the limit in force. -/
def Device.overSpeed (d : Device) (c : Chan) : Bool :=
  let v := d.motion c
  decide (d.limitNow c * winUs c < max v.1.natAbs v.2.natAbs * sQ)

/-- Both encoders stand still in a channel's sight. -/
def Device.still (d : Device) (c : Chan) : Bool :=
  let v := d.motion c
  decide (max v.1.natAbs v.2.natAbs ≤ d.safetySet.vStill * winUs c)

/-- The position of encoder 0 in nm, in a channel. -/
def Device.posNm (d : Device) (c : Chan) : Int := (d.chanAt c).enc0.count * d.safetySet.enc0Nm + (d.chanAt c).posOfs

/-- The position lies below or above its range. -/
def Device.posSide (d : Device) (c : Chan) : Int :=
  let s := d.safetySet
  if !s.slpEn || !(d.chanAt c).referenced then 0
  else if d.posNm c < s.posMin * 1000 then -1 else if s.posMax * 1000 < d.posNm c then 1 else 0

/-- A direction violation (R326): the net displacement since the check started. -/
def Device.dirBad (d : Device) (c : Chan) : Bool :=
  let s := d.safetySet
  let h := d.chanAt c
  let k := classRec s h.cls
  let m := [(h.enc0.count - h.dir0) * s.enc0Nm, (h.enc1.count - h.dir1) * s.enc1Nm]
  let tol : Int := s.dirTol * 1000000
  s.sdiEn && h.reached && m.any fun x => (!k.fwd && decide (tol < x)) || (!k.rev && decide (tol < -x))

/-- A position violation (R327): outside the range, or moving away from it after an accepted reset. -/
def Device.posBad (d : Device) (c : Chan) : Bool :=
  let k := d.posSide c
  decide (k ≠ 0) && (!(d.chanAt c).posArmed || decide (0 < k * (d.motion c).1))

/-- The speeds differ by more than the bound of R322. -/
def Device.speedsDiffer (d : Device) (c : Chan) : Bool :=
  let s := d.safetySet
  let v := d.motion c
  decide (s.discV * winUs c * 256 + s.discRel * max v.1.natAbs v.2.natAbs < (v.1 - v.2).natAbs * 256)

/-- Take the counts of a sample; the direction check starts once L has reached VMAX. -/
def Device.takeCounts (d : Device) (c : Chan) : Device :=
  let h := d.chanAt c
  let n0 := h.enc0.count
  let n1 := h.enc1.count
  let h := { h with hist0 := (n0 :: h.hist0).take 5, hist1 := (n1 :: h.hist1).take 5 }
  let at_ := decide (h.limit d.safetySet d.q ≤ (classRec d.safetySet h.cls).vmax * sQ)
  d.setChan c (if at_ && !h.reached then { h with reached := true, dir0 := n0, dir1 := n1 } else h)

/-- The next length of a run of samples at which a condition holds, up to 2. -/
def nextRun (n : Nat) (b : Bool) : Nat := if b then min 2 (n + 1) else 0

/-- A violation at two consecutive samples sets its bit of SIO_LOCK and raises SIO_LIMIT (R321, R328). -/
def Device.limitHit (d : Device) (i was : Nat) (b : Bool) : Device :=
  if b ∧ was = 1 then (d.setLock i).chkRaise Src.limit else d

/-- A sample of a channel (R321, R322). -/
def Device.speedSample (d : Device) (c : Chan) : Device :=
  let d := d.takeCounts c
  let h := d.chanAt c
  let h := if d.posSide c = 0 then { h with posArmed := false } else h
  let d := d.setChan c h
  let fast := d.overSpeed c
  let dir := d.dirBad c
  let pos := d.posBad c
  let far := d.speedsDiffer c
  let since := h.discFrom.getD d.q
  let fire := far && !h.discDone && decide (since + d.safetySet.discMs * msQ ≤ d.q)
  let d := d.setChan c { h with
    overRun := nextRun h.overRun fast, dirRun := nextRun h.dirRun dir, posRun := nextRun h.posRun pos
    discFrom := if far then some since else none, discDone := far && (h.discDone || fire)
    calmFrom := if !far && d.still c then some (h.calmFrom.getD d.q) else none }
  let d := ((d.limitHit 0 h.overRun fast).limitHit 1 h.dirRun dir).limitHit 2 h.posRun pos
  if fire then d.encDiscRaise else d

/-- The zone that channel B selects at a tick (R323). -/
def Device.zoneNow (d : Device) : Nat :=
  let s := d.safetySet
  let v := (d.motion .b).1
  if v.natAbs ≤ s.vStill * 400 then 0 else if v < 0 then 2 else if v ≤ ((s.vFast * 400 : Nat) : Int) then 1 else 3

/-- A channel withdraws its request (R315, R332). -/
def Device.dropEnable (d : Device) (c : Chan) : Device :=
  let a := decide (c = .a)
  let d := d.setChan c { d.chanAt c with req := false }
  { d with sio := { d.sio with outA := d.sio.outA.noDemand .a a (!a) d.q, outB := d.sio.outB.noDemand .b a (!a) d.q } }

/-- SPEED_CLASS_CHANGE: the commanded class takes effect in a channel (R325, R328). -/
def Device.classChange (d : Device) (c : Chan) : Device :=
  let s := d.safetySet
  let h := d.chanAt c
  let b := d.apt.speed
  if h.cls = b then d
  else
    let l := h.limit s d.q
    let k := classRec s b
    let d := d.setChan c { h with
      cls := b, clsFrom := d.q, limFrom := l, reached := decide (l ≤ k.vmax * sQ), dirRun := 0
      dir0 := h.enc0.count, dir1 := h.enc1.count }
    let d := if k.sto then d.dropEnable c else d
    if k.sto && k.latch then d.setLock 6 else d

/-! ## Emergency stop (R329, R330) -/

/-- Both filtered inputs are closed in both channels. -/
def Device.estopClosed (d : Device) : Bool :=
  d.sio.chA.estopA && d.sio.chA.estopB && d.sio.chB.estopA && d.sio.chB.estopB

/-- A demand is in force, or an input has not been accepted as closed. -/
def Device.demandNow (d : Device) : Bool := d.sio.demand || !d.estopClosed

/-- ESTOP_INPUT: an input that is accepted as open starts a demand, all closed end it (DEDUCED, log 31). -/
def Device.estopIn (d : Device) (c : Chan) (second closed : Bool) : Device :=
  let h := d.chanAt c
  let h := if second then { h with estopB := closed } else { h with estopA := closed }
  let d := d.setChan c { h with seenOpen := h.seenOpen || (!h.estopA && !h.estopB) }
  let d := if d.estopClosed && d.sio.chA.seenOpen && d.sio.chB.seenOpen
    then { d with sio := { d.sio with discClear := true } } else d
  if d.estopClosed then { d with sio := { d.sio with demand := false } }
  else if closed ∨ d.sio.demand then d
  else
    let d := ({ d with sio := { d.sio with demand := true } } : Device).incr Reg.sioDemandCnt
    (d.withdraw).decideFromRun 0xE5 true

/-- SIO_ESTOP_DISC: its lock, which clears once both inputs have been open together and then closed together. -/
def Device.estopDiscRaise (d : Device) : Device :=
  let d := { d with sio := { d.sio with
    discClear := false, chA := { d.sio.chA with seenOpen := false }, chB := { d.sio.chB with seenOpen := false } } }
  (d.setLock 4).chkRaise Src.estopDisc

/-- ESTOP_DISCREPANCY. -/
def Device.estopDiffer (d : Device) (c : Chan) : Device :=
  let h := d.chanAt c
  if h.estopA ≠ h.estopB then d.estopDiscRaise else d

/-! ## Enable (R314, R315, R331, R332) -/

/-- A limit of the safety functions is exceeded in a channel's sight. -/
def Device.overLimit (d : Device) (c : Chan) : Bool := d.overSpeed c || d.dirBad c || d.posBad c

/-- A channel may request enable (R314). -/
def Device.mayEnable (d : Device) (c : Chan) : Bool :=
  d.chk.dev.running && !d.demandNow && decide (d.sio.lock = 0) && !(classRec d.safetySet (d.chanAt c).cls).sto &&
  !d.overLimit c && (decide (c = .b) || d.synced)

/-- The time in the 25 ms of an output's pulse schedule, from the start of its slot; B's come 12.5 ms later (R331). -/
def slotPhase (o : Chan) (q : Nat) : Nat := (q + (if o = Chan.a then 0 else 12500 * usQ)) % (25 * msQ)
/-- A pulse slot of an output is in progress: 200 µs. -/
def inSlot (o : Chan) (q : Nat) : Bool := decide (slotPhase o q < 200 * usQ)

/-- Close channel A's switch of an output where `a`, channel B's where `b`. -/
def Output.close (o : Output) (a b : Bool) (q : Nat) : Output :=
  let o' : Output := { o with swA := o.swA || a, swB := o.swB || b }
  if o'.swA && o'.swB && !(o.swA && o.swB) then { o' with onAt := some q, lowA := none, lowB := none } else o'

/-- ENABLE_REQUEST_CHANGE: a channel forms its request, and its switch of an output follows. An enable that falls within a
slot of that output waits for its end (R331). -/
def Device.enableChange (d : Device) (c o : Chan) : Device :=
  let a := decide (c = .a)
  if d.mayEnable c then
    let d := d.setChan c { d.chanAt c with req := true }
    let x := d.outAt o
    if (if a then x.swA else x.swB) then d
    else if inSlot o d.q || x.pulseAt.isSome then d.setOut o { x with waitA := x.waitA || a, waitB := x.waitB || !a }
    else d.setOut o (x.close a (!a) d.q)
  else
    let d := d.dropEnable c
    d.setOut o ((d.outAt o).open_ o a (!a) d.q)

/-- TEST_PULSE_START: at the start of its slot an energized output is switched off by its own channel, unless it was
energized less than 1 ms ago (R331). -/
def Device.pulseOn (d : Device) (o : Chan) : Device :=
  let x := d.outAt o
  match x.onAt with
  | some t =>
    if slotPhase o d.q = 0 ∧ x.swA ∧ x.swB ∧ t + msQ ≤ d.q then
      d.setOut o { x with swA := x.swA && decide (o = .b), swB := x.swB && decide (o = .a), pulseAt := some d.q
                          pulsedA := true, pulsedB := true, pulseBad := false, demand := false, lowA := none, lowB := none }
    else d
  | none => d

/-- The output's own switch returns after its pulse, unless enable was withdrawn during it (R332). -/
def Output.back (x : Output) (o : Chan) (q : Nat) : Output :=
  let y : Output := { x with pulseAt := none, demand := false }
  if x.pulseAt.isNone then x
  else if x.demand then { y with pulsedA := false, pulsedB := false }
  else ({ y with backAt := some q } : Output).close (decide (o = .a)) (decide (o = .b)) q

/-- TEST_PULSE_END: the slot has ended. The output returns from its pulse, and an enable that waited takes effect (R331). -/
def Device.pulseOff (d : Device) (o : Chan) : Device :=
  if inSlot o d.q then d
  else
    let x := (d.outAt o).back o d.q
    d.setOut o (({ x with waitA := false, waitB := false } : Output).close x.waitA x.waitB d.q)

/-! ## Readback (R333) -/

/-- Since when the readback of an output is low, and whether its pulse is still to be judged, in a channel's sight. -/
def Output.lowOf (x : Output) (c : Chan) : Option Nat := if c = .a then x.lowA else x.lowB
/-- The output's pulse is still to be judged by a channel. -/
def Output.pulsedOf (x : Output) (c : Chan) : Bool := if c = .a then x.pulsedA else x.pulsedB
/-- What a channel notes of a sample. -/
def Output.sees (x : Output) (c : Chan) (low : Option Nat) (pulsed : Bool) : Output :=
  if c = .a then { x with lowA := low, pulsedA := pulsed } else { x with lowB := low, pulsedB := pulsed }

/-- What a sample of an output's readback means to a channel (Table 13.2): a failure, and the output as the sample leaves
it. -/
def Output.judge (x other : Output) (c : Chan) (level : Bool) (q : Nat) : Bool × Output :=
  let low := if level then none else some ((x.lowOf c).getD q)
  let p := x.pulsedOf c
  if x.swA && x.swB then
    match other.pulseAt with
    | some t => (!level && !other.demand && decide (t + 150 * usQ ≤ q), x)
    | none =>
      let late := decide ((x.onAt.getD q) + 300 * usQ ≤ q)
      let bad := !level && late && (p || decide ((low.getD q) + 100 * usQ ≤ q))
      (bad, x.sees c low (p && !level && !bad))
  else
    match x.pulseAt, x.demand with
    | some t, false =>
      let bad := level && decide (t + 150 * usQ ≤ q)
      (bad, x.sees c (x.lowOf c) (p && !bad))
    | _, _ => (level && decide (x.offAt + 500 * usQ ≤ q), x)

/-- SIO_FEEDBACK with its lock, count and flag. -/
def Device.feedbackRaise (d : Device) : Device :=
  let d := (d.count Reg.sioPulseCnt 31 16 1).event Reg.sioStatus 1
  (d.setLock 5).chkRaise Src.feedback

/-- READBACK_SAMPLE: channel `c` judges output `o`; only the first failing sample of a run is a failure. A pulse that both
channels have seen pass is counted (log 41). -/
def Device.readback (d : Device) (c o : Chan) (level : Bool) : Device :=
  let x := d.outAt o
  let (bad, y) := x.judge (d.outAt (otherChan o)) c level d.q
  let passed := x.pulsedOf c && !y.pulsedA && !y.pulsedB && !bad && !x.pulseBad
  let first := bad && !x.failRunA && !x.failRunB
  let y : Output := { y with fb := level, pulseBad := x.pulseBad || bad, failRunA := if c = .a then bad else x.failRunA
                             failRunB := if c = .b then bad else x.failRunB }
  let d := d.setOut o y
  let d := if passed then d.count Reg.sioPulseCnt 15 0 1 else d
  if first then d.feedbackRaise else d

/-! ## Sealed switches (R318, R319) -/

/-- Every sample of a read, in both channels, equals `x`. -/
def sealAll (r : SealRead) (x : SealSample) : Bool :=
  [r.a0, r.a1, r.a2, r.b0, r.b1, r.b2].all fun y => decide (y = x)

/-- A read of the switches is valid under a structure image (R318). -/
def sealValid (l : List SafetySet) (r : SealRead) : Bool :=
  let x := r.b2
  let s := nth l x.sel.toNat default
  sealAll r x && decide (x.selN = ~~~x.sel) && s.en && decide (x.code.toNat = s.sealCode)

/-- SIO_SEAL shows the last sample of a read (DEDUCED, log 32). -/
def Device.showSeal (d : Device) (x : SealSample) : Device :=
  d.setFld Reg.sioSeal 31 16 (x.code.toNat * 256 + x.selN.toNat * 16 + x.sel.toNat)

/-- SIO_SEAL: a switch differs from its sealed value (R319). -/
def Device.sealRaise (d : Device) : Device :=
  ((d.event Reg.sioStatus 3).chkRaise Src.sealChg).decideFromRun 0x55 true

/-- SEAL_READ. -/
def Device.sealCheck (d : Device) (r : SealRead) : Device :=
  let same := sealAll r d.boot.sealed
  let d := d.showSeal r.b2
  let d := { d with sio := { d.sio with sealEqual := if same then min 3 (d.sio.sealEqual + 1) else 0 }
                    boot := { d.boot with sealOk := sealValid d.boot.img.safety r } }
  if same then d else d.sealRaise

/-! ## The reset button (R334 to R337) -/

/-- A bit of SIO_LOCK counts as cleared (Table 13.3). -/
def Device.lockClear (d : Device) (i : Nat) : Bool :=
  let both := fun (p : Chan → Bool) => p .a && p .b
  let calm := fun (c : Chan) => match (d.chanAt c).calmFrom with | some t => decide (t + 100 * msQ ≤ d.q) | none => false
  match i with
  | 0 => both fun c => !d.overSpeed c
  | 1 => both d.still
  | 2 => both d.still
  | 3 => both calm
  | 4 => d.sio.discClear
  | 5 => !d.sio.outA.fb && !d.sio.outB.fb
  | _ => both fun c => !(classRec d.safetySet (d.chanAt c).cls).sto

/-- Every set bit of SIO_LOCK counts as cleared. -/
def Device.locksClear (d : Device) : Bool := (List.range 7).all fun i => !d.sio.lock.getLsbD i || d.lockClear i

/-- A cause of the SAFE entry is cleared (Table 12.14). MODEL_SWAP leaves the list of causes when a plan takes effect.
ESTOP_DISC counts as not set once its own condition holds (DEDUCED, log 33). -/
def Device.causeClear (d : Device) (c : Nat) : Bool :=
  if c = 0x48 then !d.core.split && d.synced
  else if c = 0x49 ∨ c = 0x4A ∨ c = 0xE3 then d.synced
  else if c = 0x55 then decide (3 ≤ d.sio.sealEqual)
  else if c = 0xE0 then true
  else if c = 0xE2 then (d.isMaster || d.dsk.hasMaster) && !d.dsk.annSafe
  else if c = 0xE4 then
    decide (2 ≤ d.chk.healthy) && (d.tck.active.isNone || d.tck.variant.isSome)
  else if c = 0xE5 then d.estopClosed && (!d.sio.lock.getLsbD 4 || d.lockClear 4)
  else false

/-- Every cause of the SAFE entry is cleared. -/
def Device.causesClear (d : Device) : Bool := d.chk.causes.all d.causeClear

/-- The conditions of R336 on the state. -/
def Device.resetOk (d : Device) : Bool :=
  ((decide (d.chk.dev = .safe) && d.chk.lockout) || decide (d.chk.dev = .configured) ||
    (d.chk.dev.running && decide (d.sio.lock ≠ 0))) &&
  d.locksClear && (decide (d.chk.dev ≠ .safe) || d.causesClear) &&
  !d.demandNow && d.boot.sealOk && !d.core.split

/-- A press is ignored and counted. -/
def Device.pressIgnored (d : Device) : Device := d.count Reg.sioResetCnt 23 16 1

/-- The c-cycle of a release edge ends: the press is judged with all that registered in it, and accepted, or ignored and
counted (R336). -/
def Device.pressJudge (d : Device) : Device :=
  if !d.sio.press then d
  else
    let d := { d with sio := { d.sio with press := false } }
    if d.resetOk then
      ({ d with chk := { d.chk with accepted := true } } : Device).count Reg.sioResetCnt 31 24 1
    else d.pressIgnored

/-- SIO_RESET_STUCK, with its flag (R338). -/
def Device.stuckRaise (d : Device) : Device := (d.event Reg.sioStatus 2).chkRaise Src.resetStuck

/-- A valid release of a channel that waits for the other's is ignored: the other channel judges the press otherwise. -/
def Device.releaseLost (d : Device) (c : Chan) : Device :=
  if (d.chanAt c).release.isSome then (d.setChan c { d.chanAt c with release := none }).pressIgnored else d

/-- A press is held to 3 s; the first channel to see it raises SIO_RESET_STUCK. -/
def Device.pressStuck (d : Device) (c : Chan) : Device :=
  let first := !(d.chanAt (otherChan c)).stuck
  let d := (d.setChan c { d.chanAt c with stuck := true }).releaseLost (otherChan c)
  if first then (d.count Reg.sioResetCnt 7 0 1).stuckRaise else d

/-- A valid release in channel `c`: the other channel's release within 5 ms makes the press both channels'. It waits for
that release while the other channel's press lasts. -/
def Device.validRelease (d : Device) (c : Chan) : Device :=
  let o := d.chanAt (otherChan c)
  if o.resetIn && o.pressOk && !o.stuck then d.setChan c { d.chanAt c with release := some d.q }
  else
    let d := d.setChan (otherChan c) { o with release := none, short := false }
    match o.release with
    | some t => if d.q ≤ t + 5 * msQ then { d with sio := { d.sio with press := true } } else d.pressIgnored
    | none => d.pressIgnored

/-- A SHORT press in channel `c`: one press counts once, whichever channels judge it so. -/
def Device.shortRelease (d : Device) (c : Chan) : Device :=
  let o := d.chanAt (otherChan c)
  if o.short then d.setChan (otherChan c) { o with short := false }
  else ((d.setChan c { d.chanAt c with short := true }).count Reg.sioResetCnt 15 8 1).releaseLost (otherChan c)

/-- SRESET_IN_LEVEL (R335). -/
def Device.resetLevel (d : Device) (c : Chan) (closed : Bool) : Device :=
  let h := d.chanAt c
  if closed = h.resetIn then d
  else if closed then
    let d := d.releaseLost c
    let o := d.chanAt (otherChan c)
    (d.setChan (otherChan c) { o with short := false }).setChan c { d.chanAt c with
      resetIn := true, resetAt := d.q, stuck := false, short := false, pressOk := decide (h.resetAt + 100 * msQ ≤ d.q) }
  else
    let n := d.q - h.resetAt
    let held := decide (3000 * msQ ≤ n)
    let d := if h.pressOk && held && !h.stuck then d.pressStuck c else d
    let d := d.setChan c { d.chanAt c with resetIn := false, resetAt := d.q, pressOk := false }
    if !h.pressOk || h.stuck || held then d else if n < 100 * msQ then d.shortRelease c else d.validRelease c

/-- An accepted reset takes effect at a tick (R337): SIO_LOCK is cleared and the reset stays armed. A position outside
its range is from now on judged by the motion, and the runs of violations and the direction checks start afresh (DEDUCED,
log 34). -/
def Device.takeReset (d : Device) : Device :=
  let f := fun (h : Channel) (c : Chan) => { h with
    posArmed := decide (d.posSide c ≠ 0), overRun := 0, posRun := 0, dirRun := 0, dir0 := h.enc0.count, dir1 := h.enc1.count }
  { d with sio := { d.sio with lock := 0, chA := f d.sio.chA .a, chB := f d.sio.chB .b }
           chk := { d.chk with accepted := false, armedAt := some d.tck.tickQ } }

/-! ## Commands -/

/-- SPEED_CLASS_CHANGE (R325). -/
def execSpeedClassChange (c : Chan) (s : State) : Host.Outcome State Fault Refusal :=
  act s.dev.chk.power (fun d => d.classChange c) s

/-- ENCODER_EDGE (R320). -/
def execEncoderEdge (e : EncAt) (a b z : Bool) (s : State) : Host.Outcome State Fault Refusal :=
  act (s.dev.chk.power && decide (e.enc < 2)) (fun d => d.encEdge e.chan e.enc a b z e.held) s

/-- SPEED_SAMPLE_B (R321). -/
def execSpeedSampleB (s : State) : Host.Outcome State Fault Refusal := act s.dev.chk.power (fun d => d.speedSample .b) s

/-- SPEED_SAMPLE_A (R321). -/
def execSpeedSampleA (s : State) : Host.Outcome State Fault Refusal := act s.dev.chk.power (fun d => d.speedSample .a) s

/-- ESTOP_INPUT (R329). -/
def execEstopInput (c : Chan) (second closed : Bool) (s : State) : Host.Outcome State Fault Refusal :=
  act s.dev.chk.power (fun d => d.estopIn c second closed) s

/-- ESTOP_DISCREPANCY (R330). -/
def execEstopDiscrepancy (c : Chan) (s : State) : Host.Outcome State Fault Refusal :=
  act s.dev.chk.power (fun d => d.estopDiffer c) s

/-- SRESET_IN_LEVEL (R335). -/
def execSresetInLevel (c : Chan) (closed : Bool) (s : State) : Host.Outcome State Fault Refusal :=
  act s.dev.chk.power (fun d => d.resetLevel c closed) s

/-- RESET_HELD_3S (R335). -/
def execResetHeld3s (c : Chan) (s : State) : Host.Outcome State Fault Refusal :=
  act (s.dev.chk.power && (s.dev.chanAt c).resetIn && (s.dev.chanAt c).pressOk && !(s.dev.chanAt c).stuck)
    (fun d => d.pressStuck c) s

/-- ARMED_RESET_LAPSE (R337). -/
def execArmedResetLapse (s : State) : Host.Outcome State Fault Refusal :=
  act (s.dev.chk.power && s.dev.chk.armedAt.any fun t => decide (t + 10 * sQ ≤ s.dev.q)) (fun d => { d with chk := { d.chk with armedAt := none } }) s

/-- SEAL_READ (R319). -/
def execSealRead (r : SealRead) (s : State) : Host.Outcome State Fault Refusal :=
  act (s.dev.chk.power && decide (s.dev.chk.dev ≠ .boot)) (fun d => d.sealCheck r) s

/-- TEST_PULSE_START (R331). -/
def execTestPulseStart (o : Chan) (s : State) : Host.Outcome State Fault Refusal :=
  act s.dev.chk.power (fun d => d.pulseOn o) s

/-- TEST_PULSE_END (R331). -/
def execTestPulseEnd (o : Chan) (s : State) : Host.Outcome State Fault Refusal :=
  act s.dev.chk.power (fun d => d.pulseOff o) s

/-- READBACK_SAMPLE (R333). -/
def execReadbackSample (c o : Chan) (level : Bool) (s : State) : Host.Outcome State Fault Refusal :=
  act s.dev.chk.power (fun d => d.readback c o level) s

/-- ENABLE_REQUEST_CHANGE (R315). -/
def execEnableRequestChange (c o : Chan) (s : State) : Host.Outcome State Fault Refusal :=
  act s.dev.chk.power (fun d => d.enableChange c o) s

end Sys2Proof.Machine
end

