-- ==== Sys2Proof/Machine/Clock.lean ====
section
/-! DEFINITION. The passing of time: the time unit (R209), the checker's time copy (R220) and the performance events
that arise in each a-cycle (R359, R363 to R365). -/

namespace Sys2Proof.Machine

/-- One update of the time unit (R209): nanoseconds with 24 fraction bits, seconds of 48 bits. -/
def Tim.advance (t : Tim) (incr : Nat) : Tim :=
  let v := t.ns * 2 ^ 24 + t.frac + incr
  let ns := v / 2 ^ 24
  { t with sec := (t.sec + ns / secNs) % 2 ^ 48, ns := ns % secNs, frac := v % 2 ^ 24 }

/-- One update of the time copy (R220). -/
def CTime.advance (t : CTime) : CTime :=
  let v := t.ns * 400000 + t.frac + t.inc
  let ns := v / 400000
  { t with sec := (t.sec + ns / secNs) % 2 ^ 48, ns := ns % secNs, frac := v % 400000 }

/-- The engine is out of service: fenced, or its Prism held in a self-test segment. -/
def Device.engHeld (d : Device) (e : Nat) : Bool := d.engOut e || (d.prismAt (e / 7)).seg.isSome

/-- The a-cycles in which a stream injects its rows, from its start. -/
def MeCmd.span (x : MeCmd) : Nat := mmM x.word * (classOf (mmAfmt x.word) (mmWfmt x.word)).r

/-- A stream injects in a-cycle `now`. -/
def MeCmd.injects (x : MeCmd) (now : Nat) : Bool :=
  match x.s with | some s => decide (s ≤ now) && decide (now < s + x.span) | none => false

/-- A command loads weights in a-cycle `now`. -/
def MeCmd.loads (x : MeCmd) (now : Nat) : Bool :=
  mmLoads x.word && decide (x.b ≤ now) && decide (now < x.b + loadTime x.word)

/-- The slot of an ME in this a-cycle (R364, R365). The array is frozen while a row or a stream start is overdue (R64,
DEDUCED, log 38). A FRONT slot that both waits and loads weights counts as waiting (DESIGN CHOICE, log 24). -/
def Device.meSlot (d : Device) (e : Nat) : Device :=
  let now := d.q / aQ
  let m := d.meAt e
  if engKind e ≠ 0 ∨ (d.engAt e).atEnd then d
  else if m.backed now then (d.setMe e (m.freeze now)).perf e 0x43 1
  else if m.starved now then ((d.setMe e (m.freeze now)).perf e 0x42 1).perf e 0x46 1
  else match m.pipe.find? fun x => x.injects now with
    | some x =>
      let row := (now - x.s.getD 0) / (classOf (mmAfmt x.word) (mmWfmt x.word)).r
      if nth x.waste row false then d.perf e 0x41 1
      else (d.perf e 0x40 1).perf e 0x47 (activeCols (mmMask x.word)).length
    | none =>
      if m.pipe.any fun x => !mmStreams x.word && x.v.isSome then d.perf e 0x41 1
      else
        let d := d.perf e 0x42 1
        if (d.engAt e).blocked.isSome then d.perf e 0x44 1
        else if m.pipe.any fun x => x.loads now then d.perf e 0x45 1 else d

/-- The events of an engine in this a-cycle. -/
def Device.engCycle (d : Device) (e : Nat) : Device :=
  if d.engHeld e then d
  else
    let d := d.perf e 1 1
    let d := if (d.engAt e).blocked.isSome then d.perf e 3 1 else d
    let d := if 0 < reqLimit e ∧ reqLimit e ≤ (d.engAt e).outstanding then d.perf e 7 1 else d
    d.meSlot e

/-- An a-cycle passes: merge entries of 256 a-cycles drain (R155), transfers that ended complete (R126), and the events of
every unit are counted. -/
def Device.aCycle (d : Device) : Device :=
  let d := d.drainWhere fun t => decide (t.born + 256 * aQ ≤ d.q)
  let d := (d.eng.map (·.1)).foldl (fun d e => if reqLimit e = 0 then d else d.finishDue e) d
  let d := (List.range 168).foldl (fun d e => d.engCycle e) d
  let d := (List.range 34).foldl (fun d u => d.perf (168 + u) 1 1) d
  (List.range 24).foldl (fun d q => if (d.prismAt q).seg.isSome then d.perf (168 + q) 0x83 1 else d) d

/-- Every 1 ms from the release of the compute reset, the compute die sends its time to the checker (R220; the phase:
DESIGN CHOICE, log 146). -/
def Device.sendMsg (d : Device) : Device :=
  if d.cmpAlive && decide ((d.q - d.chk.relAt) % msQ = 0) then { d with tim := { d.tim with msg := some d.timNs } } else d

/-- 1/14 ns passes. -/
def Device.passTime (d : Device) : Device :=
  let d := { d with q := d.q + 1 }
  let d := if d.cmpAlive && decide (d.q % 28 = 0) then { d with tim := d.tim.advance (d.reg Reg.timIncr).toNat } else d
  let d := d.sendMsg
  let d := if d.chk.power && decide (d.q % cQ = 0) then { d with ctime := d.ctime.advance } else d
  let d := if d.chk.power && decide (d.q % cQ = 0) then d.pressJudge else d
  if d.cmpAlive && decide (d.q % aQ = 0) then d.snapEnd.aCycle else d

end Sys2Proof.Machine
end

