-- ==== Sys2Proof/Machine/Faults.lean ====
section
/-! DEFINITION. The fault collector's commands: registration from pairs (R285 to R287), checker sources (R288), fences
(R295), forces and clears (R299, R300), ERR_OUT (R301), monitors (R296, R402), and the return of a Facet (R297). -/

namespace Sys2Proof.Machine

/-! ## Pairs (R285, R286) -/

/-- The pair of a compute-die source registers; an ME_ABFT that is not forced enters the verdict (R237). -/
def Device.pairRegister (d : Device) (s : Nat) (wire : Bool) : Device :=
  let f := (d.pairAt s).forced
  let d := d.register s f wire
  if s < 0x60 ∧ !f then
    ({ d with apt := { d.apt with abft := (s :: d.apt.abft).dedup } } : Device).addCause 11
  else d

/-- FAULT_PAIR_REGISTRATION: a pair at 10 that follows 01 registers. -/
def Device.pairIn (d : Device) (s : Nat) : Device :=
  let p := d.pairAt s
  if !d.sampled s ∨ p.seen ∨ p.level = 2 then d
  else
    let d := (d.setPair s { p with level := 1, seen := true }).setBit (Reg.fltCdPair (s / 32)) (s % 32) true
    d.pairRegister s false

/-- BROKEN_PAIR: FLT_WIREi, the raise of the pair's own source, and FLT_WIRE, in ascending source number (R294). -/
def Device.pairBroken (d : Device) (s : Nat) : Device :=
  let p := d.pairAt s
  if !d.sampled s ∨ p.broken then d
  else
    let d := d.setPair s { p with level := 2, broken := true, seen := true }
    let d := (d.setBit (Reg.fltCdPair (s / 32)) (s % 32) false).event (Reg.fltWire (s / 32)) (s % 32)
    ((d.event Reg.fltStatus 3).pairRegister s true).register Src.fltWire p.forced false

/-- FAULT_PAIR_CLEAR: the pair is back at 01. -/
def Device.pairClear (d : Device) (s : Nat) : Device :=
  (d.setPair s Pair.reset).setBit (Reg.fltCdPair (s / 32)) (s % 32) false

/-! ## Checker sources (R288, R338) -/

/-- A checker source raises, with the fixed reaction that Table 12.2 and R338 give it beyond the collector's.
Which limit a raise of SIO_LIMIT stands for is free (DESIGN CHOICE, log 149). -/
def Device.checkerRaise (d : Device) (s : Nat) : Device :=
  if s = Src.encDisc then d.encDiscRaise
  else if s = Src.estopDisc then d.estopDiscRaise
  else if s = Src.feedback then d.feedbackRaise
  else if s = Src.sealChg then d.sealRaise
  else if s = Src.resetStuck then d.stuckRaise
  else if s = Src.limit then (d.draw.setLock (d.freeNat % 3)).chkRaise s
  else
    let d := d.chkRaise s
    if s = Src.lockstep then d.channelFail s 0x49 2
    else if s = Src.wdgFail then d.channelFail s 0x4A 1
    else if s = Src.dbgSplit then
      (({ d with core := { d.core with split := true } } : Device).dropA).safeFromRun 0x48 true
    else d

/-! ## Fences (R295) -/

/-- The compute die confirms the oldest fences first: fence `n` of those that wait. -/
def Device.fenceDone (d : Device) (n : Nat) : Device :=
  { d with flt := { d.flt with fences := d.flt.fences.eraseIdx n } }

/-- No confirmation within 10 µs. -/
def Device.fenceLate (d : Device) (n : Nat) : Device :=
  if n < d.flt.fences.length then (d.fenceDone n).chkRaise Src.fenceFail else d

/-! ## Forces and clears (R299, R300) -/

/-- A force names a source, and KIND 1 a pair. -/
def forceNames (s kind : Nat) : Bool := (srcRow s).isSome && (decide (kind = 0) || decide (s < 0x180))

/-- Forcing is accepted only in STARTUP_TEST and MAINT. -/
def Device.forceState (d : Device) : Bool := decide (d.chk.dev = .startupTest) || decide (d.chk.dev = .maint)

/-- Force a source: a pair is driven to 10 or 00, a checker source raised at the collector's input. -/
def Device.force (d : Device) (s kind : Nat) : Device :=
  if 0x180 ≤ s then d.register s true false
  else if !d.cmpAlive then d
  else
    let p := d.pairAt s
    if kind = 1 then
      (d.setPair s { p with level := 2, forced := true }).setBit (Reg.fltCdPair (s / 32)) (s % 32) false
    else if p.level = 0 then
      (d.setPair s { p with level := 1, forced := true }).setBit (Reg.fltCdPair (s / 32)) (s % 32) true
    else d

/-- FLT_FORCE by channel A. -/
def Device.forceWrite (d : Device) (v : Word) : Device :=
  let s := bits v 8 0
  let k := bits v 12 12
  if d.forceState && forceNames s k then d.force s k else d.event Reg.fltStatus 2

/-- FAULT_FORCE. -/
def Device.reqForce (d : Device) (tag : Byte) (a : ReqArgs) : Device :=
  let s := bits a.a0 8 0
  let k := bits a.a0 12 12
  d.request 11 tag a (decide (bits a.a0 31 13 = 0) && decide (bits a.a0 11 9 = 0) && args0 a && forceNames s k) d.forceState
    fun d => (d.force s k).complete 11 tag 0 0

/-- FAULT_CLEAR. -/
def Device.reqClear (d : Device) (tag : Byte) (a : ReqArgs) : Device :=
  let s := bits a.a0 8 0
  let ok := match srcRow s with | some r => decide (r.cls ≠ 3) | none => false
  d.request 12 tag a (decide (bits a.a0 31 9 = 0) && args0 a && ok)
    (decide (d.chk.dev ≠ .boot) && decide (d.chk.dev ≠ .fatal)) fun d =>
    (d.clearBit (Reg.fltPend (s / 32)) (s % 32)).complete 12 tag 0 0

/-! ## Availability and health (R23, R74) -/

/-- A unit that the repair record flags starts fenced (R393). -/
def Device.unitFlagged (d : Device) (e : Nat) : Bool :=
  let f := nth d.boot.unitFlags (e / 7) 0
  f.getLsbD 0 || (f.getLsbD 1 && decide (e % 7 = 4)) || (f.getLsbD 2 && decide (5 ≤ e % 7))

/-- A resident model that is not narrow-tolerant has a narrowed engine fenced (R74, Table 7.7). -/
def Device.narrowFenced (d : Device) (e : Nat) : Bool :=
  d.narrowed e && [d.model0, d.model1].any fun m => decide (m.st = .resident) && !m.narrowTol

/-- An engine that is fenced by the repair record, by PRISM_EN or by admission, and not for a fault (DEDUCED, log 35). -/
def Device.bootFenced (d : Device) (e : Nat) : Bool :=
  (d.engAt e).unusable || d.unitFlagged e || d.narrowFenced e || (d.prismAt (e / 7)).disabled

/-- An engine is available but for a fence of its Facet. -/
def Device.couldRun (d : Device) (e : Nat) : Bool :=
  !d.bootFenced e && !(d.narrowed e && match d.activeModel with | some m => !m.narrowTol | none => false)

/-- Every engine that the active plan uses in Facet `f` could run. -/
def Device.usedOk (d : Device) (f : Nat) : Bool := d.tck.used.all fun x => d.couldRun (42 * f + x)

/-- An engine or Prism of Facet `f` is fenced for a fault. -/
def Device.faultFenced (d : Device) (f : Nat) : Bool :=
  (List.range 42).any fun x => (d.engAt (42 * f + x)).fenced && (d.engAt (42 * f + x)).faulted

/-- Facet `f` is healthy (R23). -/
def Device.facetHealthy (d : Device) (f : Nat) : Bool :=
  (d.facetAt f).powered && decide ((d.facetAt f).st = .healthy) && !d.faultFenced f && d.usedOk f

/-- The healthy Facets in ascending order. -/
def Device.healthyFacets (d : Device) : List Nat := (List.range 4).filter d.facetHealthy

/-- The engines of Facet `f` come back into service, but for those that stay fenced. -/
def Device.freeFacet (d : Device) (f : Nat) : Device :=
  let d := (List.range 42).foldl (fun d x => d.modEng (42 * f + x) fun g =>
    { g with fenced := d.bootFenced (42 * f + x), faulted := false }) d
  (List.range 6).foldl (fun d p => d.setPrism (6 * f + p) { d.prismAt (6 * f + p) with fenced := false }) d

/-! ## The return of a Facet (R173, R297) -/

/-- A Facet that cannot return. -/
def Device.facetFail (d : Device) (f : Nat) : Device := (d.facetOff f).modFacet f fun x => { x with st := .failed }

/-- The pass that the Facet test runs over one Prism (R311): complete, or stopped at its first failing segment. -/
def Device.testPass (d : Device) (q : Nat) (fails : List Nat) : Device :=
  match (List.range 10).find? fun n => fails.contains n with
  | none => d.passDone q
  | some n => (d.setPrism q { d.prismAt q with nextSeg := 0, failSeg := n }).segFence q n

/-- FACET_TEST_COMPLETE: all segments of all six Prisms, then the DRAM march. `fails`: the segments that fail, by Prism
of the Facet. -/
def Device.facetTested (d : Device) (f : Nat) (fails : List (Nat × Nat)) (march : Bool) : Device :=
  let x := d.facetAt f
  if x.st ≠ .testing ∨ !x.powered ∨ x.zeroing then d
  else
    let bad := fun p => (fails.filter fun t => decide (t.1 = p)).map (·.2)
    let d := (List.range 6).foldl (fun d p => if (d.prismAt (6 * f + p)).disabled then d else d.testPass (6 * f + p) (bad p)) d
    if march && !d.faultFenced f && d.usedOk f then d.modFacet f fun x => { x with st := .replacing } else d.facetFail f

/-- Copy a placed section of a model from one Facet to another; WORK sections are zeroed. -/
def Device.copySection (d : Device) (f g : Nat) (s : Section) : Device :=
  let dst := f * 2 ^ 32 + s.place
  if s.prot then
    let r := d.readMem (g * 2 ^ 32 + s.place) s.length
    r.dev.writeMem dst r.bytes r.poison
  else if s.placed then d.zeroMem dst s.length else d

/-- The copy of a section in Facet `f` has its digest and carries no mark (R160); WORK has none. -/
def Device.copyOk (d : Device) (f : Nat) (s : Section) : Bool :=
  let a := f * 2 ^ 32 + s.place
  !s.prot || (!d.peekPoison a s.length && decide (sha384 (d.peek a s.length) = s.digest))

/-- The checker reads a copy to digest it (R149, R160). -/
def Device.copyRead (d : Device) (f : Nat) (s : Section) : Device := if s.prot then d.sense (f * 2 ^ 32 + s.place) s.length else d

/-- Copy a section into Facet `f` from the Facets of a list in turn until its digest matches (R173). -/
def Device.copyTry (d : Device) (f : Nat) (s : Section) : List Nat → Device × Bool
  | [] => (d, false)
  | g :: l =>
    let d := d.copySection f g s
    let ok := d.copyOk f s
    let d := d.copyRead f s
    if ok then (d, true) else d.copyTry f s l

/-- The Facets that a section is copied from: three tries, the first from the healthy Facet of number `k`, each other from another
than the one before where there is one, in ascending order (DESIGN CHOICE, log 157). -/
def copySources (l : List Nat) (k : Nat) : List Nat :=
  if l.isEmpty then [] else (List.range 3).map fun i => nth l ((k + i) % l.length) 0

/-- The placed sections of the resident models. -/
def Device.placedSections (d : Device) : List Section :=
  ([d.model0, d.model1].filter fun m => decide (m.st = .resident)).flatMap fun m => m.sections.filter fun s => s.placed

/-- REPLACEMENT_COMPLETE: every placed section of each resident model is copied and its digest verified (R173). `first`: the number
of the healthy Facet that is copied from first, which the rule leaves to the housekeeping core. -/
def Device.replaced (d : Device) (f first : Nat) : Device :=
  if (d.facetAt f).st ≠ .replacing then d
  else
    let src := copySources d.healthyFacets first
    let (d, ok) := d.placedSections.foldl (fun x s =>
      if x.2 then x.1.copyTry f s src else x) (d, true)
    if ok then d.modFacet f fun x => { x with st := .ready } else d.facetFail f

/-! ## Commands -/

/-- FAULT_PAIR_REGISTRATION (R285). -/
def execFaultPairRegistration (src : Nat) (s : State) : Host.Outcome State Fault Refusal := act true (fun d => d.pairIn src) s

/-- BROKEN_PAIR (R286). -/
def execBrokenPair (src : Nat) (s : State) : Host.Outcome State Fault Refusal := act true (fun d => d.pairBroken src) s

/-- FAULT_PAIR_CLEAR (R285). -/
def execFaultPairClear (src : Nat) (s : State) : Host.Outcome State Fault Refusal :=
  act (decide (src < 0x180)) (fun d => d.pairClear src) s

/-- CHECKER_SOURCE_RAISE (R288). -/
def execCheckerSourceRaise (src : Nat) (s : State) : Host.Outcome State Fault Refusal :=
  act (s.dev.chk.power && decide (0x180 ≤ src) && (srcRow src).isSome) (fun d => d.checkerRaise src) s

/-- FENCE_CONFIRM (R295). -/
def execFenceConfirm (n : Nat) (s : State) : Host.Outcome State Fault Refusal :=
  act s.dev.chk.power (fun d => d.fenceDone n) s

/-- FENCE_CONFIRM_TIMEOUT (R295). -/
def execFenceConfirmTimeout (n : Nat) (s : State) : Host.Outcome State Fault Refusal :=
  act s.dev.chk.power (fun d => d.fenceLate n) s

/-- ERR_OUT_HOLD_EXPIRY (R301). -/
def execErrOutHoldExpiry (s : State) : Host.Outcome State Fault Refusal :=
  act s.dev.chk.power (fun d => { d with chk := { d.chk with pinAt := none } }) s

/-- VMON_CMP (R296). -/
def execVmonCmp (s : State) : Host.Outcome State Fault Refusal :=
  act (s.dev.chk.power && s.dev.chk.pwrEn) (fun d => d.chkRaise Src.vmonCmp) s

/-- FMON_CMP (R296). -/
def execFmonCmp (s : State) : Host.Outcome State Fault Refusal :=
  act (s.dev.chk.power && s.dev.chk.pwrEn) (fun d => d.chkRaise Src.fmonCmp) s

/-- CHK_SUPPLY (R402). -/
def execChkSupply (s : State) : Host.Outcome State Fault Refusal :=
  act s.dev.chk.power (fun d => d.chkRaise Src.chkSupply) s

/-- FLT_FORCE (R299). -/
def execFltForce (v : Word) (s : State) : Host.Outcome State Fault Refusal := act s.dev.chanA (fun d => d.forceWrite v) s

/-- FAULT_FORCE (R299). -/
def execFaultForce (tag : Byte) (a : ReqArgs) (s : State) : Host.Outcome State Fault Refusal :=
  act s.dev.hostUp (fun d => d.reqForce tag a) s

/-- FAULT_CLEAR (R300). -/
def execFaultClear (tag : Byte) (a : ReqArgs) (s : State) : Host.Outcome State Fault Refusal :=
  act s.dev.hostUp (fun d => d.reqClear tag a) s

/-- FACET_TEST_COMPLETE (R297). -/
def execFacetTestComplete (f : Nat) (t : FacetTest) (s : State) : Host.Outcome State Fault Refusal :=
  act (decide (f < 4) && s.dev.cmpAlive) (fun d => d.facetTested f t.fails t.march) s

/-- REPLACEMENT_COMPLETE (R173). -/
def execReplacementComplete (f first : Nat) (s : State) : Host.Outcome State Fault Refusal :=
  act (decide (f < 4) && s.dev.cmpAlive) (fun d => d.replaced f first) s

end Sys2Proof.Machine
end

