-- ==== Sys2Proof/Machine/Plans.lean ====
section
/-! DEFINITION. Frame plans in memory (R47, R170, R192, R265): their parts, their validation (R48) and what a plan in force
gives the device. -/

namespace Sys2Proof.Machine

/-- A quotient in a register's unit: exact, or one of its two neighbours (DESIGN CHOICE, log 36). -/
def unitQuot (n : Int) (k : Nat) : Int := if n % k = 0 then n / k else n.fdiv k + Config.inexact n k % 2

/-! ## Parts of a plan (Tables 2.2, 7.4, 7.5, 10.2) -/

/-- VARIANTS. -/
def planVariants (b : List Byte) : Nat := leAt b 2 2
/-- PERIOD_US. -/
def planPeriod (b : List Byte) : Nat := leAt b 4 4
/-- RSV_US. -/
def planRsv (b : List Byte) : Nat := leAt b 8 4
/-- STM_US. -/
def planStm (b : List Byte) : Nat := leAt b 12 4
/-- MODEL_TAG. -/
def planTag (b : List Byte) : DWord := BitVec.ofNat 64 (leAt b 16 8)
/-- VAR_OFS of variant `v`. -/
def planVarOfs (b : List Byte) (v : Nat) : Nat := leAt b (24 + 8 * v) 8
/-- PLAN_LEN. -/
def planLen (b : List Byte) : Nat := leAt b 48 4

/-- The block of variant `v`. -/
def varBlock (b : List Byte) (v : Nat) : List Byte := slice b (planVarOfs b v) 0x560
/-- Variant `v` is present. -/
def hasVar (b : List Byte) (v : Nat) : Bool := decide (natBits (planVariants b) v v = 1)
/-- The start pointers of a variant block. -/
def varStarts (k : List Byte) : List Nat := (List.range 168).map fun i => leAt k (8 * i) 8
/-- STW_OFS and STW_COUNT. -/
def varStw (k : List Byte) : Nat × Nat := (leAt k 0x540 8, leAt k 0x548 4)
/-- MAN_OFS and MAN_LEN. -/
def varMan (k : List Byte) : Nat × Nat := (leAt k 0x550 8, leAt k 0x558 4)

/-- A stage-window entry. -/
def winOf (b : List Byte) : StageWin :=
  ⟨leAt b 0 1 % 64, leAt b 1 1 % 16, decide (leAt b 2 1 % 2 = 1), leAt b 4 4, leAt b 8 4⟩

/-- A stage-window entry has no reserved bit set (Table 10.2). -/
def winZeros (b : List Byte) : Bool :=
  decide (leAt b 0 1 < 64) && decide (leAt b 1 1 < 16) && decide (leAt b 2 1 < 2) && decide (leAt b 3 1 = 0) && allZero (slice b 12 4)

/-- A manifest entry. -/
def entryOf (b : List Byte) : ManEntry :=
  ⟨leAt b 0 1, leAt b 1 1, leAt b 2 1, decide (leAt b 3 1 % 2 = 1), leAt b 4 4, leAt b 8 2, leAt b 10 1,
   BitVec.ofNat 16 (leAt b 12 2), BitVec.ofNat 16 (leAt b 14 2)⟩

/-- A challenge slot descriptor. -/
def slotOf (b : List Byte) : ManSlot := ⟨leAt b 0 6, leAt b 6 2, leAt b 8 4, leAt b 12 1⟩

/-- A manifest (R170). -/
def manOf (b : List Byte) : Manifest :=
  let n := leAt b 0 2
  let k := leAt b 2 1
  let o := 16 + 32 * n
  { entries := (List.range n).map fun i => entryOf (slice b (16 + 32 * i) 32)
    slots := (List.range k).map fun i => slotOf (slice b (o + 16 * i) 16)
    rc := (List.range (leAt b 4 4)).map fun i => leAt b (o + 16 * k + 8 * i) 8
    readers := (List.range 4).map fun i => leAt b (8 + i) 1 }

/-- The stage windows of a variant. -/
def varWins (b k : List Byte) : List StageWin :=
  (List.range (varStw k).2).map fun i => winOf (slice b ((varStw k).1 + 16 * i) 16)

/-- The manifest bytes of a variant. -/
def varManBytes (b k : List Byte) : List Byte := slice b (varMan k).1 (varMan k).2

/-- Variant `v` of a plan. -/
def planVar (b : List Byte) (v : Nat) : PlanVar :=
  let k := varBlock b v
  ⟨varStarts k, varWins b k, manOf (varManBytes b k)⟩

/-- The in-Facet positions that a variant of the plan uses (R23). -/
def planUsed (b : List Byte) : List Nat :=
  let s := ((List.range 3).filter (hasVar b)).map fun v => varStarts (varBlock b v)
  (List.range 42).filter fun x => s.any fun l => (List.range 4).any fun f => decide (nth l (42 * f + x) 0 ≠ 0)

/-! ## Validation (R47, R48, R59, R351) -/

/-- A variant's block, stage-window table and manifest lie within PLAN_LEN, and its start pointers where `cmdOk`. -/
def varOk (cmdOk : Nat → Bool) (b : List Byte) (v : Nat) : Bool :=
  let k := varBlock b v
  let n := planLen b
  decide (planVarOfs b v + 0x560 ≤ n) && decide ((varStw k).2 ≤ 64) && decide ((varStw k).1 + 16 * (varStw k).2 ≤ n) &&
  decide ((varMan k).1 + (varMan k).2 ≤ n) && (varStarts k).all fun p => decide (p = 0) || cmdOk p

/-- Step 2 of R48 over a plan. -/
def planOk (cmdOk : Nat → Bool) (b : List Byte) : Bool :=
  decide (leAt b 0 2 = 0x0100) && decide (64 ≤ planLen b) && decide (planLen b ≤ 0x100000) &&
  decide (5000 ≤ planPeriod b) && decide (planPeriod b ≤ 200000) && decide (50 ≤ planStm b) &&
  decide (planVariants b < 8) && decide (planVariants b ≠ 0) &&
  (List.range 3).all fun v => decide (hasVar b v = decide (planVarOfs b v ≠ 0)) && (!hasVar b v || varOk cmdOk b v)

/-- The reserved bytes of a plan and of the variant blocks present are 0 (Table 2.2). -/
def planZeros (b : List Byte) : Bool :=
  allZero (slice b 0x34 12) &&
  (List.range 3).all fun v => !hasVar b v || (allZero (slice (varBlock b v) 0x54C 4) && allZero (slice (varBlock b v) 0x55C 4))

/-- A pointer into the command region of a model: a CMD section in a Facet's DRAM. -/
def cmdIn (l : List Section) (p : Nat) : Bool :=
  decide (p < 0x400000000) && l.any fun s => decide (s.type = 1) && decide (s.place ≤ p % 2 ^ 32) && decide (p % 2 ^ 32 < s.place + s.length)

/-- The plan at `base`; empty where its PLAN_LEN is out of range. -/
def Device.planAt (d : Device) (base : Nat) : List Byte :=
  let n := leNat (d.peek (base + 48) 4)
  if n ≤ 0x100000 then d.peek base n else []

/-- The reads that `planAt` makes have their effects (R149, R160). -/
def Device.planRead (d : Device) (base : Nat) : Device := (d.sense (base + 48) 4).sense base (d.planAt base).length

/-- The resident model with a tag. -/
def Device.modelOf (d : Device) (t : DWord) : Option Model :=
  [d.model0, d.model1].find? fun m => decide (m.st = .resident) && decide (m.tag = t)

/-- How many plans a slot holds for a model (R192). -/
def planCount (m : Model) : Nat := if m.sharded then m.svs else 1

/-- The base of the plan of system variant `n` in a slot. -/
def Device.planBase (d : Device) (slot n : Nat) : Nat := d.slotBase slot + n * 0x100000

/-- Step 2 of R48 over a slot; a plan that carries a mark fails it (R160). -/
def Device.slotOk (d : Device) (slot : Nat) : Bool :=
  match d.modelOf (d.slotTag slot) with
  | none => false
  | some m => (List.range (planCount m)).all fun n =>
    let a := d.planBase slot n
    let b := d.planAt a
    !d.peekPoison a b.length && planOk (cmdIn m.sections) b && decide (planTag b = m.tag)

/-- The plans of a slot are read (R149, R160): the tag names how many. -/
def Device.slotSense (d : Device) (slot : Nat) : Device :=
  let n := match d.modelOf (d.slotTag slot) with | some m => planCount m | none => 0
  (List.range n).foldl (fun d k => d.planRead (d.planBase slot k)) (d.sense (d.slotBase slot + 0x10) 8)

/-- Step 3 of R48 over a slot: every plan's digest, with MODEL_TAG taken as 0, is that of a PLAN section. -/
def Device.slotDigestOk (d : Device) (slot : Nat) : Bool :=
  match d.modelOf (d.slotTag slot) with
  | none => false
  | some m => (List.range (planCount m)).all fun n =>
    let a := d.planBase slot n
    let b := d.planAt a
    let h := sha384 (patch b 16 (List.replicate 8 0))
    !d.peekPoison a b.length && decide (planTag b = m.tag) &&
    m.sections.any fun s => decide (s.type = 7) && decide (s.digest = h) && (!m.sharded || decide (s.sv = n))

/-- End the swap in progress with a status. -/
def Device.swapEnd (d : Device) (status : Nat) : Device :=
  match d.tck.swap with
  | none => d
  | some w => ({ d with tck := { d.tck with swap := none } } : Device).completeWhere
      (fun r => decide (r.op = 1) && decide (r.tag = w.tag)) status 0

/-- PLAN_VALIDATION_DONE. -/
def Device.planChecked (d : Device) : Device :=
  match d.tck.swap with
  | some w =>
    if w.stage ≠ .validating then d
    else
      let ok := d.slotOk w.slot
      let d := d.slotSense w.slot
      if ok then { d with tck := { d.tck with swap := some { w with stage := .digest } } } else d.swapEnd 3
  | none => d

/-- PLAN_DIGEST_COMPARE_DONE. -/
def Device.planCompared (d : Device) : Device :=
  match d.tck.swap with
  | some w =>
    if w.stage ≠ .digest then d
    else
      let ok := d.slotDigestOk w.slot
      let d := d.slotSense w.slot
      if ok then { d with tck := { d.tck with swap := some { w with stage := .pending, doneAt := d.q } } } else d.swapEnd 3
  | none => d

/-! ## The plan in force (R23, R48 step 6) -/

/-- The plans of a slot take effect. -/
def Device.takePlan (d : Device) (slot : Nat) : Device :=
  let b := d.planAt (d.planBase slot 0)
  let n := match d.modelOf (planTag b) with | some m => planCount m | none => 1
  let used := ((List.range n).flatMap fun k => planUsed (d.planAt (d.planBase slot k))).dedup
  let d := (List.range n).foldl (fun d k => d.planRead (d.planBase slot k)) d
  { d with tck := { d.tck with active := some slot, period := planPeriod b, rsv := planRsv b, stm := planStm b,
                               modelTag := planTag b, used := used } }

/-- The choice of plan variant for a list of healthy Facets under system variant `sv` (R24, R48, R192). -/
def Device.chooseVar (d : Device) (l : List Nat) (sv : Nat) : Device :=
  match d.tck.active with
  | none => { d with tck := { d.tck with variant := none, plan := .reset, map := [] } }
  | some slot =>
    let b := d.planAt (d.planBase slot sv)
    let d := d.planRead (d.planBase slot sv)
    let v := 4 - l.length
    if 2 ≤ l.length ∧ hasVar b v then
      { d with tck := { d.tck with variant := some v, plan := planVar b v, map := l
                                   period := planPeriod b, rsv := planRsv b, stm := planStm b } }
    else { d with tck := { d.tck with variant := none, plan := .reset, map := [] } }

/-! ## Commands -/

/-- PLAN_VALIDATION_DONE (R48). Forced telemetry preempts the validation until its unit is complete (Table 2.4). -/
def execPlanValidationDone (s : State) : Host.Outcome State Fault Refusal :=
  act (s.dev.cmpAlive && decide ((s.dev.bgAt .telemetry).level ≠ .forced)) Device.planChecked s

/-- PLAN_DIGEST_COMPARE_DONE (R48). -/
def execPlanDigestCompareDone (s : State) : Host.Outcome State Fault Refusal := act s.dev.cmpAlive Device.planCompared s

end Sys2Proof.Machine
end

