-- ==== Sys2Proof/Machine/Models.lean ====
section
/-! DEFINITION. Model images (R168, R169), their admission (R175 to R177, R239, R266) and release (R179). -/

namespace Sys2Proof.Machine

/-! ## Signatures (R379) -/

/-- The key slot of a signature is programmed with the hash of its key, not revoked, and for use `use` (bit of Table 16.3). -/
def Device.keyOk (d : Device) (g : SigBlock) (use : Nat) : Bool :=
  let o := d.boot.otp
  decide (g.key < 8) && decide (nth o.keyHash g.key 0 ≠ 0) && decide (keyHash g.pubkey = nth o.keyHash g.key 0) &&
  !o.revoked.getLsbD g.key && (nth o.usage g.key 0).getLsbD use

/-- A signature over a digest is accepted (R379). -/
def Device.sigOk (d : Device) (g : SigBlock) (digest : BitVec 384) (use : Nat) : Bool :=
  g.tagOk && g.formatOk && d.keyOk g use && ecdsaP384 g.pubkey digest g.r g.s

/-- The signature block of Table 16.2. -/
def sigBlockOf (b : List Byte) : SigBlock :=
  ⟨decide (slice b 0 4 = [0x46, 0x5A, 0x47, 0x00]), decide (leAt b 4 2 = 0x0100) && decide (leAt b 7 1 = 0) && allZero (slice b 200 56),
   leAt b 6 1, BitVec.ofNat 768 (beNat (slice b 8 96)), BitVec.ofNat 384 (beNat (slice b 104 48)),
   BitVec.ofNat 384 (beNat (slice b 152 48))⟩

/-! ## The image (R168) -/

/-- Bytes of an image: `n` from an offset. -/
abbrev Img := Nat → Nat → List Byte

/-- SECTIONS. -/
def imgCount (g : Img) : Nat := leNat (g 8 4)
/-- SIG_OFS. -/
def imgSig (g : Img) : Nat := leNat (g 16 8)
/-- FLAGS. -/
def imgFlags (g : Img) : Nat := leNat (g 6 2)
/-- SHARDED. -/
def imgSharded (g : Img) : Bool := decide (natBits (imgFlags g) 1 1 = 1)

/-- A section table entry. -/
def secOf (b : List Byte) : Section :=
  ⟨leAt b 0 1, leAt b 1 1, leAt b 4 1, leAt b 8 8, leAt b 16 8, leAt b 24 8, BitVec.ofNat 384 (beNat (slice b 32 48))⟩

/-- The sections of an image. -/
def imgSecs (g : Img) : List Section := (List.range (imgCount g)).map fun i => secOf (g (64 + 80 * i) 80)

/-- The contents of a section. -/
def secBytes (g : Img) (s : Section) : List Byte := g s.offset s.length

/-- The form of a section table entry (Tables 7.2, 7.3). -/
def secForm (g : Img) (b : List Byte) : Bool :=
  let s := secOf b
  let work := decide (s.type = 4)
  decide (1 ≤ s.type) && decide (s.type ≤ 9) && decide (s.flags < 4) && (decide (s.flags = 0) || (work && imgSharded g)) &&
  allZero (slice b 2 2) && allZero (slice b 5 3) && decide (s.sv < 4) && (decide (s.type = 7) || decide (s.sv = 0)) &&
  decide (1 ≤ s.length) && (if work then decide (s.offset = 0) && decide (s.digest = 0)
    else decide (s.offset % 4096 = 0) && decide (64 + 80 * imgCount g ≤ s.offset) && decide (s.offset + s.length ≤ imgSig g)) &&
  (if s.placed then decide (s.place % 4096 = 0) else decide (s.place = 0))

/-- How many sections have a type. -/
def secCount (g : Img) (t : Nat) : Nat := countBy (fun s => decide (s.type = t)) (imgSecs g)

/-- The first section of a type. -/
def secFirst (g : Img) (t : Nat) : Option Section := (imgSecs g).find? fun s => decide (s.type = t)

/-- The contents of the first section of a type. -/
def firstBytes (g : Img) (t : Nat) : List Byte := match secFirst g t with | some s => secBytes g s | none => []

/-- The PLAN sections with their contents, in table order. -/
def imgPlans (g : Img) : List (Section × List Byte) :=
  ((imgSecs g).filter fun s => decide (s.type = 7)).map fun s => (s, secBytes g s)

/-- The form of the BUDGET section (R176). -/
def budgetForm (g : Img) : Bool :=
  let b := firstBytes g 8
  let p := secCount g 7
  decide (b.length = 0x20 + 2048 * p) && decide (leAt b 16 4 = p) && allZero (slice b 20 12) &&
  (List.range p).all fun n => allZero (slice b (0x20 + 2048 * n + 2028) 20)

/-- Step 1 of Table 7.7 over an image of which `n` bytes are there. -/
def imgForm (g : Img) (n : Nat) : Bool :=
  decide (g 0 4 = [0x46, 0x5A, 0x4D, 0x00]) && decide (leNat (g 4 2) = 0x0100) && decide (imgFlags g < 4) &&
  decide (1 ≤ imgCount g) && decide (imgCount g ≤ 64) && allZero (g 12 4) && allZero (g 32 32) &&
  decide (imgSig g % 4096 = 0) && decide (64 + 80 * imgCount g ≤ imgSig g) && decide (imgSig g + 256 ≤ n) &&
  ((List.range (imgCount g)).all fun i => secForm g (g (64 + 80 * i) 80)) &&
  decide (1 ≤ secCount g 1) && decide (1 ≤ secCount g 7) && decide (secCount g 7 ≤ 16) && decide (secCount g 8 = 1) &&
  decide (secCount g 6 ≤ 1) && decide (secCount g 9 = b2n (imgSharded g)) && budgetForm g

/-- The digest of an image. -/
def imgDigest (g : Img) : BitVec 384 := sha384 (g 0 (imgSig g))

/-- Step 2 of Table 7.7 but for poison and media. -/
def Device.imgSigned (d : Device) (g : Img) : Bool :=
  d.sigOk (sigBlockOf (g (imgSig g) 256)) (imgDigest g) 2 &&
  (imgSecs g).all fun s => decide (s.type = 4) || decide (s.digest = sha384 (secBytes g s))

/-! ## Admission (R60, R176, R177) -/

/-- A need compared at a place: PLAN, VARIANT, WHERE, Need, Have. -/
structure Want where
  plan : Nat
  var : Nat
  loc : Nat
  need : Nat
  have_ : Nat
deriving DecidableEq, Repr, Inhabited

/-- The largest shortfall, the first on ties. -/
def worstWant : List Want → Option Want
  | [] => none
  | w :: l => match worstWant l with
    | none => some w
    | some x => if w.need - w.have_ < x.need - x.have_ then some x else some w

/-- A need without plan or variant. -/
def plainWant (loc need have_ : Nat) : Want := ⟨0, 3, loc, need, have_⟩

/-- The frame budget of R60 for a period, a reserve and a margin, in a-cycles. -/
def frameCycles (sync : Bool) (period rsv stm : Nat) : Nat :=
  let x : Int := (64 * period : Nat) - (if sync then (period : Int) else 0) - (64 * (4 + rsv + stm) : Nat)
  x.toNat * 700 / 64

/-- The bytes of [a, a + n) that lie within [lo, hi). -/
def within (a n lo hi : Nat) : Nat := min (a + n) hi - max a lo

/-- The part of the placed sections that lies in the model area and outside another footprint (Table 7.8). -/
def freePart (l other : List Section) (lo hi : Nat) : Nat :=
  sumBy (fun s => within s.place s.length lo hi -
    sumBy (fun t => within (max s.place lo) (min (s.place + s.length) hi - max s.place lo) t.place (t.place + t.length)) other) l

/-- Bytes in KiB. -/
def kib (n : Nat) : Nat := (unitQuot n 1024).toNat

/-- The variants of every plan, with the plan's number and bytes. -/
def imgVars (g : Img) : List (Nat × Nat × List Byte) :=
  (imgPlans g).zipIdx.flatMap fun p => ((List.range 3).filter (hasVar p.1.2)).map fun v => (p.2, v, p.1.2)

/-- The distinct contexts of an image's manifests. -/
def imgCtxs (g : Img) : List Nat :=
  ((imgVars g).flatMap fun x => (planVar x.2.2 x.2.1).man.entries.map (·.ctx)).dedup

/-- The needs of an image by code of Table 7.8, those of each code with every place. `o`: the other resident models'
sections; a DRAM need counts bytes. -/
def Device.wants (d : Device) (g : Img) (o : List Section) : List (Nat × List Want) :=
  let v := d.boot.img.device
  let b := firstBytes g 8
  let placed := (imgSecs g).filter (·.placed)
  let total := sumBy (·.length) placed
  let part := freePart placed o v.maBase v.maEnd
  let cs := imgCtxs g
  [(0x01, [plainWant 0 (leAt b 0 4) 4096]), (0x02, [plainWant 0 (leAt b 4 4) 2048]),
   (0x03, [plainWant 0 (leAt b 8 4) (8192 - v.fbufResKib)]), (0x04, [plainWant 0 total part]),
   (0x05, [plainWant 0 (leAt b 12 1) 64]), (0x06, [plainWant 0 (leAt b 13 1) 32]),
   (0x07, [plainWant 0xFF (leAt b 14 1) 16]), (0x08, [plainWant 0 (leAt b 15 1) 16]),
   (0x09, [plainWant 0xFF ((imgVars g).foldl (fun a x => max a (varStw (varBlock x.2.2 x.2.1)).2) 0) (64 - d.boot.img.stage.length)]),
   (0x0A, [plainWant 0xFF ((imgVars g).foldl (fun a x => max a (planVar x.2.2 x.2.1).man.entries.length) 0) 256]),
   (0x0B, [plainWant 0xFF cs.length (countBy (fun c => !(d.ctxAt c).en) cs)]),
   (0x0C, (imgVars g).flatMap fun x => (List.range 168).map fun i =>
     ⟨x.1, x.2.1, i, leAt b (0x20 + 2048 * x.1 + 672 * x.2.1 + 4 * i) 4, frameCycles v.syncEn (planPeriod x.2.2) (planRsv x.2.2) (planStm x.2.2)⟩),
   (0x0D, (imgVars g).map fun x =>
     ⟨x.1, x.2.1, 0xFF, 50, min (planStm x.2.2) (leAt b (0x20 + 2048 * x.1 + 2016 + 4 * x.2.1) 4)⟩)]

/-- The codes that fail, each with its largest shortfall. -/
def Device.shorts (d : Device) (g : Img) (o : List Section) : List (Nat × Want) :=
  (d.wants g o).filterMap fun c =>
    match worstWant (c.2.filter fun w => decide (w.have_ < w.need)) with
    | some w => some (c.1, w)
    | none => none

/-- The admission report (R177). -/
def Device.admReport (d : Device) (l : List (Nat × Want)) : Device :=
  match l with
  | [] => (((d.setReg Reg.hifAdmRes 0xC0FF).setReg Reg.hifAdmNeed 0).setReg Reg.hifAdmHave 0).setReg Reg.hifAdmShort 0
  | (c, w) :: _ =>
    let u := fun n => if c = 4 then kib n else n
    let d := d.setReg Reg.hifAdmRes (word (c * 2 ^ 24 + l.length * 65536 + w.var * 16384 + w.plan * 256 + w.loc))
    ((d.setReg Reg.hifAdmNeed (word (u w.need))).setReg Reg.hifAdmHave (word (u w.have_))).setReg Reg.hifAdmShort
      (word (u (w.need - w.have_)))

/-! ## Conditions on manifests and windows (R171, R239, R266) -/

/-- A BF16 number is NaN or infinite. -/
def bf16Odd (x : BitVec 16) : Bool := decide (natBits x.toNat 14 7 = 255)

/-- The commands of a list from `ofs` of a CMD section up to its END: the ENTRY fields of its SENDs. -/
def sendScan (b : List Byte) : Nat → Nat → List Nat
  | 0, _ => []
  | n + 1, ofs =>
    if b.length < ofs + 64 then []
    else
      let w : CmdWord := BitVec.ofNat 512 (leAt b ofs 64)
      if opcode w = 1 then [] else (if opcode w = 0x42 then [sendEntry w] else []) ++ sendScan b n (ofs + 64)

/-- The entries that the list at a start pointer sends. -/
def sendsAt (g : Img) (p : Nat) : List Nat :=
  match (imgSecs g).find? fun s => cmdIn [s] p with
  | some s => sendScan (secBytes g s) (s.length / 64) (p % 2 ^ 32 - s.place)
  | none => []

/-- The logical Facets whose SEs send entry `i` of a variant. -/
def senders (g : Img) (v : PlanVar) (i : Nat) : List Nat :=
  (List.range 4).filter fun f => (List.range 6).any fun p =>
    let a := nth v.starts (42 * f + 7 * p + 6) 0
    decide (a ≠ 0) && (sendsAt g a).contains i

/-- The tiles of an image (R231). -/
def imgTiles (g : Img) : List Tile :=
  let b := firstBytes g 6
  (List.range (leAt b 0 2)).map fun i =>
    let r := slice b (16 + 32 * i) 32
    ⟨leAt r 0 1, leAt r 4 4, leAt r 8 8, word (leAt r 16 4), slice b (leAt r 20 4) (leAt r 24 4)⟩

/-- The form of the CHAL_ANS section (R231). -/
def tilesForm (g : Img) : Bool :=
  let b := firstBytes g 6
  let n := leAt b 0 2
  decide (secCount g 6 = 0) ||
  (decide (1 ≤ n) && decide (n ≤ 256) && allZero (slice b 2 14) && decide (16 + 32 * n ≤ b.length) && decide (b.length ≤ 0x200000) &&
   (List.range n).all fun i =>
    let r := slice b (16 + 32 * i) 32
    decide (leAt r 0 1 < 16) && allZero (slice r 1 3) && allZero (slice r 28 4) &&
    decide (leAt r 8 8 + leAt r 4 4 ≤ (match secFirst g 5 with | some s => s.length | none => 0)) &&
    decide (leAt r 20 4 + leAt r 24 4 ≤ b.length))

/-- A manifest entry by itself (Table 7.4, R239). `b`: its bytes. -/
def entryForm (b : List Byte) : Bool :=
  let e := entryOf b
  let cmp := decide (e.kind = 3) || decide (e.kind = 4)
  decide (1 ≤ e.kind) && decide (e.kind ≤ 5) && decide (leAt b 3 1 < 2) && decide (e.len % 16 = 0) && decide (16 ≤ e.len) &&
  decide (e.len ≤ 16777216) && decide (e.stage < 64) && decide (leAt b 11 1 = 0) && allZero (slice b 16 16) &&
  (decide (e.kind ≠ 1) || decide (e.len = 2048)) && (decide (e.kind ≠ 2) || decide (e.len = 16)) &&
  (cmp || decide (e.partner = 0)) && (decide (e.kind = 1) || decide (e.fmt ≤ 13)) &&
  (!cmp || (decide (e.fmt ≤ 12) && !bf16Odd e.rel && !bf16Odd e.abs))

/-- A slot descriptor by itself. -/
def slotForm (b : List Byte) : Bool :=
  let s := slotOf b
  decide (s.shape < 16) && decide (s.len ≤ 65536) && allZero (slice b 13 3) &&
  (match placeOf s.addr with | some (.dram _) => true | some (.fbuf _) => true | _ => false)

/-- A replica entry names a partner that names it, alike in format, length and tolerances, from another logical Facet. -/
def replicaOk (g : Img) (v : PlanVar) (i : Nat) (e : ManEntry) : Bool :=
  match v.man.entries[e.partner]? with
  | some p => decide (p.kind = 4) && decide (p.partner = i) && decide (e.partner ≠ i) && decide (p.fmt = e.fmt) &&
      decide (p.len = e.len) && decide (p.rel = e.rel) && decide (p.abs = e.abs) &&
      !(senders g v i).isEmpty && !(senders g v e.partner).isEmpty &&
      (senders g v i).all fun f => !(senders g v e.partner).contains f
  | none => false

/-- Slot `i`: its output entry names it, and its tiles fit (R239). -/
def slotFits (g : Img) (m : Manifest) (i : Nat) (s : ManSlot) : Bool :=
  match m.entries[s.out]? with
  | some e =>
    let ts := (imgTiles g).filter fun t => decide (t.shape = s.shape)
    decide (e.kind = 3) && decide (e.partner = i) && !ts.isEmpty &&
    ts.all fun t => decide (t.inLen = s.len) && decide (t.answer.length = e.len)
  | none => false

/-- How many entries have a kind. -/
def kindCount (m : Manifest) (k : Nat) : Nat := countBy (fun e => decide (e.kind = k)) m.entries

/-- A manifest of variant `n` Facets wide (R170, R171, R239). -/
def manOk (g : Img) (v : PlanVar) (b : List Byte) (n resBytes : Nat) : Bool :=
  let m := v.man
  let k := m.entries.length
  decide (1 ≤ k) && decide (k ≤ 256) && decide (m.slots.length ≤ 8) && allZero (slice b 3 1) && allZero (slice b 12 4) &&
  decide (b.length = 16 + 32 * k + 16 * m.slots.length + 8 * m.rc.length) && (m.rc.all fun a => decide (a < 2 ^ 48)) &&
  ((List.range k).all fun i => entryForm (slice b (16 + 32 * i) 32)) &&
  ((List.range m.slots.length).all fun i => slotForm (slice b (16 + 32 * k + 16 * i) 16)) &&
  (m.entries.zipIdx.all fun e => decide (e.1.kind ≠ 4) || replicaOk g v e.2 e.1) &&
  (m.entries.zipIdx.all fun e => decide (e.1.kind ≠ 3) ||
    (match m.slots[e.1.partner]? with | some s => decide (s.out = e.2) | none => false)) &&
  (m.slots.zipIdx.all fun s => slotFits g m s.2 s.1) && decide ((m.entries.map (·.ctx)).Nodup) &&
  decide (kindCount m 1 ≤ 1) && decide (kindCount m 2 ≤ 1) && decide (kindCount m 1 = kindCount m 2) &&
  (decide (kindCount m 1 = 0) || !m.slots.isEmpty) &&
  decide (sumBy (fun e => if e.kind = 3 ∨ e.kind = 4 then e.len else 0) m.entries ≤ 0x200000) &&
  decide (sumBy (fun e => ceilDiv e.len 64 * 64) m.entries ≤ resBytes) &&
  (List.range n).all fun f =>
    let r := nth m.readers f 0
    if m.slots.any fun s => decide (slotFacet s = f) then decide (1 ≤ r) && decide (r ≤ 15) else decide (r = 0)

/-- A window's bounds for a period: CLOSE_US at most the shortest frame of R60 less 25 µs. -/
def winBounds (sync : Bool) (period : Nat) (w : StageWin) : Bool :=
  decide (w.openUs < w.closeUs) && decide (64 * (w.closeUs + 25) + (if sync then period else 0) ≤ 64 * period)

/-- The stage windows of a variant and the structure image's (R266). -/
def winsOk (img : StructImg) (v : PlanVar) (b : List (List Byte)) (period : Nat) : Bool :=
  let sync := img.device.syncEn
  let own := v.windows.map (·.stage)
  let res := img.stage.map (·.stage)
  decide own.Nodup && (own.all fun s => !res.contains s) &&
  (b.all fun x => winZeros x && decide (1 ≤ leAt x 1 1)) &&
  (v.windows.all (winBounds sync period)) && (img.stage.all (winBounds sync period)) &&
  v.man.entries.all fun e => (own ++ res).contains e.stage

/-- Variant `v` of a plan in an image. -/
def varAdmit (img : StructImg) (g : Img) (b : List Byte) (v : Nat) : Bool :=
  let k := varBlock b v
  let x := planVar b v
  let ws := (List.range (varStw k).2).map fun i => slice b ((varStw k).1 + 16 * i) 16
  manOk g x (varManBytes b k) (4 - v) img.device.resBytes && winsOk img x ws (planPeriod b)

/-- The SHARD section (Table 7.11) and the plans of every system variant (R192). -/
def shardOk (g : Img) : Bool :=
  let b := firstBytes g 9
  let n := leAt b 10 1
  !imgSharded g ||
  (decide (b.length = 24) && decide (1 ≤ n) && decide (n ≤ 4) && allZero (slice b 11 5) &&
   ((List.range 4).all fun i => decide (i < n) || decide (leAt b (16 + 2 * i) 2 = 0)) &&
   ((imgPlans g).all fun p => decide (p.1.sv < n)) && (List.range n).all fun i => (imgPlans g).any fun p => decide (p.1.sv = i))

/-- No two placed sections overlap (R169). -/
def placesOk : List Section → Bool
  | [] => true
  | s :: l => (l.all fun t => decide (s.place + s.length ≤ t.place) || decide (t.place + t.length ≤ s.place)) && placesOk l

/-- Step 4 of Table 7.7. -/
def Device.imgValid (d : Device) (g : Img) : Bool :=
  tilesForm g && shardOk g && placesOk ((imgSecs g).filter (·.placed)) &&
  (imgPlans g).all fun p =>
    planOk (cmdIn (imgSecs g)) p.2 && planZeros p.2 && decide (p.1.length = planLen p.2) && decide (planTag p.2 = 0) &&
    (List.range 3).all fun v => !hasVar p.2 v || varAdmit d.boot.img g p.2 v

/-! ## Placement and release (R169, R175, R179) -/

/-- The powered Facets whose memories have been zeroed. -/
def Device.poweredFacets (d : Device) : List Nat := (List.range 4).filter fun f => (d.facetAt f).powered && !(d.facetAt f).zeroing

/-- Place a section in Facet `f`; WORK is zeroed. -/
def Device.placeIn (d : Device) (g : Img) (f : Nat) (s : Section) : Device :=
  let a := f * 2 ^ 32 + s.place
  if s.prot then d.writeMem a (secBytes g s) false else d.zeroMem a s.length

/-- Place every section in every powered Facet. -/
def Device.placeAll (d : Device) (g : Img) (l : List Section) : Device :=
  d.poweredFacets.foldl (fun d f => l.foldl (fun d s => d.placeIn g f s) d) d

/-- Overwrite placed sections with zeros in every powered Facet. -/
def Device.releaseAt (d : Device) (l : List Section) : Device :=
  d.poweredFacets.foldl (fun d f => l.foldl (fun d s => d.zeroMem (f * 2 ^ 32 + s.place) s.length) d) d

/-- Every placed copy has the digest of its section and carries no mark (R160). -/
def Device.copiesOk (d : Device) (l : List Section) : Bool := d.poweredFacets.all fun f => l.all fun s => d.copyOk f s

/-- The checker reads every placed copy. -/
def Device.copiesRead (d : Device) (l : List Section) : Device :=
  d.poweredFacets.foldl (fun d f => l.foldl (fun d s => d.copyRead f s) d) d

/-- The resident entry that an admitted image gives. -/
def modelFrom (g : Img) : Model :=
  let sh := firstBytes g 9
  { st := .resident, tag := BitVec.ofNat 64 (imgDigest g).toNat, narrowTol := decide (imgFlags g % 2 = 1), sharded := imgSharded g
    sections := imgSecs g, tiles := imgTiles g, chalBase := (match secFirst g 5 with | some s => s.place | none => 0)
    ctxs := imgCtxs g, sysTag := BitVec.ofNat 64 (leAt sh 0 8), svs := leAt sh 10 1
    reqMask := (List.range 4).map fun i => leAt sh (16 + 2 * i) 2 }

/-- Engines narrowed and not covered by NARROW_TOL are fenced (Table 7.7, step 7), for no fault. -/
def Device.fenceNarrow (d : Device) : Device :=
  (List.range 168).foldl (fun d e => if d.narrowFenced e && !(d.engAt e).fenced
    then (d.fenceEngine e).modEng e fun g => { g with faulted := false } else d) d

/-- Release a resident entry: its memory, its contexts, its checker memory. -/
def Device.unloadEntry (d : Device) (n : Nat) : Device :=
  let l := ((d.modelAt n).sections).filter (·.placed)
  ((d.releaseAt l).dropCtxs (ownerOf n)).setModel n .reset

/-! ## The end of a LOAD, REPLACE or UNLOAD -/

/-- End the load in progress. -/
def Device.loadEnd (d : Device) (l : LoadOp) (status : Nat) (result : Word) : Device :=
  ({ d with load := none } : Device).completeWhere (fun r => decide (r.op = l.op) && decide (r.tag = l.tag)) status result

/-- A load that fails: nothing of the model remains. -/
def Device.loadFail (d : Device) (l : LoadOp) (status : Nat) : Device := (d.setModel l.entry .reset).loadEnd l status 0

/-- The source of a load: how many bytes it holds, whether it may be read, and its bytes. -/
def Device.loadSource (d : Device) (a : ReqArgs) : Nat × Bool × Img :=
  if a.a0.toNat = 15 then
    let base := bits a.a2 15 0 * 2 ^ 32 + a.a1.toNat
    let n := a.a3.toNat * 4096
    (n, d.allMapped base n, fun o k => d.peek (base + o) k)
  else
    let p := d.partAt (4 + a.a0.toNat)
    (p.length, p.valid, fun o k => d.flashGet (p.start + o) k)

/-- A source range in device memory lies outside the footprints of a list of sections in every Facet. -/
def srcClear (a : ReqArgs) (l : List Section) : Bool :=
  let base := bits a.a2 15 0 * 2 ^ 32 + a.a1.toNat
  let n := a.a3.toNat * 4096
  decide (a.a0.toNat ≠ 15) || (List.range 4).all fun f => l.all fun s =>
    !s.placed || !overlaps base n (f * 2 ^ 32 + s.place, f * 2 ^ 32 + s.place + s.length)

/-- The bytes of a source in device memory are read (R149, R160): each once. -/
def Device.srcRead (d : Device) (a : ReqArgs) (n : Nat) : Device :=
  if a.a0.toNat = 15 then d.sense (bits a.a2 15 0 * 2 ^ 32 + a.a1.toNat) n else d

/-- The image as read carries the poison mark. -/
def Device.srcPoison (d : Device) (a : ReqArgs) (n : Nat) : Bool :=
  decide (a.a0.toNat = 15) && d.peekPoison (bits a.a2 15 0 * 2 ^ 32 + a.a1.toNat) n

/-- The sections of the resident models but that of entry `n`. -/
def Device.otherSections (d : Device) (n : Nat) : List Section :=
  let m := d.modelAt (1 - n)
  if m.st = .resident then m.sections.filter (·.placed) else []

/-- Steps 5 to 7 of Table 7.7. -/
def Device.loadPlace (d : Device) (l : LoadOp) (g : Img) : Device :=
  let placed := (imgSecs g).filter (·.placed)
  let d' := d.placeAll g placed
  let ok := d'.copiesOk placed
  let d' := d'.copiesRead placed
  if ok then
    ((d'.setModel l.entry (modelFrom g)).modelCtxs l.entry).fenceNarrow.loadEnd l 0 (word l.entry)
  else (d'.releaseAt placed).loadFail l 7

/-- LOAD_COMPLETE: the steps of Table 7.7 in order; `x` is what the read of a flash slot met (R385). -/
def Device.loadDone (d : Device) (x : FlashRead) : Device :=
  match d.load with
  | none => d
  | some l =>
    if l.op = 3 ∨ l.waitTick then d
    else
      let (n, ok, g) := d.loadSource l.args
      let slot := ok && decide (l.args.a0.toNat ≠ 15)
      let bad := slot && x.bad
      let marked := d.srcPoison l.args (imgSig g + 256)
      let d := d.srcRead l.args (if !ok then 0 else if imgForm g n then imgSig g + 256 else 64)
      let d := if slot then d.flashMet x else d
      if !ok || !imgForm g n || !srcClear l.args (imgSecs g ++ d.otherSections l.entry) then d.loadFail l 4
      else if bad || marked || !d.imgSigned g then d.loadFail l 5
      else
        let s := d.shorts g (d.otherSections l.entry)
        let d := d.admReport s
        if s ≠ [] then d.loadFail l 6
        else if !d.imgValid g then d.loadFail l 7
        else d.loadPlace l g

/-- UNLOAD_COMPLETE. -/
def Device.unloadDone (d : Device) : Device :=
  match d.load with
  | some l => if l.op = 3 then (d.unloadEntry l.entry).loadEnd l 0 0 else d
  | none => d

/-! ## Commands -/

/-- LOAD_COMPLETE (R175). -/
def execLoadComplete (read : FlashRead) (s : State) : Host.Outcome State Fault Refusal :=
  act s.dev.cmpAlive (fun d => d.loadDone read) s

/-- UNLOAD_COMPLETE (R179). -/
def execUnloadComplete (s : State) : Host.Outcome State Fault Refusal := act s.dev.cmpAlive Device.unloadDone s

end Sys2Proof.Machine
end

