-- ==== Sys2Proof/Machine/Tick.lean ====
section
/-! DEFINITION. The tick (R29, R36 to R54, R306): the frame it ends, the decisions it applies, the frame it starts; external
synchronization (R42 to R45) and test frames (R306). -/

namespace Sys2Proof.Machine

/-- The default tick period in µs: the structure image's where it lies in range, else 33,333 (R36). -/
def Device.defaultPeriod (d : Device) : Nat :=
  imagePeriod d.boot.img.device

/-! ## The frame that a tick ends -/

/-- An engine that counts has not reached END (R51). -/
def Device.short (d : Device) (e : Nat) : Bool := !d.engOut e && !(d.engAt e).atEnd

/-- The frame in progress is cut short. -/
def Device.overrun (d : Device) : Bool := d.tck.frameOpen && (List.range 168).any d.short

/-- The tick interval lies outside its limits (R41), all in 1/64 ns. -/
def Device.intervalBad (d : Device) : Bool :=
  let i : Int := (d.chkNs : Int) - d.tck.lastTickChk - d.tck.copySteps
  let p : Int := (d.tck.period * 1000 : Nat)
  let w : Int := if d.bitAt Reg.tckCtrl 0 then p else 0
  decide (64 * i < 64 * p - w - 640000) || decide (64 * p + w + 640000 < 64 * i)

/-- The checker's check of the interval (R41), which a granted step in it suspends (R213), and the edge that ends it (R45). Where the frame's
verdict has already been issued it stands (R242), and the next frame is LATE (DESIGN CHOICE, log 128). -/
def Device.checkInterval (d : Device) (acq : Bool) : Device :=
  let t := d.tck
  let d := if !t.firstTick && !t.skipInterval && !t.grantedStep && d.intervalBad
    then (d.addCause 13).chkRaise Src.tickInterval else d
  if acq then d.addCause 13 else d

/-- The arithmetic witness of every ME (R88, R237): its count and the sources received agree, or the next frame is LATE. -/
def Device.witness (d : Device) : Device :=
  (List.range 96).foldl (fun d j =>
    let k := Reg.meAbftFrame (meEngine j)
    let d := if decide (d.reg k ≠ 0) != d.apt.abft.contains j
      then ({ d with apt := { d.apt with carry := d.apt.carry ||| 0x8000 } } : Device).chkRaise Src.aptWitness else d
    d.setReg k 0) d

/-- What the tick announces to a device: time, frame number, system variant, SAFE. A follower takes them from the TICK flit
(R189); without one it ticks at the expected tick, under the variant in force. Other devices number and announce their own. -/
def Device.announced (d : Device) : Nat × Word × Nat × Bool :=
  match d.follower, d.dsk.nextTick with
  | true, some (t, k, _, sv, safe) => (t, word k, sv, safe)
  | true, none => (d.tck.expected, d.frame + 1, d.apt.sv, false)
  | false, _ => (d.timNs, d.frame + 1, d.dsk.annSv.getD 0, d.dsk.annSafe)

/-- What the receiver starts the next frame with: the causes carried over; a frame that gets no verdict leaves no
LATE. -/
def Device.nextCauses (d : Device) (first : Bool) : Device :=
  let c := if d.stw.armed then d.apt.carry else d.apt.carry &&& ~~~0x8000
  let c := if first then c ||| 0x4000 else c
  { d with
    apt := { d.apt with causes := c, carry := 0, issued := true, allEndAt := none, recv := [], abft := [], packets := []
                        acks := [], prevDraws := d.apt.draws, draws := [], chalFail := none, parFail := none
                        slotNext := 0, splicing := false, spliceDue := false, zone := d.zoneNow }
    cvu := { d.cvu with raised := c.getLsbD 3, frameFail := d.cvu.nextFail, nextFail := 0 } }

/-- The tick itself (R37): the frame in progress ends and gets its verdict (R18), time and number of the new frame are
noted, and what is latched at the tick is latched. `acq`: a synchronization acquisition edge produces it. -/
def Device.tickFront (d : Device) (acq cut : Bool) : Device :=
  let a := d.announced
  let first := d.dsk.newMaster || d.dsk.sysCause
  let d := if d.dsk.newMaster then d.addCause 14 else d
  let d := (((d.checkInterval acq).witness).winsEnd.winsKeep).verdictAtTick cut
  let d := d.closeGrid.nextCauses first
  let d := ((d.setReg Reg.tckFrame a.2.1).setReg Reg.tckLastNs (word d.tim.ns)).setReg Reg.tckLastSec (word d.tim.sec)
  let d := d.raise Reg.tckStatus 9
  let d := { d with
    tck := { d.tck with lastTickChk := d.chkNs, copySteps := 0, tickQ := d.q, firstTick := false, phaseRef := a.1
                        expected := a.1 + d.spanUs * 1000, grantedStep := false, frameOpen := false
                        skipInterval := acq || decide (d.ctime.st = CopyState.notStarted) }
    apt := { d.apt with sv := a.2.2.1 }
    tim := { d.tim with tickNs := d.timNs }
    dsk := { d.dsk with nextTick := none, sysCause := false, newMaster := false } }
  let d := if a.2.2.2 then d.decideSafe 0xE2 false else d
  d.tickTriggers.tickLens.tickEth.tickRoutes.formPresent.sendStatus.tickSnapshot

/-! ## The decisions of the tick (R29) -/

/-- Step 1: the end of STARTUP_TEST (R305). -/
def Device.endTests (d : Device) : Device :=
  if d.chk.dev = .startupTest ∧ d.chk.testsDone then
    let d := d.setState .configured
    let d := { d with chk := { d.chk with testsDone := false }, tck := { d.tck with testPlan := [], testWait := false } }
    d.setReg Reg.bootTime (BitVec.ofInt 32 (unitQuot d.q msQ))
  else d

/-- Step 1: entry into SAFE for the decisions that have fallen (R422); a pending swap is not performed then. -/
def Device.tickSafe (d : Device) : Device :=
  let l := d.chk.decisions
  let d := { d with chk := { d.chk with decisions := [] } }
  if !d.inService ∨ l = [] then d
  else
    let was := d.chk.dev
    let d := d.enterSafe l
    match d.tck.swap with
    | some w => if was ≠ .safe ∧ w.stage = .pending then d.swapEnd 1 else d
    | none => d

/-- Step 1: the MAINT request that was accepted (R306); a swap in progress ends with it (DESIGN CHOICE, log 37). -/
def Device.tickMaint (d : Device) : Device :=
  if (d.hif.running.any fun r => decide (r.op = 8)) ∧ (d.chk.dev = .configured ∨ d.chk.dev = .safe) then
    let d := (d.swapEnd 1).enterMaint
    { d with tck := { d.tck with period := d.defaultPeriod, expected := d.tck.phaseRef + d.defaultPeriod * 1000 } }
  else d

/-- The REPLACE that waits for this tick unloads every model, and no plan is active from now on (R180). -/
def Device.tickReplace (d : Device) : Device :=
  match d.load with
  | some l =>
    if !l.waitTick then d
    else
      let d := ((d.unloadEntry 0).unloadEntry 1).swapEnd 1
      let d := { d with
        tck := { d.tck with active := none, variant := none, period := d.defaultPeriod, rsv := 0, stm := 0, modelTag := 0
                            plan := .reset, used := [] } }
      ({ d with load := some { l with entry := 0, waitTick := false } } : Device).setModel 0 { Model.reset with st := .loading }
  | none => d

/-- Step 2: a Facet whose return has been accepted 100 µs before the tick is reinstated (R297). -/
def Device.reinstate (d : Device) (f : Nat) : Device :=
  let x := d.facetAt f
  if x.st = .returnPending ∧ x.acceptedAt + 100 * usQ ≤ d.tck.tickQ then
    let d := (d.freeFacet f).modFacet f fun x => { x with st := .healthy }
    d.completeWhere (fun r => decide (r.op = 10) && decide (bits r.a0 1 0 = f)) 0 0
  else d

/-- Step 2: a Facet that holds a fenced unit is fenced whole and powered down (R295); it is powered up again for its
test unless it is to stay down (R297, R298). -/
def Device.fenceStep (d : Device) (f : Nat) : Device :=
  let d := if (d.facetAt f).powered && decide ((d.facetAt f).st = .healthy) && d.faultFenced f then d.fenceFacet f else d
  let x := d.facetAt f
  if !x.powered then d
  else if x.st = .fenced then ((d.facetOff f).facetOn f).modFacet f fun x => { x with st := .testing }
  else if x.st = .locked ∨ x.st = .failed then d.facetOff f
  else d

/-- Step 2: fences first, then reinstatements, then the count (R23). -/
def Device.facetStep (d : Device) : Device :=
  let d := (List.range 4).foldl (fun d f => d.fenceStep f) d
  let d := (List.range 4).foldl (fun d f => d.reinstate f) d
  { d with chk := { d.chk with healthy := d.healthyFacets.length } }

/-- Step 3: a swap whose comparison completed 100 µs before the tick takes effect (R48). -/
def Device.swapStep (d : Device) : Device :=
  match d.tck.swap with
  | some w =>
    if w.stage = .pending ∧ w.doneAt + 100 * usQ ≤ d.tck.tickQ then
      let d := (d.takePlan w.slot).swapEnd 0
      { d with chk := { d.chk with causes := d.chk.causes.filter (· ≠ 0xE1) } }
    else d
  | none => d

/-- Step 4: the plan variant for the Facets `l` that step 2 found healthy, or SAFE (R24, R29). `entered`: this tick has
entered SAFE, and it does so once (R422). -/
def Device.variantStep (d : Device) (l : List Nat) (entered : Bool) : Device :=
  let d := d.chooseVar l d.apt.sv
  if d.inService && (decide (d.chk.healthy < 2) || (d.tck.active.isSome && d.tck.variant.isNone)) then
    let d := d.enterSafe [⟨0xE4, false⟩]
    if entered then { d with chk := { d.chk with cause := min d.chk.cause 0xE4 } } else d
  else d

/-- The OTP is programmed at the first entry into RUN after a boot whose structure image commits (R381). -/
def Device.commit (d : Device) : Device :=
  if d.chk.runSeen then d
  else
    let d := { d with chk := { d.chk with runSeen := true } }
    if !d.boot.img.device.commit then d
    else
      let o := d.boot.otp
      let keep : BitVec 8 := BitVec.ofNat 8 (2 ^ d.boot.imgKey)
      let o := { o with bootCtr := max o.bootCtr (min 64 d.boot.bootVersion), structCtr := max o.structCtr (min 64 d.boot.imgVersion)
                        revoked := o.revoked ||| (d.boot.img.device.revokeMask &&& ~~~keep) }
      ({ d with boot := { d.boot with otp := o } } : Device).setBit Reg.bootStatus 6 true

/-- Enter RUN or DEGRADED by the healthy count. -/
def Device.enterRunning (d : Device) : Device :=
  if d.chk.healthy = 4 then (d.setState .run).commit else d.setState .degraded

/-- A deliberate reset is armed at this tick (R337). -/
def Device.armed (d : Device) : Bool :=
  match d.chk.armedAt with | some t => decide (d.tck.tickQ < t + 10 * sQ) | none => false

/-- CONFIGURED leads to RUN or DEGRADED, and these lead to each other, by the count of this tick (Table 1.7). A demand in
force is decided for the next tick (R329). -/
def Device.runStep (d : Device) : Device :=
  if d.chk.dev.running then
    if d.chk.dev = (if d.chk.healthy = 4 then DevState.run else .degraded) then d else d.enterRunning
  else if d.chk.dev = .configured ∧ d.tck.active.isSome ∧ 2 ≤ d.chk.healthy ∧ d.apt.restrict = 0 ∧ d.armed ∧ !d.core.split then
    let d := ({ d with chk := { d.chk with armedAt := none } } : Device).enterRunning
    if d.demandNow then d.decideSafe 0xE5 true else d
  else d

/-- SAFE gives way to CONFIGURED where every cause is cleared and any lockout is ended by a reset that takes effect now
(R422). -/
def Device.safeExit (d : Device) (reset : Bool) : Device :=
  if d.chk.dev = .safe ∧ d.causesClear ∧ (!d.chk.lockout ∨ reset) then
    let d := d.setState .configured
    { d with chk := { d.chk with causes := [], lockout := false } }
  else d

/-! ## The frame that a tick starts -/

/-- The device lies outside the REQ_MASK of the announced system variant (R192). -/
def Device.outsideMask (d : Device) : Bool :=
  match d.activeModel with
  | some m => m.sharded && decide (natBits (nth m.reqMask d.apt.sv 0) d.devId d.devId = 0)
  | none => false

/-- An engine at the start of a frame: `p` is its start pointer, 0 for END at once (R37, R109). -/
def Eng.restart (g : Eng) (p : Nat) : Eng :=
  let idle := decide (p = 0) || g.fenced
  { g with stopped := false, start := p, fetch := if idle then none else some p, queue := [], loops := []
           phase := if idle then .idle else .executing, blocked := none, waitDone := false, acts := [], atEnd := idle, veOut := [] }

/-- The start pointer of engine `e` in the frame: that of its logical engine (R48, R306). -/
def Device.startOf (d : Device) (test : Bool) (e : Nat) : Nat :=
  if (d.prismAt (e / 7)).disabled || !(d.facetAt (e / 42)).powered then 0
  else if test then ((d.tck.testPlan.find? fun x => decide (x.1 = e)).map (·.2)).getD 0
  else if d.tck.variant.isNone || d.outsideMask || !d.tck.map.contains (e / 42) then 0
  else nth d.tck.plan.starts (42 * d.lfOf e + e % 42) 0

/-- Every engine restarts or stays idle; arrays lose their weights and descriptors (R37, R109). -/
def Device.restartAll (d : Device) (start : Nat → Nat) : Device :=
  let d := (List.range 168).foldl (fun d e => d.modEng e fun g => g.restart (start e)) d
  { d with me := [] }

/-- Token counters clear; SIGNALs on their way stay (R37). -/
def Device.clearTokens (d : Device) : Device :=
  let d := (List.range 24).foldl (fun d q => (List.range 64).foldl (fun d i => d.setCtr (.prm q i) 0) d) d
  let d := (List.range 4).foldl (fun d f => (List.range 32).foldl (fun d i => d.setCtr (.fct f i) 0) d) d
  (List.range 16).foldl (fun d i => d.setCtr (.dev i) 0) d

/-- No frame starts: the token counters clear as at every tick, and every engine idles (R37, R306). -/
def Device.noFrame (d : Device) : Device :=
  let d := d.clearTokens.restartAll fun _ => 0
  { d with tck := { d.tck with frameOpen := false }, stw := { d.stw with wins := [], armed := false } }

/-- Start the frame. -/
def Device.startFrame (d : Device) : Device :=
  let test := d.inTest
  let d := if test then { d with tck := { d.tck with map := [0, 1, 2, 3], plan := .reset, variant := none, period := d.defaultPeriod } } else d
  let d := { d with
    tck := { d.tck with expected := d.tck.phaseRef + d.spanUs * 1000, frameOpen := true, allEndSent := false }
    rsv := if d.tck.rsv = 0 then [] else (List.range 32).map fun k => (k, d.tck.rsv)
    apt := { d.apt with issued := test, none_ := d.tck.active.isNone || d.outsideMask, healthy := d.chk.healthy
                        causes := d.apt.causes ||| (d.apt.carry &&& 0x8000), carry := d.apt.carry &&& ~~~0x8000
                        spliceDue := !test && !d.tck.plan.man.slots.isEmpty } }
  let d := (d.winsStart test).clearTokens
  (d.restartAll (d.startOf test)).restartLens.restartEth.reportEnd

/-- The remaining steps of R37, once the frame before has ended: the decisions of R29 in their order, then the new frame.
A tick that enters MAINT, or that ends the last test frame, starts none (R306). -/
def Device.tickBack (d : Device) : Device :=
  let reset := d.chk.accepted
  let safe := decide (d.chk.dev = .safe)
  let d := if reset then d.takeReset else d
  let d := d.endTests.tickSafe
  let entered := decide (d.chk.dev = .safe) && !safe
  let d := d.tickMaint.tickReplace.facetStep
  let l := d.healthyFacets
  if d.chk.dev = .maint ∧ (!d.tck.running ∨ d.tck.testEnd) then
    let d := { d with tck := { d.tck with running := false, testEnd := false } }
    d.noFrame
  else
    let d := if d.inTest then d else d.swapStep.variantStep l entered
    ((d.runStep).safeExit reset).startFrame

/-! ## Abandonment (R51, R54) -/

/-- An engine that has not reached END stops starting work: an ME keeps its streams, a VE leaves its destination partly
written (how far is not stated, log 14), an FE or SE issues no further request. -/
def Device.abandonEngine (d : Device) (e : Nat) : Device :=
  if !d.short e then d
  else
    let m := d.meAt e
    let d := if engKind e ≠ 0 then d
      else d.setMe e { m with pipe := m.pipe.filter fun x => x.s.isSome
                              shadow := if m.pipe.any fun x => x.s.isNone && !mmReuse x.word then none else m.shadow }
    let out := (d.engAt e).veOut
    let d := if out.isEmpty then d else (d.veWrite e (out.take (Config.vePartial d.free % (out.length + 1)))).draw
    d.modEng e fun g => { g with
      phase := .abandoning, blocked := none, fetch := none, queue := [], loops := [], veOut := []
      acts := g.acts.map fun a => { a with total := a.next } }

/-- Abandonment of frame `k` starts: SENDs that have not fully reached the checker are discarded, and events from here on fall in
the next snapshot (R366). -/
def Device.abandonStart (d : Device) (low : Nat) (k : Word) : Device :=
  let d := (List.range 168).foldl (fun d e => d.abandonEngine e) d.snapEnd
  { d with tck := { d.tck with abandoning := true, ovrEng := low, ovrFrame := k }, apt := { d.apt with packets := [], acks := [] } }

/-- No engine has work of the old frame left. -/
def Device.quiet (d : Device) : Bool :=
  (List.range 168).all fun e =>
    d.engOut e || ((d.engAt e).acts.all fun a => a.out.isEmpty) && (d.meAt e).pipe.all fun x => decide (x.rows.length ≤ x.next)

/-- The streams in progress write the rows that are left, and their commands complete; the SIGNALs are discarded (R51, R70). -/
def Device.drainStreams (d : Device) : Device :=
  (List.range 168).foldl (fun d e =>
    let n := (d.meAt e).pipe.length
    let d := iterN (fun _ d => d.rowWrite e) (sumBy (fun x => x.rows.length - x.next) (d.meAt e).pipe) d
    iterN (fun _ d => d.meCommandDone e) n d) d

/-- Abandonment completes (R51, R54): the overrun is counted, and the remaining steps of R37 follow. -/
def Device.abandonEnd (d : Device) : Device :=
  let d := d.drainStreams.tagsAbandon
  let k := d.tck.ovrFrame.toNat
  let d := ((d.raise Reg.tckStatus 4).incr Reg.tckOvrCnt).setReg Reg.tckOvrEng (word (k % 65536 * 65536 + d.tck.ovrEng))
  let d := d.pairRaise Src.overrun
  ({ d with tck := { d.tck with abandoning := false } } : Device).tickBack

/-- A tick. -/
def Device.tickNow (d : Device) (acq : Bool) : Device :=
  let cut := d.overrun
  let low := ((List.range 168).find? d.short).getD 0xFF
  let k := d.frame
  let d := d.tickFront acq cut |>.memDrainAll
  if cut then d.abandonStart low k else d.tickBack

/-- Ticks fall: the tick generator runs and no abandonment is in progress. -/
def Device.ticking (d : Device) : Bool :=
  d.cmpAlive && d.tck.running && !d.tck.abandoning && decide (d.chk.dev ≠ .fatal) && decide (d.chk.dev ≠ .boot)

/-- Abandonment may complete: the old frame's work is done, or 4 µs have passed (R51). -/
def Device.abandonReady (d : Device) : Bool :=
  d.cmpAlive && d.tck.abandoning && decide (d.chk.dev ≠ .fatal) && (d.quiet || decide (d.tck.tickQ + 4 * usQ ≤ d.q))

/-! ## External synchronization (R42 to R45) -/

/-- FRAME_SYNC is used: on a device that sets its own ticks, with SYNC_EN. -/
def Device.syncUsed (d : Device) : Bool := d.cmpAlive && d.bitAt Reg.tckCtrl 0 && d.isMaster

/-- The offset of the time `e` from the nearest tick of the schedule, in ns. -/
def Device.syncOffset (d : Device) (e : Nat) : Int :=
  let p := d.tck.period * 1000
  if p = 0 then 0
  else
    let r := (e - d.tck.phaseRef) % p
    if 2 * r < p then r else (r : Int) - p

/-- An edge that is not applied counts as out-of-window (R43, R44). -/
def Device.edgeOut (d : Device) : Device :=
  let d := (d.raise Reg.tckStatus 1).count Reg.tckSyncCnt 15 0 1
  let n := min 4 (d.tck.oowRun + 1)
  let d := { d with tck := { d.tck with oowRun := n, inRun := 0 } }
  if n = 4 ∧ d.tck.sync = .locked then ({ d with tck := { d.tck with sync := .freeRun } } : Device).raise Reg.tckStatus 3 else d

/-- An edge is applied (R42): before its tick it becomes the tick, after it the next tick moves. In MAINT and in test
frames it moves nothing. -/
def Device.edgeApply (d : Device) (o : Int) : Device :=
  let d := d.setReg Reg.tckSyncOfs (BitVec.ofInt 32 o)
  let d := { d with tck := { d.tck with oowRun := 0, inRun := 0, sync := .locked } }
  if d.inTest then d
  else if o < 0 then (if d.ticking then d.tickNow false else d)
  else { d with tck := { d.tck with phaseRef := d.timNs, expected := d.timNs + d.tck.period * 1000 } }

/-- An edge in LOCKED or FREE_RUN (R42 to R44). -/
def Device.edgeJudge (d : Device) : Device :=
  let o := d.syncOffset d.timNs
  if d.tck.edgeUsed ∨ d.tck.period * 1000 < 64 * o.natAbs then d.edgeOut
  else
    let d := { d with tck := { d.tck with edgeUsed := true } }
    if d.tck.sync = .locked then d.edgeApply o
    else
      let n := d.tck.inRun + 1
      if n < 4 then { d with tck := { d.tck with inRun := n } } else d.edgeApply o

/-- The first edge after SYNC_ACQ (R45): a tick, or in MAINT the phase of the schedule. An edge inside the guard of an
abandonment ends the abandonment first (DEDUCED, log 129). -/
def Device.edgeAcquire (d : Device) : Device :=
  let d := { d with tck := { d.tck with sync := .locked, oowRun := 0, inRun := 0, edgeUsed := true } }
  if d.chk.dev = .maint then
    { d with tck := { d.tck with phaseRef := d.timNs, expected := d.timNs + d.tck.period * 1000 } }
  else
    let d := if d.tck.abandoning then d.abandonEnd else d
    if d.ticking then d.tickNow true else d

/-- FRAME_SYNC_EDGE. -/
def Device.syncEdge (d : Device) : Device :=
  match d.tck.sync with
  | .disabled => d
  | .acquiring => d.edgeAcquire
  | .locked | .freeRun => d.edgeJudge

/-- SYNC_WINDOW_CLOSE: a window without an edge is missed (R43). -/
def Device.windowClose (d : Device) : Device :=
  if d.tck.sync ≠ .locked ∧ d.tck.sync ≠ .freeRun then d
  else
    let used := d.tck.edgeUsed
    let d := { d with tck := { d.tck with edgeUsed := false } }
    if used then d else (d.raise Reg.tckStatus 2).count Reg.tckSyncCnt 31 16 1

/-- SYNC_ACQ. -/
def Device.syncAcq (d : Device) : Device :=
  if d.inStandby then { d with tck := { d.tck with sync := .acquiring, edgeUsed := false } } else d.raise Reg.tckStatus 8

/-! ## Test frames (R306) -/

/-- TCK_CTRL.TEST_RUN. -/
def Device.testRunWrite (d : Device) (run : Bool) : Device :=
  if run then
    if d.bitAt Reg.tckCtrl 2 then d
    else if d.chk.dev = .maint then ({ d with tck := { d.tck with testWait := true } } : Device).setBit Reg.tckCtrl 2 true
    else d.raise Reg.tckStatus 10
  else
    let d := d.setBit Reg.tckCtrl 2 false
    if d.chk.dev = .maint then { d with tck := { d.tck with testWait := false, testEnd := d.tck.running } } else d

/-- The first point of the default-period schedule after now. -/
def Device.nextPoint (d : Device) : Nat :=
  let p := d.defaultPeriod * 1000
  if p = 0 then d.timNs else d.tck.phaseRef + ((d.timNs - d.tck.phaseRef) / p + 1) * p

/-- The powered Facets. -/
def Device.powered (d : Device) : List Nat := (List.range 4).filter fun f => (d.facetAt f).powered

/-- The housekeeping core places the test plan, its commands, weights and expected results in every powered Facet, each part as its
flash read brought it. -/
def Device.placeTest (d : Device) (parts : List (List Byte)) : Device :=
  d.powered.foldl (fun d f => (d.boot.test.zip parts).foldl (fun d x =>
    d.writeMem (f * 2 ^ 32 + x.1.1) (slice x.2 0 x.1.2.length) false) d) d

/-- Every placed copy is that of the boot image. -/
def Device.testPlaced (d : Device) : Bool :=
  d.powered.all fun f => d.boot.test.all fun x =>
    !d.peekPoison (f * 2 ^ 32 + x.1) x.2.length && decide (d.peek (f * 2 ^ 32 + x.1) x.2.length = x.2)

/-- The checker's reads of the placed copies have their effects (R149). -/
def Device.testSense (d : Device) : Device :=
  d.powered.foldl (fun d f => d.boot.test.foldl (fun d x => d.sense (f * 2 ^ 32 + x.1) x.2.length) d) d

/-- The start pointers of the test plan by physical engine: its 4-Facet variant block. -/
def Device.testStarts (d : Device) : List (Nat × Nat) :=
  match d.boot.test with
  | [] => []
  | x :: _ => ((varStarts (varBlock x.2 0)).zipIdx).map fun p => (p.2, p.1)

/-- The test plan is placed, where the flash read of the boot image succeeded, and every copy of it verified: ticks start on the
schedule. -/
def Device.testVerified (d : Device) (parts : List (List Byte)) (read : FlashRead) : Device :=
  if !d.tck.testWait ∨ !d.inTest then d
  else
  let d := d.flashMet read
  let d := if read.bad then d else d.placeTest parts
  let ok := !read.bad && d.testPlaced
  let d := d.testSense
  if !ok then { d with tck := { d.tck with testWait := false } }
  else
    let first := d.tck.firstTick || !d.tck.running
    { d with tck := { d.tck with testPlan := d.testStarts, testWait := false, testEnd := false, running := true, firstTick := first
                                 expected := d.nextPoint } }

/-! ## Commands -/

/-- TICK (R37). -/
def execTick (s : State) : Host.Outcome State Fault Refusal := act s.dev.ticking (fun d => d.tickNow false) s

/-- ABANDONMENT_COMPLETE (R51). -/
def execAbandonmentComplete (s : State) : Host.Outcome State Fault Refusal := act s.dev.abandonReady Device.abandonEnd s

/-- FRAME_SYNC_EDGE (R42). -/
def execFrameSyncEdge (s : State) : Host.Outcome State Fault Refusal := act s.dev.syncUsed Device.syncEdge s

/-- SYNC_WINDOW_CLOSE (R43). -/
def execSyncWindowClose (s : State) : Host.Outcome State Fault Refusal := act s.dev.syncUsed Device.windowClose s

/-- SYNC_ACQ (R45). -/
def execSyncAcq (s : State) : Host.Outcome State Fault Refusal := act s.dev.hostUp Device.syncAcq s

/-- TEST_RUN (R306). -/
def execTestRun (run : Bool) (s : State) : Host.Outcome State Fault Refusal := act s.dev.hostUp (fun d => d.testRunWrite run) s

/-- TEST_PLAN_VERIFIED (R306). -/
def execTestPlanVerified (parts : List (List Byte)) (read : FlashRead) (s : State) : Host.Outcome State Fault Refusal :=
  act s.dev.cmpAlive (fun d => d.testVerified parts read) s

end Sys2Proof.Machine
end

