-- ==== Sys2Proof/Machine/Image.lean ====
section
/-! DEFINITION. Boot and structure images as bytes (R379, R383, Tables 8.2, 9.3, 9.4, 10.2, 11.1, 13.1), and the rules by which the
verification refuses a structure image (R382). -/

namespace Sys2Proof.Machine

/-! ## The header and the directory (R351, R379, R383) -/

/-- The signed number in `n` bytes of `l` at `ofs`. -/
def sAt (l : List Byte) (ofs n : Nat) : Int := sext (8 * n) (leAt l ofs n)

/-- SIG_OFS of an image. -/
def slotSig (b : List Byte) : Nat := leAt b 16 8
/-- VERSION of an image. -/
def slotVersion (b : List Byte) : Nat := leAt b 8 4
/-- The signature block of an image. -/
def slotBlock (b : List Byte) : SigBlock := sigBlockOf (slice b (slotSig b) 256)
/-- The digest of an image: SHA-384 over bytes 0 to SIG_OFS - 1. -/
def slotDigest (b : List Byte) : BitVec 384 := sha384 (slice b 0 (slotSig b))

/-- TAG and FORMAT of an image whose tag ends in `kind`: version 1.0 alone is accepted (R351). A boot image has the header of a
structure image (DESIGN CHOICE, log 47). -/
def headOk (kind : Byte) (b : List Byte) : Bool :=
  decide (slice b 0 4 = [0x46, 0x5A, kind, 0x00]) && decide (leAt b 4 2 = 0x0100) && allZero (slice b 6 2) && allZero (slice b 12 4) &&
  allZero (slice b 24 40) && decide (slotSig b + 256 ≤ b.length)

/-- A directory entry: ID, OFFSET and LENGTH. -/
def dirEnt (b : List Byte) (i : Nat) : Nat × Nat × Nat :=
  (leAt b (64 + 16 * i) 1, leAt b (68 + 16 * i) 4, leAt b (72 + 16 * i) 4)

/-- The directory. -/
def dirOf (b : List Byte) : List (Nat × Nat × Nat) := (List.range 10).map (dirEnt b)

/-- Two address ranges [a.1, a.2) and [b.1, b.2) have no address in common. -/
def apart (a b : Nat × Nat) : Bool := decide (a.2 ≤ b.1) || decide (b.2 ≤ a.1) || decide (a.2 ≤ a.1) || decide (b.2 ≤ b.1)

/-- The elements of a list are pairwise related. -/
def allPairs {α : Type} (r : α → α → Bool) : List α → Bool
  | [] => true
  | x :: l => l.all (r x) && allPairs r l

/-- Every section of Table 16.5 appears once, 64-byte aligned, between the directory and SIG_OFS, and no two overlap. -/
def dirOk (b : List Byte) : Bool :=
  let l := dirOf b
  ((List.range 10).all fun n => decide (countBy (fun (x : Nat × Nat × Nat) => decide (x.1 = n + 1)) l = 1)) &&
  (l.all fun x => decide (x.2.1 % 64 = 0) && decide (224 ≤ x.2.1) && decide (x.2.1 + x.2.2 ≤ slotSig b)) &&
  (allPairs (fun x y => apart (x.2.1, x.2.1 + x.2.2) (y.2.1, y.2.1 + y.2.2)) l) &&
  (List.range 10).all fun i => allZero (slice b (65 + 16 * i) 3) && allZero (slice b (76 + 16 * i) 4)

/-- The bytes of section `n`. -/
def secAt (b : List Byte) (n : Nat) : List Byte :=
  match (dirOf b).find? fun x => decide (x.1 = n) with
  | some x => slice b x.2.1 x.2.2
  | none => []

/-- Pieces of `n` bytes. -/
def records (l : List Byte) (n : Nat) : List (List Byte) := (List.range (l.length / n)).map fun i => slice l (n * i) n

/-! ## Section contents -/

/-- A Lens stream record (Table 8.2). -/
def lensRecOf (b : List Byte) : LensRec where
  en := bit (word (leAt b 0 1)) 0
  matrixEn := bit (word (leAt b 0 1)) 1
  dense := bit (word (leAt b 0 1)) 2
  port := leAt b 1 1
  vc := leAt b 2 1
  dt := leAt b 3 1
  x0 := leAt b 4 2
  y0 := leAt b 6 2
  w := leAt b 8 2
  h := leAt b 10 2
  ow := leAt b 12 2
  oh := leAt b 14 2
  ofmt := leAt b 16 1
  maxAge := leAt b 17 1
  matrix := (List.range 9).map fun i => sAt b (20 + 2 * i) 2
  offset := (List.range 3).map fun i => leAt b (38 + i) 1
  gain := (List.range 3).map fun i => word (leAt b (44 + 4 * i) 4)
  bias := (List.range 3).map fun i => word (leAt b (56 + 4 * i) 4)
  bufOfs := leAt b 68 8
  bufStride := leAt b 76 4
  viewOfs := leAt b 80 8
  rowPitch := leAt b 88 4

/-- The reserved bits of a Lens stream record are 0. -/
def lensZeros (b : List Byte) : Bool :=
  decide (leAt b 0 1 < 8) && allZero (slice b 18 2) && allZero (slice b 41 3) && allZero (slice b 92 4)

/-- An Ethernet filter entry (R204). -/
def filterOf (b : List Byte) : EthFilter :=
  ⟨leAt b 0 2, bit (word (leAt b 2 1)) 0, bit (word (leAt b 2 1)) 1, leAt b 3 1, leAt b 4 2⟩

/-- An Ethernet view record (R205). -/
def viewRecOf (b : List Byte) : EthViewRec := ⟨leAt b 0 8, leAt b 8 4, leAt b 12 8⟩

/-- A range sensor record (Table 9.4). -/
def sensorRecOf (b : List Byte) : SensorRec where
  port := leAt b 0 1
  prot := bit (word (leAt b 1 1)) 0
  srcMac := leAt b 2 6
  udpPort := leAt b 8 2
  ctx := leAt b 10 2
  hdr := leAt b 12 2
  stride := leAt b 14 2
  xofs := leAt b 16 1
  yofs := leAt b 17 1
  zofs := leAt b 18 1
  ftype := leAt b 19 1
  unitUm := leAt b 20 2
  minPts := leAt b 24 4
  rot := (List.range 9).map fun i => sAt b (28 + 2 * i) 2
  trans := (List.range 3).map fun i => sAt b (46 + 4 * i) 4

/-- The reserved bits of a range sensor record are 0. -/
def sensorZeros (b : List Byte) : Bool := decide (leAt b 1 1 < 2) && allZero (slice b 22 2) && allZero (slice b 58 6)

/-- A range record (Table 9.3). -/
def rangeRecOf (b : List Byte) : RangeRec where
  cellMm := leAt b 0 2
  thr := leAt b 2 1
  sensors := BitVec.ofNat 8 (leAt b 3 1)
  gx0 := sAt b 4 4
  gy0 := sAt b 8 4
  zmin := sAt b 12 4
  zmax := sAt b 16 4
  sensor := (List.range 8).map fun i => sensorRecOf (slice b (32 + 64 * i) 64)
  ignore := (List.range 16384).filter fun c => mapBit (slice b 544 2048) c

/-- The reserved bytes of a range record and of its enabled sensors are 0. -/
def rangeZeros (b : List Byte) : Bool :=
  allZero (slice b 20 12) &&
  (List.range 8).all fun i => !bit (word (leAt b 3 1)) i || sensorZeros (slice b (32 + 64 * i) 64)

/-- A safety parameter set (Table 13.1). -/
def safetySetOf (b : List Byte) : SafetySet where
  sealCode := leAt b 0 1
  en := bit (word (leAt b 1 1)) 0
  sdiEn := bit (word (leAt b 1 1)) 1
  slpEn := bit (word (leAt b 1 1)) 2
  m := leAt b 2 1
  n := leAt b 3 1
  enc0Nm := sAt b 4 4
  enc1Nm := sAt b 8 4
  discV := leAt b 12 2
  discRel := leAt b 14 1
  discMs := leAt b 15 1
  vStill := leAt b 16 2
  vFast := leAt b 18 2
  decel := leAt b 20 2
  rampDelay := leAt b 22 2
  dirTol := leAt b 24 2
  vRef := leAt b 26 2
  zPos := sAt b 28 4
  posMin := sAt b 32 4
  posMax := sAt b 36 4
  cls := (List.range 8).map fun i =>
    let f := word (leAt b (50 + 8 * i) 1)
    ⟨leAt b (48 + 8 * i) 2, bit f 0, bit f 1, bit f 2, bit f 3⟩
  field := (List.range 112).map fun i =>
    ⟨leAt b (112 + 4 * i) 1, leAt b (113 + 4 * i) 1, leAt b (114 + 4 * i) 1, leAt b (115 + 4 * i) 1⟩
  range := rangeRecOf (slice b 576 2592)

/-- The reserved bits and bytes of a safety parameter set are 0. -/
def safetyZeros (b : List Byte) : Bool :=
  decide (leAt b 1 1 < 8) && allZero (slice b 40 8) && allZero (slice b 560 16) && allZero (slice b 3168 928) &&
  ((List.range 8).all fun i => decide (leAt b (50 + 8 * i) 1 < 16) && allZero (slice b (51 + 8 * i) 5)) && rangeZeros (slice b 576 2592)

/-- A context entry (Table 11.1). -/
def ctxEntryOf (b : List Byte) : CtxEntry :=
  ⟨leAt b 0 2, bit (word (leAt b 2 1)) 0, bit (word (leAt b 2 1)) 1, leAt b 3 1, word (leAt b 4 4)⟩

/-- A context entry has no reserved bit set. -/
def ctxZeros (b : List Byte) : Bool := decide (leAt b 2 1 < 4) && decide (leAt b 3 1 < 16) && allZero (slice b 8 8)

/-- The content of a structure image. Section ETHERNET holds the filters of eight ports, eight views and eight corrections in this
order, and LENS its records first (DESIGN CHOICE, log 47). -/
def structOf (b : List Byte) (o : OpenSecs) : StructImg :=
  let e := secAt b 4
  { device := o.device, pins := o.pins, diesk := o.diesk
    tolerance := (List.range 4).map fun i => word (leAt (secAt b 2) (4 * i) 4)
    lens := ((records (secAt b 3) 96).take 16).map lensRecOf
    filters := (List.range 8).map fun p => (records (slice e (128 * p) 128) 8).map filterOf
    views := (List.range 8).map fun v => viewRecOf (slice e (1024 + 32 * v) 32)
    tsAdj := (List.range 8).map fun p => word (leAt e (1280 + 4 * p) 4)
    reaction := (records (secAt b 6) 2).map fun x => BitVec.ofNat 16 (leNat x)
    safety := (records (secAt b 7) 4096).map safetySetOf
    stage := (records (secAt b 8) 16).map winOf
    contexts := (records (secAt b 9) 16).map ctxEntryOf }

/-- Lengths of the sections, and 0 in every reserved bit of an enabled record. -/
def structZeros (b : List Byte) : Bool :=
  decide ((secAt b 2).length = 16) && decide (1536 ≤ (secAt b 3).length) && decide (1312 ≤ (secAt b 4).length) &&
  decide ((secAt b 6).length = 1024) && decide ((secAt b 7).length = 65536) && decide ((secAt b 8).length % 16 = 0) &&
  decide ((secAt b 9).length % 16 = 0) &&
  (((records (secAt b 3) 96).take 16).all fun x => !(lensRecOf x).en || lensZeros x) &&
  ((records (secAt b 7) 4096).all fun x => !(safetySetOf x).en || safetyZeros x) &&
  (records (secAt b 8) 16).all winZeros && (records (secAt b 9) 16).all ctxZeros

/-! ## Refusal rules for a structure image (R382) -/

/-- The model area within a Facet (R169). -/
def DevSec.modelArea (v : DeviceSec) : Nat × Nat := (v.maBase, v.maEnd)

/-- The result buffers within a Facet (R245). -/
def DevSec.results (v : DeviceSec) : Nat × Nat := (v.resOfs, v.resOfs + 2 * v.resBytes)

/-- A plan slot within its Facet. -/
def slotLocal (a : Nat) : Nat × Nat := (a % 2 ^ 32, a % 2 ^ 32 + 0x400000)

/-- A plan slot's base (R47). -/
def slotBaseOk (v : DeviceSec) (a : Nat) : Bool :=
  decide (a % 0x100000 = 0) && decide (a < 0x400000000) && decide (a % 2 ^ 32 + 0x400000 ≤ 2 ^ 32) &&
  apart (slotLocal a) (DevSec.modelArea v) && apart (slotLocal a) (DevSec.results v)

/-- Section DEVICE (R36, R47, R245). -/
def deviceOk (v : DeviceSec) : Bool :=
  slotBaseOk v v.slotA && slotBaseOk v v.slotB &&
  apart (v.slotA, v.slotA + 0x400000) (v.slotB, v.slotB + 0x400000) && apart (DevSec.results v) (DevSec.modelArea v)

/-- Pixel size PB of a stream (R197). -/
def LensRec.pb (r : LensRec) : Nat := if r.dense then chansOf r.dt * (fmtBits r.ofmt / 8) else 16

/-- The buffers and the view of a stream. -/
def lensAreas (r : LensRec) : List (Nat × Nat) :=
  [(r.bufOfs, r.bufOfs + 3 * r.bufStride), (r.viewOfs, r.viewOfs + r.bufStride)]

/-- An enabled Lens record (R195, Table 8.2; MATRIX_EN of R196). -/
def lensOk (v : DeviceSec) (r : LensRec) : Bool :=
  decide (r.port < 8) && decide (r.vc < 16) && [0x1E, 0x24, 0x2A, 0x2B, 0x2C, 0x2E].contains r.dt &&
  (decide (r.dt ≠ 0x1E) || (decide (r.x0 % 2 = 0) && decide (r.w % 2 = 0))) &&
  decide (1 ≤ r.ow) && decide (r.ow ≤ 4096) && decide (1 ≤ r.oh) && decide (r.oh ≤ 4096) &&
  decide (r.w ≤ 8 * r.ow) && decide (r.ow ≤ r.w) && decide (r.h ≤ 8 * r.oh) && decide (r.oh ≤ r.h) &&
  [0xB, 0xA, 1, 2, 3].contains r.ofmt && decide (1 ≤ r.maxAge) && decide (r.maxAge ≤ 15) &&
  (!r.matrixEn || decide (chansOf r.dt = 3)) &&
  decide (r.bufOfs % 4096 = 0) && decide (r.bufStride % 4096 = 0) && decide (64 + r.oh * r.rowPitch ≤ r.bufStride) &&
  decide (r.bufOfs + 3 * r.bufStride ≤ 2 ^ 32) && decide (r.viewOfs + r.bufStride ≤ 2 ^ 32) &&
  decide (r.viewOfs % 4096 = 0) && decide (r.rowPitch % 16 = 0) && decide (r.ow * LensRec.pb r ≤ r.rowPitch) &&
  (lensAreas r).all fun a => apart a (DevSec.modelArea v)

/-- Two enabled Lens records differ in what they match and share no memory. -/
def lensApart (a b : LensRec) : Bool :=
  (decide (a.port ≠ b.port) || decide (a.vc ≠ b.vc) || decide (a.dt ≠ b.dt)) &&
  (lensAreas a).all fun x => (lensAreas b).all fun y => apart x y

/-- Section LENS (R195). -/
def lensesOk (v : DeviceSec) (l : List LensRec) : Bool :=
  let e := l.filter (·.en)
  e.all (lensOk v) && allPairs lensApart e

/-- An enabled range sensor record (Table 9.4). -/
def sensorOk (r : SensorRec) : Bool :=
  decide (r.port < 2) && decide (6 ≤ r.stride) && decide (r.stride ≤ 256) && decide (r.ftype < 3) &&
  (decide (r.ftype = 2) || (decide (1 ≤ r.unitUm) && decide (r.unitUm ≤ 65535))) && decide (r.minPts ≤ 2 ^ 24) &&
  (r.prot || decide (r.ctx = 0))

/-- The enabled sensors of a range record. -/
def RangeRec.on (r : RangeRec) : List SensorRec := (r.sensor.zipIdx.filter fun s => r.sensors.getLsbD s.2).map (·.1)

/-- A range record (R226). -/
def rangeOk (r : RangeRec) : Bool :=
  decide (50 ≤ r.cellMm) && decide (r.cellMm ≤ 500) && decide (1 ≤ r.thr) && decide (r.thr ≤ 255) && decide (r.zmin ≤ r.zmax) &&
  (RangeRec.on r).all sensorOk && allPairs (fun a b => decide (a.srcMac ≠ b.srcMac) || decide (a.udpPort ≠ b.udpPort)) (RangeRec.on r)

/-- VMAX does not fall from class to class. -/
def vmaxRises : List ClassRec → Bool
  | a :: b :: l => decide (a.vmax ≤ b.vmax) && vmaxRises (b :: l)
  | _ => true

/-- An enabled safety parameter set (R317, Table 13.1). -/
def safetyOk (s : SafetySet) : Bool :=
  decide (s.enc0Nm ≠ 0) && decide (s.enc1Nm ≠ 0) && decide (10 ≤ s.discMs) && decide (s.discMs ≤ 255) &&
  decide (s.vStill < s.vFast) && decide (1 ≤ s.decel) && decide (s.decel ≤ 65535) && decide (s.rampDelay ≤ 1000) &&
  (s.field.all fun r => decide (r.cx0 < 128) && decide (r.cy0 < 128) && decide (r.cx1 < 128) && decide (r.cy1 < 128)) &&
  decide (s.cls.length = 8) && vmaxRises s.cls && decide (2 ≤ s.m) && decide (s.m ≤ s.n) && decide (s.n ≤ 32) &&
  (!s.slpEn || (decide (s.posMin < s.posMax) && decide (s.posMin ≤ s.zPos) && decide (s.zPos ≤ s.posMax))) && rangeOk s.range

/-- Contexts against an enabled set (R273): a protected sensor names an enabled context, and no two the same. -/
def ctxSetOk (l : List CtxEntry) (s : SafetySet) : Bool :=
  let p := (RangeRec.on s.range).filter (·.prot)
  (p.all fun r => l.any fun e => e.en && decide (e.ctx = r.ctx)) && allPairs (fun (a b : SensorRec) => decide (a.ctx ≠ b.ctx)) p

/-- The reaction entry of source `s` (R291). -/
def reactOk (s : Nat) (e : BitVec 16) : Bool :=
  let v := e.toNat
  let scope := natBits v 7 6
  decide (natBits v 15 8 = 0) &&
  match srcRow s with
  | none => true
  | some r =>
    (decide (r.cls ≠ 2) || decide (v % 2 = 1)) &&
    (r.fixed || decide (natBits v 2 2 = 0) ||
      (decide (r.kind ≠ .device) && decide (r.kind ≠ .checker) && decide (scope < 3) &&
       (decide (scope ≠ 0) || decide (r.kind = .me)) && (decide (scope ≠ 1) || decide (r.kind ≠ .facet))))

/-- The windows that the structure image reserves (R265, R266). -/
def stageOk (img : StructImg) : Bool :=
  decide (img.stage.length ≤ 16) && decide (img.stage.map (·.stage)).Nodup &&
  img.stage.all fun w => decide (w.stage < 64) && decide (1 ≤ w.count) && decide (w.count ≤ 15) &&
    winBounds img.device.syncEn (imagePeriod img.device) w

/-- The parsed content of a structure image passes every refusal rule (R382). -/
def contentOk (img : StructImg) : Bool :=
  let sets := img.safety.filter (·.en)
  deviceOk img.device && lensesOk img.device img.lens && stageOk img && decide (img.reaction.length = 512) &&
  (img.reaction.zipIdx.all fun x => reactOk x.2 x.1) && decide (img.safety.length = 16) && sets.all safetyOk &&
  decide (img.contexts.length ≤ 256) && decide (img.contexts.map (·.ctx)).Nodup && sets.all (ctxSetOk img.contexts)

/-- The content of a structure image passes every refusal rule (R382). -/
def imageOk (b : List Byte) (o : OpenSecs) : Bool := dirOk b && structZeros b && contentOk (structOf b o)

end Sys2Proof.Machine
end

