-- ==== Sys2Proof/Machine/Boot.lean ====
section
/-! DEFINITION. Supply, boot (R375 to R383, R405), start-up tests (R305), warm reset (R292), and the resets of the PCI Express
function (R356, R406). -/

namespace Sys2Proof.Machine

/-! ## Supply (R375, R402) -/

/-- What the flash holds without power: its contents and the state of its blocks. -/
def Nvm.kept (n : Nvm) : Nvm :=
  { Device.reset.nvm with flash := n.flash, seq := n.seq, blocks := n.blocks, blkBytes := n.blkBytes, page := n.page, blk := n.blk }

/-- What outlives the checker supply: the OTP, and what the flash holds. The outside world's free values go on. -/
def Device.unpowered (d : Device) : Device :=
  { Device.reset with
    free := d.free, boot := { Boot.reset with otp := d.boot.otp }
    nvm := d.nvm.kept }

/-- The checker supply becomes valid: time 0 of Table 16.1. -/
def Device.supplyOn (d : Device) : Device := d.unpowered

/-- The checker supply is removed. -/
def Device.supplyOff (d : Device) : Device :=
  let d' := d.unpowered
  { d' with q := d.q, chk := { d'.chk with power := false } }

/-! ## Slot selection (R382) -/

/-- The result code of a slot (Table 16.10): its partition, the last letter of its TAG, use of its key, lowest VERSION and
content. -/
def Device.slotResult (d : Device) (x : ImageSlot) (part : Nat) (kind : Byte) (use lowest : Nat) (content : Bool) : Nat :=
  let g := slotBlock x.bytes
  if x.read.bad || !(d.partAt part).valid then 1
  else if !headOk kind x.bytes || !g.tagOk || !g.formatOk then 2
  else if !d.keyOk g use then 3
  else if !ecdsaP384 g.pubkey (slotDigest x.bytes) g.r g.s then 4
  else if slotVersion x.bytes < lowest then 5
  else if !content then 6 else 0

/-- The slot used: the valid one with the higher VERSION, A on a tie. -/
def pickSlot (ra rb va vb : Nat) : Option Nat :=
  if ra = 0 ∧ rb = 0 then some (if va < vb then 1 else 0)
  else if ra = 0 then some 0 else if rb = 0 then some 1 else none

/-- One slot of a kind alone is valid. -/
def Device.noteSingle (d : Device) (ra rb : Nat) : Device := if ra = 0 ∧ rb = 0 then d else d.chkRaise Src.bootVerify

/-- The ROM-only condition: SAFE, with Facet 0's memories powered and its Prisms fenced (R382). -/
def Device.enterRomOnly (d : Device) : Device :=
  let d := (d.enterSafe [⟨0xE8, false⟩]).setBit Reg.bootStatus 7 true
  let d := ({ d with chk := { d.chk with romOnly := true } } : Device).facetOn 0
  (List.range 6).foldl (fun d q => d.setPrism q { d.prismAt q with fenced := true }) d

/-- What the reads of two slots met: a partition that is not VALID is not read. -/
def Device.slotsMet (d : Device) (a b : ImageSlot) (pa : Nat) : Device :=
  let d := if (d.partAt pa).valid then d.flashMet a.read else d
  if (d.partAt (pa + 1)).valid then d.flashMet b.read else d

/-- BOOT_IMAGE_VERIFY: both boot slots. The digest of the firmware and the parts of the test plan are kept (R306, R378). -/
def Device.verifyBoot (d : Device) (a b : ImageSlot) (pa pb : BootParts) : Device :=
  let ra := d.slotResult a 0 0x42 0 d.boot.otp.bootCtr true
  let rb := d.slotResult b 1 0x42 0 d.boot.otp.bootCtr true
  let d := ((d.slotsMet a b 0).setFld Reg.bootStatus 15 12 ra).setFld Reg.bootStatus 19 16 rb
  match pickSlot ra rb (slotVersion a.bytes) (slotVersion b.bytes) with
  | none => d.enterRomOnly
  | some i =>
    let x := if i = 0 then a.bytes else b.bytes
    let p := if i = 0 then pa else pb
    let d := (d.setFld Reg.bootStatus 4 4 i).setFld Reg.bootVer 15 0 (slotVersion x % 65536)
    let d := { d with boot := { d.boot with
      bootOk := true, bootVersion := slotVersion x, fwDigest := sha384 (slice x p.fwOfs p.fwLen), fwLen := p.fwLen
      test := p.test.map fun (t : Nat × Nat × Nat) => (t.2.2, slice x t.1 t.2.1) } }
    (d.tcmPut 0 (slice x p.fwOfs p.fwLen)).noteSingle ra rb

/-- The entry of source `s` as loaded: bit 5 comes from Table 12.2 (R291). -/
def loadedEntry (l : List (BitVec 16)) (s : Nat) : Nat :=
  let v := (nth l s 0).toNat
  let f := match srcRow s with | some r => r.fixed | none => false
  v - natBits v 5 5 * 32 + b2n f * 32

/-- The reaction table is loaded and locked. -/
def Device.loadReactions (d : Device) (l : List (BitVec 16)) : Device :=
  let d := (List.range 256).foldl (fun d i =>
    d.setReg (Reg.fltReact i) (word (loadedEntry l (2 * i + 1) * 65536 + loadedEntry l (2 * i)))) d
  d.setBit Reg.fltCtrl 31 true

/-- The power-up read of the sealed switches is judged (R318): its values become the sealed values, and the contexts
of the image take their DEST from the set they select. -/
def Device.judgeSeal (d : Device) (sw : SealRead) : Device :=
  let ok := sealValid d.boot.img.safety sw
  let d := d.showSeal sw.b2
  let d := { d with boot := { d.boot with sealed := sw.b2, sealOk := ok } }
  if ok then d.imageCtxs d.boot.img.contexts d.safetySet else d.enterSafe [⟨0xE8, false⟩]

/-- STRUCTURE_IMAGE_VERIFY: both structure slots, then the seal. -/
def Device.verifyStruct (d : Device) (a b : ImageSlot) (oa ob : OpenSecs) (sw : SealRead) : Device :=
  let ra := d.slotResult a 2 0x53 1 d.boot.otp.structCtr (imageOk a.bytes oa)
  let rb := d.slotResult b 3 0x53 1 d.boot.otp.structCtr (imageOk b.bytes ob)
  let d := ((d.slotsMet a b 2).setFld Reg.bootStatus 23 20 ra).setFld Reg.bootStatus 27 24 rb
  match pickSlot ra rb (slotVersion a.bytes) (slotVersion b.bytes) with
  | none => d.enterRomOnly
  | some i =>
    let x := if i = 0 then a.bytes else b.bytes
    let img := structOf x (if i = 0 then oa else ob)
    let d := (d.setFld Reg.bootStatus 5 5 i).setFld Reg.bootVer 31 16 (slotVersion x % 65536)
    let d := { d with boot := { d.boot with img := img, imgOk := true, imgVersion := slotVersion x, imgKey := (slotBlock x).key } }
    ((d.loadReactions img.reaction).noteSingle ra rb).judgeSeal sw

/-! ## Power and reset of the compute die (R405) -/

/-- The compute reset is released, or VMON_CMP registers where a monitor is out of range. -/
def Device.releaseCompute (d : Device) (ok : Bool) (fl : FlashTrain) : Device :=
  if !ok then d.chkRaise Src.vmonCmp
  else
    let d := { d with chk := { d.chk with cmpReset := false, relAt := d.q }, hif := { d.hif with linkUp := true }, tim := .reset }
    let d := { d with bg := bgFresh d.q }
    let d := d.setReg Reg.nvmChStatus (word (fl.rate * 65536 + fl.targets1 % 16 * 16 + fl.targets0 % 16))
    let d := d.flashFirst fl
    (d.setReg Reg.nvmCap (word d.flashMiB)).setFld Reg.nvmBadCnt 15 0
      (min 0xFFFF (countBy (fun (x : Nat × Blk) => x.2.factory) d.nvm.blk))

/-! ## The end of boot (R375) -/

/-- The registers marked S outside the checker are loaded (Tables 2.6, 3.8, 6.9, 7.16, 8.8, 8.10). -/
def Device.loadS (d : Device) : Device :=
  let g := d.boot.img
  let v := g.device
  let d := ((d.setReg Reg.tckSlotALo (word v.slotA)).setReg Reg.tckSlotAHi (word (v.slotA / 2 ^ 32)))
  let d := ((d.setReg Reg.tckSlotBLo (word v.slotB)).setReg Reg.tckSlotBHi (word (v.slotB / 2 ^ 32)))
  let d := (d.setBit Reg.tckCtrl 0 v.syncEn).setBit Reg.memCtrl 2 v.ceLog
  let d := d.setReg Reg.dskCfg (word (b2n g.diesk.masterEn * 4096 + g.diesk.topo % 4 * 1024 + g.diesk.size % 16 * 16 + g.diesk.devId % 16))
  let d := (List.range 8).foldl (fun d n => d.setReg (Reg.ethPortTsAdj n) (nth g.tsAdj n 0)) (d.setReg Reg.timStepMax v.timStepMax)
  (List.range 96).foldl (fun d j =>
    let e := meEngine j
    (((d.setReg (Reg.meAbftTol0 e) (nth g.tolerance 0 0)).setReg (Reg.meAbftTol1 e) (nth g.tolerance 1 0)).setReg
      (Reg.meAbftTol2 e) (nth g.tolerance 2 0)).setReg (Reg.meAbftTol3 e) (nth g.tolerance 3 0)) d

/-- LOCK of every block. -/
def Device.setLocks (d : Device) : Device :=
  let d := [Reg.tckCtrl, Reg.memCtrl, Reg.dskCfg, Reg.lnsCtrl, Reg.ethCtrl, Reg.timCtrl, Reg.nvmCtrl].foldl
    (fun d k => d.setBit k 31 true) d
  (List.range 168).foldl (fun d e => d.setBit (engBase e) 31 true) d

/-- COMPUTE_CONFIGURED: Facets come up zeroed with the repair record applied, S registers load, blocks lock. -/
def Device.configure (d : Device) : Device :=
  let v := d.boot.img.device
  let d := (List.range 24).foldl (fun d q => d.setPrism q { d.prismAt q with disabled := !v.prismEn.getLsbD q }) d
  let d := (List.range 4).foldl (fun d f =>
    if v.facetEn.getLsbD f then ((d.facetOn f).facetZeroed f).freeFacet f
    else (List.range 42).foldl (fun d x => d.modEng (42 * f + x) fun g => { g with fenced := true }) d) d
  let d := d.loadS.setLocks
  let d := { d with
    tck := { d.tck with period := imagePeriod v, testWait := true }
    bg := (List.range 32).foldl (fun t k => tabSet Bg.reset t k ⟨.normal, d.q⟩) []
    mem := { d.mem with lapAt := d.q }, nvm := { d.nvm with lapAt := d.q } }
  d.setState .startupTest

/-! ## Start-up tests (R305) -/

/-- A unit that failed starts fenced, and its Facet FAILED; a failing ME raises ME_SELFTEST (R76). -/
def Device.testFenced (d : Device) (e : Nat) : Device :=
  let d := (d.fenceEngine e).modFacet (e / 42) fun x => { x with st := .failed }
  if engKind e = 0 then (d.raise (Reg.meErr e) 3).pairRaise (Src.meSelftest (e / 7)) else d

/-- Facets that a compute-die test leaves free of failures: powered ones of which `bad` does not hold (Table 12.6). -/
def Device.soundFacets (d : Device) (bad : Nat → Bool) : Nat := countBy (fun f => (d.facetAt f).powered && !bad f) (List.range 4)

/-- A compute-die test fails (Table 12.6): a pair's force, or fewer than 2 Facets pass the ABFT injection or the memory tests. -/
def Device.computeFail (d : Device) (r : StartupResult) : Bool :=
  r.pairFail || decide (d.soundFacets (fun f => r.failedEngines.any fun e => decide (e / 42 = f)) < 2) ||
  decide (d.soundFacets (fun f => r.failedFacets.contains f) < 2)

/-- The source that a checker-die test raised registers. -/
def Device.raiseFound (d : Device) (s : Option Nat) : Device := match s with | some x => d.chkRaise x | none => d

/-- STARTUP_TEST_COMPLETE: a checker-die failure leads to FATAL, a compute-die failure to SAFE; a compute die that is
not sound gets no tick (Table 1.8). -/
def Device.testsEnd (d : Device) (r : StartupResult) : Device :=
  let d := d.cmpTest r.cmpTrial
  if r.cmpTrial.isSome then (d.enterFatal Src.chkCmpTest 0xE7).chkRaise Src.chkCmpTest
  else if r.checkerFail then (d.enterFatal (r.checkerSource.getD 0x1FF) 0xE7).raiseFound r.checkerSource
  else if !d.wdg.running then d.enterFatal 0x1FF 0xE7
  else if d.computeFail r then
    let d := d.enterSafe [⟨0xE7, false⟩]
    { d with tck := { d.tck with running := false, testWait := false, frameOpen := false } }
  else
    let d := r.failedEngines.foldl (fun d e => d.testFenced e) d
    let d := r.failedFacets.foldl (fun d f => d.modFacet f fun x => { x with st := .failed }) d
    { d with chk := { d.chk with testsDone := true } }

/-! ## Warm reset (R264, R292, R355, R392) -/

/-- Registers of the always-on domain (Tables 10.8, 12.9, 14.11) and the comparator test's count. -/
def alwaysOn (k : Nat) : Bool :=
  decide (k = Reg.fltFatal) || decide (k = Reg.fltLogHead) || (decide (Reg.fltLogSrc 0 ≤ k) && decide (k < Reg.fltLogSrc 32)) ||
  decide (k = Reg.hifCplCount) || (decide (Reg.hifCplInfo 0 ≤ k) && decide (k < Reg.hifCplInfo 16)) ||
  decide (k = Reg.wdgEvidPc) || decide (k = Reg.wdgEvidNs) || decide (k = Reg.wdgEvidSec) || decide (k = Reg.wdgEvidSeq)

/-- An encoder after a warm reset: the input levels are there still. -/
def Encoder.warm (e : Encoder) : Encoder := { Encoder.reset with a := e.a, b := e.b, z := e.z }
/-- A safety channel after a warm reset. -/
def Channel.warm (h : Channel) (q : Nat) : Channel :=
  { Channel.reset with enc0 := h.enc0.warm, enc1 := h.enc1.warm, resetAt := q }

/-- What a warm reset leaves: the always-on domain, the OTP, flash, the checker's clock, DBG_SPLIT (R256), CHK_CMP_TEST.RUNS,
and what belongs to the outside world. -/
def Device.warmed (d : Device) : Device :=
  let out := fun (o : Output) => { Output.reset with offAt := o.offAt }
  let d' : Device := { Device.reset with
    q := d.q, free := d.free, regs := d.regs.filter fun r => alwaysOn r.1
    chk := { Checker.reset with prev := d.chk.dev, cause := d.chk.warm.getD 0, healthy := d.chk.healthy, pinAt := d.chk.pinAt }
    boot := { Boot.reset with otp := d.boot.otp }
    ctime := { d.ctime with st := .notStarted, refused := 0, grant := false }
    hif := { Hif.reset with sent := d.hif.sent, rsp := d.hif.rsp }
    core := { Device.reset.core with split := d.core.split, tcm := d.core.tcm }
    ladder := d.ladder.note .boot d.q
    flt := { Device.reset.flt with nmi := d.flt.nmi, irq := d.flt.irq }
    nvm := d.nvm.kept
    eth := { Device.reset.eth with wire := d.eth.wire }, rng := { Device.reset.rng with wire := d.rng.wire }
    sio := { Sio.reset with
      outA := out d.sio.outA, outB := out d.sio.outB
      chA := d.sio.chA.warm d.q, chB := d.sio.chB.warm d.q } }
  d'.setFld Reg.chkCmpTest 15 0 (d.fld Reg.chkCmpTest 15 0)

/-- WARM_RESET_BEGIN: the memory fence, the requests in progress and the host's flash operation end first. -/
def Device.warmReset (d : Device) : Device := d.memDrainAll.abortAll.nvmAbort.warmed

/-! ## The PCI Express function (R356) -/

/-- The PCI Express configuration, the MSI-X table and pending bits, and the HIF block are reset. -/
def Device.pcieReset (d : Device) : Device :=
  { d with
    regs := d.regs.filter fun r => decide (Reg.hifPerfUser < r.1) && (decide (r.1 < 0x4000) || decide (0x5000 ≤ r.1))
    hif := { d.hif with cfg := [] } }

/-- The link leaves L0, or an uncorrectable AER error occurs. From D3hot the link leaves L0 without a fault. -/
def Device.linkLoss (d : Device) (aer : Bool) : Device :=
  if !aer && d.hif.d3 then d else (if aer then d else d.raise Reg.hifStatus 5).pairRaise Src.hifPcie

/-! ## Commands -/

/-- CHECKER_SUPPLY_VALID (R375). -/
def execCheckerSupplyValid (s : State) : Host.Outcome State Fault Refusal := act (!s.dev.chk.power) Device.supplyOn s

/-- CHECKER_SUPPLY_REMOVED (R304). -/
def execCheckerSupplyRemoved (s : State) : Host.Outcome State Fault Refusal := act s.dev.chk.power Device.supplyOff s

/-- CHECKER_RAIL_LOW (R402): as if the supply were removed. -/
def execCheckerRailLow (s : State) : Host.Outcome State Fault Refusal := act s.dev.chk.power (fun d => d.supplyOff) s

/-- COMPUTE_POWER_ENABLE (R405). -/
def execComputePowerEnable (s : State) : Host.Outcome State Fault Refusal :=
  act (s.dev.chk.power && decide (s.dev.chk.dev = .boot))
    (fun d => { d with chk := { d.chk with pwrEn := true } }) s

/-- COMPUTE_RESET_RELEASE (R405). -/
def execComputeResetRelease (inRange : Bool) (fl : FlashTrain) (s : State) : Host.Outcome State Fault Refusal :=
  act (s.dev.chk.power && s.dev.chk.pwrEn && s.dev.chk.cmpReset && decide (s.dev.chk.dev = .boot))
    (fun d => d.releaseCompute inRange fl) s

/-- BOOT_IMAGE_VERIFY (R382). -/
def execBootImageVerify (a b : BootSlot) (s : State) : Host.Outcome State Fault Refusal :=
  act (s.dev.booting && !s.dev.boot.bootOk) (fun d => d.verifyBoot a.image b.image a.parts b.parts) s

/-- STRUCTURE_IMAGE_VERIFY (R382). -/
def execStructureImageVerify (a b : ImageSlot) (oa ob : OpenSecs) (sw : SealRead) (s : State) : Host.Outcome State Fault Refusal :=
  act (s.dev.booting && s.dev.boot.bootOk && !s.dev.boot.imgOk) (fun d => d.verifyStruct a b oa ob sw) s

/-- COMPUTE_CONFIGURED (R375). -/
def execComputeConfigured (s : State) : Host.Outcome State Fault Refusal :=
  act (s.dev.booting && s.dev.boot.imgOk && s.dev.boot.sealOk) Device.configure s

/-- STARTUP_TEST_COMPLETE (R305). -/
def execStartupTestComplete (r : StartupResult) (s : State) : Host.Outcome State Fault Refusal :=
  act (s.dev.cmpAlive && decide (s.dev.chk.dev = .startupTest)) (fun d => d.testsEnd r) s

/-- WARM_RESET_BEGIN (R292). -/
def execWarmResetBegin (s : State) : Host.Outcome State Fault Refusal :=
  act (s.dev.chk.power && s.dev.chk.warm.isSome && decide (s.dev.chk.dev ≠ .fatal)) Device.warmReset s

/-- PERST_N (R406): ignored while the compute reset is held. -/
def execPerstN (s : State) : Host.Outcome State Fault Refusal := act s.dev.cmpAlive Device.pcieReset s

/-- FUNCTION_LEVEL_RESET (R356). -/
def execFunctionLevelReset (s : State) : Host.Outcome State Fault Refusal := act s.dev.linkOk Device.pcieReset s

/-- HOT_RESET (R356). -/
def execHotReset (s : State) : Host.Outcome State Fault Refusal := act s.dev.linkOk (fun d => d.pcieReset) s

/-- PCIE_LINK_LOSS (R356). -/
def execPcieLinkLoss (aer : Bool) (s : State) : Host.Outcome State Fault Refusal := act s.dev.linkOk (fun d => d.linkLoss aer) s

end Sys2Proof.Machine
end

