-- ==== Sys2Proof/Machine/Registers.lean ====
section
/-! DEFINITION. Register writes of the host and of channel A (R8 to R12, R344, R345). A write that reaches a register
with a row of its own does what that row does. -/

namespace Sys2Proof.Machine

/-! ## Reserved encodings (R12) -/

/-- Keep field [hi:lo] of `cur` in a write of `v` where `bad`. -/
def keepFld (bad : Bool) (cur v : Word) (hi lo : Nat) : Word := if bad then putBits v hi lo (bits cur hi lo) else v

/-- A write of `v` with each reserved encoding replaced by what the field holds. -/
def Device.reserved (d : Device) (k : Nat) (v : Word) : Word :=
  let c := d.reg k
  if k = Reg.prfTagCfg then keepFld (decide (bits v 20 16 < 4) || decide (20 < bits v 20 16)) c v 20 16
  else if isIdx k (Reg.timTrgCfg 0) 16 16 then keepFld (bit v 29) c v 29 28
  else if k = Reg.dskCfg then keepFld (decide (bits v 11 10 = 3)) c v 11 10
  else if isIdx k (Reg.fltReact 0) 4 256 then
    keepFld (decide (bits v 23 22 = 3)) c (keepFld (decide (bits v 7 6 = 3)) c v 7 6) 23 22
  else v

/-- A write under the access codes alone. -/
def Device.codeWrite (d : Device) (k : Nat) (v : Word) : Device := d.plainWrite k (d.reserved k v)

/-! ## Compute-die registers -/

/-- A write of an engine's control register: RESET, LOCK, and on an ME ABFT_INJ. -/
def Device.engCtrlWrite (d : Device) (e : Nat) (v : Word) : Device :=
  let d := if bit v 1 then d.blockReset e else d
  let d := d.codeWrite (engBase e) v
  if e % 7 < 4 && bit v 2 then d.armInjection e else d

/-- A write of TCK_CTRL: LOCK, SYNC_ACQ, TEST_RUN. -/
def Device.tckCtrlWrite (d : Device) (v : Word) : Device :=
  let d := d.codeWrite Reg.tckCtrl v
  let d := if bit v 1 then d.syncAcq else d
  if bit v 2 = d.bitAt Reg.tckCtrl 2 then d else d.testRunWrite (bit v 2)

/-- Write the tail of a ring. -/
def Device.tailWrite (d : Device) (k : Nat) (v : Word) : Device := d.setReg k (word (bits v 11 0))

/-- A write of a register of a block in the lower half of BAR0 that acts beyond its access codes; none for others. -/
def Device.actWrite (d : Device) (k : Nat) (v : Word) : Option Device :=
  if k = Reg.tckCtrl then some (d.tckCtrlWrite v)
  else if k = Reg.memCtrl then some (let d := d.codeWrite k v; if bit v 1 then d.fenceStart else d)
  else if k = Reg.memTest then some (d.testWrite v)
  else if k = Reg.hifHostVer then some (d.hostVer v)
  else if k = Reg.hifBar2BaseLo then some (d.bar2Write false v)
  else if k = Reg.hifBar2BaseHi then some (d.bar2Write true v)
  else if k = Reg.ethCfg then some (d.ringFacet v)
  else if isIdx k (Reg.ethPortRxTail 0) 0x40 8 ∨ isIdx k (Reg.ethPortTxTail 0) 0x40 8 then some (d.tailWrite k v)
  else if isIdx k (Reg.ethTsqPop 0) 16 2 then some (if bit v 0 then d.popEth ((k - Reg.ethTsqPop 0) / 16) else d)
  else if k = Reg.timCtrl then some (let d := d.codeWrite k v; if bit v 0 then d.stepGo else d)
  else if k = Reg.timIncr then some (d.incrWrite v)
  else if k = Reg.prfCtrl then some (let d := d.codeWrite k v; if bit v 1 then d.snapRequest else d)
  else if isIdx k (Reg.prfSel 0 0) 4 1616 then
    some (d.selWrite ((k - Reg.prfSel 0 0) / 32) ((k - Reg.prfSel 0 0) / 4 % 8) v false)
  else if isIdx k Reg.prfPage 4 4096 then some (d.raise Reg.prfStatus 6)
  else if k = Reg.nvmOp then some (d.nvmOp (bits v 31 24) v)
  else if isIdx k 0x400C 16 128 then some ((d.codeWrite k v).flushVec ((k - 0x400C) / 16))
  else none

/-- A host write of one whole compute-die register. -/
def Device.cmpWrite (d : Device) (k : Nat) (v : Word) : Device :=
  match engOfs k with
  | some (e, o) => if o = 0 then d.engCtrlWrite e v else d.codeWrite k v
  | none => (d.actWrite k v).getD (d.codeWrite k v)

/-! ## Request registers (R352, R353) -/

/-- Submit the request that HIF_REQ names, with the arguments of the argument registers; an operation code that
Table 14.6 does not list is ARG_INVALID. -/
def Device.submit (d : Device) (v : Word) : Device :=
  let op := bits v 31 24
  let tag := BitVec.ofNat 8 (bits v 23 16)
  let a : ReqArgs := ⟨d.reg (Reg.hifReqArg 0), d.reg (Reg.hifReqArg 1), d.reg (Reg.hifReqArg 2), d.reg (Reg.hifReqArg 3)⟩
  if op = 1 then d.reqSwap tag a
  else if op = 2 then d.reqLoad tag a
  else if op = 3 then d.reqUnload tag a
  else if op = 4 then d.reqReplace tag a
  else if op = 5 then d.reqGrant tag a
  else if op = 6 then d.reqRestart tag a
  else if op = 7 then d.reqMode tag a
  else if op = 8 then d.reqMaint tag a
  else if op = 9 then d.reqWarm tag a
  else if op = 10 then d.reqReturn tag a
  else if op = 11 then d.reqForce tag a
  else if op = 12 then d.reqClear tag a
  else d.submission fun d => d.complete op tag 2 0

/-- A host write of one whole register of BAR4 (R345): a request register acts, no other does; an argument is dropped while a
submission is being checked (R352). -/
def Device.bar4Write (d : Device) (k : Nat) (v : Word) : Device :=
  if isIdx k (Reg.hifReqArg 0) 4 4 then (if d.reqBusy then d.setBit Reg.hifReqStatus 30 true else d.setReg k v)
  else if k = Reg.hifReq then d.submit v
  else if k = Reg.cvuSel 1 then d.cvuSnap 1 v
  else if isIdx k (Reg.chkRngTsqPop 0) 0x40 2 then
    (if bit v 0 then d.popRng ((k - Reg.chkRngTsqPop 0) / 0x40) else d)
  else d

/-! ## Channel A -/

/-- A write of channel A to a checker register; the request registers are the host's. -/
def Device.chkWrite (d : Device) (k : Nat) (v : Word) : Device :=
  if k = Reg.wdgCtrl then (if bit v 0 then d.wdgEn else d)
  else if k = Reg.wdgClosed then d.wdgConfig false v
  else if k = Reg.wdgOpen then d.wdgConfig true v
  else if k = Reg.wdgService then d.wdgServe v
  else if k = Reg.cvuSel 0 then d.cvuSnap 0 v
  else if k = Reg.cvuCfg 0 then d.modeWrite v
  else if k = Reg.fltForce then d.forceWrite v
  else if isIdx k (Reg.hifReqArg 0) 4 4 then d
  else d.codeWrite k v

/-! ## Sizes (R344) -/

/-- The base of the checker window in BAR0. -/
abbrev chkBase : Nat := 0x2000000

/-- A host write of one whole register at an offset of BAR0 or BAR4; the mirror is read-only, and what lies past it is
unassigned. -/
def Device.hostReg (d : Device) (bar4 : Bool) (ofs : Nat) (v : Word) : Device :=
  if bar4 then d.bar4Write (chkBase + ofs) v else if chkBase ≤ ofs then d else d.cmpWrite ofs v

/-- A write of [ofs, ofs + n) meets a register that the host can only read: in BAR4 all but the request registers, and the
whole mirror window (R345). -/
def meetsChk (bar4 : Bool) (ofs n : Nat) : Bool :=
  (List.range (n / 4 + 2)).any fun i =>
    let o := ofs / 4 * 4 + 4 * i
    let k := chkBase + o
    decide (o < ofs + n) &&
      if bar4 then
        !(isIdx k (Reg.hifReqArg 0) 4 4 || decide (k = Reg.hifReq) || decide (k = Reg.cvuSel 1) || isIdx k (Reg.chkRngTsqPop 0) 0x40 2)
      else decide (chkBase ≤ o) && decide (o < chkBase + 0x100000)

/-- The word at byte `i` of a write. -/
def wordAt (bs : List Byte) (i : Nat) : Word := word (leAt bs i 4)

/-- A host write: one whole register, two whole registers, lower address first, or none. Any write that meets a read-only
checker register sets CHK_WR. -/
def Device.hostRegWrite (d : Device) (bar4 : Bool) (ofs : Nat) (bs : List Byte) : Device :=
  let d := if meetsChk bar4 ofs bs.length then d.raise Reg.hifStatus 2 else d
  if 8 < bs.length then d
  else if ofs % 4 = 0 ∧ bs.length = 4 then d.hostReg bar4 ofs (wordAt bs 0)
  else if ofs % 4 = 0 ∧ bs.length = 8 then (d.hostReg bar4 ofs (wordAt bs 0)).hostReg bar4 (ofs + 4) (wordAt bs 4)
  else d.raise Reg.hifStatus 1

/-! ## The configuration space (R340 to R342) -/

/-- A value that a configuration register takes: D0 or D3hot, a supported BAR size (DESIGN CHOICE for others, log 126). -/
def cfgTakes (o : Nat) (v : Word) : Bool :=
  if o = Cfg.pmcsr then decide (bits v 1 0 = 0) || decide (bits v 1 0 = 3)
  else if o = Cfg.rebar then decide (10 ≤ bits v 13 8) && decide (bits v 13 8 ≤ 15)
  else true

/-- Write one configuration register: vectors that are no longer held fire; bit 15 of Device Control is Function Level
Reset. -/
def Device.cfgSet (d : Device) (o : Nat) (v : Word) : Device :=
  if o = Cfg.devCtl && bit v 15 then d.pcieReset
  else if !cfgTakes o v then d
  else
    let d := { d with hif := { d.hif with cfg := tabSet (cfgResetVal o) d.hif.cfg o (v &&& d.hif.cfgMask o) } }
    (List.range 128).foldl (fun d i => d.flushVec i) d

/-- A configuration write of bytes within one register. -/
def Device.cfgWrite (d : Device) (ofs : Nat) (bs : List Byte) : Device :=
  let o := ofs / 4 * 4
  let old := toLe 4 (d.hif.cfgView o).toNat
  d.cfgSet o (wordAt (old.take (ofs % 4) ++ bs ++ old.drop (ofs % 4 + bs.length)) 0)

/-- Bytes [ofs, ofs + n) lie within one configuration register of the 4 KiB. -/
def inCfg (ofs n : Nat) : Bool := decide (ofs % 4 + n ≤ 4) && decide (ofs < 4096)

/-- The offset lies in the BAR: 64 MiB of BAR0, 1 MiB of BAR4 (Table 14.2). -/
def inBar (bar4 : Bool) (ofs n : Nat) : Bool :=
  if bar4 then decide (ofs + n ≤ 0x100000) else decide (ofs + n ≤ 0x4000000)

/-- REGISTER_WRITE (R344); channel A writes one whole checker register. -/
def execRegisterWrite (m : Master) (sp : Space) (ofs : Nat) (bytes : List Byte) (s : State) :
    Host.Outcome State Fault Refusal :=
  match m, sp with
  | .host, .config => act (s.dev.linkOk && inCfg ofs bytes.length) (fun d => d.cfgWrite ofs bytes) s
  | .host, _ =>
    let b4 := decide (sp = .bar4)
    act (s.dev.hostUp && decide (sp ≠ .bar2) && inBar b4 ofs bytes.length) (fun d => d.hostRegWrite b4 ofs bytes) s
  | .channelA, _ =>
    act (s.dev.chanA && decide (sp = .bar4) && inBar true ofs 4 && decide (ofs % 4 = 0) && decide (bytes.length = 4))
      (fun d => d.chkWrite (chkBase + ofs) (wordAt bytes 0)) s

end Sys2Proof.Machine
end

