-- ==== Sys2Proof/Machine/View.lean ====
section
/-! DEFINITION. What a register reads (R9, R12, R348 to R349, R370, R371): the stored value, or what the state says for
a field that follows the state. Reads with a side effect are commands of their own. -/

namespace Sys2Proof.Machine

/-- Bits [hi:lo] of a register hold `v`, cut to them. -/
def fldAt (hi lo v : Nat) : Nat := v % 2 ^ (hi - lo + 1) * 2 ^ lo

/-- The low word of a 64-bit two's-complement number. -/
def lo64 (x : Int) : Word := BitVec.ofInt 32 x
/-- The high word. -/
def hi64 (x : Int) : Word := BitVec.ofNat 32 ((BitVec.ofInt 64 x).toNat / 2 ^ 32)

/-! ## Tick and plan (Tables 2.6 to 2.10) -/

/-- SYNC_STATE. -/
def SyncState.code : SyncState → Nat
  | .disabled => 0 | .acquiring => 1 | .locked => 2 | .freeRun => 3

/-- A swap stands at a stage. -/
def Tck.swapAt (t : Tck) (p : SwapStage → Bool) : Bool := match t.swap with | some w => p w.stage | none => false

/-- TCK_STATUS. -/
def Device.tckStatusWord (d : Device) : Word :=
  let t := d.tck
  word (fldAt 31 30 t.sync.code + fldAt 29 27 t.oowRun + fldAt 23 22 (match t.active with | some s => s + 1 | none => 0) +
    fldAt 21 20 (t.variant.getD 3) + fldAt 19 19 (b2n (t.swapAt fun s => decide (s = .pending))) +
    fldAt 18 18 (b2n (t.swapAt fun s => decide (s ≠ .pending))) + d.fld Reg.tckStatus 10 0)

/-- The code of a level. -/
def BgLevel.code : BgLevel → Nat
  | .normal => 0 | .urgent => 1 | .forced => 2

/-- The highest level of some class instances. -/
def Device.bgMax (d : Device) (l : List BgClass) : Nat := l.foldl (fun a c => max a (d.bgAt c).level.code) 0

/-- TCK_BG_STATE. -/
def Device.bgWord (d : Device) : Word :=
  word (fldAt 11 10 (d.bgMax [.telemetry]) + fldAt 9 8 (d.bgMax ((List.range 24).map .selftest)) +
    fldAt 7 6 (d.bgMax [.flash]) + fldAt 5 4 (d.bgMax [.calib]) + fldAt 3 2 (d.bgMax [.scrub]) +
    d.bgMax ((List.range 4).map .refresh))

/-! ## Engines (Tables 3.8, 3.10, 5.16, 5.17) -/

/-- The command at the head of an engine: the first that has not completed, else the next to be fetched. -/
def Eng.head (g : Eng) : Nat :=
  match g.acts.find? fun a => !a.done with
  | some a => a.addr
  | none => match g.queue with | h :: _ => h.addr | [] => g.fetch.getD 0

/-- Rows of a stream that are not injected at a-cycle `t`. -/
def MeCmd.rowsLeft (x : MeCmd) (t : Nat) : Nat :=
  match x.s with
  | some s => mmM x.word - (t - s) / (classOf (mmAfmt x.word) (mmWfmt x.word)).r
  | none => 0

/-- The stream being injected. -/
def Me.streaming (m : Me) (t : Nat) : Option MeCmd := m.pipe.find? fun x => decide (0 < x.rowsLeft t)

/-- STATE of ME_STATUS. -/
def Device.meStateCode (d : Device) (e : Nat) : Nat :=
  let g := d.engAt e
  let m := d.meAt e
  match g.phase with
  | .idle => 0 | .waiting => 1 | .halted => 5 | .abandoning => 6
  | .executing =>
    if g.blocked.isSome then 1
    else if (m.streaming (d.q / aQ)).isSome then 3
    else if m.pipe.any fun x => x.loads (d.q / aQ) then 2
    else if m.pipe.any fun x => x.v.isNone then 1
    else if m.pipe.any fun x => x.s.isNone && mmStreams x.word then 2
    else if m.pipe.isEmpty then 0 else 4

/-- ME_STATUS. -/
def Device.meStatusWord (d : Device) (e : Nat) : Word :=
  let g := d.engAt e
  let m := d.meAt e
  let left := match m.streaming (d.q / aQ) with | some x => x.rowsLeft (d.q / aQ) | none => 0
  let load := m.pipe.any fun x => x.loads (d.q / aQ)
  word (fldAt 26 16 left + fldAt 7 7 (b2n (decide (m.frozen = some (d.q / aQ)))) + fldAt 6 6 (b2n load) +
    fldAt 5 5 (b2n m.active.isSome) + fldAt 4 4 (b2n (g.fenced || (d.prismAt (e / 7)).fenced)) + fldAt 3 0 (d.meStateCode e))

/-- XX_STATUS of a VE, FE or SE. -/
def Device.xxStatusWord (d : Device) (e : Nat) : Word :=
  let g := d.engAt e
  let st := match g.phase with
    | .idle => 0 | .waiting => 1 | .halted => 3 | .abandoning => 4
    | .executing => if g.blocked.isSome then 1 else 2
  word (fldAt 28 16 g.outstanding + fldAt 10 8 g.loops.length +
    fldAt 4 4 (b2n (g.fenced || (d.prismAt (e / 7)).fenced)) + fldAt 3 0 st)

/-- A register of an engine. -/
def Device.engView (d : Device) (e o k : Nat) : Word :=
  if o = 4 then (if e % 7 < 4 then d.meStatusWord e else d.xxStatusWord e)
  else if o = 8 then word (d.engAt e).head
  else if o = 0xC then word ((d.engAt e).head / 2 ^ 32 % 65536)
  else d.reg k

/-! ## Models, Diesk, time, faults, flash -/

/-- The state of a resident entry (Table 7.14). -/
def Device.entryCode (d : Device) (m : Model) : Nat :=
  match m.st with
  | .empty => 0 | .loading => 1
  | .resident => if d.tck.active.isSome && decide (d.tck.modelTag = m.tag) then 3 else 2

/-- HIF_MODEL_STATE. -/
def Device.modelWord (d : Device) : Word :=
  let rep := (List.range 4).any fun f => decide ((d.facetAt f).st = .replacing)
  word (fldAt 31 31 (d.fld Reg.hifModelState 31 31) + fldAt 30 30 (b2n rep) + fldAt 7 4 (d.entryCode d.model1) +
    fldAt 3 0 (d.entryCode d.model0))

/-- REQ_MASK of the system variant in force. -/
def Device.reqMaskNow (d : Device) : Nat := match d.activeModel with | some m => nth m.reqMask d.apt.sv 0 | none => 0

/-- TIM_STATUS. -/
def Device.timStatusWord (d : Device) : Word :=
  word (fldAt 31 31 (b2n (!d.isMaster)) + fldAt 30 30 (b2n d.tim.grantAt.isSome) + d.fld Reg.timStatus 7 0)

/-- CHK_TIME_STATUS. -/
def Device.copyWord (d : Device) : Word :=
  match d.ctime.st with
  | .notStarted => 0 | .disciplined => 0x40000000 | .freeRun => 0x80000000

/-- The code of a Facet's state (Table 12.12). -/
def FacetState.code : FacetState → Nat
  | .healthy => 0 | .fenced => 1 | .testing => 2 | .replacing => 3 | .ready => 4 | .returnPending => 5 | .failed => 6
  | .locked => 7

/-- FLT_FACET. -/
def Device.fltFacetWord (d : Device) : Word :=
  word (sumBy (fun f => fldAt (4 * f + 19) (4 * f + 16) (min 15 ((d.facetAt f).recent d.q).length) +
    fldAt (4 * f + 3) (4 * f) (d.facetAt f).st.code) (List.range 4))

/-- FLT_STATUS. -/
def Device.fltStatusWord (d : Device) : Word :=
  word (fldAt 31 31 (d.fld Reg.fltFatal 31 31) + fldAt 30 30 (b2n d.errOut) + fldAt 25 16 d.pendCount + d.fld Reg.fltStatus 3 0)

/-- FLT_ST_PRISMq. -/
def Device.prismWord (d : Device) (q : Nat) : Word :=
  let p := d.prismAt q
  word (fldAt 31 28 p.nextSeg + fldAt 23 16 p.failSeg + min 65535 ((d.q - (d.bgAt (.selftest q)).ageFrom) / sQ))

/-! ## Checker (Tables 9.9, 10.4 to 10.13, 11.5, 13.6, 16.9) -/

/-- CHK_CORE. -/
def Device.coreWord (d : Device) : Word :=
  word (fldAt 31 31 (b2n d.core.split) + fldAt 30 30 (b2n (d.core.haltA || d.core.haltB)) + fldAt 29 29 (b2n d.synced) +
    d.fld Reg.chkCore 19 0)

/-- The open phase has begun. -/
def Device.wdgOpenNow (d : Device) : Bool := decide (d.wdgBounds.1 ≤ d.wdgNow)

/-- WDG_REMAIN. -/
def Device.wdgRemainWord (d : Device) : Word :=
  if d.wdg.running then word ((if d.wdgOpenNow then d.wdgBounds.2 else d.wdgBounds.1) - d.wdgNow) else 0

/-- WDG_STATUS. -/
def Device.wdgStatusWord (d : Device) : Word :=
  let ph := if !d.wdg.running then 0 else if d.wdg.first then 1 else if d.wdgOpenNow then 3 else 2
  word (fldAt 31 30 ph + fldAt 29 29 (b2n d.wdg.frozenAt.isSome) + fldAt 28 28 (b2n d.boot.otp.wdgHwstart) +
    d.fld Reg.wdgStatus 0 0)

/-- WDG_LADDER. -/
def Device.ladderWord (d : Device) : Word :=
  word (fldAt 31 28 d.maxTries + fldAt 27 24 d.ladder.expCnt + fldAt 23 20 d.ladder.lastKind +
    fldAt 19 19 (b2n d.ladder.runSince) + fldAt 18 18 (b2n d.ladder.timerAt.isSome))

/-- STW_Wn_STATE. -/
def Device.winWord (d : Device) (n : Nat) : Word :=
  let last := fun k : Nat => b2n ((d.reg (k + 4 * (n / 32))).getLsbD (n % 32))
  let j := fldAt 2 2 (last Reg.stwTimingLo) + fldAt 1 1 (last Reg.stwMissingLo) + last Reg.stwExtraLo
  match d.winAt n with
  | none => word j
  | some w =>
    let ph := if w.closed then 3 else if ((w.openUs * 1000 : Nat) : Int) ≤ d.sinceTickNs then 2 else 1
    word (fldAt 23 20 w.got + fldAt 19 16 w.count + fldAt 9 9 (b2n w.safety) + fldAt 8 8 (b2n w.image) + fldAt 5 4 ph + j)

/-- A register of a stage window: OPEN_US, CLOSE_US, state. -/
def Device.winView (d : Device) (n o : Nat) : Word :=
  if o = 8 then d.winWord n
  else match d.winAt n with
    | some w => if o = 0 then word w.openUs else if o = 4 then word w.closeUs else 0
    | none => 0

/-- A speed in mm/s as 16 bits, saturating. -/
def speed16 (x : Int) : Nat := (BitVec.ofInt 16 (max (-32768) (min 32767 (unitQuot x 400)))).toNat

/-- SIO_STATUS: the filtered inputs are channel B's (DESIGN CHOICE, log 41). -/
def Device.sioStatusWord (d : Device) : Word :=
  let s := d.sio
  let on := fun o : Output => b2n (o.swA && o.swB)
  word (fldAt 31 31 (on s.outA) + fldAt 30 30 (on s.outB) + fldAt 29 29 (b2n s.outA.fb) + fldAt 28 28 (b2n s.outB.fb) +
    fldAt 27 27 (b2n s.chA.req) + fldAt 26 26 (b2n s.chB.req) + fldAt 25 25 (b2n s.chB.estopA) +
    fldAt 24 24 (b2n s.chB.estopB) + fldAt 23 23 (b2n s.chB.resetIn) + fldAt 22 22 (b2n d.chk.armedAt.isSome) +
    fldAt 21 21 (b2n s.chB.referenced) + fldAt 20 20 (b2n s.demand) + d.fld Reg.sioStatus 3 0)

/-- SIO_CLASS, as channel B sees it. -/
def Device.sioClassWord (d : Device) : Word :=
  word (fldAt 31 16 (min 65535 (unitQuot (d.limitNow .b) sQ).toNat) + fldAt 10 8 d.sio.chB.cls + fldAt 1 0 d.apt.zone)

/-- The position of encoder `n` in µm, as channel B counts it. -/
def Device.posUm (d : Device) (n : Nat) : Int :=
  unitQuot (if n = 0 then d.posNm .b else d.sio.chB.enc1.count * d.safetySet.enc1Nm) 1000

/-- SIO_SEAL. -/
def Device.sealWord (d : Device) : Word :=
  word (fldAt 31 16 (d.fld Reg.sioSeal 31 16) + fldAt 15 8 d.boot.sealed.code.toNat + fldAt 3 0 d.boot.sealed.sel.toNat)

/-- BOOT_KEYS. -/
def Device.keysWord (d : Device) : Word :=
  word (sumBy (fun s => fldAt (3 * s + 2) (3 * s) (nth d.boot.otp.usage s 0).toNat) (List.range 8))

/-- BOOT_KEY_STATE. -/
def Device.keyStateWord (d : Device) : Word :=
  word (sumBy (fun s => fldAt (8 + s) (8 + s) (b2n (decide (nth d.boot.otp.keyHash s 0 ≠ 0)))) (List.range 8) +
    d.boot.otp.revoked.toNat)

/-- APT_WINDOW. -/
def Device.aptWindowWord (d : Device) : Word :=
  word (fldAt 23 16 d.apt.badCount + fldAt 15 8 d.safetySet.n + fldAt 7 0 d.safetySet.m)

/-- APT_VERDICT. -/
def Device.aptVerdictWord (d : Device) : Word :=
  word (fldAt 31 16 (d.fld Reg.aptVerdict 31 16) + fldAt 10 8 d.apt.speed + fldAt 7 6 d.apt.restrict + d.fld Reg.aptVerdict 2 0)

/-- APT_CFG. -/
def Device.aptCfgWord (d : Device) : Word :=
  let r := d.safetySet.range
  word (fldAt 31 16 r.cellMm + fldAt 15 8 r.thr + fldAt 7 0 r.sensors.toNat)

/-- The registers of the checker window that follow the state; the two result records lie at 0x2000 and 0x4000 (R245). -/
def Device.chkView (d : Device) (k : Nat) : Word :=
  if k = Reg.chkState then d.stateWord
  else if k = Reg.chkTimeNs then word d.ctime.ns
  else if k = Reg.hifReqStatus then putBits (d.reg k) 31 31 (b2n d.reqBusy)
  else if k = Reg.chkTimeStatus then d.copyWord
  else if k = Reg.aptVerdict then d.aptVerdictWord
  else if k = Reg.aptWindow then d.aptWindowWord
  else if k = Reg.aptCfg then d.aptCfgWord
  else if k = Reg.chkCore then d.coreWord
  else if k = Reg.wdgCtrl then word (fldAt 31 31 (d.fld Reg.wdgCtrl 31 31) +
    fldAt 0 0 (b2n (d.boot.otp.wdgHwstart || d.bitAt Reg.wdgCtrl 0)))
  else if k = Reg.wdgStatus then d.wdgStatusWord
  else if k = Reg.wdgRemain then d.wdgRemainWord
  else if k = Reg.wdgLadder then d.ladderWord
  else if k = Reg.stwStatus then word (fldAt 23 16 d.stw.wins.length + d.stw.frame.toNat)
  else if 0x2006100 ≤ k ∧ k < 0x2006500 then d.winView ((k - 0x2006100) / 16) ((k - 0x2006100) % 16)
  else if k = Reg.cvuEnabled then word (countBy (fun c : Nat × Ctx => c.2.en) d.cvu.ctx)
  else if k = Reg.fltStatus then d.fltStatusWord
  else if k = Reg.fltFacet then d.fltFacetWord
  else if k = Reg.sioStatus then d.sioStatusWord
  else if k = Reg.sioLock then word d.sio.lock.toNat
  else if k = Reg.sioClass then d.sioClassWord
  else if k = Reg.sioSeal then d.sealWord
  else if k = Reg.sioEnc0PosLo then lo64 (d.posUm 0)
  else if k = Reg.sioEnc0PosHi then hi64 (d.posUm 0)
  else if k = Reg.sioEnc1PosLo then lo64 (d.posUm 1)
  else if k = Reg.sioEnc1PosHi then hi64 (d.posUm 1)
  else if k = Reg.sioEncSpeed then word (speed16 (d.motion .b).2 * 65536 + speed16 (d.motion .b).1)
  else if k = Reg.bootOtpVer then word (fldAt 15 8 d.boot.otp.structCtr + fldAt 7 0 d.boot.otp.bootCtr)
  else if k = Reg.bootKeys then d.keysWord
  else if k = Reg.bootKeyState then d.keyStateWord
  else if 0x2002000 ≤ k ∧ k < 0x2006000 then word (leAt (tabGet [] d.apt.records ((k - 0x2002000) / 0x2000)) ((k - 0x2002000) % 0x2000) 4)
  else d.reg k

/-! ## Capability list (R348, R349) -/

/-- Devices of the system. -/
def Device.systemSize (d : Device) : Nat := if d.topo = 1 then d.fld Reg.dskCfg 7 4 + 1 else if d.topo = 2 then 16 else 1

/-- Flash channels with targets. -/
def Device.flashChannels (d : Device) : Nat :=
  b2n (decide (d.fld Reg.nvmChStatus 3 0 ≠ 0)) + b2n (decide (d.fld Reg.nvmChStatus 7 4 ≠ 0))

/-- The bodies of the capabilities in ID order (Table 14.5), each cut or padded to its length. -/
def Device.capBodies (d : Device) : List (List Byte) :=
  let v := d.boot.img.device
  let s := d.safetySet
  let geom := (List.range 96).map fun j => toLe 4 ((d.reg (Reg.meGeom (meEngine j))).toNat +
    fldAt 24 24 (b2n ((d.engAt (meEngine j)).fenced || (d.prismAt (j / 4)).fenced)))
  let lens := sumBy (fun r : LensRec × Nat => if r.1.en then 2 ^ r.2 else 0) d.boot.img.lens.zipIdx
  [slice (toLe 2 0x9640 ++ toLe 2 Config.siliconRev.toNat ++ toLe 8 d.boot.otp.deviceNumber.toNat ++ toLe 2 0x100 ++
     toLe 2 d.boot.imgVersion ++ toLe 4 Config.romVersion.toNat ++ toLe 1 d.devId) 0 32,
   slice (toLe 4 5000 ++ toLe 4 200000 ++ toLe 4 (imagePeriod v) ++ toLe 4 (b2n (d.bitAt Reg.tckCtrl 0))) 0 16,
   slice geom.flatten 0 384,
   slice (toLe 4 0x3FFF ++ toLe 4 0x07FF ++ toLe 4 (d.reg (Reg.meAbftTol0 0)).toNat ++ toLe 4 (d.reg (Reg.meAbftTol1 0)).toNat ++
     toLe 4 (d.reg (Reg.meAbftTol2 0)).toNat ++ toLe 4 (d.reg (Reg.meAbftTol3 0)).toNat) 0 24,
   slice (toLe 4 4096 ++ toLe 4 8192 ++ toLe 4 4096 ++ toLe 4 v.fbufResKib ++ toLe 8 v.maBase ++ toLe 8 v.maEnd ++
     toLe 8 v.resOfs ++ toLe 4 v.resBytes ++ toLe 4 d.hif.bar2Log) 0 48,
   slice (toLe 1 4 ++ toLe 1 0x10 ++ toLe 1 3 ++ toLe 1 d.topo ++ toLe 1 d.systemSize) 0 8,
   slice (toLe 1 8 ++ toLe 1 16 ++ toLe 2 lens ++ toLe 2 450) 0 8,
   slice (toLe 4 (d.reg Reg.timStepMax).toNat ++ toLe 1 32 ++ toLe 1 16) 0 8,
   slice (toLe 4 65536 ++ toLe 1 d.boot.img.stage.length ++ toLe 1 (b2n d.boot.otp.wdgHwstart) ++ toLe 1 d.maxTries ++
     toLe 1 0 ++ toLe 4 d.boot.img.contexts.length) 0 16,
   slice (toLe 1 4 ++ toLe 1 8 ++ toLe 1 48) 0 8,
   slice (toLe 1 d.flashChannels ++ toLe 1 (d.fld Reg.nvmChStatus 3 0) ++ toLe 2 0 ++ toLe 4 (tableAt d.boot.partCopy)) 0 8,
   slice (toLe 1 d.boot.sealed.sel.toNat ++ toLe 1 s.m ++ toLe 1 s.n ++ toLe 1 (b2n s.sdiEn + 2 * b2n s.slpEn)) 0 8,
   slice (toLe 4 512 ++ toLe 4 0x8200) 0 8]

/-- The entries from `id` on, the first at `ofs`, one after the other (the places: DESIGN CHOICE, log 42). -/
def capList : List (List Byte) → Nat → Nat → List Byte
  | [], _, _ => []
  | b :: l, id, ofs =>
    let next := if l.isEmpty then 0 else ofs + 16 + b.length
    toLe 2 id ++ toLe 1 0 ++ toLe 1 1 ++ toLe 4 next ++ toLe 4 b.length ++ toLe 4 0 ++ b ++
      capList l (id + 1) (ofs + 16 + b.length)

/-- The capability list, which starts at BAR0 offset 0x100. -/
def Device.caps (d : Device) : List Byte := capList d.capBodies 1 0x100

/-! ## All registers -/

/-- The registers of the lower half of BAR0 that follow the state. -/
def Device.cmpView (d : Device) (k : Nat) : Word :=
  if 0x100 ≤ k ∧ k < 0x4000 then word (leAt d.caps (k - 0x100) 4)
  else if k = Reg.tckStatus then d.tckStatusWord
  else if k = Reg.tckPeriod then word d.tck.period
  else if k = Reg.tckBgState then d.bgWord
  else if k = Reg.memScrubAge then word ((d.q - (d.bgAt .scrub).ageFrom) / msQ)
  else if k = Reg.hifModelState then d.modelWord
  else if k = Reg.hifModel0TagLo then word d.model0.tag.toNat
  else if k = Reg.hifModel0TagHi then word (d.model0.tag.toNat / 2 ^ 32)
  else if k = Reg.hifModel1TagLo then word d.model1.tag.toNat
  else if k = Reg.hifModel1TagHi then word (d.model1.tag.toNat / 2 ^ 32)
  else if k = Reg.dskStatus then word (fldAt 31 24 (d.fld Reg.dskStatus 31 24) + fldAt 23 20 d.apt.sv + d.fld Reg.dskStatus 7 0)
  else if k = Reg.dskPresent then word (fldAt 31 16 d.reqMaskNow + d.fld Reg.dskPresent 15 0)
  else if k = Reg.timStatus then d.timStatusWord
  else if k = Reg.timNs then word d.tim.ns
  else if isIdx k (Reg.timCapNs 0) 16 32 then word (d.capAt ((k - Reg.timCapNs 0) / 16)).ns
  else if isIdx k (Reg.fltStPrism 0) 4 24 then d.prismWord ((k - Reg.fltStPrism 0) / 4)
  else if k = Reg.prfCtrl then word (fldAt 2 2 (d.fld Reg.prfCtrl 2 2) + b2n d.prf.busy.isSome)
  else if isIdx k (Reg.prfSel 0 4) 32 168 then 1
  else if isIdx k Reg.prfPage 4 4096 then
    (if d.bitAt Reg.hifPerfUser 0 then word (leAt d.prf.page (k - Reg.prfPage) 4) else 0)
  else if k = Reg.nvmWear then d.wearWord
  else if k = Reg.nvmRetAge then word ((d.q - (d.bgAt .flash).ageFrom) / (60 * sQ))
  else if k = Reg.nvmEvt then word (fldAt 31 16 (min 65535 d.nvm.seq) + fldAt 5 0 d.nvm.seq)
  else d.reg k

/-- What the register at BAR0 offset `k` reads. -/
def Device.view (d : Device) (k : Nat) : Word :=
  match engOfs k with
  | some (e, o) => d.engView e o k
  | none => if isChk k then d.chkView k else d.cmpView k

end Sys2Proof.Machine
end

