-- ==== Sys2Proof/Machine/HostRead.lean ====
section
/-! DEFINITION. Reads of the host: memory through BAR2 (R343), registers of BAR0 and BAR4 by size (R344), the configuration
space (R340). -/

namespace Sys2Proof.Machine

/-- A read of one register of BAR0: what it returns, and its side effects (R210, R217, R222). -/
def Device.regRead (d : Device) (k : Nat) : Device × Word :=
  let v := d.view k
  if k = Reg.timNs then (d.readTimNs, v)
  else if isIdx k (Reg.timCapNs 0) 16 32 then (d.readCapNs ((k - Reg.timCapNs 0) / 16), v)
  else if k = Reg.chkTimeNs then (d.readChkNs, v)
  else (d, v)

/-- Reads of `n` registers from `k` on, the lower address first. -/
def Device.regReads (d : Device) (k : Nat) : Nat → Device × List Byte
  | 0 => (d, [])
  | n + 1 =>
    let (d, v) := d.regRead k
    let (d, l) := d.regReads (k + 4) n
    (d, toLe 4 v.toNat ++ l)

/-- A read ends with Unsupported Request. -/
def Device.unsupported (d : Device) : Device :=
  let d := d.raise Reg.hifStatus 0
  { d with hif := { d.hif with rsp := ⟨[], false, true⟩ } }

/-- A read of `n` bytes of registers from offset `ofs` on: every register it touches is read (R344; three registers:
DEDUCED, log 140). -/
def Device.hostRegRead (d : Device) (bar4 : Bool) (ofs n : Nat) : Device :=
  if 8 < n then d.unsupported
  else
    let k := ofs / 4 * 4
    let (d, l) := d.regReads (if bar4 then chkBase + k else k) ((ofs + n - k + 3) / 4)
    d.answer (slice l (ofs - k) n)

/-- HOST_MEMORY_READ (R343, R344): in D3hot a read of a BAR ends with Unsupported Request. -/
def execHostMemoryRead (at_ : HostAt) (len : Nat) (s : State) : Host.Outcome State Fault Refusal :=
  let ofs := at_.ofs
  match at_.space with
  | .config => act (s.dev.linkOk && inCfg ofs len)
      (fun d => d.answer (slice (toLe 4 (d.hif.cfgView (ofs / 4 * 4)).toNat) (ofs % 4) len)) s
  | .bar2 => if s.dev.hif.d3 then act s.dev.linkOk (fun d => d.unsupported) s
      else act (s.dev.bar2Ok ofs len) (fun d => d.hostRead ofs len) s
  | sp =>
    let b4 := decide (sp = .bar4)
    act (s.dev.linkOk && inBar b4 ofs len) (fun d => if d.hif.d3 then d.unsupported else d.hostRegRead b4 ofs len) s

end Sys2Proof.Machine
end

