-- ==== Sys2Proof/Machine/Dispatch.lean ====
section
/-! DEFINITION. One arm per command: its effect on everything but the queue. -/

namespace Sys2Proof.Machine

/-- The effect of a command. -/
def exec (i : Instr) (s : State) : Host.Outcome State Fault Refusal :=
  match i with
  | .checkerSupplyValid => Sys2Proof.Machine.execCheckerSupplyValid s
  | .checkerSupplyRemoved => Sys2Proof.Machine.execCheckerSupplyRemoved s
  | .checkerRailLow => Sys2Proof.Machine.execCheckerRailLow s
  | .computePowerEnable => Sys2Proof.Machine.execComputePowerEnable s
  | .computeResetRelease inRange fl => Sys2Proof.Machine.execComputeResetRelease inRange fl s
  | .partitionTableRead => Sys2Proof.Machine.execPartitionTableRead s
  | .bootImageVerify a b => Sys2Proof.Machine.execBootImageVerify a b s
  | .structureImageVerify a b oa ob sw => Sys2Proof.Machine.execStructureImageVerify a b oa ob sw s
  | .repairRecordVerify => Sys2Proof.Machine.execRepairRecordVerify s
  | .computeConfigured => Sys2Proof.Machine.execComputeConfigured s
  | .startupTestComplete r => Sys2Proof.Machine.execStartupTestComplete r s
  | .warmResetBegin => Sys2Proof.Machine.execWarmResetBegin s
  | .perstN => Sys2Proof.Machine.execPerstN s
  | .functionLevelReset => Sys2Proof.Machine.execFunctionLevelReset s
  | .hotReset => Sys2Proof.Machine.execHotReset s
  | .pcieLinkLoss aer => Sys2Proof.Machine.execPcieLinkLoss aer s
  | .tick => Sys2Proof.Machine.execTick s
  | .abandonmentComplete => Sys2Proof.Machine.execAbandonmentComplete s
  | .frameSyncEdge => Sys2Proof.Machine.execFrameSyncEdge s
  | .syncWindowClose => Sys2Proof.Machine.execSyncWindowClose s
  | .syncAcq => Sys2Proof.Machine.execSyncAcq s
  | .testRun run => Sys2Proof.Machine.execTestRun run s
  | .testPlanVerified parts read => Sys2Proof.Machine.execTestPlanVerified parts read s
  | .commandFetch e => Sys2Proof.Machine.execCommandFetch e s
  | .nop e => Sys2Proof.Machine.execNop e s
  | .endCmd e => Sys2Proof.Machine.execEndCmd e s
  | .wait e => Sys2Proof.Machine.execWait e s
  | .signal e => Sys2Proof.Machine.execSignal e s
  | .mark e => Sys2Proof.Machine.execMark e s
  | .loop e => Sys2Proof.Machine.execLoop e s
  | .mm e => Sys2Proof.Machine.execMm e s
  | .mmc e => Sys2Proof.Machine.execMmc e s
  | .agd e => Sys2Proof.Machine.execAgd e s
  | .meStreamStart e => Sys2Proof.Machine.execMeStreamStart e s
  | .meRowWrite e => Sys2Proof.Machine.execMeRowWrite e s
  | .meCommandDone e => Sys2Proof.Machine.execMeCommandDone e s
  | .vew e => Sys2Proof.Machine.execVew e s
  | .vact e => Sys2Proof.Machine.execVact e s
  | .vnorm e => Sys2Proof.Machine.execVnorm e s
  | .vsmax e => Sys2Proof.Machine.execVsmax e s
  | .vpool e => Sys2Proof.Machine.execVpool e s
  | .vresize e => Sys2Proof.Machine.execVresize e s
  | .vred e => Sys2Proof.Machine.execVred e s
  | .vargmax e => Sys2Proof.Machine.execVargmax e s
  | .vtopk e => Sys2Proof.Machine.execVtopk e s
  | .vcompact e => Sys2Proof.Machine.execVcompact e s
  | .vqmx e => Sys2Proof.Machine.execVqmx e s
  | .veCommandComplete e => Sys2Proof.Machine.execVeCommandComplete e s
  | .copy e => Sys2Proof.Machine.execCopy e s
  | .fetch2d e => Sys2Proof.Machine.execFetch2d e s
  | .gather e => Sys2Proof.Machine.execGather e s
  | .store e => Sys2Proof.Machine.execStore e s
  | .storeT e => Sys2Proof.Machine.execStoreT e s
  | .send e => Sys2Proof.Machine.execSend e s
  | .memoryRequestComplete e k => Sys2Proof.Machine.execMemoryRequestComplete e k s
  | .pageDecodeComplete span => Sys2Proof.Machine.execPageDecodeComplete span s
  | .tokenSignalArrival c => Sys2Proof.Machine.execTokenSignalArrival c s
  | .engineBlockReset e => Sys2Proof.Machine.execEngineBlockReset e s
  | .abftInj e => Sys2Proof.Machine.execAbftInj e s
  | .mergeDrain ctrl => Sys2Proof.Machine.execMergeDrain ctrl s
  | .facetZeroingComplete f => Sys2Proof.Machine.execFacetZeroingComplete f s
  | .scrubSpanVisit ctrl => Sys2Proof.Machine.execScrubSpanVisit ctrl s
  | .memFence => Sys2Proof.Machine.execMemFence s
  | .fenceComplete => Sys2Proof.Machine.execFenceComplete s
  | .memTestModeWrite v => Sys2Proof.Machine.execMemTestModeWrite v s
  | .hostMemoryWrite ofs bytes ep => Sys2Proof.Machine.execHostMemoryWrite ofs bytes ep s
  | .hostMemoryRead at_ len => Sys2Proof.Machine.execHostMemoryRead at_ len s
  | .bgLevelUrgent c => Sys2Proof.Machine.execBgLevelUrgent c s
  | .bgLevelForced c => Sys2Proof.Machine.execBgLevelForced c s
  | .bgUnitComplete c rep => Sys2Proof.Machine.execBgUnitComplete c rep s
  | .selftestSegmentStart q => Sys2Proof.Machine.execSelftestSegmentStart q s
  | .selftestSegmentEnd q r => Sys2Proof.Machine.execSelftestSegmentEnd q r s
  | .swap tag a => Sys2Proof.Machine.execSwap tag a s
  | .planValidationDone => Sys2Proof.Machine.execPlanValidationDone s
  | .planDigestCompareDone => Sys2Proof.Machine.execPlanDigestCompareDone s
  | .load tag a => Sys2Proof.Machine.execLoad tag a s
  | .loadComplete read => Sys2Proof.Machine.execLoadComplete read s
  | .unload tag a => Sys2Proof.Machine.execUnload tag a s
  | .unloadComplete => Sys2Proof.Machine.execUnloadComplete s
  | .replace tag a => Sys2Proof.Machine.execReplace tag a s
  | .timeGrant tag a => Sys2Proof.Machine.execTimeGrant tag a s
  | .timeGrantLapse => Sys2Proof.Machine.execTimeGrantLapse s
  | .chkRestart tag a => Sys2Proof.Machine.execChkRestart tag a s
  | .cvuMode tag a => Sys2Proof.Machine.execCvuMode tag a s
  | .maint tag a => Sys2Proof.Machine.execMaint tag a s
  | .warmReset tag a => Sys2Proof.Machine.execWarmReset tag a s
  | .facetReturn tag a => Sys2Proof.Machine.execFacetReturn tag a s
  | .faultForce tag a => Sys2Proof.Machine.execFaultForce tag a s
  | .faultClear tag a => Sys2Proof.Machine.execFaultClear tag a s
  | .hifHostVerWrite v => Sys2Proof.Machine.execHifHostVerWrite v s
  | .hifBar2BaseWrite hi v => Sys2Proof.Machine.execHifBar2BaseWrite hi v s
  | .registerWrite m sp ofs bytes => Sys2Proof.Machine.execRegisterWrite m sp ofs bytes s
  | .timNsRead => Sys2Proof.Machine.execTimNsRead s
  | .timCapNsRead n => Sys2Proof.Machine.execTimCapNsRead n s
  | .chkTimeNsRead => Sys2Proof.Machine.execChkTimeNsRead s
  | .ethTsqPop m => Sys2Proof.Machine.execEthTsqPop m s
  | .chkRngTsqPop n => Sys2Proof.Machine.execChkRngTsqPop n s
  | .timIncrWrite v => Sys2Proof.Machine.execTimIncrWrite v s
  | .stepGo => Sys2Proof.Machine.execStepGo s
  | .captureEvent n => Sys2Proof.Machine.execCaptureEvent n s
  | .triggerPulseStart n => Sys2Proof.Machine.execTriggerPulseStart n s
  | .triggerPulseEnd n => Sys2Proof.Machine.execTriggerPulseEnd n s
  | .timeMessage sec ns => Sys2Proof.Machine.execTimeMessage sec ns s
  | .timeCopyTimeout => Sys2Proof.Machine.execTimeCopyTimeout s
  | .csi2LongPacket p h crcOk payload => Sys2Proof.Machine.execCsi2LongPacket p h crcOk payload s
  | .frameStart h vc num => Sys2Proof.Machine.execFrameStart h vc num s
  | .frameEnd h vc => Sys2Proof.Machine.execFrameEnd h vc s
  | .lensFrameComplete n => Sys2Proof.Machine.execLensFrameComplete n s
  | .ethFrameReceive p fcsOk bytes => Sys2Proof.Machine.execEthFrameReceive p fcsOk bytes s
  | .ethTailWrite p tx v => Sys2Proof.Machine.execEthTailWrite p tx v s
  | .ethTransmit p => Sys2Proof.Machine.execEthTransmit p s
  | .ringFacetWrite v => Sys2Proof.Machine.execRingFacetWrite v s
  | .rangeFrameReceive n fcsOk f => Sys2Proof.Machine.execRangeFrameReceive n fcsOk f s
  | .rangeFrameForward n => Sys2Proof.Machine.execRangeFrameForward n s
  | .rangeTransmit n => Sys2Proof.Machine.execRangeTransmit n s
  | .wr p f => Sys2Proof.Machine.execWr p f s
  | .wrAck p f => Sys2Proof.Machine.execWrAck p f s
  | .rdReq p f => Sys2Proof.Machine.execRdReq p f s
  | .rdResp p f => Sys2Proof.Machine.execRdResp p f s
  | .sig p f => Sys2Proof.Machine.execSig p f s
  | .tickFlit p f => Sys2Proof.Machine.execTickFlit p f s
  | .tickFlitSend => Sys2Proof.Machine.execTickFlitSend s
  | .tickFlitMissing => Sys2Proof.Machine.execTickFlitMissing s
  | .timeFlit p f delay => Sys2Proof.Machine.execTimeFlit p f delay s
  | .timeFlitSend p => Sys2Proof.Machine.execTimeFlitSend p s
  | .statusFlit p f r => Sys2Proof.Machine.execStatusFlit p f r s
  | .masterElection => Sys2Proof.Machine.execMasterElection s
  | .train p f major minor lanes => Sys2Proof.Machine.execTrain p f major minor lanes s
  | .nak p f => Sys2Proof.Machine.execNak p f s
  | .idle p f => Sys2Proof.Machine.execIdle p f s
  | .dskPortRetrain p => Sys2Proof.Machine.execDskPortRetrain p s
  | .markCheckin => Sys2Proof.Machine.execMarkCheckin s
  | .stageWindowClose n => Sys2Proof.Machine.execStageWindowClose n s
  | .allEndReport => Sys2Proof.Machine.execAllEndReport s
  | .aperturePacket l => Sys2Proof.Machine.execAperturePacket l s
  | .packetAck e => Sys2Proof.Machine.execPacketAck e s
  | .comparisonComplete => Sys2Proof.Machine.execComparisonComplete s
  | .challengeSplice draws => Sys2Proof.Machine.execChallengeSplice draws s
  | .challengeSlotDone => Sys2Proof.Machine.execChallengeSlotDone s
  | .verdict => Sys2Proof.Machine.execVerdict s
  | .resultRecordPublish => Sys2Proof.Machine.execResultRecordPublish s
  | .eventStaging => Sys2Proof.Machine.execEventStaging s
  | .eventLensAppend claimed => Sys2Proof.Machine.execEventLensAppend claimed s
  | .eventFlashWrite failed => Sys2Proof.Machine.execEventFlashWrite failed s
  | .speedClassChange c => Sys2Proof.Machine.execSpeedClassChange c s
  | .faultPairRegistration src => Sys2Proof.Machine.execFaultPairRegistration src s
  | .brokenPair src => Sys2Proof.Machine.execBrokenPair src s
  | .checkerSourceRaise src => Sys2Proof.Machine.execCheckerSourceRaise src s
  | .fenceConfirm n => Sys2Proof.Machine.execFenceConfirm n s
  | .fenceConfirmTimeout n => Sys2Proof.Machine.execFenceConfirmTimeout n s
  | .fatalRecordAck => Sys2Proof.Machine.execFatalRecordAck s
  | .fatalAckTimeout => Sys2Proof.Machine.execFatalAckTimeout s
  | .errOutHoldExpiry => Sys2Proof.Machine.execErrOutHoldExpiry s
  | .vmonCmp => Sys2Proof.Machine.execVmonCmp s
  | .fmonCmp => Sys2Proof.Machine.execFmonCmp s
  | .chkSupply => Sys2Proof.Machine.execChkSupply s
  | .fltForce v => Sys2Proof.Machine.execFltForce v s
  | .facetTestComplete f t => Sys2Proof.Machine.execFacetTestComplete f t s
  | .replacementComplete f first => Sys2Proof.Machine.execReplacementComplete f first s
  | .repairRecordUpdate j fault writeOk => Sys2Proof.Machine.execRepairRecordUpdate j fault writeOk s
  | .checkpoint m x => Sys2Proof.Machine.execCheckpoint m x s
  | .checkpointTimeout m => Sys2Proof.Machine.execCheckpointTimeout m s
  | .storeCompare m x => Sys2Proof.Machine.execStoreCompare m x s
  | .channelARestart failTrial => Sys2Proof.Machine.execChannelARestart failTrial s
  | .corePairRelease vec reload => Sys2Proof.Machine.execCorePairRelease vec reload s
  | .firmwareInitComplete => Sys2Proof.Machine.execFirmwareInitComplete s
  | .debugHalt c => Sys2Proof.Machine.execDebugHalt c s
  | .debugResume c => Sys2Proof.Machine.execDebugResume c s
  | .wdgService w => Sys2Proof.Machine.execWdgService w s
  | .wdgPhaseOpen => Sys2Proof.Machine.execWdgPhaseOpen s
  | .wdgMissed => Sys2Proof.Machine.execWdgMissed s
  | .wdgEnable => Sys2Proof.Machine.execWdgEnable s
  | .wdgPhaseConfig isOpen v => Sys2Proof.Machine.execWdgPhaseConfig isOpen v s
  | .ladderTimerExpiry => Sys2Proof.Machine.execLadderTimerExpiry s
  | .expCntClear => Sys2Proof.Machine.execExpCntClear s
  | .cvuModeWrite v => Sys2Proof.Machine.execCvuModeWrite v s
  | .cvuSnapshot m v => Sys2Proof.Machine.execCvuSnapshot m v s
  | .prfSelWrite u k v wraps => Sys2Proof.Machine.execPrfSelWrite u k v wraps s
  | .snapshotRequest => Sys2Proof.Machine.execSnapshotRequest s
  | .snapshotWriteComplete => Sys2Proof.Machine.execSnapshotWriteComplete s
  | .read v => Sys2Proof.Machine.execRead v s
  | .program v => Sys2Proof.Machine.execProgram v s
  | .erase v => Sys2Proof.Machine.execErase v s
  | .nvmOpComplete r => Sys2Proof.Machine.execNvmOpComplete r s
  | .encoderEdge e a b z => Sys2Proof.Machine.execEncoderEdge e a b z s
  | .speedSampleB => Sys2Proof.Machine.execSpeedSampleB s
  | .speedSampleA => Sys2Proof.Machine.execSpeedSampleA s
  | .estopInput c second closed => Sys2Proof.Machine.execEstopInput c second closed s
  | .estopDiscrepancy c => Sys2Proof.Machine.execEstopDiscrepancy c s
  | .sresetInLevel c closed => Sys2Proof.Machine.execSresetInLevel c closed s
  | .resetHeld3s c => Sys2Proof.Machine.execResetHeld3s c s
  | .armedResetLapse => Sys2Proof.Machine.execArmedResetLapse s
  | .sealRead r => Sys2Proof.Machine.execSealRead r s
  | .testPulseStart o => Sys2Proof.Machine.execTestPulseStart o s
  | .testPulseEnd o => Sys2Proof.Machine.execTestPulseEnd o s
  | .readbackSample c o level => Sys2Proof.Machine.execReadbackSample c o level s
  | .enableRequestChange c o => Sys2Proof.Machine.execEnableRequestChange c o s
  | .faultPairClear src => Sys2Proof.Machine.execFaultPairClear src s
  | .flitCrcError p => Sys2Proof.Machine.execFlitCrcError p s
  | .counterWrap u k => Sys2Proof.Machine.execCounterWrap u k s
  | .ethLinkChange p up speed => Sys2Proof.Machine.execEthLinkChange p up speed s

end Sys2Proof.Machine
end

