-- ==== Sys2Proof/Machine/Step.lean ====
section
/-! DEFINITION. The step of the block: the command at the front of the queue, or the passing of time. -/

namespace Sys2Proof.Machine

/-- One step: the command at the front of the queue acts on the state with the rest of the queue; on an empty queue
1/14 ns passes (DESIGN CHOICE, log 15). -/
def step (s : State) : Host.Outcome State Fault Refusal :=
  match s.pending with
  | [] => .next { s with dev := s.dev.passTime }
  | c :: rest => exec c { s with pending := rest }

/-- `s` with the command that a word spells at the front of its queue; no word spells one. -/
def State.withFetchWord (s : State) (nbits w : Nat) : State :=
  match decodeTableWord nbits w with
  | some c => { s with pending := c :: s.pending }
  | none => s

end Sys2Proof.Machine
end

