-- ==== Sys2Proof/Machine/Pins.lean ====
section
/-! DEFINITION. What the pins show: their state in each supply condition (R408, Table 17.6) and with a group that section PINS
disables (R399). -/

namespace Sys2Proof.Machine

/-- The pin groups of Table 17.6; `n` is a port, a channel, or 0 for the first of a pair of pins. -/
inductive PinGroup where
  | safeOut (n : Nat) | errOut (n : Nat) | pwrEn | chkInput | rng | pcie | diesk (n : Nat) | lens (n : Nat) | eth (n : Nat) | mdio
  | nvmCe (n : Nat) | nvmWp (n : Nat) | timeOut
deriving DecidableEq, Repr

/-- What a pin shows. -/
inductive PinLevel where
  | highZ | low | high | input | idle | active
deriving DecidableEq, Repr

/-- Driven high or low. -/
def driven (b : Bool) : PinLevel := if b then .high else .low

/-- A pin group of the compute die: `on` is its state where the die runs and the structure image enables it, `rst` its state while
the die is in reset. -/
def Device.cmpPin (d : Device) (en : Bool) (rst on : PinLevel) : PinLevel :=
  if !d.chk.pwrEn || !en then .highZ else if d.chk.cmpReset then rst else on

/-- What a pin group shows. -/
def Device.pin (d : Device) (g : PinGroup) : PinLevel :=
  let p := d.boot.img.pins
  if !d.chk.power then .highZ
  else match g with
  | .safeOut n =>
    let o := if n = 0 then d.sio.outA else d.sio.outB
    driven (d.cmpAlive && o.swA && o.swB)
  | .errOut n => driven (d.errOut == decide (n = 0))
  | .pwrEn => driven d.chk.pwrEn
  | .chkInput => .input
  | .rng => .active
  | .pcie => d.cmpPin true .idle .active
  | .diesk n => d.cmpPin (p.dskEn.getLsbD n) .highZ .active
  | .lens n => d.cmpPin (p.lensEn.getLsbD n) .highZ .active
  | .eth n => d.cmpPin (p.ethEn.getLsbD n) .highZ .active
  | .mdio => d.cmpPin true .highZ .active
  | .nvmCe n => d.cmpPin (!d.boot.imgOk || p.nvmEn.getLsbD n) .high .active
  | .nvmWp n => d.cmpPin (!d.boot.imgOk || p.nvmEn.getLsbD n) .low .active
  | .timeOut => d.cmpPin true .low .active

end Sys2Proof.Machine
end

