-- ==== Sys2Proof/Safety.lean ====
section
/-! DEFINITION. The terms of claims about runs: that a command completes, what it may change, and the forms that every
step keeps. -/

namespace Sys2Proof.Machine

/-! ## Completion and frames -/

/-- Command `c` answers a next state from `s`, leaves the queue as it is, and `P` holds of the device after it. -/
def Completes (c : Instr) (s : State) (P : Device → Prop) : Prop :=
  ∃ t, exec c s = .next t ∧ t.pending = s.pending ∧ P t.dev

/-- The device without its registers and the note of what was set in them in this cycle (R10), the messages that vectors sent,
the performance collector, and how long a request is being checked (R352). -/
def Device.sansRegs (d : Device) : Device :=
  { d with regs := [], evts := [], prf := Device.reset.prf, hif := { d.hif with sent := [], busyTill := 0 } }

/-- The device without its registers, its memories, the fault pairs of the compute die, and which requests wait for a page
decode (R152). -/
def Device.sansMem (d : Device) : Device :=
  { d.sansRegs with mem := .reset, flt := { d.flt with pair := [] }
                    eng := d.eng.map fun g => (g.1, g.2.keepHeld fun _ => false) }

/-- The registers that interrupts and counting touch beside the ones a command names: the pending bits of the vectors
(R341) and PRF_STATUS. -/
def irqRegs : List Nat := [0x4800, 0x4804, Reg.prfStatus]

/-- Registers outside `l` and `irqRegs` read in `d'` as in `d`. -/
def SameRegs (d d' : Device) (l : List Nat) : Prop := ∀ k, k ∉ l → k ∉ irqRegs → d'.reg k = d.reg k

/-- From `d` to `d'` only registers in `l` change, with interrupts and performance counters. -/
def OnlyRegs (d d' : Device) (l : List Nat) : Prop := d'.sansRegs = d.sansRegs ∧ SameRegs d d' l

/-- Request `op` with `tag` is answered (R355): the completion takes the next entry of the ring, and HIF_REQ_STATUS names it. -/
def Answered (d d' : Device) (op : Nat) (tag : Byte) (status : Nat) (result : Word) : Prop :=
  d'.reg Reg.hifCplCount = d.reg Reg.hifCplCount + 1 ∧
  d'.reg (Reg.hifCplInfo ((d.reg Reg.hifCplCount).toNat % 16)) = word (op * 2 ^ 24 + tag.toNat * 2 ^ 16 + status) ∧
  d'.reg (Reg.hifCplResult ((d.reg Reg.hifCplCount).toNat % 16)) = result ∧
  d'.reg (Reg.hifCplSeq ((d.reg Reg.hifCplCount).toNat % 16)) = d.reg Reg.hifCplCount ∧
  d'.fld Reg.hifReqStatus 23 16 = tag.toNat ∧ d'.fld Reg.hifReqStatus 15 8 = op ∧ d'.fld Reg.hifReqStatus 7 0 = status

/-- The submission is being checked, for at most 8,000 c-cycles, and OVERLAP is cleared (R352). -/
def Checking (d d' : Device) : Prop :=
  d'.reqBusy = true ∧ d'.hif.busyTill ≤ d.q + 8000 * cQ ∧ d'.bitAt Reg.hifReqStatus 30 = false

/-- The registers of the completion ring. -/
def cplRegs : List Nat :=
  Reg.hifCplCount :: Reg.hifReqStatus ::
    (List.range 16).flatMap fun i => [Reg.hifCplInfo i, Reg.hifCplResult i, Reg.hifCplSeq i, Reg.hifCplNs i]

/-- What a submission writes: HIF_REQ_STATUS.OVERLAP and the argument registers. -/
def argRegs : List Nat := [Reg.hifReqStatus, Reg.hifReqArg 0, Reg.hifReqArg 1, Reg.hifReqArg 2, Reg.hifReqArg 3]

/-- The requests of Table 14.6 with their operation codes. -/
def requests (tag : Byte) (a : ReqArgs) : List (Instr × Nat) :=
  [(.swap tag a, 1), (.load tag a, 2), (.unload tag a, 3), (.replace tag a, 4), (.timeGrant tag a, 5), (.chkRestart tag a, 6),
   (.cvuMode tag a, 7), (.maint tag a, 8), (.warmReset tag a, 9), (.facetReturn tag a, 10), (.faultForce tag a, 11),
   (.faultClear tag a, 12)]

/-- A host request may be accepted: the host reaches the device, no submission is being checked, a version is agreed, and the device
is not ROM-only. -/
def Device.asks (d : Device) : Prop := d.hostUp = true ∧ d.reqBusy = false ∧ d.agreed = true ∧ d.chk.romOnly = false

/-- Engine `e` is about to start the only command it holds, `h` with opcode `op`: it runs, nothing before `h` is
unfinished, and `h` is neither poisoned nor tagged. -/
def Device.solo (d : Device) (e op : Nat) (h : FCmd) : Prop :=
  e < 168 ∧ d.running e = true ∧ (d.engAt e).queue = [h] ∧ (d.engAt e).acts = [] ∧ (d.engAt e).waitDone = false ∧
  (d.meAt e).pipe = [] ∧ h.poisoned = false ∧ h.tag = none ∧ opcode h.word = op ∧ opAllowed (engKind e) op = true

/-- The counter that the header WAIT of a command names. -/
def waitCtr (e : Nat) (w : CmdWord) : Ctr := ctrOf e (cmdFld w 2 6 2) (cmdFld w 2 0 6)

/-- The header WAIT of a command is absent or satisfied (R111). -/
def Device.waitMet (d : Device) (e : Nat) (w : CmdWord) : Prop := waitEn w = true → waitN w ≤ d.ctr (waitCtr e w)

/-- What a satisfied header WAIT subtracts is gone, and no other register has changed but those of `l`. -/
def Waited (d d' : Device) (e : Nat) (w : CmdWord) (l : List Nat) : Prop :=
  (waitEn w = true → d'.ctr (waitCtr e w) = d.ctr (waitCtr e w) - waitN w) ∧
  SameRegs d d' (if waitEn w then ctrReg (waitCtr e w) :: l else l)

/-- Every engine but `e` is as before. -/
def OtherEngines (d d' : Device) (e : Nat) : Prop := ∀ x, x ≠ e → d'.engAt x = d.engAt x

/-- Every engine but `e` is as before but for which of its requests wait for a page decode (R152). -/
def OtherEnginesRun (d d' : Device) (e : Nat) : Prop :=
  ∀ x, x ≠ e → (d'.engAt x).keepHeld (fun _ => false) = (d.engAt x).keepHeld fun _ => false

/-- A new frame has started, or none where the device stays in MAINT (R37): nothing of the old frame is left in an engine or an
array, and every token counter reads 0. -/
def Restarted (d : Device) : Prop :=
  (∀ e, e < 168 → (d.engAt e).queue = [] ∧ (d.engAt e).acts = [] ∧ (d.engAt e).loops = [] ∧
    (d.engAt e).veOut = [] ∧ (d.engAt e).stopped = false ∧ (d.engAt e).blocked = none) ∧ d.me = [] ∧
  (∀ k : Ctr, okCtr k = true → d.ctr k = 0) ∧ (d.chk.dev ≠ .maint → d.tck.frameOpen = true)

/-- The header SIGNAL of a command that has completed is on its way (R111, R116). -/
def Device.signalled (d : Device) (e : Nat) (w : CmdWord) : List SigMsg :=
  if sigEn w then d.sigs ++ [⟨sigCtr e w, sigN w, e, d.q / aQ + scopeLat (cmdFld w 3 6 2)⟩] else d.sigs

/-- Engine `e` has nothing left of the lone command `w` that it started in `d`: its queue and its list are empty, no other
engine has changed, and no register but what the header WAIT counted down and those of `l`. -/
def LoneDone (d d' : Device) (e : Nat) (w : CmdWord) (l : List Nat) : Prop :=
  (d'.engAt e).queue = [] ∧ (d'.engAt e).acts = [] ∧ OtherEngines d d' e ∧ Waited d d' e w l

/-- A comparison of kind `k` has failed (R252, R262, R263): its evidence, CHK_LOCKSTEP pending, one more channel A failure. -/
def Mismatched (d d' : Device) (k : Nat) (lo hi : Word) (retired : Nat) (pc : Word) : Prop :=
  d'.bitAt Reg.chkCmpStatus 31 = true ∧ d'.fld Reg.chkCmpStatus 30 28 = k ∧ d'.reg Reg.chkCmpDiffLo = lo ∧
  d'.reg Reg.chkCmpDiffHi = hi ∧ d'.reg Reg.chkCmpRetired = word retired ∧ d'.reg Reg.wdgEvidPc = pc ∧
  d'.ladder.lastKind = 4 ∧ d'.ladder.expCnt = min (d.ladder.expCnt + 1) 7 ∧ d'.pend Src.lockstep = true

/-- The watchdog has failed with LAST_KIND `kind` and the main core at `pc` (R259, R262): its evidence, WDG_FAIL pending, one more
channel A failure. -/
def WdgFailed (d : Device) (kind : Nat) (pc : Word) (d' : Device) : Prop :=
  d'.ladder.lastKind = kind ∧ d'.reg Reg.wdgEvidPc = pc ∧ d'.pend Src.wdgFail = true ∧
  d'.ladder.expCnt = min (d.ladder.expCnt + 1) 7

/-- The lone MM or MMC `h`, whose word is `w`, has entered the pipeline of engine `e` (R67, R68): its weights stand in the shadow
register unless it reuses the active ones, and its header WAIT has counted down or blocks the engine. -/
def MatrixStarted (d : Device) (e : Nat) (h : FCmd) (w : CmdWord) (d' : Device) : Prop :=
  (d'.engAt e).queue = [] ∧ (d'.engAt e).acts = [Act.mk h.addr w 0 0 [] 0 false none 0] ∧
  (∃ m : MeCmd, (d'.meAt e).pipe = [m] ∧ m.word = w ∧ m.addr = h.addr ∧ m.s = none ∧ m.next = 0 ∧
    m.injected = d.bitAt (Reg.meCtrl e) 2 ∧
    m.v = (if waitEn w = false then some 0 else if waitN w ≤ d.ctr (waitCtr e w) then some (d.q / aQ) else none)) ∧
  (d'.meAt e).active = (d.meAt e).active ∧ (mmLoads w = false → (d'.meAt e).shadow = (d.meAt e).shadow) ∧
  (mmLoads w = true → ∃ t : Weights, (d'.meAt e).shadow = some t ∧ t.k = mmK w ∧ t.rows.length = mmK w ∧ t.nmask = mmMask w) ∧
  (waitEn w = true → waitN w ≤ d.ctr (waitCtr e w) →
    d'.ctr (waitCtr e w) = d.ctr (waitCtr e w) - waitN w ∧ (d'.engAt e).phase = .executing) ∧
  (waitEn w = true → d.ctr (waitCtr e w) < waitN w → (d'.engAt e).phase = .waiting ∧
    (d'.engAt e).blocked = some (waitCtr e w, waitN w) ∧ d'.ctr (waitCtr e w) = d.ctr (waitCtr e w)) ∧
  OtherEnginesRun d d' e ∧ (∀ y, y ≠ e → d'.meAt y = d.meAt y) ∧ d'.sansMem = { d with eng := d'.eng, me := d'.me }.sansMem

/-- The lone VE command `h`, whose word is `w`, has started and computed its results by `f` (R138 to R140): they wait for its
completion, and until then no byte is written but what decoding corrects. -/
def VectorStarted (d : Device) (e : Nat) (h : FCmd) (w : CmdWord) (f : VAcc → VAcc) (d' : Device) : Prop :=
  (d'.engAt e).queue = [] ∧ (d'.engAt e).acts = [Act.mk h.addr w 0 0 [] 0 false none 0] ∧
  (d'.engAt e).veOut = (f ⟨(d.gate e w).1.popCmd e, [], 0⟩).out ∧
  (waitEn w = true → d'.ctr (waitCtr e w) = d.ctr (waitCtr e w) - waitN w) ∧ OtherEnginesRun d d' e ∧
  d'.sigs = d.sigs ∧ d'.sansMem = { d with eng := d'.eng }.sansMem

/-- The lone transfer `h`, whose word is `w`, has started (R126, R130): it has issued its requests up to the engine's limit, each
outstanding, and written nothing. -/
def TransferStarted (d : Device) (e : Nat) (h : FCmd) (w : CmdWord) (d' : Device) : Prop :=
  (d'.engAt e).queue = [] ∧
  (∃ a : Act, (d'.engAt e).acts = [a] ∧ a.word = w ∧ a.addr = h.addr ∧ a.done = false ∧ a.total = reqTotal w ∧
    a.next = min (reqTotal w) (reqLimit e) ∧ a.out = (List.range a.next).map fun i => Request.mk i (d.q / aQ) [] false none) ∧
  Waited d d' e w [] ∧ OtherEngines d d' e ∧ d'.sansRegs = { d with eng := d'.eng }.sansRegs

/-- The safety outputs are off: no output has both switches closed (R28, R315). -/
def Device.outputsOpen (d : Device) : Prop :=
  (d.sio.outA.swA && d.sio.outA.swB) = false ∧ (d.sio.outB.swA && d.sio.outB.swB) = false

/-- Channel `c` has taken a sample (R321, R326 to R328): the counts join its last ones, each run of violations goes on or ends, and a
violation at the second sample in a row sets its bit of SIO_LOCK, withdraws both requests and raises SIO_LIMIT. -/
def Sampled (d : Device) (c : Chan) (d' : Device) : Prop :=
  ∀ d1 : Device, d1 = (d.takeCounts c).setChan c { (d.takeCounts c).chanAt c with
      posArmed := ((d.takeCounts c).chanAt c).posArmed && decide (d.posSide c ≠ 0) } →
    (d'.chanAt c).hist0 = ((d.chanAt c).enc0.count :: (d.chanAt c).hist0).take 5 ∧
    (d'.chanAt c).hist1 = ((d.chanAt c).enc1.count :: (d.chanAt c).hist1).take 5 ∧
    (d'.chanAt c).overRun = nextRun (d.chanAt c).overRun (d1.overSpeed c) ∧
    (d'.chanAt c).dirRun = nextRun (d.chanAt c).dirRun (d1.dirBad c) ∧
    (d'.chanAt c).posRun = nextRun (d.chanAt c).posRun (d1.posBad c) ∧
    (∀ i, (i, true, 1) ∈ [(0, d1.overSpeed c, (d.chanAt c).overRun), (1, d1.dirBad c, (d.chanAt c).dirRun),
        (2, d1.posBad c, (d.chanAt c).posRun)] →
      d'.sio.lock.getLsbD i = true ∧ d'.pend Src.limit = true ∧ d'.sio.chA.req = false ∧ d'.sio.chB.req = false) ∧
    ((∀ i, (i, true, 1) ∉ [(0, d1.overSpeed c, (d.chanAt c).overRun), (1, d1.dirBad c, (d.chanAt c).dirRun),
        (2, d1.posBad c, (d.chanAt c).posRun)]) → d1.speedsDiffer c = false →
      d'.sio.lock = d.sio.lock ∧ d'.chanAt (otherChan c) = d.chanAt (otherChan c) ∧ d' = { d with sio := d'.sio }) ∧
    (d'.chanAt (otherChan c)).hist0 = (d.chanAt (otherChan c)).hist0

/-- Registering a source has no reaction but INT (R292, R293): registers change, and the count of this c-cycle's log entries. -/
def RegisteredOnly (d d' : Device) : Prop :=
  d'.sansRegs = { d with flt := { d.flt with logCyc := d'.flt.logCyc, logN := d'.flt.logN } }.sansRegs

/-- Monitor source `x` with cause code `n` has registered where its reaction is a warm reset (R292, R296, R402). -/
def MonitorWarm (d : Device) (x n : Nat) (d' : Device) : Prop :=
  d'.pend x = true ∧ d'.chk.warm = some n ∧ d'.chk.dev = d.chk.dev ∧ d'.outputsOpen ∧ d'.chk.pinAt = some d.q ∧ d'.errOut = true

/-- Monitor source `x` with cause code `n` has registered in BOOT or STARTUP_TEST (R296): SAFE, and compute power is removed. -/
def MonitorSafe (x n : Nat) (d' : Device) : Prop :=
  d'.pend x = true ∧ d'.chk.dev = .safe ∧ d'.chk.cause = n ∧ d'.chk.pwrEn = false

/-- A safety output that stays off until enable is requested anew: not both switches closed, no enable waits for the end of a slot,
and no test pulse returns (R314, R331, R332). -/
def Output.idle (o : Output) : Prop :=
  (o.swA && o.swB) = false ∧ o.waitA = false ∧ o.waitB = false ∧ (o.pulseAt = none ∨ o.demand = true)

/-- Both safety outputs stay off, and no channel requests enable. -/
def Device.outputsIdle (d : Device) : Prop :=
  d.sio.outA.idle ∧ d.sio.outB.idle ∧ d.sio.chA.req = false ∧ d.sio.chB.req = false

/-- In FATAL compute power has been removed, and nothing that FATAL keeps is lost (R303). -/
def FatalPowerOff (d d' : Device) : Prop :=
  d'.pin (.errOut 0) = .high ∧ d'.pin (.errOut 1) = .low ∧ d'.pin .pcie = .highZ ∧ d'.pin .pwrEn = .low ∧
  d'.chk.dev = .fatal ∧ d'.chk.pwrEn = false ∧ d'.chk.cmpReset = true ∧ d'.cmpAlive = false ∧ d'.mem = { MemSys.reset with lapAt := d.q } ∧
  d'.reg Reg.fltFatal = d.reg Reg.fltFatal ∧ d'.sio = d.sio

/-- What a write of NVM_OP with operation `op` does (R391): OP_REJ while an operation runs; ARG_ERR and STATE_REJECT with the operation not
started; else the operation runs, BUSY reads 1, and a PROGRAM makes its partition invalid first. -/
def NvmStarts (op : Nat) (v : Word) (d d' : Device) : Prop :=
  (d.nvm.op.isSome = true → d'.bitAt Reg.nvmStatus 2 = true ∧ OnlyRegs d d' [Reg.nvmStatus]) ∧
  (d.nvm.op = none → d.nvmArgs op (bits v 3 0) = false →
    d'.reg Reg.nvmOpStatus = word (bits v 23 16 * 65536 + op * 256 + 2) ∧ d'.bitAt Reg.nvmStatus 1 = true ∧
    OnlyRegs d d' [Reg.nvmOpStatus, Reg.nvmStatus]) ∧
  (d.nvm.op = none → d.nvmArgs op (bits v 3 0) = true → d.nvmState op (bits v 3 0) = false →
    d'.reg Reg.nvmOpStatus = word (bits v 23 16 * 65536 + op * 256 + 1) ∧ d'.bitAt Reg.nvmStatus 2 = true ∧
    OnlyRegs d d' [Reg.nvmOpStatus, Reg.nvmStatus]) ∧
  (d.nvm.op = none → d.nvmArgs op (bits v 3 0) = true → d.nvmState op (bits v 3 0) = true →
    d'.nvm.op = some { op := op, tag := bits v 23 16, part := bits v 3 0, addr := d.nvmAddr
                       ofs := (d.reg Reg.nvmOfs).toNat * 4096, len := (d.reg Reg.nvmLen).toNat * 4096 } ∧
    d'.reg Reg.nvmOpStatus = word (2 ^ 31 + bits v 23 16 * 65536 + op * 256) ∧ SameRegs d d' [Reg.nvmOpStatus] ∧
    (op = 2 → (d'.partAt (bits v 3 0)).valid = false) ∧ (op ≠ 2 → d'.boot = d.boot ∧ d'.nvm.flash = d.nvm.flash) ∧
    d'.sansRegs = { d with boot := d'.boot, nvm := d'.nvm }.sansRegs)

/-- The checker supply has gone (R304, R402): the OTP and the flash are what is left. -/
def Unpowered (d d' : Device) : Prop :=
  d'.chk.power = false ∧ (∀ g, d'.pin g = .highZ) ∧ d'.chk.dev ≠ .fatal ∧ d'.outputsOpen ∧ d'.errOut = false ∧ d'.cmpAlive = false ∧ d'.regs = [] ∧
  d'.boot.otp = d.boot.otp ∧ d'.nvm.flash = d.nvm.flash

/-- The PCI Express function alone has been reset (R356, R406): the HIF block, the MSI-X table and the configuration. -/
def PcieResetOnly (d d' : Device) : Prop :=
  (∀ k, k ≤ Reg.hifPerfUser → d'.reg k = Reg.resetVal k) ∧ (∀ k, 0x4000 ≤ k → k < 0x5000 → d'.reg k = Reg.resetVal k) ∧
  (∀ k, Reg.hifPerfUser < k → k < 0x4000 → d'.reg k = d.reg k) ∧ (∀ k, 0x5000 ≤ k → d'.reg k = d.reg k) ∧
  d' = { d with regs := d'.regs, hif := { d.hif with cfg := [] } }

/-- Flit `f` of a type arrives sound and next in turn on port `p` of a link that carries flits (R182, R183). -/
def Device.inTurn (d : Device) (p type : Nat) (f : Flit) : Prop :=
  d.linkOn p = true ∧ f.wf = true ∧ f.crc = flitCrc type f ∧ f.seq = ((d.portAt p).rxSeq + 1) % 4096

/-- The replay buffer of port `p` has room, and no flit waits for it (R183). -/
def Device.linkFree (d : Device) (p : Nat) : Prop := (d.portAt p).replay.length < 512 ∧ (d.portAt p).wait = []

/-- The link of port `p` has taken flit `f`: its SEQ is the last good one, and its ACK frees the replay buffer for what waits (R183). -/
def Device.took (d : Device) (p : Nat) (f : Flit) : Device :=
  (d.setPort p { d.portAt p with rxSeq := f.seq }).takeAck p f.ack

/-- From `d`, flit `f` on port `p` has been handled and the flits of `l` sent for it; where nothing has gone out on the port, an IDLE
takes the ACK back (R183). -/
def Handled (d d' : Device) (p : Nat) (f : Flit) (l : List (Nat × TxFlit)) : Prop :=
  ∃ x : TxFlit, x.type = FT.idle ∧ x.flit.ack = f.seq ∧
    d'.dsk.out = (d.took p f).dsk.out ++ l ++
      (if countBy (fun y => decide (y.1 = p)) ((d.took p f).dsk.out ++ l) = d.sentOn p then [(p, x)] else [])

/-- What a device sends when it answers with a flit of a type: it leaves on the port of the route to `dst` where the replay buffer
of that port has room, else it waits; without a route nothing is sent (R182, R183, R185). -/
def Sends (u : Device) (type dst : Nat) (poison : BitVec 8) (payload : List Byte) (l : List (Nat × TxFlit)) : Prop :=
  match u.route dst with
  | none => l = []
  | some o => (¬ u.linkFree o → l = []) ∧ (u.linkFree o → ∃ x : TxFlit, l = [(o, x)] ∧ x.type = type ∧ x.flit.dst = dst ∧
      x.flit.src = u.devId ∧ x.flit.frame = BitVec.ofNat 16 u.frame.toNat ∧ x.flit.poison = poison ∧
      x.flit.payload = padFlit payload)

/-- Flit `f` on port `p` has been answered with one of a type. -/
def SentFlit (d d' : Device) (p : Nat) (f : Flit) (type dst : Nat) (poison : BitVec 8) (payload : List Byte) : Prop :=
  ∃ l, Sends (d.took p f) type dst poison payload l ∧ Handled d d' p f l

/-- The flits of a link that devices pass on, as received on port `p`, with their types (Table 7.10). -/
def flits (p : Nat) (f : Flit) : List (Instr × Nat) :=
  [(.wr p f, FT.wr), (.wrAck p f, FT.wrAck), (.rdReq p f, FT.rdReq), (.rdResp p f, FT.rdResp), (.sig p f, FT.sig),
   (.tickFlit p f, FT.tick), (.statusFlit p f (flitReport f), FT.status)]

/-- A NAK on port `p` names the last good flit, and nothing else has changed but registers (R183). -/
def NakSent (d d' : Device) (p : Nat) : Prop :=
  (∃ x : TxFlit, d'.dsk.out = d.dsk.out ++ [(p, x)] ∧ x.type = FT.nak ∧ x.flit.ack = (d.portAt p).rxSeq) ∧
  d'.sansRegs = { d with dsk := { d.dsk with out := d'.dsk.out } }.sansRegs

/-- The one request in flight of engine `e`, of command `a`, has been answered (R126, R186): it is no longer outstanding, and `r`
is no longer awaited. -/
def RemoteAnswered (d d' : Device) (r : RemReq) (a : Act) : Prop :=
  d'.dsk.rem = d.dsk.rem.erase r ∧ d'.engAt r.eng = { d.engAt r.eng with acts := [{ a with out := [], last := d.q / aQ }] } ∧
  OtherEnginesRun d d' r.eng ∧
  d'.sansMem = { d with dsk := { d.dsk with port := d'.dsk.port, out := d'.dsk.out, rem := d'.dsk.rem }
                        eng := d'.eng, raceAt := d'.raceAt, races := d'.races }.sansMem

/-- Cause `b` of APT_CAUSE is charged: to the frame in progress, or after its verdict as LATE to the next (R225, R242). -/
def Caused (d d' : Device) (b : Nat) : Prop :=
  (d.apt.issued = false → d'.apt.causes = d.apt.causes ||| BitVec.ofNat 32 (2 ^ b)) ∧
  (d.apt.issued = true → d'.apt.carry = d.apt.carry ||| 0x8000)

/-! ## Forms -/

/-- The compute die's memories are in canonical form: bytes, check-bit syndromes and page-check syndromes. -/
def MemSys.wf (m : MemSys) : Bool := tabWf 0 m.data && tabWf 0 m.syn && tabWf SpanErr.zero m.span

/-- Device memory and flash are in canonical form. -/
def Memory.wf (d : Device) : Bool := d.mem.wf && tabWf 0xFF d.nvm.flash

end Sys2Proof.Machine
end

