-- ==== Sys2Proof/Certificates/Slice0/Obligations.lean ====
section
/-! DEFINITION. The statements for the provers. -/

open Sys2Proof Sys2Proof.Machine

/-- A step takes the command at the front of the queue and runs it with the rest; on an empty queue time passes
(the model's choice, log 15). -/
def Obligations.StepRunsFrontCommand : Prop :=
  (∀ (c : Instr) (s : State), step { s with pending := c :: s.pending } = exec c s) ∧
  (∀ s : State, s.pending = [] → step s = .next { s with dev := s.dev.passTime })

/-- However long the queue, `n` steps run its first `n` commands, and none of them stops the machine. -/
def Obligations.QueueRunsToItsEnd : Prop :=
  ∀ (n : Nat) (s : State), ∃ t : State, Host.Core.run core n s = .next t ∧ t.pending = s.pending.drop n

/-- Right after the checker supply has become valid the device is in BOOT with the safety outputs off, ERR_OUT asserted and compute power
off; every register reads its reset value, no request runs, and the memories are in canonical form (R13, R375). -/
def Obligations.ResetState : Prop :=
  State.reset.pending = [] ∧ State.reset.dev.chk.dev = .boot ∧ State.reset.dev.outputsOpen ∧ State.reset.dev.errOut = true ∧
  State.reset.dev.chk.pwrEn = false ∧ State.reset.dev.chk.cmpReset = true ∧ State.reset.dev.cmpAlive = false ∧
  (∀ k, State.reset.dev.reg k = Reg.resetVal k) ∧ State.reset.dev.hif.running = [] ∧ State.reset.dev.sio.lock = 0 ∧
  Memory.wf State.reset.dev = true

/-- Every step keeps the memories of the compute die and the flash in canonical form, so that equal memories are equal data. -/
def Obligations.MemoryFormKept : Prop :=
  ∀ s t : State, step s = .next t → Memory.wf s.dev = true → Memory.wf t.dev = true

/-- FATAL is left by no command but the loss of the checker supply, and in it the safety outputs stay off (R304). Sources raise and
register without a reaction, no request is accepted, and once the fatal record is acknowledged, or 50 ms pass, compute power is
removed (R303, R304). -/
def Obligations.FatalIsFinal : Prop :=
  (∀ (s : State) (c : Instr), c ∉ [Instr.checkerSupplyValid, .checkerSupplyRemoved, .checkerRailLow] → s.dev.chk.dev = .fatal →
    s.dev.outputsIdle → Completes c s fun d => d.chk.dev = .fatal ∧ d.outputsIdle) ∧
  (∀ (s : State) (x : Nat), x ∈ [Src.tickInterval, Src.aptUntrusted, Src.aptWitness, Src.stwFault, Src.cvuFail, Src.timeCopy] →
    s.dev.chk.power = true → s.dev.chk.dev = .fatal →
    Completes (.checkerSourceRaise x) s fun d => d.pend x = true ∧ RegisteredOnly s.dev d) ∧
  (∀ (s : State) (tag : Byte) (a : ReqArgs) (x : Instr × Nat), x ∈ requests tag a → s.dev.hostUp = true →
    s.dev.chk.dev = .fatal →
    Completes x.1 s fun d => OnlyRegs s.dev d
      (Reg.hifReqRejCnt :: Reg.hifReqRejLast :: argRegs ++ cplRegs)) ∧
  (∀ s : State, s.dev.chk.power = true → s.dev.chk.dev = .fatal → s.dev.chk.recordAt.isSome = true → s.dev.cmpAlive = true →
    Completes .fatalRecordAck s (FatalPowerOff s.dev) ∧ Completes .fatalAckTimeout s (FatalPowerOff s.dev))

/-- NOP, WAIT, SIGNAL and MARK that stand alone at the head of their engine complete: the header WAIT counts down, the
header SIGNAL is sent, MARK sends its stage, and nothing else changes (R111, R118, R120, R121).
END that stands alone idles its engine until the tick, and the all-END report is sent when every engine that counts
has reached END (R53, R121). A header WAIT that is not met blocks the engine on its counter, and nothing else changes
(R111). -/
def Obligations.OrderingCommandsComplete : Prop :=
  ((∀ (s : State) (e : Nat) (h : FCmd), s.dev.solo e 0 h → hdrCauses h.word = [] → plainCauses s.dev h.word = [] →
    s.dev.waitMet e h.word →
    Completes (.nop e) s fun d => LoneDone s.dev d e h.word [] ∧
      d.sansRegs = { s.dev with eng := d.eng, sigs := s.dev.signalled e h.word }.sansRegs) ∧
  (∀ (s : State) (e : Nat) (h : FCmd), s.dev.solo e 2 h → hdrCauses h.word = [] → waitCauses s.dev h.word = [] →
    s.dev.waitMet e h.word →
    Completes (.wait e) s fun d => LoneDone s.dev d e h.word [] ∧
      d.ctr (waitCtr e h.word) = s.dev.ctr (waitCtr e h.word) - waitN h.word ∧
      d.sansRegs = { s.dev with eng := d.eng, sigs := s.dev.signalled e h.word }.sansRegs) ∧
  (∀ (s : State) (e : Nat) (h : FCmd), s.dev.solo e 3 h → hdrCauses h.word = [] → signalCauses s.dev h.word = [] →
    cmdFld h.word 8 7 1 = 0 → s.dev.waitMet e h.word →
    Completes (.signal e) s fun d => LoneDone s.dev d e h.word [] ∧
      d.sigs = s.dev.sigs ++ [SigMsg.mk (sigCtr e h.word) (sigN h.word) e (s.dev.q / aQ + scopeLat (cmdFld h.word 3 6 2))] ∧
      d.sansRegs = { s.dev with eng := d.eng, sigs := d.sigs }.sansRegs) ∧
  (∀ (s : State) (e p : Nat) (h : FCmd), s.dev.solo e 3 h → hdrCauses h.word = [] → signalCauses s.dev h.word = [] →
    cmdFld h.word 8 7 1 = 1 → s.dev.route (cmdFld h.word 8 0 4) = some p → s.dev.linkFree p →
    s.dev.waitMet e h.word →
    Completes (.signal e) s fun d => LoneDone s.dev d e h.word [] ∧
      (∃ x : TxFlit, d.dsk.out = s.dev.dsk.out ++ [(p, x)] ∧ x.type = FT.sig ∧ x.flit.dst = cmdFld h.word 8 0 4 ∧
        x.flit.frame = BitVec.ofNat 16 s.dev.frame.toNat ∧
        x.flit.payload = padFlit (toLe 1 (cmdFld h.word 3 0 6) ++ toLe 1 0 ++ toLe 2 (sigN h.word))) ∧
      d.sansRegs = { s.dev with eng := d.eng, dsk := d.dsk }.sansRegs) ∧
  (∀ (s : State) (e : Nat) (h : FCmd), s.dev.solo e 4 h → hdrCauses h.word = [] → markCauses s.dev h.word = [] →
    s.dev.waitMet e h.word →
    Completes (.mark e) s fun d => LoneDone s.dev d e h.word [] ∧
      d.marks = addMark s.dev.marks ⟨e, cmdFld h.word 8 0 6, BitVec.ofNat 16 s.dev.frame.toNat, s.dev.q / aQ⟩ ∧
      d.sansRegs = { s.dev with eng := d.eng, sigs := s.dev.signalled e h.word, marks := d.marks }.sansRegs)) ∧
  ((∀ (s : State) (e : Nat) (h : FCmd), s.dev.solo e 1 h → hdrCauses h.word = [] → plainCauses s.dev h.word = [] →
    s.dev.waitMet e h.word →
    Completes (.endCmd e) s fun d => LoneDone s.dev d e h.word [] ∧ (d.engAt e).atEnd = true ∧
      (d.engAt e).phase = .idle ∧ (d.engAt e).loops = [] ∧ (d.engAt e).fetch = none ∧
      d.tck.allEndSent = (s.dev.tck.allEndSent || (s.dev.tck.frameOpen && d.allEnd)) ∧
      d.sansRegs = { s.dev with eng := d.eng, sigs := s.dev.signalled e h.word, tck := { s.dev.tck with
        allEndSent := d.tck.allEndSent } }.sansRegs) ∧
  (∀ (s : State) (e : Nat) (h : FCmd), s.dev.solo e 2 h → hdrCauses h.word = [] → waitCauses s.dev h.word = [] →
    s.dev.ctr (waitCtr e h.word) < waitN h.word →
    Completes (.wait e) s fun d => OtherEngines s.dev d e ∧ SameRegs s.dev d [] ∧
      d.engAt e = { s.dev.engAt e with phase := .waiting, blocked := some (waitCtr e h.word, waitN h.word) } ∧
      d.sansRegs = { s.dev with eng := d.eng }.sansRegs))

/-- A LOOP that stands alone (R123): with its own entry on top of the stack it counts another pass and goes back to its
body, or drops the entry after the last; otherwise COUNT = 1 falls through and a larger COUNT opens an entry and
goes back. -/
def Obligations.LoopRepeatsItsBody : Prop :=
  ∀ (s : State) (e : Nat) (h : FCmd), s.dev.solo e 5 h → hdrCauses h.word = [] →
    loopCauses e h.addr s.dev h.word = [] →
    (∀ (ls : List LoopEnt) (t : LoopEnt), (s.dev.engAt e).loops = ls ++ [t] → t.addr = h.addr →
      t.iter + 1 < loopCount h.word →
      Completes (.loop e) s fun d => LoneDone s.dev d e h.word [] ∧
        (d.engAt e).loops = ls ++ [{ t with iter := t.iter + 1 }] ∧
        (d.engAt e).fetch = some (h.addr - 64 * loopLen h.word) ∧ d.sansRegs = { s.dev with eng := d.eng }.sansRegs) ∧
    (∀ (ls : List LoopEnt) (t : LoopEnt), (s.dev.engAt e).loops = ls ++ [t] → t.addr = h.addr →
      loopCount h.word ≤ t.iter + 1 →
      Completes (.loop e) s fun d => LoneDone s.dev d e h.word [] ∧ (d.engAt e).loops = ls ∧
        (d.engAt e).fetch = (s.dev.engAt e).fetch ∧ d.sansRegs = { s.dev with eng := d.eng }.sansRegs) ∧
    ((∀ t, (s.dev.engAt e).loops.getLast? = some t → t.addr ≠ h.addr) → loopCount h.word = 1 →
      Completes (.loop e) s fun d => LoneDone s.dev d e h.word [] ∧ (d.engAt e).loops = (s.dev.engAt e).loops ∧
        (d.engAt e).fetch = (s.dev.engAt e).fetch ∧ d.sansRegs = { s.dev with eng := d.eng }.sansRegs) ∧
    ((∀ t, (s.dev.engAt e).loops.getLast? = some t → t.addr ≠ h.addr) → 1 < loopCount h.word →
      Completes (.loop e) s fun d => LoneDone s.dev d e h.word [] ∧
        (d.engAt e).loops = (s.dev.engAt e).loops ++ [LoopEnt.mk h.addr (h.addr - 64 * loopLen h.word) 1
          (loopStep h.word 0) (loopStep h.word 1) (loopStep h.word 2) (loopStep h.word 3)] ∧
        (d.engAt e).fetch = some (h.addr - 64 * loopLen h.word) ∧ d.sansRegs = { s.dev with eng := d.eng }.sansRegs)

/-- An illegal command halts its engine until the tick (R115): ERR.CMD is set, ERR_INFO holds the lowest cause, the pair
of XX_CMD is raised, the command stays where it is, and memory and the other engines are left alone. -/
def Obligations.IllegalCommandHaltsEngine : Prop :=
  ∀ (s : State) (e : Nat) (h : FCmd) (x : Instr × Nat × (Device → CmdWord → List Nat)),
    x ∈ [(.nop e, 0, plainCauses), (.wait e, 2, waitCauses), (.signal e, 3, signalCauses), (.mark e, 4, markCauses),
      (.loop e, 5, loopCauses e h.addr)] →
    e < 168 → s.dev.headOp e x.2.1 = some h →
    hdrCauses h.word ++ x.2.2 s.dev (stepWord h.word (s.dev.engAt e).loops) ≠ [] →
    Completes x.1 s fun d =>
      (d.engAt e).phase = .halted ∧ (d.engAt e).queue = (s.dev.engAt e).queue ∧ OtherEngines s.dev d e ∧
      d.bitAt (Reg.err e) 0 = true ∧
      d.reg (Reg.errInfo e) = word (lowest (hdrCauses h.word ++ x.2.2 s.dev (stepWord h.word (s.dev.engAt e).loops))) ∧
      (s.dev.cmpAlive = true → (d.pairAt (cmdSrc e)).level = 1) ∧
      d.sansMem = { s.dev with eng := d.eng }.sansMem ∧ d.mem = s.dev.mem

/-- COMMAND_FETCH takes the next 64 bytes of the list into the queue, with their mark, and goes on to the next address
or, after an END, to none (R107, R160); what it reads leaves every other part of the device alone but for what
decoding corrects. -/
def Obligations.CommandFetchQueuesCommand : Prop :=
  ∀ (s : State) (e a : Nat), e < 168 → s.dev.mayFetch e = true → (s.dev.engAt e).fetch = some a →
    s.dev.bitAt Reg.prfTagCfg 31 = false →
    Completes (.commandFetch e) s fun d => ∃ x : FCmd, (d.engAt e).queue = (s.dev.engAt e).queue ++ [x] ∧ x.addr = a ∧
      x.word = BitVec.ofNat 512 (leNat (s.dev.readMem (s.dev.phys a) 64).bytes) ∧
      x.poisoned = (s.dev.readMem (s.dev.phys a) 64).poison ∧ OtherEnginesRun s.dev d e ∧
      ((d.engAt e).phase ≠ .halted →
        (d.engAt e).fetch = if opcode x.word = 1 ∧ x.poisoned = false then none else some (a + 64)) ∧
      d.sansMem = { s.dev with eng := d.eng }.sansMem ∧ d.mem = (s.dev.readMem (s.dev.phys a) 64).dev.mem

/-- SIGNALs that reach a counter with no engine waiting on it add up, saturating at 0xFFFF; of an engine that alone waits
for at most what they reach, its count is subtracted again and the wait ends (R117). The counters of a Prism that is held keep
their values (R21); SIGNALs to them stay on their way (log 132). -/
def Obligations.SignalArrivalCounts : Prop :=
  (∀ (s : State) (c : Ctr), s.dev.ctrHeld c = true → Completes (.tokenSignalArrival c) s fun d => d = s.dev) ∧
  (∀ (s : State) (c : Ctr), okCtr c = true → s.dev.ctrHeld c = false → (∀ e, e < 168 → ∀ n, (s.dev.engAt e).blocked ≠ some (c, n)) →
    s.dev.ctr c + sumBy SigMsg.amount (s.dev.sigsDue c) ≤ 0xFFFF →
    Completes (.tokenSignalArrival c) s fun d => d.ctr c = s.dev.ctr c + sumBy SigMsg.amount (s.dev.sigsDue c) ∧
      d.sigs = s.dev.sigs.filter (fun g => !((s.dev.sigsDue c).contains g)) ∧ SameRegs s.dev d [ctrReg c] ∧
      d.sansRegs = { s.dev with sigs := d.sigs }.sansRegs) ∧
  (∀ (s : State) (c : Ctr) (e : Nat), okCtr c = true → s.dev.ctrHeld c = false → (∀ e, e < 168 → ∀ n, (s.dev.engAt e).blocked ≠ some (c, n)) →
    0xFFFF < s.dev.ctr c + sumBy SigMsg.amount (s.dev.sigsDue c) →
    e < 168 → e ∈ (s.dev.sigsDue c).map SigMsg.eng →
    Completes (.tokenSignalArrival c) s fun d => d.ctr c = 0xFFFF ∧ d.bitAt (Reg.err e) (tokenOvfBit e) = true ∧
      (s.dev.cmpAlive = true → (d.pairAt (Src.tokenOvf (e / 7))).level = 1) ∧ d.mem = s.dev.mem) ∧
  (∀ (s : State) (c : Ctr) (e n : Nat) (h : FCmd), okCtr c = true → s.dev.ctrHeld c = false →
    s.dev.ctrHeld (.prm (e / 7) 0) = false → e < 168 → (s.dev.engAt e).blocked = some (c, n) →
    (∀ x, x < 168 → x ≠ e → ∀ n, (s.dev.engAt x).blocked ≠ some (c, n)) →
    s.dev.ctr c + sumBy SigMsg.amount (s.dev.sigsDue c) ≤ 0xFFFF →
    n ≤ s.dev.ctr c + sumBy SigMsg.amount (s.dev.sigsDue c) →
    (s.dev.meAt e).pipe = [] → (s.dev.engAt e).queue = [h] → opcode h.word ≠ 2 →
    Completes (.tokenSignalArrival c) s fun d => d.ctr c = s.dev.ctr c + sumBy SigMsg.amount (s.dev.sigsDue c) - n ∧
      d.engAt e = { s.dev.engAt e with blocked := none, phase := .executing, waitDone := true } ∧
      OtherEngines s.dev d e ∧ SameRegs s.dev d [ctrReg c])

/-- A block reset of one engine puts its registers but the tolerances and ME_GEOM at their reset values and, where the engine has
not reached END, stops it until the tick; no register outside its block, no other engine, no token counter and no memory changes, and what
completed commands have sent stays on its way (R20). -/
def Obligations.BlockResetIsLocal : Prop :=
  ∀ (s : State) (e : Nat), e < 168 → s.dev.cmpAlive = true →
    Completes (.engineBlockReset e) s fun d =>
      (∀ k, engBase e ≤ k → k < engBase e + 0x1000 → isTol e k = false → k ≠ Reg.meGeom e → d.reg k = Reg.resetVal k) ∧
      (∀ k, k < engBase e ∨ engBase e + 0x1000 ≤ k → d.reg k = s.dev.reg k) ∧
      (∀ c : Ctr, okCtr c = true → d.ctr c = s.dev.ctr c) ∧ OtherEngines s.dev d e ∧ d.mem = s.dev.mem ∧
      d.sigs = s.dev.sigs ∧ d.marks = s.dev.marks ∧ d.apt = s.dev.apt ∧
      ((s.dev.engAt e).atEnd = false → (d.engAt e).queue = [] ∧ (d.engAt e).stopped = true) ∧
      ((s.dev.engAt e).atEnd = true → (d.engAt e).queue = (s.dev.engAt e).queue)

/-- A tick that finds every engine that counts at END, and the end of an abandonment, restart every engine with nothing
left of the old frame and arrays without weights; every token counter reads 0, and unless the device is in MAINT a frame is open
(R37). The tick gives the frame its number; the end of an abandonment records the overrun (R54).
A tick that finds an engine short of END starts abandonment (R51): the lowest such engine and the frame that ends are noted,
and packets and acknowledgements on their way are gone. -/
def Obligations.TicksRestartOrAbandon : Prop :=
  ((∀ s : State, s.dev.ticking = true → s.dev.overrun = false →
    Completes .tick s fun d => Restarted d ∧ d.frame = s.dev.announced.2.1) ∧
  (∀ s : State, s.dev.abandonReady = true →
    Completes .abandonmentComplete s fun d => Restarted d ∧ d.tck.abandoning = false ∧ d.bitAt Reg.tckStatus 4 = true ∧
      d.reg Reg.tckOvrEng = word (s.dev.tck.ovrFrame.toNat % 65536 * 65536 + s.dev.tck.ovrEng))) ∧
  (∀ s : State, s.dev.ticking = true → s.dev.overrun = true →
    Completes .tick s fun d => d.tck.abandoning = true ∧ d.apt.packets = [] ∧ d.apt.acks = [] ∧
      d.tck.ovrFrame = s.dev.frame ∧ d.frame = s.dev.announced.2.1 ∧
      d.tck.ovrEng < 168 ∧ s.dev.short d.tck.ovrEng = true ∧ ∀ e, e < d.tck.ovrEng → s.dev.short e = false)

/-- FRAME_SYNC edges in the window and out of it (R42 to R45).
The end of a sync window, SYNC_ACQ, TEST_RUN and a verified test plan (R43, R45, R306). -/
def Obligations.SyncEdgesAreJudged : Prop :=
  ((∀ s : State, s.dev.syncUsed = true → s.dev.tck.sync = .acquiring → s.dev.chk.dev = .maint →
    Completes .frameSyncEdge s fun d => d.tck.sync = .locked ∧ d.tck.phaseRef = s.dev.timNs ∧
      d = { s.dev with tck := d.tck }) ∧
  (∀ s : State, s.dev.syncUsed = true → s.dev.tck.sync = .locked ∨ s.dev.tck.sync = .freeRun →
    s.dev.tck.edgeUsed = true ∨ s.dev.tck.period * 1000 < 64 * (s.dev.syncOffset s.dev.timNs).natAbs →
    Completes .frameSyncEdge s fun d => d.bitAt Reg.tckStatus 1 = true ∧
      d.fld Reg.tckSyncCnt 15 0 = satAdd 16 (s.dev.fld Reg.tckSyncCnt 15 0) 1 ∧
      d.tck = { s.dev.tck with
        oowRun := min 4 (s.dev.tck.oowRun + 1), inRun := 0
        sync := if 3 ≤ s.dev.tck.oowRun ∧ s.dev.tck.sync = .locked then .freeRun else s.dev.tck.sync } ∧
      (3 ≤ s.dev.tck.oowRun → s.dev.tck.sync = .locked → d.bitAt Reg.tckStatus 3 = true) ∧
      SameRegs s.dev d [Reg.tckStatus, Reg.tckSyncCnt] ∧ d.sansRegs = { s.dev with tck := d.tck }.sansRegs) ∧
  (∀ s : State, s.dev.syncUsed = true → s.dev.tck.sync = .locked ∨ (s.dev.tck.sync = .freeRun ∧ 3 ≤ s.dev.tck.inRun) →
    s.dev.tck.edgeUsed = false → 64 * (s.dev.syncOffset s.dev.timNs).natAbs ≤ s.dev.tck.period * 1000 →
    0 ≤ s.dev.syncOffset s.dev.timNs ∨ s.dev.inTest = true →
    Completes .frameSyncEdge s fun d => d.reg Reg.tckSyncOfs = BitVec.ofInt 32 (s.dev.syncOffset s.dev.timNs) ∧
      d.tck.oowRun = 0 ∧ d.tck.sync = .locked ∧
      d.tck.expected = (if s.dev.inTest then s.dev.tck.expected else s.dev.timNs + s.dev.tck.period * 1000) ∧
      SameRegs s.dev d [Reg.tckSyncOfs] ∧ d.sansRegs = { s.dev with tck := d.tck }.sansRegs) ∧
  (∀ s : State, s.dev.syncUsed = true → s.dev.tck.sync = .locked ∨ (s.dev.tck.sync = .freeRun ∧ 3 ≤ s.dev.tck.inRun) →
    s.dev.tck.edgeUsed = false → 64 * (s.dev.syncOffset s.dev.timNs).natAbs ≤ s.dev.tck.period * 1000 →
    s.dev.syncOffset s.dev.timNs < 0 → s.dev.inTest = false →
    exec .frameSyncEdge s = exec .tick { s with dev := { s.dev with
      regs := (s.dev.setReg Reg.tckSyncOfs (BitVec.ofInt 32 (s.dev.syncOffset s.dev.timNs))).regs
      tck := { s.dev.tck with edgeUsed := true, oowRun := 0, inRun := 0, sync := .locked } } }) ∧
  (∀ s : State, s.dev.syncUsed = true → s.dev.tck.sync = .freeRun → s.dev.tck.inRun < 3 →
    s.dev.tck.edgeUsed = false → 64 * (s.dev.syncOffset s.dev.timNs).natAbs ≤ s.dev.tck.period * 1000 →
    Completes .frameSyncEdge s fun d => d = { s.dev with tck := { s.dev.tck with
      edgeUsed := true, inRun := s.dev.tck.inRun + 1 } })) ∧
  ((∀ s : State, s.dev.syncUsed = true → s.dev.tck.sync = .locked ∨ s.dev.tck.sync = .freeRun →
    Completes .syncWindowClose s fun d => d.tck = { s.dev.tck with edgeUsed := false } ∧
      (s.dev.tck.edgeUsed = true → d = { s.dev with tck := d.tck }) ∧
      (s.dev.tck.edgeUsed = false → d.bitAt Reg.tckStatus 2 = true ∧
        d.fld Reg.tckSyncCnt 31 16 = satAdd 16 (s.dev.fld Reg.tckSyncCnt 31 16) 1) ∧
      SameRegs s.dev d [Reg.tckStatus, Reg.tckSyncCnt] ∧ d.sansRegs = { s.dev with tck := d.tck }.sansRegs) ∧
  (∀ s : State, s.dev.hostUp = true →
    Completes .syncAcq s fun d =>
      (s.dev.inStandby = true → d = { s.dev with tck := { s.dev.tck with sync := .acquiring, edgeUsed := false } }) ∧
      (s.dev.inStandby = false → d.bitAt Reg.tckStatus 8 = true ∧ OnlyRegs s.dev d [Reg.tckStatus])) ∧
  (∀ s : State, s.dev.hostUp = true → s.dev.bitAt Reg.tckCtrl 2 = false →
    Completes (.testRun true) s fun d =>
      (s.dev.chk.dev = .maint → d.bitAt Reg.tckCtrl 2 = true ∧ d.tck = { s.dev.tck with testWait := true } ∧
        SameRegs s.dev d [Reg.tckCtrl] ∧ d.sansRegs = { s.dev with tck := d.tck }.sansRegs) ∧
      (s.dev.chk.dev ≠ .maint → d.bitAt Reg.tckStatus 10 = true ∧ OnlyRegs s.dev d [Reg.tckStatus])) ∧
  (∀ s : State, s.dev.hostUp = true → s.dev.chk.dev = .maint →
    Completes (.testRun false) s fun d => d.bitAt Reg.tckCtrl 2 = false ∧
      d.tck = { s.dev.tck with testWait := false, testEnd := s.dev.tck.running } ∧ SameRegs s.dev d [Reg.tckCtrl] ∧
      d.sansRegs = { s.dev with tck := d.tck }.sansRegs) ∧
  (∀ (s : State) (l : List (List Byte)) (read : FlashRead), s.dev.cmpAlive = true → s.dev.tck.testWait = true → s.dev.inTest = true →
    Completes (.testPlanVerified l read) s fun d =>
      (read.bad = false → (s.dev.placeTest l).testPlaced = true → d.tck = { s.dev.tck with
        testPlan := s.dev.testStarts, testWait := false, testEnd := false, running := true
        firstTick := s.dev.tck.firstTick || !s.dev.tck.running, expected := s.dev.nextPoint }) ∧
      (read.bad = true ∨ (s.dev.placeTest l).testPlaced = false → d.tck = { s.dev.tck with testWait := false }) ∧
      d.sansMem = { s.dev with tck := d.tck }.sansMem))

/-- The checker supply: valid, the device is in BOOT with the outputs off, ERR_OUT asserted and PWR_EN_CMP deasserted; removed
or too low, every state ends, FATAL included. OTP and flash keep what they hold (R304, R375, R402). -/
def Obligations.SupplyEndsEveryState : Prop :=
  (∀ s : State, s.dev.chk.power = false →
    Completes .checkerSupplyValid s fun d => d.chk.power = true ∧ d.chk.dev = .boot ∧ d.outputsOpen ∧ d.errOut = true ∧
      d.chk.pwrEn = false ∧ d.chk.cmpReset = true ∧ d.regs = [] ∧ d.boot.otp = s.dev.boot.otp ∧
      d.nvm.flash = s.dev.nvm.flash ∧ d.mem = .reset ∧ d.hif.running = [] ∧ d.q = 0) ∧
  (∀ s : State, s.dev.chk.power = true → Completes .checkerSupplyRemoved s (Unpowered s.dev)) ∧
  (∀ s : State, s.dev.chk.power = true → Completes .checkerRailLow s (Unpowered s.dev))

/-- PWR_EN_CMP rises with the compute die in reset, and the release of the compute reset, with which the time unit restarts at 0; a monitor out of range
registers VMON_CMP, which in BOOT leads to SAFE with compute power removed (R296, R405).
The device is configured and enters STARTUP_TEST with its registers loaded and every block locked; the start-up
tests end well, or lead to SAFE or FATAL (R305, R375). -/
def Obligations.BootSequence : Prop :=
  ((∀ s : State, s.dev.chk.power = true → s.dev.chk.dev = .boot →
    Completes .computePowerEnable s fun d => d = { s.dev with chk := { s.dev.chk with pwrEn := true } } ∧
      d.pin .pwrEn = .high ∧ (s.dev.chk.cmpReset = true → d.pin .pcie = .idle ∧ d.pin (.safeOut 0) = .low ∧ d.pin (.safeOut 1) = .low)) ∧
  (∀ (s : State) (fl : FlashTrain), s.dev.chk.power = true → s.dev.chk.pwrEn = true → s.dev.chk.cmpReset = true →
    s.dev.chk.dev = .boot →
    Completes (.computeResetRelease true fl) s fun d => d.cmpAlive = true ∧ d.pin .pcie = .active ∧ d.hif.linkUp = true ∧ d.timNs = 0 ∧
      d.reg Reg.nvmCap = word d.flashMiB ∧
      d.fld Reg.nvmBadCnt 15 0 = min 0xFFFF (countBy (fun (x : Nat × Blk) => x.2.factory) d.nvm.blk) ∧ d.view Reg.memScrubAge = 0 ∧
      (s.dev.nvm.blocks ≠ 0 → d.nvm = s.dev.nvm) ∧
      SameRegs s.dev d [Reg.nvmChStatus, Reg.nvmCap, Reg.nvmBadCnt] ∧ d.chk.dev = .boot ∧ d.mem = s.dev.mem) ∧
  (∀ (s : State) (fl : FlashTrain), s.dev.chk.power = true → s.dev.chk.pwrEn = true → s.dev.chk.cmpReset = true →
    s.dev.chk.dev = .boot →
    Completes (.computeResetRelease false fl) s fun d => d.chk.dev = .safe ∧ d.chk.pwrEn = false ∧ d.chk.cmpReset = true ∧
      d.pend Src.vmonCmp = true)) ∧
  ((∀ s : State, s.dev.booting = true → s.dev.boot.imgOk = true → s.dev.boot.sealOk = true →
    Completes .computeConfigured s fun d => d.chk.dev = .startupTest ∧ d.chk.prev = .boot ∧
      d.tck.period = imagePeriod s.dev.boot.img.device ∧ d.tck.testWait = true ∧
      (∀ k, k ∈ [Reg.tckCtrl, Reg.memCtrl, Reg.dskCfg, Reg.lnsCtrl, Reg.ethCtrl, Reg.timCtrl, Reg.nvmCtrl] →
        d.bitAt k 31 = true) ∧ (∀ e, e < 168 → d.bitAt (engBase e) 31 = true) ∧
      d.reg Reg.timStepMax = s.dev.boot.img.device.timStepMax) ∧
  (∀ (s : State) (r : StartupResult), s.dev.cmpAlive = true → s.dev.chk.dev = .startupTest →
    r.cmpTrial = none → r.checkerFail = false → s.dev.wdg.running = true → s.dev.computeFail r = false →
    r.failedEngines = [] → r.failedFacets = [] →
    Completes (.startupTestComplete r) s fun d => d.chk = { s.dev.chk with testsDone := true } ∧
      d.core.testPassed = true ∧ d.bitAt Reg.chkCmpTest 30 = true ∧ SameRegs s.dev d [Reg.chkCmpTest] ∧
      d.sansRegs = { s.dev with chk := d.chk, core := d.core }.sansRegs) ∧
  (∀ (s : State) (r : StartupResult), s.dev.cmpAlive = true → s.dev.chk.dev = .startupTest → r.cmpTrial = none →
    r.checkerFail = false → s.dev.wdg.running = true → s.dev.computeFail r = true →
    Completes (.startupTestComplete r) s fun d => d.chk.dev = .safe ∧ d.chk.cause = 0xE7 ∧ d.tck.running = false) ∧
  (∀ (s : State) (r : StartupResult), s.dev.cmpAlive = true → s.dev.chk.dev = .startupTest → r.cmpTrial = none →
    r.checkerFail = true → Completes (.startupTestComplete r) s fun d => d.chk.dev = .fatal ∧ d.chk.cause = 0xE7 ∧
      d.reg Reg.fltFatal = word (2 ^ 31 + 0xE7 * 2 ^ 16 + r.checkerSource.getD 0x1FF) ∧ d.outputsOpen ∧ d.hif.running = []))

/-- The boot and structure images: with both slots of a kind valid, that of the higher VERSION is used, A on a tie, and its parts are
kept; with none, the device goes ROM-only in SAFE (R382). -/
def Obligations.ImageVerification : Prop :=
  (∀ (s : State) (a b : ImageSlot) (pa pb : BootParts) (x : List Byte) (p : BootParts), s.dev.booting = true →
    s.dev.boot.bootOk = false →
    (x, p) = (if slotVersion a.bytes < slotVersion b.bytes then (b.bytes, pb) else (a.bytes, pa)) →
    Completes (.bootImageVerify ⟨a, pa⟩ ⟨b, pb⟩) s fun d =>
      d.fld Reg.bootStatus 15 12 = s.dev.slotResult a 0 0x42 0 s.dev.boot.otp.bootCtr true ∧
      d.fld Reg.bootStatus 19 16 = s.dev.slotResult b 1 0x42 0 s.dev.boot.otp.bootCtr true ∧
      (s.dev.slotResult a 0 0x42 0 s.dev.boot.otp.bootCtr true = 0 →
        s.dev.slotResult b 1 0x42 0 s.dev.boot.otp.bootCtr true = 0 →
        d.boot = { s.dev.boot with
          bootOk := true, bootVersion := slotVersion x, fwDigest := sha384 (slice x p.fwOfs p.fwLen), fwLen := p.fwLen
          test := p.test.map fun (t : Nat × Nat × Nat) => (t.2.2, slice x t.1 t.2.1) } ∧
        d.fld Reg.bootStatus 4 4 = b2n (decide (slotVersion a.bytes < slotVersion b.bytes)) ∧
        d.fld Reg.bootVer 15 0 = slotVersion x % 65536 ∧
        SameRegs s.dev d [Reg.bootStatus, Reg.bootVer, Reg.nvmLdpcCnt, Reg.nvmStatus] ∧
        d.sansRegs = { s.dev with boot := d.boot, core := (s.dev.tcmPut 0 (slice x p.fwOfs p.fwLen)).core }.sansRegs) ∧
      (s.dev.slotResult a 0 0x42 0 s.dev.boot.otp.bootCtr true ≠ 0 →
        s.dev.slotResult b 1 0x42 0 s.dev.boot.otp.bootCtr true ≠ 0 →
        d.chk.romOnly = true ∧ d.chk.dev = .safe ∧ d.chk.cause = 0xE8 ∧
        d.boot.bootOk = false ∧ (d.facetAt 0).powered = true ∧ ∀ q, q < 6 → (d.prismAt q).fenced = true)) ∧
  (∀ (s : State) (a b : ImageSlot) (oa ob : OpenSecs) (sw : SealRead) (x : List Byte) (g : StructImg), s.dev.booting = true →
    s.dev.boot.bootOk = true → s.dev.boot.imgOk = false →
    x = (if slotVersion a.bytes < slotVersion b.bytes then b else a).bytes →
    g = (if slotVersion a.bytes < slotVersion b.bytes then structOf b.bytes ob else structOf a.bytes oa) →
    Completes (.structureImageVerify a b oa ob sw) s fun d =>
      d.fld Reg.bootStatus 23 20 = s.dev.slotResult a 2 0x53 1 s.dev.boot.otp.structCtr (imageOk a.bytes oa) ∧
      d.fld Reg.bootStatus 27 24 = s.dev.slotResult b 3 0x53 1 s.dev.boot.otp.structCtr (imageOk b.bytes ob) ∧
      (s.dev.slotResult a 2 0x53 1 s.dev.boot.otp.structCtr (imageOk a.bytes oa) = 0 →
        s.dev.slotResult b 3 0x53 1 s.dev.boot.otp.structCtr (imageOk b.bytes ob) = 0 →
        d.boot.imgOk = true ∧ d.boot.img = g ∧ d.boot.imgVersion = slotVersion x ∧ d.boot.sealed = sw.b2 ∧
        d.boot.sealOk = sealValid g.safety sw ∧
        (d.boot.sealOk = false → d.chk.dev = .safe ∧ d.chk.cause = 0xE8) ∧ (d.boot.sealOk = true → d.chk = s.dev.chk) ∧
        d.bitAt Reg.fltCtrl 31 = true ∧ (∀ i, i < 512 → d.reactEntry i = loadedEntry g.reaction i % 65536)) ∧
      (s.dev.slotResult a 2 0x53 1 s.dev.boot.otp.structCtr (imageOk a.bytes oa) ≠ 0 →
        s.dev.slotResult b 3 0x53 1 s.dev.boot.otp.structCtr (imageOk b.bytes ob) ≠ 0 →
        d.chk.romOnly = true ∧ d.chk.dev = .safe ∧ d.chk.cause = 0xE8 ∧ d.boot.imgOk = false))

/-- A warm reset leads to BOOT with the outputs off and compute power removed, and keeps the time copy, the OTP, flash,
the ladder's failure count and, where no request and no flash operation was in progress, every register of the always-on
domain (R264, R292).
The resets of the PCI Express function put the HIF block and the MSI-X table at their reset values and change nothing
else; the loss of the link raises HIF_PCIE, but in D3hot (R356, R406). -/
def Obligations.ResetsKeepTheirDomains : Prop :=
  (∀ s : State, s.dev.chk.power = true → s.dev.chk.warm.isSome = true → s.dev.chk.dev ≠ .fatal →
    Completes .warmResetBegin s fun d => d.chk.dev = .boot ∧ d.chk.prev = s.dev.chk.dev ∧
      d.chk.cause = s.dev.chk.warm.getD 0 ∧ d.chk.warm = none ∧ d.outputsOpen ∧ d.errOut = true ∧ d.chk.pwrEn = false ∧
      d.chk.cmpReset = true ∧ d.mem = .reset ∧ d.hif.running = [] ∧ d.boot.otp = s.dev.boot.otp ∧ d.chkNs = s.dev.chkNs ∧
      d.ladder.expCnt = s.dev.ladder.expCnt ∧
      (s.dev.hif.running = [] → s.dev.nvm.op = none → d.nvm.flash = s.dev.nvm.flash ∧
        ∀ k, alwaysOn k = true → d.reg k = s.dev.reg k)) ∧
  ((∀ s : State, s.dev.cmpAlive = true → Completes .perstN s (PcieResetOnly s.dev)) ∧
  (∀ s : State, s.dev.linkOk = true → Completes .functionLevelReset s (PcieResetOnly s.dev)) ∧
  (∀ s : State, s.dev.linkOk = true → Completes .hotReset s (PcieResetOnly s.dev)) ∧
  (∀ (s : State) (aer : Bool), s.dev.linkOk = true → aer = true ∨ s.dev.hif.d3 = false →
    Completes (.pcieLinkLoss aer) s fun d => (d.pairAt Src.hifPcie).level = 1 ∧
      d.bitAt (Reg.fltCdPair (Src.hifPcie / 32)) (Src.hifPcie % 32) = true ∧
      (aer = false → d.bitAt Reg.hifStatus 5 = true) ∧
      SameRegs s.dev d [Reg.hifStatus, Reg.fltCdPair (Src.hifPcie / 32)] ∧
      d.sansRegs = { s.dev with flt := d.flt }.sansRegs) ∧
  (∀ s : State, s.dev.linkOk = true → s.dev.hif.d3 = true → Completes (.pcieLinkLoss false) s fun d => d = s.dev))

/-- A background class becomes Urgent at 75 % of its deadline and Forced at its deadline, with status bit, count and source, and not
before; a completed unit makes it Normal with its age restarted, of the scrubber a full lap (R55, R56, R164).
A self-test segment fences an idle Prism where it fits, is counted as deferred where it does not, and releases the Prism at its
end; the last passing one completes a pass, and a failing one fences the ME it tested. The end is stated for a Prism of which no engine
waits for a counter, holds a command or has requests to issue (R57, R307 to R309). -/
def Obligations.BackgroundAndSelfTest : Prop :=
  ((∀ (s : State) (c : BgClass) (hot : Bool), s.dev.bgRuns c = true → (s.dev.bgAt c).level = .normal →
    3 * bgDeadline hot c ≤ 4 * s.dev.bgAge c →
    Completes (.bgLevelUrgent ⟨c, hot⟩) s fun d => d.bgAt c = { s.dev.bgAt c with level := .urgent } ∧
      d.bitAt Reg.tckStatus 5 = true ∧ SameRegs s.dev d [Reg.tckStatus] ∧
      d.sansRegs = { s.dev with bg := d.bg }.sansRegs) ∧
  (∀ (s : State) (c : BgClass) (hot : Bool), 4 * s.dev.bgAge c < 3 * bgDeadline hot c →
    Completes (.bgLevelUrgent ⟨c, hot⟩) s fun d => d = s.dev) ∧
  (∀ (s : State) (c : BgClass) (hot : Bool), s.dev.bgAge c < bgDeadline hot c →
    Completes (.bgLevelForced ⟨c, hot⟩) s fun d => d = s.dev) ∧
  (∀ (s : State) (c : BgClass) (hot : Bool), s.dev.bgRuns c = true → (s.dev.bgAt c).level ≠ .forced →
    bgDeadline hot c ≤ s.dev.bgAge c →
    Completes (.bgLevelForced ⟨c, hot⟩) s fun d => d.bgAt c = { s.dev.bgAt c with level := .forced } ∧
      d.bitAt Reg.tckStatus 6 = true ∧ d.fld Reg.tckBgForcedCnt 31 0 = satAdd 32 (s.dev.fld Reg.tckBgForcedCnt 31 0) 1 ∧
      (d.pairAt Src.bgForced).level = 1 ∧ d.sansRegs = { s.dev with bg := d.bg, flt := d.flt }.sansRegs) ∧
  (∀ (s : State) (c : BgClass) (rep : BgReport), s.dev.bgRuns c = true →
    Completes (.bgUnitComplete c rep) s fun d => (c ≠ .scrub ∨ s.dev.lapFull = true → d.bgAt c = Bg.mk .normal s.dev.q) ∧
      (c = .scrub → s.dev.lapFull = false → d = s.dev) ∧ d.chk = s.dev.chk ∧
      d.mem.data = s.dev.mem.data ∧
      ((∃ f, c = .refresh f) ∨ c = .calib ∨ c = .telemetry → d = { s.dev with bg := d.bg }) ∧
      (∀ q, c = .selftest q → (d.prismAt q).nextSeg = 0 ∧
        d.fld Reg.fltStPassCnt 31 0 = satAdd 32 (s.dev.fld Reg.fltStPassCnt 31 0) 1) ∧
      (c = .flash → d.fld Reg.nvmLdpcCnt 31 0 = satAdd 32 (s.dev.fld Reg.nvmLdpcCnt 31 0) rep.read.corrected))) ∧
  ((∀ (s : State) (q : Nat), q < 24 → s.dev.segTurn q = true → s.dev.segFits (segUs (s.dev.prismAt q).nextSeg) = false →
    Completes (.selftestSegmentStart q) s fun d =>
      d.fld Reg.fltStDeferCnt 31 0 = satAdd 32 (s.dev.fld Reg.fltStDeferCnt 31 0) 1 ∧
      OnlyRegs s.dev d [Reg.fltStDeferCnt]) ∧
  (∀ (s : State) (q : Nat), q < 24 → s.dev.segTurn q = true → s.dev.segFits (segUs (s.dev.prismAt q).nextSeg) = true →
    (s.dev.bgAt (.selftest q)).level ≠ .forced → s.dev.prismIdle q = true →
    Completes (.selftestSegmentStart q) s fun d =>
      d.prismAt q = { s.dev.prismAt q with seg := some ((s.dev.prismAt q).nextSeg, s.dev.q) } ∧
      (∀ p, p ≠ q → d.prismAt p = s.dev.prismAt p) ∧ d = { s.dev with prism := d.prism }) ∧
  (∀ (s : State) (q n t : Nat), q < 24 → (s.dev.prismAt q).seg = some (n, t) →
    (∀ i, i < 7 → (s.dev.engAt (7 * q + i)).blocked = none ∧ (s.dev.engAt (7 * q + i)).acts = [] ∧
      (s.dev.engAt (7 * q + i)).queue = []) →
    Completes (.selftestSegmentEnd q .pass) s fun d => (d.prismAt q).seg = none ∧
      (n < 9 → (d.prismAt q).nextSeg = n + 1 ∧ d = { s.dev with prism := d.prism }) ∧
      (9 ≤ n → (d.prismAt q).nextSeg = 0 ∧ d.bgAt (.selftest q) = Bg.mk .normal s.dev.q ∧
        d.fld Reg.fltStPassCnt 31 0 = satAdd 32 (s.dev.fld Reg.fltStPassCnt 31 0) 1)) ∧
  (∀ (s : State) (q n t : Nat), q < 24 → n < 4 → s.dev.cmpAlive = true → (s.dev.prismAt q).seg = some (n, t) →
    (∀ i, i < 7 → (s.dev.engAt (7 * q + i)).blocked = none ∧ (s.dev.engAt (7 * q + i)).acts = [] ∧
      (s.dev.engAt (7 * q + i)).queue = []) →
    Completes (.selftestSegmentEnd q .fail) s fun d => (d.prismAt q).seg = none ∧ (d.prismAt q).failSeg = n ∧
      (d.prismAt q).nextSeg = 0 ∧ (d.engAt (7 * q + n)).fenced = true ∧ OtherEngines s.dev d (7 * q + n) ∧
      d.bitAt (Reg.meErr (7 * q + n)) 3 = true ∧ (d.pairAt (Src.meSelftest q)).level = 1 ∧ d.mem = s.dev.mem))

/-- A merge-buffer entry drains; a fence is in progress until every entry has drained and no check word is cached, with nothing but
memory, registers and fault pairs touched (R155, R157).
Facet zeroing, a scrubber visit short of the end of its controller, and MEM_TEST.MODE (R146, R162, R165). -/
def Obligations.MemoryMaintenance : Prop :=
  ((∀ (s : State) (c : Nat) (t : MergeEnt), s.dev.cmpAlive = true →
    s.dev.mem.merge.find? (fun t => decide (t.ctrl = c)) = some t →
    Completes (.mergeDrain c) s fun d => t ∉ d.mem.merge ∧ (∀ x, x ∈ d.mem.merge → x ∈ s.dev.mem.merge) ∧
      ((∀ i, i < 8 → s.dev.needsDecode (t.line + 8 * i) = false) → d.mem.merge = s.dev.mem.merge.filter (fun x => x ≠ t)) ∧
      d.sansMem = s.dev.sansMem ∧ (s.dev.mem.wf = true → d.mem.wf = true)) ∧
  (∀ s : State, s.dev.cmpAlive = true →
    Completes .memFence s fun d => d.bitAt Reg.memStatus 8 = true ∧ OnlyRegs s.dev d [Reg.memStatus]) ∧
  (∀ s : State, s.dev.cmpAlive = true → s.dev.bitAt Reg.memStatus 8 = true →
    Completes .fenceComplete s fun d => d.bitAt Reg.memStatus 8 = false ∧ d.mem.merge = [] ∧ d.mem.cache = [] ∧
      d.sansMem = s.dev.sansMem ∧ (s.dev.mem.wf = true → d.mem.wf = true))) ∧
  ((∀ (s : State) (f : Nat), f < 4 → s.dev.cmpAlive = true → (s.dev.facetAt f).powered = true →
    (s.dev.facetAt f).zeroing = true →
    Completes (.facetZeroingComplete f) s fun d => d.facetAt f = { s.dev.facetAt f with zeroing := false } ∧
      d.facetUp f = true ∧ d = { s.dev with facet := d.facet }) ∧
  (∀ (s : State) (c : Nat), okCtrl c = true → s.dev.facetUp (ctrlFacet c) = true → s.dev.bgRuns .scrub = true →
    tabGet 0 s.dev.mem.scrubPos c + 1 < ctrlSpans c → c ∉ s.dev.mem.scrubDone →
    Completes (.scrubSpanVisit c) s fun d => tabGet 0 d.mem.scrubPos c = tabGet 0 s.dev.mem.scrubPos c + 1 ∧
      d.sansMem = s.dev.sansMem ∧ (s.dev.mem.wf = true → d.mem.wf = true)) ∧
  (∀ (s : State) (v : Word), s.dev.cmpAlive = true →
    Completes (.memTestModeWrite v) s fun d =>
      (bits v 1 0 = 0 → d.fld Reg.memTest 1 0 = 0) ∧ (bits v 1 0 = 1 → s.dev.chk.dev = .maint → d.fld Reg.memTest 1 0 = 1) ∧
      (bits v 1 0 = 1 → s.dev.chk.dev ≠ .maint → d.fld Reg.memTest 1 0 = s.dev.fld Reg.memTest 1 0 ∧
        d.bitAt Reg.memStatus 7 = true) ∧
      d.fld Reg.memTest 15 8 = bits v 15 8 ∧ OnlyRegs s.dev d [Reg.memTest, Reg.memStatus]))

/-- The host writes memory (R343): to addresses without storage, to a held plan slot or to a protected section nothing is written,
and the refusal is reported; an aligned word of clean storage takes the bytes, and every other byte stays.
The host reads memory (R343): addresses without storage answer Unsupported Request; an aligned clean word answers its bytes
without EP, and no byte of memory changes. -/
def Obligations.HostAccessesMemory : Prop :=
  ((∀ (s : State) (y : Nat) (bs : List Byte) (ep : Bool), s.dev.bar2Ok y bs.length = true →
    s.dev.allMapped (s.dev.hostAddr y) bs.length = false →
    Completes (.hostMemoryWrite y bs ep) s fun d => d.bitAt Reg.memStatus 6 = true ∧ d.sansRegs = s.dev.sansRegs) ∧
  (∀ (s : State) (y : Nat) (bs : List Byte) (ep : Bool), s.dev.bar2Ok y bs.length = true →
    s.dev.allMapped (s.dev.hostAddr y) bs.length = true →
    (∃ i, i ∈ s.dev.heldSlots ∧ overlaps (s.dev.hostAddr y) bs.length (s.dev.slotArea i) = true) →
    Completes (.hostMemoryWrite y bs ep) s fun d => d.bitAt Reg.tckStatus 7 = true ∧ OnlyRegs s.dev d [Reg.tckStatus]) ∧
  (∀ (s : State) (y : Nat) (bs : List Byte) (ep : Bool), s.dev.bar2Ok y bs.length = true →
    s.dev.allMapped (s.dev.hostAddr y) bs.length = true →
    (∀ i, i ∈ s.dev.heldSlots → overlaps (s.dev.hostAddr y) bs.length (s.dev.slotArea i) = false) →
    s.dev.hostAddr y < 0x400000000 →
    (∃ r, r ∈ s.dev.protRanges ∧ overlaps (s.dev.hostAddr y % 2 ^ 32) bs.length r = true) →
    Completes (.hostMemoryWrite y bs ep) s fun d =>
      d.bitAt Reg.hifModelState 31 = true ∧ OnlyRegs s.dev d [Reg.hifModelState]) ∧
  (∀ (s : State) (y : Nat) (bs : List Byte) (ep : Bool), bs.length = 8 → s.dev.bar2Ok y 8 = true →
    s.dev.hostAddr y % 8 = 0 → s.dev.allMapped (s.dev.hostAddr y) 8 = true → s.dev.hostAddr y < 0x400000000 →
    (∀ i, i ∈ s.dev.heldSlots → overlaps (s.dev.hostAddr y) 8 (s.dev.slotArea i) = false) →
    (∀ r, r ∈ s.dev.protRanges ++ s.dev.viewRanges → overlaps (s.dev.hostAddr y % 2 ^ 32) 8 r = false) →
    s.dev.fld Reg.memTest 1 0 ≠ 1 → s.dev.mem.synAt (s.dev.hostAddr y) = 0 →
    spanBase (s.dev.hostAddr y) ∉ s.dev.mem.decode →
    (∀ t, t ∈ s.dev.mem.merge → t.line ≠ s.dev.hostAddr y / 64 * 64) →
    Completes (.hostMemoryWrite y bs ep) s fun d =>
      (∀ i, i < 8 → tabGet 0 d.mem.data (s.dev.hostAddr y + i) = bs.getD i 0) ∧
      (∀ a, a < s.dev.hostAddr y ∨ s.dev.hostAddr y + 8 ≤ a → tabGet 0 d.mem.data a = tabGet 0 s.dev.mem.data a) ∧
      d.mem.synAt (s.dev.hostAddr y) = (if ep then patAt (s.dev.hostAddr y) else 0) ∧
      SameRegs s.dev d [] ∧ d.sansMem = s.dev.sansMem)) ∧
  ((∀ (s : State) (y n : Nat), s.dev.bar2Ok y n = true → s.dev.allMapped (s.dev.hostAddr y) n = false →
    Completes (.hostMemoryRead ⟨.bar2, y⟩ n) s fun d => d.hif.rsp = { data := [], ep := false, ur := true } ∧
      d.bitAt Reg.hifStatus 0 = true ∧ d.bitAt Reg.memStatus 6 = true ∧ d.mem = s.dev.mem) ∧
  (∀ (s : State) (y : Nat), s.dev.bar2Ok y 8 = true → s.dev.hostAddr y % 8 = 0 →
    s.dev.allMapped (s.dev.hostAddr y) 8 = true → s.dev.hostAddr y < 0x400000000 → s.dev.fld Reg.memTest 1 0 ≠ 1 →
    s.dev.viewOf (s.dev.hostAddr y) = none → s.dev.oldAt (s.dev.hostAddr y) = none → s.dev.mem.synAt (s.dev.hostAddr y) = 0 →
    spanBase (s.dev.hostAddr y) ∉ s.dev.mem.decode →
    (∀ t, t ∈ s.dev.mem.merge → t.line ≠ s.dev.hostAddr y / 64 * 64) →
    Completes (.hostMemoryRead ⟨.bar2, y⟩ 8) s fun d => d.hif.rsp.ep = false ∧ d.hif.rsp.ur = false ∧ d.hif.rsp.data.length = 8 ∧
      (∀ i, i < 8 → d.hif.rsp.data.getD i 0 = tabGet 0 s.dev.mem.data (s.dev.hostAddr y + i)) ∧
      d.mem = s.dev.mem ∧ SameRegs s.dev d []))

/-- Without an agreed version every request completes with ARG_ERR and changes nothing else; TIME_GRANT, CHK_RESTART, MAINT and
WARM_RESET in RUN complete with STATE_REJECT, counted and noted (R312, R350). From a submission on BUSY reads 1 for at most 20 µs; until
then a submission and a write of an argument are dropped, and OVERLAP is set (R352).
HIF_HOST_VER agrees a minor version or sets VER_REJ, and a Function Level Reset or a warm reset clears AGREED (R350); HIF_BAR2_BASE moves the window or sets BASE_REJ (R343). -/
def Obligations.VersionGatesRequests : Prop :=
  ((∀ (s : State) (tag : Byte) (a : ReqArgs) (x : Instr × Nat), x ∈ requests tag a → s.dev.hostUp = true →
    s.dev.reqBusy = false → s.dev.agreed = false →
    Completes x.1 s fun d => Answered s.dev d x.2 tag 2 0 ∧ Checking s.dev d ∧ OnlyRegs s.dev d (argRegs ++ cplRegs)) ∧
  (∀ (s : State) (tag : Byte) (a : ReqArgs) (x : Instr × Nat),
    x ∈ [(Instr.timeGrant tag a, 5), (.chkRestart tag a, 6), (.maint tag a, 8), (.warmReset tag a, 9)] →
    s.dev.hostUp = true → s.dev.reqBusy = false → s.dev.agreed = true → noArgs a = true → s.dev.chk.dev = .run →
    Completes x.1 s fun d => Answered s.dev d x.2 tag 1 0 ∧ Checking s.dev d ∧
      d.fld Reg.hifReqRejCnt 31 0 = satAdd 32 (s.dev.fld Reg.hifReqRejCnt 31 0) 1 ∧
      d.reg Reg.hifReqRejLast = word (x.2 * 2 ^ 24 + 3 * 2 ^ 8) ∧
      OnlyRegs s.dev d (Reg.hifReqRejCnt :: Reg.hifReqRejLast :: argRegs ++ cplRegs)) ∧
  (∀ (s : State) (tag : Byte) (a : ReqArgs) (x : Instr × Nat), x ∈ requests tag a → s.dev.hostUp = true → s.dev.reqBusy = true →
    Completes x.1 s fun d => d = s.dev.setBit Reg.hifReqStatus 30 true) ∧
  (∀ (s : State) (i : Nat) (bs : List Byte), i < 4 → bs.length = 4 → s.dev.hostUp = true →
    Completes (.registerWrite .host .bar4 (0x200 + 4 * i) bs) s fun d =>
      (s.dev.reqBusy = true → d = s.dev.setBit Reg.hifReqStatus 30 true) ∧
      (s.dev.reqBusy = false → d = s.dev.setReg (Reg.hifReqArg i) (wordAt bs 0)))) ∧
  ((∀ (s : State) (v : Word), s.dev.hostUp = true →
    Completes (.hifHostVerWrite v) s fun d =>
      (bits v 15 8 = 1 → d.agreed = true ∧ d.reg Reg.hifHostVer = word (bits v 15 0) ∧ d.fld Reg.hifVer 7 0 = 0 ∧
        OnlyRegs s.dev d [Reg.hifHostVer, Reg.hifVer]) ∧
      (bits v 15 8 ≠ 1 → d.bitAt Reg.hifStatus 3 = true ∧ OnlyRegs s.dev d [Reg.hifStatus])) ∧
  (∀ (s : State) (v : Word), s.dev.hostUp = true →
    Completes (.hifBar2BaseWrite false v) s fun d =>
      (((s.dev.reg Reg.hifBar2BaseHi).toNat * 2 ^ 32 + bits v 31 30 * 2 ^ 30) % 2 ^ s.dev.hif.bar2Log = 0 →
        d.reg Reg.hifBar2BaseLo = word (bits v 31 30 * 2 ^ 30) ∧ d.reg Reg.hifBar2BaseHi = s.dev.reg Reg.hifBar2BaseHi ∧
        OnlyRegs s.dev d [Reg.hifBar2BaseLo]) ∧
      (((s.dev.reg Reg.hifBar2BaseHi).toNat * 2 ^ 32 + bits v 31 30 * 2 ^ 30) % 2 ^ s.dev.hif.bar2Log ≠ 0 →
        d.bitAt Reg.hifStatus 4 = true ∧ OnlyRegs s.dev d [Reg.hifStatus])) ∧
  (∀ (s : State) (v : Word), s.dev.hostUp = true →
    Completes (.hifBar2BaseWrite true v) s fun d =>
      ((bits v 3 0 * 2 ^ 32 + (s.dev.reg Reg.hifBar2BaseLo).toNat) % 2 ^ s.dev.hif.bar2Log = 0 →
        d.reg Reg.hifBar2BaseHi = word (bits v 3 0) ∧ OnlyRegs s.dev d [Reg.hifBar2BaseHi]) ∧
      ((bits v 3 0 * 2 ^ 32 + (s.dev.reg Reg.hifBar2BaseLo).toNat) % 2 ^ s.dev.hif.bar2Log ≠ 0 →
        d.bitAt Reg.hifStatus 4 = true ∧ OnlyRegs s.dev d [Reg.hifStatus])) ∧
  (∀ s : State, s.dev.hostUp = true → Completes .functionLevelReset s fun d => d.agreed = false) ∧
  (∀ s : State, s.dev.chk.power = true → s.dev.chk.warm.isSome = true → s.dev.chk.dev ≠ .fatal →
    Completes .warmResetBegin s fun d => d.agreed = false))

/-- SWAP, LOAD, UNLOAD and REPLACE that are accepted run: the swap is being validated, the entry is loading, the load or unload is
in progress, and REPLACE decides SAFE with cause 0xE1 for the next tick (R49, R174, R179, R180). -/
def Obligations.PlanAndModelRequestsRun : Prop :=
  (∀ (s : State) (tag : Byte) (a : ReqArgs), s.dev.asks → bits a.a0 31 1 = 0 → args0 a = true →
    s.dev.swapOk (bits a.a0 0 0) = true →
    Completes (.swap tag a) s fun d => d.tck = { s.dev.tck with swap := some (Swap.mk tag (bits a.a0 0 0) .validating 0) } ∧
      d.hif.running = s.dev.hif.running ++ [RunReq.mk 1 tag a.a0] ∧ SameRegs s.dev d argRegs ∧
      d.sansRegs = { s.dev with tck := d.tck, hif := d.hif }.sansRegs) ∧
  (∀ (s : State) (tag : Byte) (a : ReqArgs), s.dev.asks → loadArgs a = true →
    s.dev.inService = true ∨ s.dev.chk.dev = .maint → s.dev.residents < 2 → s.dev.load = none →
    Completes (.load tag a) s fun d => d.load = some (LoadOp.mk 2 tag a s.dev.freeEntry false) ∧
      d.modelAt s.dev.freeEntry = { Model.reset with st := .loading } ∧
      d.hif.running = s.dev.hif.running ++ [RunReq.mk 2 tag a.a0] ∧ SameRegs s.dev d argRegs ∧
      d.sansRegs = { s.dev with model0 := d.model0, model1 := d.model1, load := d.load, hif := d.hif }.sansRegs) ∧
  (∀ (s : State) (tag : Byte) (a : ReqArgs), s.dev.asks → bits a.a0 31 1 = 0 → args0 a = true →
    (s.dev.modelAt (bits a.a0 0 0)).st ≠ .empty → s.dev.inService = true ∨ s.dev.chk.dev = .maint → s.dev.load = none →
    s.dev.entryHeld (bits a.a0 0 0) = false →
    Completes (.unload tag a) s fun d => d.load = some (LoadOp.mk 3 tag a (bits a.a0 0 0) false) ∧
      d.hif.running = s.dev.hif.running ++ [RunReq.mk 3 tag a.a0] ∧
      d.sansMem = { s.dev with load := d.load, hif := d.hif }.sansMem ∧
      (s.dev.tck.swap = none → SameRegs s.dev d argRegs ∧
        d.sansRegs = { s.dev with load := d.load, hif := d.hif }.sansRegs)) ∧
  (∀ (s : State) (tag : Byte) (a : ReqArgs), s.dev.asks → loadArgs a = true → s.dev.inService = true → s.dev.load = none →
    Completes (.replace tag a) s fun d => d.load = some (LoadOp.mk 4 tag a 0 true) ∧
      d.chk = { s.dev.chk with decisions := s.dev.chk.decisions ++ [Decision.mk 0xE1 false] } ∧
      d.hif.running = s.dev.hif.running ++ [RunReq.mk 4 tag a.a0] ∧ SameRegs s.dev d argRegs ∧
      d.sansRegs = { s.dev with load := d.load, chk := d.chk, hif := d.hif }.sansRegs)

/-- TIME_GRANT, CHK_RESTART, CVU_MODE, MAINT, WARM_RESET and FACET_RETURN that are accepted (R212, R254, R282, R297, R306,
R313). -/
def Obligations.ControlRequestsRun : Prop :=
  (∀ (s : State) (tag : Byte) (a : ReqArgs), s.dev.asks → noArgs a = true → s.dev.inStandby = true →
    Completes (.timeGrant tag a) s fun d => d.tim.grantAt = some s.dev.q ∧ d.ctime.grant = true ∧
      Answered s.dev d 5 tag 0 0 ∧ SameRegs s.dev d (argRegs ++ cplRegs) ∧
      d.sansRegs = { s.dev with tim := d.tim, ctime := d.ctime }.sansRegs) ∧
  (∀ (s : State) (tag : Byte) (a : ReqArgs), s.dev.asks → noArgs a = true → s.dev.inStandby = true →
    Completes (.chkRestart tag a) s fun d =>
      d.core = { s.dev.core with due := true, held := true, sync := false } ∧ d.sio.chA.req = false ∧
      d.sio.outA.swA = false ∧ d.sio.outB.swA = false ∧ d.fld Reg.chkCore 19 16 = 3 ∧
      d.fld Reg.chkCore 15 0 = satAdd 16 (s.dev.fld Reg.chkCore 15 0) 1 ∧
      d.hif.running = s.dev.hif.running ++ [RunReq.mk 6 tag a.a0] ∧ SameRegs s.dev d (Reg.chkCore :: argRegs) ∧
      (s.dev.chk.dev ≠ .safe → d.chk = s.dev.chk) ∧
      (s.dev.chk.dev = .safe → d.chk = { s.dev.chk with causes := (s.dev.chk.causes ++ [0xE3]).dedup, lockout := true }) ∧
      d.sansRegs = { s.dev with core := d.core, sio := d.sio, hif := d.hif, chk := d.chk }.sansRegs) ∧
  (∀ (s : State) (tag : Byte) (a : ReqArgs), s.dev.asks → bits a.a0 31 17 = 0 → args0 a = true →
    s.dev.modeOk (bits a.a0 15 0) (bit a.a0 16) = true → s.dev.modeState = true →
    Completes (.cvuMode tag a) s fun d =>
      d.ctxAt (bits a.a0 15 0) = (s.dev.ctxAt (bits a.a0 15 0)).enter s.dev.q (bit a.a0 16) ∧
      (∀ c, c ≠ bits a.a0 15 0 → d.ctxAt c = s.dev.ctxAt c) ∧ Answered s.dev d 7 tag 0 0 ∧
      SameRegs s.dev d (argRegs ++ cplRegs) ∧ d.sansRegs = { s.dev with cvu := d.cvu }.sansRegs) ∧
  (∀ (s : State) (tag : Byte) (a : ReqArgs), s.dev.hostUp = true → s.dev.reqBusy = false → s.dev.agreed = true → noArgs a = true →
    s.dev.chk.dev = .configured ∨ s.dev.chk.dev = .safe → s.dev.tck.running = true →
    Completes (.maint tag a) s fun d => d.hif.running = s.dev.hif.running ++ [RunReq.mk 8 tag a.a0] ∧
      SameRegs s.dev d argRegs ∧ d.sansRegs = { s.dev with hif := d.hif }.sansRegs) ∧
  (∀ (s : State) (tag : Byte) (a : ReqArgs), s.dev.hostUp = true → s.dev.reqBusy = false → s.dev.agreed = true → noArgs a = true →
    s.dev.chk.dev = .configured ∨ s.dev.chk.dev = .safe → s.dev.tck.running = false →
    Completes (.maint tag a) s fun d => d.chk.dev = .maint ∧ d.chk.causes = [] ∧ d.chk.lockout = false ∧
      d.bitAt Reg.memStatus 8 = true ∧ d.sio.chA.req = false ∧ d.sio.chB.req = false ∧
      (∀ r, r ∈ d.hif.running → r.op ≠ 8)) ∧
  (∀ (s : State) (tag : Byte) (a : ReqArgs), s.dev.hostUp = true → s.dev.reqBusy = false → s.dev.agreed = true → noArgs a = true →
    s.dev.chk.dev = .maint → s.dev.chk.warm = none →
    Completes (.warmReset tag a) s fun d => d.chk = { s.dev.chk with warm := some 0xE6 } ∧ d.outputsOpen ∧
      Answered s.dev d 9 tag 0 0 ∧ SameRegs s.dev d (argRegs ++ cplRegs) ∧
      d.sansRegs = { s.dev with chk := d.chk, sio := d.sio }.sansRegs) ∧
  (∀ (s : State) (tag : Byte) (a : ReqArgs), s.dev.asks → bits a.a0 31 2 = 0 → args0 a = true → s.dev.inService = true →
    (s.dev.facetAt (bits a.a0 1 0)).st = .ready →
    Completes (.facetReturn tag a) s fun d =>
      d.facetAt (bits a.a0 1 0) = { s.dev.facetAt (bits a.a0 1 0) with st := .returnPending, acceptedAt := s.dev.q } ∧
      d.hif.running = s.dev.hif.running ++ [RunReq.mk 10 tag a.a0] ∧ SameRegs s.dev d argRegs ∧
      d.sansRegs = { s.dev with facet := d.facet, hif := d.hif }.sansRegs)

/-- FAULT_FORCE drives a pair to 10, breaks it, or raises a checker source at the collector's input with no reaction but INT;
FAULT_CLEAR clears a pending bit but one that was set in the same c-cycle (R10); channel A's FLT_FORCE does the same or is refused (R299, R300). -/
def Obligations.ForcesAndClears : Prop :=
  (∀ (s : State) (tag : Byte) (a : ReqArgs), s.dev.asks → bits a.a0 31 13 = 0 → bits a.a0 11 9 = 0 → args0 a = true →
    forceNames (bits a.a0 8 0) (bits a.a0 12 12) = true → s.dev.forceState = true →
    Completes (.faultForce tag a) s fun d => Answered s.dev d 11 tag 0 0 ∧ d.chk = s.dev.chk ∧
      (bits a.a0 8 0 < 0x180 → bits a.a0 12 12 = 1 →
        (d.pairAt (bits a.a0 8 0)).level = 2 ∧ (d.pairAt (bits a.a0 8 0)).forced = true) ∧
      (bits a.a0 8 0 < 0x180 → bits a.a0 12 12 = 0 → (s.dev.pairAt (bits a.a0 8 0)).level = 0 →
        (d.pairAt (bits a.a0 8 0)).level = 1 ∧ (d.pairAt (bits a.a0 8 0)).forced = true) ∧
      (0x180 ≤ bits a.a0 8 0 → d.pend (bits a.a0 8 0) = true ∧ d.sio = s.dev.sio ∧ d.eng = s.dev.eng)) ∧
  (∀ (s : State) (tag : Byte) (a : ReqArgs) (r : SrcRow), s.dev.asks → bits a.a0 31 9 = 0 → args0 a = true →
    srcRow (bits a.a0 8 0) = some r → r.cls ≠ 3 → s.dev.chk.dev ≠ .boot → s.dev.chk.dev ≠ .fatal →
    Completes (.faultClear tag a) s fun d => Answered s.dev d 12 tag 0 0 ∧
      d.pend (bits a.a0 8 0) = (s.dev.pend (bits a.a0 8 0) &&
        s.dev.justSet (Reg.fltPend (bits a.a0 8 0 / 32)) (bits a.a0 8 0 % 32)) ∧
      (∀ x, x < 512 → x ≠ bits a.a0 8 0 → d.pend x = s.dev.pend x) ∧
      OnlyRegs s.dev d (Reg.fltPend (bits a.a0 8 0 / 32) :: argRegs ++ cplRegs)) ∧
  (∀ (s : State) (v : Word), s.dev.chanA = true →
    Completes (.fltForce v) s fun d =>
      (s.dev.forceState = false ∨ forceNames (bits v 8 0) (bits v 12 12) = false →
        d.bitAt Reg.fltStatus 2 = true ∧ OnlyRegs s.dev d [Reg.fltStatus]) ∧
      (s.dev.forceState = true → forceNames (bits v 8 0) (bits v 12 12) = true → bits v 8 0 < 0x180 →
        bits v 12 12 = 1 → s.dev.cmpAlive = true →
        (d.pairAt (bits v 8 0)).level = 2 ∧ (d.pairAt (bits v 8 0)).forced = true))

/-- Plan validation and digest comparison read the slot and take a swap to its next stage or end it with PLAN_INVALID (R48, R50).
A load ends with its entry resident only where the image was well-formed, signed, admitted and valid, and with the entry empty
otherwise; an unload leaves the entry empty and no context that it owned (R175 to R179). -/
def Obligations.SwapsAndLoadsAreVerified : Prop :=
  ((∀ (s : State) (w : Swap), s.dev.cmpAlive = true → s.dev.tck.swap = some w → w.stage = .validating →
    (s.dev.bgAt .telemetry).level ≠ .forced →
    Completes .planValidationDone s fun d => d.mem = (s.dev.slotSense w.slot).mem ∧
      (s.dev.slotOk w.slot = true → d.tck = { s.dev.tck with swap := some { w with stage := .digest } } ∧
        d.sansMem = { s.dev with tck := d.tck }.sansMem) ∧
      (s.dev.slotOk w.slot = false → d.tck = { s.dev.tck with swap := none } ∧
        d.hif.running = s.dev.hif.running.filter (fun r => !(decide (r.op = 1) && decide (r.tag = w.tag))) ∧
        (∀ a0, s.dev.hif.running = [RunReq.mk 1 w.tag a0] → Answered s.dev d 1 w.tag 3 0))) ∧
  (∀ (s : State) (w : Swap), s.dev.cmpAlive = true → s.dev.tck.swap = some w → w.stage = .digest →
    Completes .planDigestCompareDone s fun d => d.mem = (s.dev.slotSense w.slot).mem ∧
      (s.dev.slotDigestOk w.slot = true →
        d.tck = { s.dev.tck with swap := some { w with stage := .pending, doneAt := s.dev.q } } ∧
        d.sansMem = { s.dev with tck := d.tck }.sansMem) ∧
      (s.dev.slotDigestOk w.slot = false → d.tck = { s.dev.tck with swap := none } ∧
        (∀ a0, s.dev.hif.running = [RunReq.mk 1 w.tag a0] → Answered s.dev d 1 w.tag 3 0)))) ∧
  ((∀ (s : State) (l : LoadOp) (r : FlashRead), s.dev.cmpAlive = true → s.dev.load = some l → l.op ≠ 3 → l.waitTick = false →
    Completes (.loadComplete r) s fun d => d.load = none ∧
      (∀ r, r ∈ d.hif.running → ¬ (r.op = l.op ∧ r.tag = l.tag)) ∧
      d.modelAt (1 - l.entry) = s.dev.modelAt (1 - l.entry) ∧
      (d.modelAt l.entry = Model.reset ∨ d.modelAt l.entry = modelFrom (s.dev.loadSource l.args).2.2) ∧
      ((d.modelAt l.entry).st = .resident →
        imgForm (s.dev.loadSource l.args).2.2 (s.dev.loadSource l.args).1 = true ∧
        s.dev.imgSigned (s.dev.loadSource l.args).2.2 = true ∧
        s.dev.shorts (s.dev.loadSource l.args).2.2 (s.dev.otherSections l.entry) = [] ∧
        s.dev.imgValid (s.dev.loadSource l.args).2.2 = true) ∧
      (∀ a0, (s.dev.loadSource l.args).2.1 = false → s.dev.hif.running = [RunReq.mk l.op l.tag a0] →
        l.op < 256 → Answered s.dev d l.op l.tag 4 0)) ∧
  (∀ (s : State) (l : LoadOp), s.dev.cmpAlive = true → s.dev.load = some l → l.op = 3 →
    Completes .unloadComplete s fun d => d.load = none ∧ d.modelAt l.entry = Model.reset ∧
      d.modelAt (1 - l.entry) = s.dev.modelAt (1 - l.entry) ∧ (∀ c, (d.ctxAt c).owner ≠ ownerOf l.entry) ∧
      (∀ r, r ∈ d.hif.running → ¬ (r.op = 3 ∧ r.tag = l.tag))))

/-- A sampled pair at 10 after 01 registers once: its pending bit is set; a forced one has no reaction but INT. A pair that is broken
sets its FLT_WIRE bit and registers FLT_WIRE too. A pair back at 01 registers again (R285, R286, R294).
Checker sources and monitors register: CHK_SUPPLY is of class F and leads to FATAL with the outputs off; VMON_CMP and FMON_CMP outside
BOOT and STARTUP_TEST ask for a warm reset with the outputs off at once; every raise sets its pending bit (R288, R292, R296, R402). -/
def Obligations.SourcesRegister : Prop :=
  ((∀ (s : State) (x : Nat), s.dev.sampled x = true → (s.dev.pairAt x).seen = false → (s.dev.pairAt x).level ≠ 2 →
    Completes (.faultPairRegistration x) s fun d => d.pend x = true ∧
      ((s.dev.pairAt x).forced = true → d.chk = s.dev.chk ∧ d.eng = s.dev.eng ∧ d.sio = s.dev.sio ∧ d.mem = s.dev.mem ∧
        (d.pairAt x).seen = true ∧ (d.pairAt x).level = 1)) ∧
  (∀ (s : State) (x : Nat), s.dev.sampled x = true → (s.dev.pairAt x).broken = false →
    Completes (.brokenPair x) s fun d => d.pend x = true ∧ d.pend Src.fltWire = true ∧
      d.bitAt (Reg.fltWire (x / 32)) (x % 32) = true ∧ d.bitAt Reg.fltStatus 3 = true ∧ (d.pairAt x).broken = true ∧
      (d.pairAt x).level = 2 ∧
      ((s.dev.pairAt x).forced = true → d.chk = s.dev.chk ∧ d.eng = s.dev.eng ∧ d.sio = s.dev.sio)) ∧
  (∀ (s : State) (x : Nat), x < 0x180 →
    Completes (.faultPairClear x) s fun d => d.pairAt x = Pair.reset ∧ (∀ y, y ≠ x → d.pairAt y = s.dev.pairAt y) ∧
      d.bitAt (Reg.fltCdPair (x / 32)) (x % 32) = false ∧ SameRegs s.dev d [Reg.fltCdPair (x / 32)] ∧
      d.sansRegs = { s.dev with flt := d.flt }.sansRegs)) ∧
  ((∀ (s : State) (x : Nat), x ∈ [Src.tickInterval, Src.aptUntrusted, Src.aptWitness, Src.stwFault, Src.cvuFail, Src.timeCopy] →
    s.dev.chk.power = true → s.dev.reactions x = 0 →
    Completes (.checkerSourceRaise x) s fun d => d.pend x = true ∧ RegisteredOnly s.dev d) ∧
  (∀ s : State, s.dev.chk.power = true → s.dev.chk.dev ≠ .fatal →
    Completes .chkSupply s fun d => d.chk.dev = .fatal ∧ d.chk.cause = 0x4F ∧ d.pend Src.chkSupply = true ∧
      d.reg Reg.fltFatal = word (2 ^ 31 + 0x4F * 2 ^ 16 + Src.chkSupply) ∧ d.outputsOpen ∧ d.hif.running = [] ∧
      d.core.held = true ∧ d.errOut = true) ∧
  (∀ s : State, s.dev.chk.power = true → s.dev.chk.pwrEn = true →
    (s.dev.chk.warm = none → s.dev.chk.dev ∉ [DevState.boot, .startupTest, .fatal] →
      Completes .vmonCmp s (MonitorWarm s.dev Src.vmonCmp 0x4B) ∧ Completes .fmonCmp s (MonitorWarm s.dev Src.fmonCmp 0x4C)) ∧
    (s.dev.chk.dev ∈ [DevState.boot, .startupTest] →
      Completes .vmonCmp s (MonitorSafe Src.vmonCmp 0x4B) ∧ Completes .fmonCmp s (MonitorSafe Src.fmonCmp 0x4C))))

/-- A confirmed fence waits no longer; a late one raises FLT_FENCE_FAIL, whose reaction CHIP asks for a warm reset; the
ERR_OUT hold ends (R295, R301).
A Facet under test of which no segment fails and whose march passes goes on to re-placement, with a pass counted for every Prism that
runs; a failing segment, a failing march or an engine that the plan uses and that cannot run make it FAILED with its power off (R297,
R311).
The re-placement of a Facet (R173): a section copied from a healthy Facet whose copy has its digest makes it READY; without a
healthy Facet to copy from it is FAILED with its power off, and it always becomes one of the two. -/
def Obligations.FencesAndFacetReturn : Prop :=
  ((∀ (s : State) (n : Nat), s.dev.chk.power = true →
    Completes (.fenceConfirm n) s fun d =>
      d = { s.dev with flt := { s.dev.flt with fences := s.dev.flt.fences.eraseIdx n } }) ∧
  (∀ (s : State) (n : Nat), s.dev.chk.power = true → n < s.dev.flt.fences.length → s.dev.chk.dev ≠ .fatal →
    s.dev.chk.warm = none →
    Completes (.fenceConfirmTimeout n) s fun d => d.pend Src.fenceFail = true ∧
      d.flt.fences = s.dev.flt.fences.eraseIdx n ∧ d.chk.warm = some 0x58 ∧ d.outputsOpen) ∧
  (∀ s : State, s.dev.chk.power = true →
    Completes .errOutHoldExpiry s fun d => d = { s.dev with chk := { s.dev.chk with pinAt := none } })) ∧
  ((∀ (s : State) (f : Nat), f < 4 → s.dev.cmpAlive = true → (s.dev.facetAt f).st = .testing →
    (s.dev.facetAt f).powered = true → (s.dev.facetAt f).zeroing = false → s.dev.faultFenced f = false → s.dev.usedOk f = true →
    Completes (.facetTestComplete f ⟨[], true⟩) s fun d => d.facetAt f = { s.dev.facetAt f with st := .replacing } ∧
      (∀ p, p < 6 → (s.dev.prismAt (6 * f + p)).disabled = false →
        d.prismAt (6 * f + p) = { s.dev.prismAt (6 * f + p) with nextSeg := 0 } ∧
        d.bgAt (.selftest (6 * f + p)) = Bg.mk .normal s.dev.q) ∧
      d.fld Reg.fltStPassCnt 31 0 = satAdd 32 (s.dev.fld Reg.fltStPassCnt 31 0)
        (countBy (fun p => !(s.dev.prismAt (6 * f + p)).disabled) (List.range 6)) ∧
      SameRegs s.dev d [Reg.fltStPassCnt] ∧
      d.sansRegs = { s.dev with facet := d.facet, prism := d.prism, bg := d.bg }.sansRegs) ∧
  (∀ (s : State) (f : Nat) (fails : List (Nat × Nat)) (march : Bool), f < 4 → s.dev.cmpAlive = true →
    (s.dev.facetAt f).st = .testing → (s.dev.facetAt f).powered = true → (s.dev.facetAt f).zeroing = false →
    march = false ∨ s.dev.faultFenced f = true ∨
      (∃ p n, p < 6 ∧ n < 10 ∧ (p, n) ∈ fails ∧ (s.dev.prismAt (6 * f + p)).disabled = false) →
    Completes (.facetTestComplete f ⟨fails, march⟩) s fun d => (d.facetAt f).st = .failed ∧ (d.facetAt f).powered = false ∧
      (∀ g, g < 4 → g ≠ f → d.facetAt g = s.dev.facetAt g))) ∧
  ((∀ (s : State) (f k g : Nat) (x : Section), f < 4 → s.dev.cmpAlive = true → (s.dev.facetAt f).st = .replacing →
    s.dev.healthyFacets[k % s.dev.healthyFacets.length]? = some g → s.dev.placedSections = [x] → (s.dev.copySection f g x).copyOk f x = true →
    Completes (.replacementComplete f k) s fun d => d.facetAt f = { s.dev.facetAt f with st := .ready } ∧
      d.mem = ((s.dev.copySection f g x).copyRead f x).mem ∧ d.sansMem = { s.dev with facet := d.facet }.sansMem) ∧
  (∀ (s : State) (f k : Nat), f < 4 → s.dev.cmpAlive = true → (s.dev.facetAt f).st = .replacing → s.dev.placedSections = [] →
    Completes (.replacementComplete f k) s fun d => d.facetAt f = { s.dev.facetAt f with st := .ready } ∧
      d = { s.dev with facet := d.facet }) ∧
  (∀ (s : State) (f k : Nat), f < 4 → s.dev.cmpAlive = true → (s.dev.facetAt f).st = .replacing → s.dev.healthyFacets = [] →
    s.dev.placedSections ≠ [] →
    Completes (.replacementComplete f k) s fun d => (d.facetAt f).st = .failed ∧ (d.facetAt f).powered = false) ∧
  (∀ (s : State) (f k : Nat), f < 4 → s.dev.cmpAlive = true → (s.dev.facetAt f).st = .replacing →
    Completes (.replacementComplete f k) s fun d =>
      (d.facetAt f).st = .ready ∨ ((d.facetAt f).st = .failed ∧ (d.facetAt f).powered = false)))

/-- PARTITION_TABLE_READ uses the copy with a correct CRC and the higher GEN; REPAIR_RECORD_VERIFY the valid copy with the higher GEN,
else the OTP data with BOOT_VERIFY; REPAIR_RECORD_UPDATE writes the copy not in use, and where that fails the engine stays fenced
(R390, R393, R394). The layout of a table entry is presumed (log 29). -/
def Obligations.FlashRecords : Prop :=
  (∀ s : State, s.dev.booting = true →
    Completes .partitionTableRead s fun d => d = { s.dev with boot := d.boot } ∧
      (∀ a b, parseTable (s.dev.flashGet (tableAt 0) 4096) = some a → parseTable (s.dev.flashGet (tableAt 1) 4096) = some b →
        d.boot.parts = (if a.1 < b.1 then b else a).2 ∧ d.boot.partGen = max a.1 b.1) ∧
      (∀ a, parseTable (s.dev.flashGet (tableAt 0) 4096) = some a → parseTable (s.dev.flashGet (tableAt 1) 4096) = none →
        d.boot.parts = a.2 ∧ d.boot.partGen = a.1 ∧ d.boot.partCopy = 0) ∧
      (∀ b, parseTable (s.dev.flashGet (tableAt 0) 4096) = none → parseTable (s.dev.flashGet (tableAt 1) 4096) = some b →
        d.boot.parts = b.2 ∧ d.boot.partGen = b.1 ∧ d.boot.partCopy = 1) ∧
      (parseTable (s.dev.flashGet (tableAt 0) 4096) = none → parseTable (s.dev.flashGet (tableAt 1) 4096) = none →
        d.boot.parts = [])) ∧
  (∀ s : State, s.dev.booting = true →
    Completes .repairRecordVerify s fun d =>
      (∀ a b, s.dev.repairCopy 0 = some a → s.dev.repairCopy 1 = some b →
        d.boot.repair = (if a.1 < b.1 then b else a).2.1 ∧ d.boot.unitFlags = (if a.1 < b.1 then b else a).2.2 ∧
        d.boot.repairCopy = (if a.1 < b.1 then 1 else 0) ∧ SameRegs s.dev d [Reg.bootRepair] ∧
        d.sansRegs = { s.dev with boot := d.boot }.sansRegs) ∧
      (s.dev.repairCopy 0 = none → s.dev.repairCopy 1 = none →
        d.boot.repair = s.dev.boot.otp.factoryRepair ∧ d.boot.unitFlags = [] ∧ d.pend Src.bootVerify = true)) ∧
  (∀ (s : State) (j : Nat) (f : ArrayFault), s.dev.cmpAlive = true → j < 96 → s.dev.chk.dev ≠ .fatal →
    Completes (.repairRecordUpdate j f true) s fun d => d.repairWord j = repAdd (s.dev.boot.spare.contains j) (s.dev.repairWord j) f ∧
      (∀ i, i < 96 → i ≠ j → d.repairWord i = s.dev.repairWord i) ∧
      d.boot.repairCopy = (if s.dev.boot.repairCopy = 0 then 1 else 0) ∧
      d.boot.repairGen = (s.dev.boot.repairGen + 1) % 2 ^ 32 ∧
      (∀ x, x < s.dev.repairAt d.boot.repairCopy ∨ s.dev.repairAt d.boot.repairCopy + 464 ≤ x →
        tabGet 0xFF d.nvm.flash x = tabGet 0xFF s.dev.nvm.flash x) ∧
      SameRegs s.dev d [Reg.bootRepair] ∧ d.sansRegs = { s.dev with boot := d.boot, nvm := d.nvm }.sansRegs) ∧
  (∀ (s : State) (j : Nat) (f : ArrayFault), s.dev.cmpAlive = true → j < 96 →
    Completes (.repairRecordUpdate j f false) s fun d =>
      d.engAt (meEngine j) = { s.dev.engAt (meEngine j) with unusable := true, fenced := true } ∧
      OtherEngines s.dev d (meEngine j) ∧ meEngine j ∈ d.boot.keep ∧ d.boot.repair = s.dev.boot.repair ∧ d.regs = s.dev.regs)

/-- A write to NVM_OP: OP_REJ while an operation runs; ARG_ERR and STATE_REJECT with the operation not started; else the operation runs,
BUSY reads 1, and a PROGRAM makes its partition invalid first (R391).
A flash operation ends: READ stores the partition's bytes in memory, PROGRAM stores memory in the partition and makes it valid,
ERASE erases the event partition; a READ of an uncorrectable codeword and a PROGRAM without free spares end as MEDIA_ERROR (R386, R391);
blocks that failed are retired (R386). While the flash class is Forced the operation waits (R55). In FATAL a
PROGRAM stops at a page boundary, and its partition stays invalid (R392). -/
def Obligations.FlashOperations : Prop :=
  ((∀ (s : State) (v : Word), s.dev.hostUp = true → Completes (.read v) s (NvmStarts 1 v s.dev)) ∧
  (∀ (s : State) (v : Word), s.dev.hostUp = true → Completes (.program v) s (NvmStarts 2 v s.dev)) ∧
  (∀ (s : State) (v : Word), s.dev.hostUp = true → Completes (.erase v) s (NvmStarts 3 v s.dev))) ∧
  ((∀ (s : State) (r : FlashRead) (failed : List Nat), s.dev.chk.dev ≠ .fatal → (s.dev.bgAt .flash).level = .forced →
    Completes (.nvmOpComplete ⟨r, failed⟩) s fun d => d = s.dev) ∧
  (∀ (s : State) (o : NvmOp) (r : FlashRead) (failed : List Nat), s.dev.cmpAlive = true → s.dev.chk.dev ≠ .fatal → (s.dev.bgAt .flash).level ≠ .forced →
    s.dev.nvm.op = some o → o.op = 1 → r.bad = false →
    Completes (.nvmOpComplete ⟨r, failed⟩) s fun d =>
      d.mem = (s.dev.writeMem o.addr (s.dev.flashGet ((s.dev.partAt o.part).start + o.ofs) o.len) false).mem ∧
      d.nvm.op = none ∧ d.nvm.flash = s.dev.nvm.flash ∧ (failed = [] → d.nvm = { s.dev.nvm with op := none }) ∧
      (∀ p, p ∈ failed → p < s.dev.nvm.blocks → (d.blkAt p).bad = true) ∧
      d.reg Reg.nvmOpStatus = word (o.tag * 65536 + 0x100) ∧ d.bitAt Reg.nvmStatus 1 = true ∧
      d.fld Reg.nvmLdpcCnt 31 0 = satAdd 32 (s.dev.fld Reg.nvmLdpcCnt 31 0) r.corrected ∧ (r.retry = true → d.bitAt Reg.nvmStatus 0 = true) ∧
      d.sansMem = { s.dev with nvm := d.nvm }.sansMem) ∧
  (∀ (s : State) (o : NvmOp) (r : FlashRead), s.dev.cmpAlive = true → s.dev.chk.dev ≠ .fatal → (s.dev.bgAt .flash).level ≠ .forced →
    s.dev.nvm.op = some o → o.op = 2 → s.dev.flashLow = false →
    0x20000 ≤ (s.dev.partAt o.part).start → o.part < s.dev.boot.parts.length →
    (s.dev.readMem o.addr o.len).bytes.length = o.len →
    Completes (.nvmOpComplete ⟨r, []⟩) s fun d => d.nvm.op = none ∧ (d.partAt o.part).valid = true ∧
      (∀ i, i < o.len → tabGet 0xFF d.nvm.flash ((s.dev.partAt o.part).start + o.ofs + i) =
        (s.dev.readMem o.addr o.len).bytes.getD i 0xFF) ∧
      d.reg Reg.nvmOpStatus = word (o.tag * 65536 + 0x200) ∧ d.bitAt Reg.nvmStatus 1 = true ∧
      d.sansMem = { s.dev with nvm := d.nvm, boot := d.boot }.sansMem) ∧
  (∀ (s : State) (o : NvmOp) (r : FlashRead), s.dev.cmpAlive = true → s.dev.chk.dev ≠ .fatal → (s.dev.bgAt .flash).level ≠ .forced →
    s.dev.nvm.op = some o → o.op = 3 →
    Completes (.nvmOpComplete ⟨r, []⟩) s fun d => d.nvm.op = none ∧ d.nvm.seq = 0 ∧
      (∀ x, tabGet 0xFF d.nvm.flash x = (if (s.dev.partAt 9).start ≤ x ∧ x < (s.dev.partAt 9).start + (s.dev.partAt 9).length
        then 0xFF else tabGet 0xFF s.dev.nvm.flash x)) ∧
      d.reg Reg.nvmOpStatus = word (o.tag * 65536 + 0x300) ∧ d.bitAt Reg.nvmStatus 1 = true ∧
      SameRegs s.dev d [Reg.nvmOpStatus, Reg.nvmStatus] ∧ d.sansRegs = { s.dev with nvm := d.nvm }.sansRegs) ∧
  (∀ (s : State) (o : NvmOp) (r : FlashRead) (failed : List Nat), s.dev.cmpAlive = true → s.dev.chk.dev ≠ .fatal → (s.dev.bgAt .flash).level ≠ .forced →
    s.dev.nvm.op = some o → o.op = 1 → r.bad = true →
    Completes (.nvmOpComplete ⟨r, failed⟩) s fun d => d.nvm.op = none ∧ d.bitAt Reg.nvmStatus 1 = true ∧
      d.reg Reg.nvmOpStatus = word (o.tag * 65536 + 0x10A) ∧ d.bitAt Reg.nvmStatus 3 = true ∧
      d.boot = s.dev.boot ∧ d.nvm.flash = s.dev.nvm.flash) ∧
  (∀ (s : State) (o : NvmOp) (r : FlashRead), s.dev.cmpAlive = true → s.dev.chk.dev ≠ .fatal → (s.dev.bgAt .flash).level ≠ .forced →
    s.dev.nvm.op = some o → o.op = 2 → s.dev.flashLow = true →
    Completes (.nvmOpComplete ⟨r, []⟩) s fun d => d.nvm.op = none ∧ d.bitAt Reg.nvmStatus 1 = true ∧
      d.reg Reg.nvmOpStatus = word (o.tag * 65536 + 0x20A) ∧ d.boot = s.dev.boot ∧ d.mem = s.dev.mem) ∧
  (∀ (s : State) (o : NvmOp) (r : FlashRead) (failed : List Nat), s.dev.cmpAlive = true → s.dev.chk.dev = .fatal →
    s.dev.nvm.op = some o → o.op = 2 →
    Completes (.nvmOpComplete ⟨r, failed⟩) s fun d => d.nvm.op = none ∧ d.boot = s.dev.boot ∧
      d.reg Reg.nvmOpStatus = s.dev.reg Reg.nvmOpStatus ∧
      (∃ n, n ≤ o.len ∧ n % s.dev.nvm.page = 0 ∧
        (∀ i, i < (s.dev.readMem o.addr n).bytes.length →
          tabGet 0xFF d.nvm.flash ((s.dev.partAt o.part).start + o.ofs + i) = (s.dev.readMem o.addr n).bytes.getD i 0xFF) ∧
        ∀ x, x < (s.dev.partAt o.part).start + o.ofs ∨ (s.dev.partAt o.part).start + o.ofs + n ≤ x →
          tabGet 0xFF d.nvm.flash x = tabGet 0xFF s.dev.nvm.flash x)))

/-- An event noted takes a staging buffer, or with both taken keeps its header alone; its Lens buffers are appended; written, it
leaves its buffer, its record stands in the next of the 64 places of the event partition, and no other byte of flash changes (R395). The types of the items are the model's (log 28). -/
def Obligations.EventsAreRecorded : Prop :=
  (∀ (s : State) (r : EventRec) (l : List EventRec), s.dev.cmpAlive = true → s.dev.nvm.due = r :: l →
    Completes .eventStaging s fun d => d.nvm.due = l ∧
      (s.dev.buffersUsed < 2 → d = { s.dev with nvm := { s.dev.nvm with due := l, staging := s.dev.nvm.staging ++ [r] } }) ∧
      (2 ≤ s.dev.buffersUsed → d.bitAt Reg.nvmStatus 6 = true ∧ SameRegs s.dev d [Reg.nvmStatus] ∧
        d.nvm.staging = s.dev.nvm.staging ++ [{ r with flags := 1, items := [], lensDone := true }])) ∧
  (∀ (s : State) (k : Nat) (claimed : Bool), s.dev.cmpAlive = true →
    s.dev.nvm.staging.findIdx? (fun r => !r.lensDone) = some k →
    Completes (.eventLensAppend claimed) s fun d => d.nvm.staging.length = s.dev.nvm.staging.length ∧
      (∃ (r r' : EventRec) (x : List Byte), s.dev.nvm.staging[k]? = some r ∧ d.nvm.staging[k]? = some r' ∧
        r' = { r with lensDone := true, flags := if claimed then r.flags ||| 2 else r.flags, items := r.items ++ [(3, x)] }) ∧
      (∀ i, i ≠ k → d.nvm.staging[i]? = s.dev.nvm.staging[i]?) ∧
      d.sansMem = { s.dev with nvm := { s.dev.nvm with staging := d.nvm.staging }, free := d.free }.sansMem) ∧
  (∀ (s : State) (r : EventRec) (l : List EventRec) (failed : List Nat), s.dev.cmpAlive = true → s.dev.nvm.staging = r :: l →
    s.dev.chk.dev ≠ .fatal → r.lensDone = true → (s.dev.retireBlks failed).flashLow = false → (s.dev.partAt 9).length ≠ 0 →
    Completes (.eventFlashWrite failed) s fun d => d.nvm.staging = l ∧ d.nvm.seq = s.dev.nvm.seq + 1 ∧
      (∀ x, x < (s.dev.partAt 9).start + s.dev.nvm.seq % 64 * s.dev.boot.img.device.evtBytes ∨
        (s.dev.partAt 9).start + s.dev.nvm.seq % 64 * s.dev.boot.img.device.evtBytes + s.dev.boot.img.device.evtBytes ≤ x →
        tabGet 0xFF d.nvm.flash x = tabGet 0xFF s.dev.nvm.flash x) ∧
      (∀ p, p ∈ failed → p < s.dev.nvm.blocks → (d.blkAt p).bad = true) ∧ (failed = [] → d = { s.dev with nvm := d.nvm }) ∧
      OnlyRegs { s.dev with nvm := d.nvm } d [Reg.nvmBadCnt, Reg.nvmStatus]) ∧
  (∀ (s : State) (r : EventRec) (l : List EventRec) (failed : List Nat), s.dev.cmpAlive = true → s.dev.nvm.staging = r :: l →
    s.dev.chk.dev ≠ .fatal → r.lensDone = true → (s.dev.retireBlks failed).flashLow = true →
    Completes (.eventFlashWrite failed) s fun d => d.nvm.staging = l ∧ d.nvm.flash = s.dev.nvm.flash ∧
      OnlyRegs { s.dev with nvm := d.nvm } d [Reg.nvmBadCnt, Reg.nvmStatus])

/-- Register writes fold into the signatures of the cores; checkpoints and stores that agree pass, a store into its target; those that
differ, or a checkpoint without a partner, leave their evidence, register CHK_LOCKSTEP and count a channel A failure, and a store that
differs stops all later ones (R249 to R252, R262).
What enters the core pair waits for the Mirror core, at most 32 values, 3 c-cycles and a trap until the main core's count (R248);
a word of the TCM of which one bit reads wrong is corrected and counted, another error is CHK_TCM_UE and leads to FATAL (R247).
A debugger that halts a core splits the pair, freezes the watchdog, withdraws channel A's drive and leads from RUN or DEGRADED to
SAFE; once both cores run, the watchdog counts on where it stopped (R255, R261). -/
def Obligations.PairIsCompared : Prop :=
  ((∀ (s : State) (m x : Checkpoint) (a b : Word), s.dev.comparing = true →
    a = foldWrites s.dev.core.sigM m.writes → b = foldWrites s.dev.core.sigX x.writes →
    Completes (.checkpoint ⟨[], m⟩ x) s fun d => d.fld Reg.chkCkptCnt 31 0 = satAdd 32 (s.dev.fld Reg.chkCkptCnt 31 0) 1 ∧
      d.core.sigM = a ∧ d.core.sigX = b ∧ d.core.pc = m.pc ∧ d.core.retired = s.dev.core.retired + 128 ∧
      (a = b → m.pc = x.pc → SameRegs s.dev d [Reg.chkCkptCnt] ∧ d.sansRegs = { s.dev with core := d.core }.sansRegs) ∧
      (a ≠ b → Mismatched s.dev d 1 (a ^^^ b) (m.pc ^^^ x.pc) (s.dev.core.retired + 128) m.pc) ∧
      (a = b → m.pc ≠ x.pc → Mismatched s.dev d 2 0 (m.pc ^^^ x.pc) (s.dev.core.retired + 128) m.pc)) ∧
  (∀ (s : State) (pc : Word), s.dev.comparing = true →
    Completes (.checkpointTimeout ⟨[], pc⟩) s fun d => ∃ lo hi, Mismatched s.dev d 4 lo hi (s.dev.core.retired + 128) pc) ∧
  (∀ (s : State) (l rest : List StoreEntry) (m x : StoreEntry) (pc : Word) (n : Nat), s.dev.comparing = true →
    (s.dev.core.stores ++ l).take 8 = m :: rest →
    Completes (.storeCompare ⟨[], l⟩ ⟨x, pc, n⟩) s fun d =>
      (m.addr = x.addr → m.data = x.data → m.mask = x.mask → d.core.stores = rest ∧ SameRegs s.dev d [] ∧
        d.sansRegs = { s.dev with core := d.core }.sansRegs ∧ (m.tcm = none → d.core = { s.dev.core with stores := rest, pc := pc }) ∧
        (∀ w i, m.tcm = some w → w < 0x20000 → i < 4 → tabGet 0 d.core.tcm (4 * w + i) =
          if m.mask.getLsbD i then BitVec.ofNat 8 (m.data.toNat / 256 ^ i) else tabGet 0 s.dev.core.tcm (4 * w + i))) ∧
      (m.addr ≠ x.addr ∨ m.data ≠ x.data → d.core.discard = true ∧
        Mismatched s.dev d 3 (m.addr ^^^ x.addr) (m.data ^^^ x.data) n pc) ∧
      (m.addr = x.addr → m.data = x.data → m.mask ≠ x.mask → d.core.discard = true ∧
        Mismatched s.dev d 3 (word (m.mask ^^^ x.mask).toNat) 0 n pc)) ∧
  (∀ (s : State) (x : StoreEntry) (pc : Word) (n : Nat), s.dev.comparing = true → s.dev.core.stores = [] →
    Completes (.storeCompare ⟨[], []⟩ ⟨x, pc, n⟩) s fun d => d = { s.dev with core := { s.dev.core with pc := pc } })) ∧
  ((∀ (s : State) (t : Nat) (i : CoreInput) (m x : Checkpoint), s.dev.comparing = true →
    Completes (.checkpoint ⟨[.capture t i], m⟩ x) s fun d =>
      d.core.delay = if s.dev.core.delay.length < 32 then s.dev.core.delay ++ [(t, i)] else s.dev.core.delay) ∧
  (∀ (s : State) (t t0 n : Nat) (i : CoreInput) (l : List (Nat × CoreInput)) (m x : Checkpoint), s.dev.comparing = true →
    s.dev.core.delay = (t0, i) :: l →
    Completes (.checkpoint ⟨[.deliver t n], m⟩ x) s fun d =>
      (t0 + 3 ≤ t → (∀ k, i = .trap k → k = n) → d.core.delay = l) ∧
      (t < t0 + 3 ∨ (∃ k, i = .trap k ∧ k ≠ n) → d.core.delay = s.dev.core.delay)) ∧
  (∀ (s : State) (t w : Nat) (e : BitVec 39) (m x : Checkpoint) (syn : Nat), s.dev.comparing = true →
    s.dev.core.delay.length < 32 → syn = checkBits cols32 (e.toNat % 2 ^ 32) ^^^ e.toNat / 2 ^ 32 →
    Completes (.checkpoint ⟨[.capture t (.tcm w e)], m⟩ x) s fun d =>
      (syn = 0 → d.reg Reg.chkTcmCeCnt = s.dev.reg Reg.chkTcmCeCnt) ∧
      (syn ≠ 0 → syn ∈ cols32 ++ [1, 2, 4, 8, 16, 32, 64] →
        d.fld Reg.chkTcmCeCnt 31 0 = satAdd 32 (s.dev.fld Reg.chkTcmCeCnt 31 0) 1) ∧
      (syn ≠ 0 → syn ∉ cols32 ++ [1, 2, 4, 8, 16, 32, 64] → d.chk.dev = .fatal ∧ d.chk.cause = 0x46 ∧
        d.pend Src.chkTcmUe = true ∧ d.outputsOpen))) ∧
  ((∀ (s : State) (c : Chan), s.dev.chk.power = true → s.dev.chk.dev ≠ .fatal → s.dev.core.held = false →
    Completes (.debugHalt c) s fun d => d.core.split = true ∧ d.core.haltA = (s.dev.core.haltA || decide (c = Chan.a)) ∧
      d.core.haltB = (s.dev.core.haltB || decide (c = Chan.b)) ∧ d.wdg.frozenAt.isSome = true ∧ d.pend Src.dbgSplit = true ∧
      d.sio.chA.req = false ∧ d.sio.outA.swA = false ∧ d.sio.outB.swA = false ∧
      d.chk.dev = (if s.dev.chk.dev.running then .safe else s.dev.chk.dev) ∧ d.mem = s.dev.mem ∧ d.eng = s.dev.eng) ∧
  (∀ (s : State) (c : Chan), Completes (.debugResume c) s fun d =>
      d.core = { s.dev.core with haltA := s.dev.core.haltA && decide (c = Chan.b), haltB := s.dev.core.haltB && decide (c = Chan.a) } ∧
      (∀ t, s.dev.wdg.frozenAt = some t → d.core.haltA = false → d.core.haltB = false →
        d.wdg = { s.dev.wdg with from_ := s.dev.wdg.from_ + (s.dev.q - t), frozenAt := none }) ∧
      (s.dev.wdg.frozenAt = none ∨ d.core.haltA = true ∨ d.core.haltB = true → d.wdg = s.dev.wdg) ∧
      d = { s.dev with core := d.core, wdg := d.wdg }))

/-- A channel A restart holds the pair in reset with its drive withdrawn, and a failing comparator test leads to FATAL; the pair is
released with fresh signatures and a fresh watchdog where its firmware's digest matches; SYNC completes CHK_RESTART (R253, R254). -/
def Obligations.ChannelARestarts : Prop :=
  (∀ s : State, s.dev.chk.power = true → s.dev.core.due = true → s.dev.chk.dev ≠ .fatal →
    Completes (.channelARestart none) s fun d =>
      d.core = { s.dev.core.cleared with
        due := false, held := true, haltA := false, haltB := false, testPassed := true, split := false } ∧
      d.bitAt Reg.chkCmpTest 31 = true ∧ d.bitAt Reg.chkCmpTest 30 = true ∧
      d.fld Reg.chkCmpTest 15 0 = satAdd 16 (s.dev.fld Reg.chkCmpTest 15 0) 1 ∧
      d.sio.chA.req = false ∧ d.sio.outA.swA = false ∧ d.sio.outB.swA = false ∧ SameRegs s.dev d [Reg.chkCmpTest] ∧
      d.sansRegs = { s.dev with core := d.core, sio := d.sio }.sansRegs) ∧
  (∀ (s : State) (t : Nat), s.dev.chk.power = true → s.dev.core.due = true → s.dev.chk.dev ≠ .fatal →
    Completes (.channelARestart (some t)) s fun d => d.chk.dev = .fatal ∧ d.chk.cause = 0x47 ∧ d.core.testPassed = false ∧
      d.bitAt Reg.chkCmpTest 30 = false ∧ d.fld Reg.chkCmpTest 22 16 = t % 128 ∧ d.outputsOpen) ∧
  (∀ (s : State) (vec : Word) (re : List Byte), s.dev.core.held = true → s.dev.core.due = false → s.dev.chk.power = true →
    s.dev.chk.dev ≠ .fatal → (s.dev.fwCheck re).2 = true →
    Completes (.corePairRelease vec re) s fun d => d.core = { (s.dev.fwCheck re).1.core.cleared with held := false, sync := false, pc := vec } ∧
      d.reg Reg.chkCkptCnt = 0 ∧ d.bitAt Reg.wdgCtrl 31 = false ∧
      (∀ k, k ∈ [Reg.wdgClosed, Reg.wdgOpen] → d.reg k = Reg.resetVal k) ∧
      (s.dev.boot.otp.wdgHwstart = true → d.wdg = Wdg.mk true true s.dev.q none true ∧ d.reg Reg.wdgQ = 1 ∧ d.reg Reg.wdgSeq = 0) ∧
      (s.dev.boot.otp.wdgHwstart = false → d.wdg.running = false ∧ d.bitAt Reg.wdgCtrl 0 = false) ∧
      SameRegs s.dev d [Reg.chkCkptCnt, Reg.wdgCtrl, Reg.wdgClosed, Reg.wdgOpen, Reg.wdgQ, Reg.wdgSeq, Reg.wdgStatus] ∧
      d.sansRegs = { s.dev with core := d.core, wdg := d.wdg }.sansRegs) ∧
  (∀ (s : State) (vec : Word) (re : List Byte), s.dev.core.held = true → s.dev.core.due = false → s.dev.chk.power = true →
    s.dev.chk.dev ≠ .fatal → (s.dev.fwCheck re).2 = false →
    Completes (.corePairRelease vec re) s fun d => d.chk.dev = .fatal ∧ d.pend Src.chkMem = true ∧ d.core.held = true) ∧
  (∀ s : State, s.dev.core.held = false → s.dev.chk.power = true → s.dev.chk.dev ≠ .fatal →
    Completes .firmwareInitComplete s fun d => d.core = { s.dev.core with sync := true } ∧
      (s.dev.core.testPassed = false ∨ s.dev.core.split = true → d = { s.dev with core := d.core }) ∧
      (s.dev.core.testPassed = true → s.dev.core.split = false →
        d.hif.running = s.dev.hif.running.filter (fun r => !decide (r.op = 6)) ∧
        (∀ tag a0, s.dev.hif.running = [RunReq.mk 6 tag a0] → Answered s.dev d 6 tag 0 0)))

/-- The watchdog (R257 to R260): the right answer in the open phase starts the next cycle with the next question; an answer in the
closed phase, a wrong one and a missing one are failures of their kinds; enabling and the phase lengths. The PC of a missed service is the one last shown (log 156).
The escalation ladder (R263): a channel A failure leads to FATAL once the tries are used up, to a warm reset where one before it
has not been followed by RUN or lies within the timer, and else to a channel A restart; the timer and EXP_CNT.CLEAR. -/
def Obligations.WatchdogAndLadder : Prop :=
  ((∀ (s : State) (tok pc : Word), s.dev.chanA = true → s.dev.wdg.running = true → s.dev.wdg.frozenAt = none →
    Completes (.wdgService ⟨tok, pc⟩) s fun d =>
      (s.dev.wdgBounds.1 ≤ s.dev.wdgNow → s.dev.wdgNow < s.dev.wdgBounds.2 →
        tok.toNat = wdgToken (s.dev.fld Reg.wdgSeq 15 0) (s.dev.fld Reg.wdgQ 7 0) →
        d.wdg = Wdg.mk true false s.dev.q none false ∧ d.reg Reg.wdgQ = word (wdgNextQ (s.dev.fld Reg.wdgQ 7 0)) ∧
        d.reg Reg.wdgSeq = word ((s.dev.fld Reg.wdgSeq 15 0 + 1) % 65536) ∧ d.reg Reg.wdgEvidSeq = d.reg Reg.wdgSeq ∧
        d.reg Reg.wdgEvidNs = word s.dev.ctime.ns ∧ d.reg Reg.wdgEvidSec = word s.dev.ctime.sec ∧ d.bitAt Reg.wdgCtrl 31 = true ∧
        SameRegs s.dev d [Reg.wdgQ, Reg.wdgSeq, Reg.wdgEvidSeq, Reg.wdgEvidNs, Reg.wdgEvidSec, Reg.wdgCtrl] ∧
        d.sansRegs = { s.dev with wdg := d.wdg, core := { s.dev.core with pc := pc } }.sansRegs) ∧
      (s.dev.wdgNow < s.dev.wdgBounds.1 → WdgFailed s.dev 2 pc d) ∧
      (s.dev.wdgBounds.1 ≤ s.dev.wdgNow → s.dev.wdgBounds.2 ≤ s.dev.wdgNow → WdgFailed s.dev 1 pc d) ∧
      (s.dev.wdgBounds.1 ≤ s.dev.wdgNow → s.dev.wdgNow < s.dev.wdgBounds.2 →
        tok.toNat ≠ wdgToken (s.dev.fld Reg.wdgSeq 15 0) (s.dev.fld Reg.wdgQ 7 0) → WdgFailed s.dev 3 pc d)) ∧
  (∀ s : State, s.dev.wdgCounts = true → s.dev.wdg.openPhase = false → s.dev.wdgBounds.1 ≤ s.dev.wdgNow →
    Completes .wdgPhaseOpen s fun d => d = { s.dev with wdg := { s.dev.wdg with openPhase := true } }) ∧
  (∀ s : State, s.dev.wdgCounts = true → s.dev.wdgBounds.2 ≤ s.dev.wdgNow →
    Completes .wdgMissed s (WdgFailed s.dev 1 s.dev.core.pc)) ∧
  (∀ s : State, s.dev.chanA = true → s.dev.boot.otp.wdgHwstart = false → s.dev.wdg.running = false →
    Completes .wdgEnable s fun d => d.wdg = Wdg.mk true false s.dev.q none false ∧ d.reg Reg.wdgQ = 1 ∧ d.reg Reg.wdgSeq = 0 ∧
      d.bitAt Reg.wdgCtrl 31 = true ∧ d.bitAt Reg.wdgCtrl 0 = true ∧ SameRegs s.dev d [Reg.wdgQ, Reg.wdgSeq, Reg.wdgCtrl] ∧
      d.sansRegs = { s.dev with wdg := d.wdg }.sansRegs) ∧
  (∀ (s : State) (o : Bool) (v : Word), s.dev.chanA = true →
    Completes (.wdgPhaseConfig o v) s fun d =>
      (s.dev.bitAt Reg.wdgCtrl 31 = true → d = s.dev) ∧
      (s.dev.bitAt Reg.wdgCtrl 31 = false → bits v 23 0 < 100 ∨ 1000000 < bits v 23 0 →
        d.bitAt Reg.wdgStatus 0 = true ∧ OnlyRegs s.dev d [Reg.wdgStatus]) ∧
      (s.dev.bitAt Reg.wdgCtrl 31 = false → 100 ≤ bits v 23 0 → bits v 23 0 ≤ 1000000 →
        d.reg (if o then Reg.wdgOpen else Reg.wdgClosed) = word (bits v 23 0) ∧
        OnlyRegs s.dev d [if o then Reg.wdgOpen else Reg.wdgClosed]))) ∧
  ((∀ s : State, s.dev.wdgCounts = true → s.dev.wdgBounds.2 ≤ s.dev.wdgNow →
    Completes .wdgMissed s fun d =>
      (s.dev.maxTries ≤ min (s.dev.ladder.expCnt + 1) 7 → d.chk.dev = .fatal ∧ d.chk.cause = 0x4A ∧
        d.reg Reg.fltFatal = word (2 ^ 31 + 0x4A * 2 ^ 16 + 0x18A) ∧ d.outputsOpen) ∧
      (min (s.dev.ladder.expCnt + 1) 7 < s.dev.maxTries → 1 ≤ s.dev.ladder.expCnt →
        s.dev.ladder.runSince = false ∨ s.dev.ladder.timerAt.isSome = true → s.dev.chk.warm = none →
        d.chk.warm = some 0x4A ∧ d.outputsOpen ∧ d.chk.dev = s.dev.chk.dev) ∧
      (min (s.dev.ladder.expCnt + 1) 7 < s.dev.maxTries →
        s.dev.ladder.expCnt = 0 ∨ (s.dev.ladder.runSince = true ∧ s.dev.ladder.timerAt = none) →
        d.core.due = true ∧ d.core.held = true ∧ d.fld Reg.chkCore 19 16 = 1 ∧ d.sio.chA.req = false ∧
        d.chk.dev = (if s.dev.chk.dev.running then .safe else s.dev.chk.dev))) ∧
  (∀ s : State, s.dev.chk.power = true →
    Completes .ladderTimerExpiry s fun d => d = { s.dev with ladder := { s.dev.ladder with timerAt := none } }) ∧
  (∀ s : State, s.dev.chk.power = true → s.dev.ladder.runFrom.isSome = true →
    Completes .expCntClear s fun d => d = { s.dev with ladder := { s.dev.ladder with expCnt := 0 } }))

/-- Channel A changes the mode of a context or sets MODE_REJ; a snapshot latches the registers of a context for its reader, zeros for
one that is not enabled; it shows what stood before a judgement of its c-cycle (R280, R282, R283). -/
def Obligations.ContextModesAndSnapshots : Prop :=
  (∀ (s : State) (v : Word), s.dev.chanA = true →
    Completes (.cvuModeWrite v) s fun d =>
      (s.dev.modeState = true → s.dev.modeOk (s.dev.fld (Reg.cvuSel 0) 15 0) (bit v 24) = true →
        d.ctxAt (s.dev.fld (Reg.cvuSel 0) 15 0) = (s.dev.ctxAt (s.dev.fld (Reg.cvuSel 0) 15 0)).enter s.dev.q (bit v 24) ∧
        (∀ c, c ≠ s.dev.fld (Reg.cvuSel 0) 15 0 → d.ctxAt c = s.dev.ctxAt c) ∧ d.bitAt (Reg.cvuCfg 0) 24 = bit v 24 ∧
        SameRegs s.dev d [Reg.cvuCfg 0] ∧ d.sansRegs = { s.dev with cvu := d.cvu }.sansRegs) ∧
      (s.dev.modeState = false ∨ s.dev.modeOk (s.dev.fld (Reg.cvuSel 0) 15 0) (bit v 24) = false →
        d.bitAt Reg.cvuStatus 3 = true ∧ OnlyRegs s.dev d [Reg.cvuStatus])) ∧
  (∀ (s : State) (x : Master × Nat) (v : Word), x ∈ [(Master.channelA, 0), (.host, 1)] → s.dev.hostUp = true → s.dev.chanA = true →
    Completes (.cvuSnapshot x.1 v) s fun d => d.fld (Reg.cvuSel x.2) 15 0 = bits v 15 0 ∧
      ((s.dev.ctxShown (bits v 15 0)).en = true → d.bitAt (Reg.cvuCfg x.2) 31 = true ∧
        d.reg (Reg.cvuPass x.2) = word (s.dev.ctxShown (bits v 15 0)).pass ∧
        d.reg (Reg.cvuSeed x.2) = (s.dev.ctxShown (bits v 15 0)).seed ∧ d.reg (Reg.cvuSeq x.2) = (s.dev.ctxShown (bits v 15 0)).lastSeq) ∧
      ((s.dev.ctxShown (bits v 15 0)).en = false → d.reg (Reg.cvuCfg x.2) = 0 ∧ d.reg (Reg.cvuState x.2) = 0 ∧
        d.reg (Reg.cvuPass x.2) = 0 ∧ d.reg (Reg.cvuCnt0 x.2) = 0 ∧ d.reg (Reg.cvuCnt1 x.2) = 0 ∧ d.reg (Reg.cvuSeed x.2) = 0) ∧
      OnlyRegs s.dev d [Reg.cvuSel x.2, Reg.cvuCfg x.2, Reg.cvuState x.2, Reg.cvuSeq x.2, Reg.cvuSeed x.2, Reg.cvuPass x.2,
        Reg.cvuCnt0 x.2, Reg.cvuCnt1 x.2])

/-- A counter select clears its counter and, at a wrap in the same a-cycle, marks it lost, and PRF_STATUS.OVF
is cleared where its overflow alone is pending; an undefined event is ignored; a counter at
its largest value that counts once more reads 0 with OVF (R360, R361).
A snapshot is latched, joins the one latched in the same a-cycle, or is refused while another is written; written, it is in the
page and, with the ring enabled and valid, in memory, PRF_SEQ counts it and a late tick's snapshot is latched (R366, R367, R369). -/
def Obligations.CountersAndSnapshots : Prop :=
  ((∀ (s : State) (u i : Nat) (v : Word) (w : Bool), s.dev.cmpAlive = true → u < 202 → i < 8 → (u < 168 → i < 4) →
    Completes (.prfSelWrite u i v w) s fun d =>
      (evDefined u (bits v 9 0) = true → d.fld (Reg.prfSel u i) 9 0 = bits v 9 0 ∧ d.cntAt u i = { PrfCnt.zero with lost := w, selAt := s.dev.q / aQ + 1 } ∧
        (∀ u' i', i' < 8 → (u', i') ≠ (u, i) → d.cntAt u' i' = s.dev.cntAt u' i') ∧ (w = true → d.bitAt Reg.prfStatus 2 = true) ∧
        ((s.dev.cntAt u i).irq = true → s.dev.otherIrq u i = false → d.bitAt Reg.prfStatus 1 = false) ∧
        SameRegs s.dev d [Reg.prfSel u i] ∧ d.sansRegs = s.dev.sansRegs) ∧
      (evDefined u (bits v 9 0) = false → d = s.dev)) ∧
  (∀ (s : State) (u i : Nat), u < 202 → i < 8 → s.dev.unitOn u = true → (s.dev.cntAt u i).val = 0xFFFFFFFFFFFF →
    (s.dev.cntAt u i).selAt ≠ s.dev.q / aQ + 1 →
    Completes (.counterWrap u i) s fun d => (d.cntAt u i).val = 0 ∧ (d.cntAt u i).ovf = true ∧
      (d.cntAt u i).lost = (s.dev.cntAt u i).lost ∧ (d.cntAt u i).irq = true ∧
      (∀ u' i', i' < 8 → (u', i') ≠ (u, i) →
        { d.cntAt u' i' with irq := false } = { s.dev.cntAt u' i' with irq := false }) ∧
      d.bitAt Reg.prfStatus 1 = true ∧ OnlyRegs s.dev d [])) ∧
  ((∀ s : State, s.dev.cmpAlive = true →
    Completes .snapshotRequest s fun d =>
      (s.dev.prf.busy = none → d = { s.dev with prf := { s.dev.prf with
        busy := some (s.dev.q, s.dev.snapBytes 2 0), latching := true, done := [], drop := 0 } }) ∧
      (∀ t b, s.dev.prf.busy = some (t, b) → t / aQ = s.dev.q / aQ →
        d = { s.dev with prf := { s.dev.prf with busy := some (t, patch b 4 (toLe 1 (leAt b 4 1 ||| 2))) } }) ∧
      (∀ t b, s.dev.prf.busy = some (t, b) → t / aQ ≠ s.dev.q / aQ →
        d.bitAt Reg.prfStatus 4 = true ∧ d.prf = s.dev.prf ∧ OnlyRegs s.dev d [])) ∧
  (∀ (s : State) (t : Nat) (b : List Byte), s.dev.prf.busy = some (t, b) →
    Completes .snapshotWriteComplete s fun d => d.prf.page = b ∧ d.reg Reg.prfSeq = s.dev.reg Reg.prfSeq + 1 ∧
      d.bitAt Reg.prfStatus 0 = true ∧ (s.dev.prf.tickLate = none → d.prf.busy = none) ∧
      (s.dev.prf.tickLate.isSome = true → d.prf.tickLate = none ∧ d.prf.busy.isSome = true ∧ d.prf.done = []) ∧
      (s.dev.bitAt Reg.prfRingHi 31 = false → OnlyRegs s.dev d [Reg.prfSeq]) ∧
      (s.dev.bitAt Reg.prfRingHi 31 = true → s.dev.ringOk = false →
        d.bitAt Reg.prfStatus 5 = true ∧ OnlyRegs s.dev d [Reg.prfSeq]) ∧
      (s.dev.bitAt Reg.prfRingHi 31 = true → s.dev.ringOk = true →
        d.mem = (s.dev.writeMem (s.dev.fld Reg.prfRingHi 15 0 * 2 ^ 32 + (s.dev.reg Reg.prfRingLo).toNat +
          0x4000 * ((s.dev.reg Reg.prfSeq + 1).toNat % 2 ^ s.dev.fld Reg.prfRingHi 19 16)) b false).mem ∧
        d.sansMem = s.dev.sansMem)))

/-- Register writes (R9, R10, R344, R345): a writable field takes the value, a write-one-to-clear bit is cleared by a 1 unless the device
set it in the same cycle, LOCK is set and never cleared and keeps what it locks, a write of another size sets SIZE_ERR, one to a
read-only checker register CHK_WR.
The configuration space of the PCI Express function (R340 to R342, R356; its layout: log 126): Bus Master Enable, D3hot and the size
of BAR2 are taken, bit 15 of Device Control is Function Level Reset, and a read returns the register. Reads of registers return what the
register shows; one of more than 8 bytes ends with Unsupported Request and HIF_STATUS.UNSUP (R344). -/
def Obligations.RegisterWrites : Prop :=
  ((∀ (s : State) (k : Nat) (bs : List Byte), k ∈ [Reg.timStepLo, Reg.timStepHi, Reg.nvmOfs, Reg.nvmLen] → bs.length = 4 →
    s.dev.hostUp = true → s.dev.keptBits k = 0 →
    Completes (.registerWrite .host .bar0 k bs) s fun d => d.reg k = wordAt bs 0 ∧ OnlyRegs s.dev d [k]) ∧
  (∀ (s : State) (x : Nat × Word) (bs : List Byte),
    x ∈ [(Reg.tckIntEn, 0x7FF), (Reg.memIntEn, 0xFF), (Reg.dskIntEn, 0xFF), (Reg.lnsIntEn, 0x1F), (Reg.ethIntEn, 0xF),
      (Reg.timIntEn, 0xFF), (Reg.prfIntEn, 0x7F), (Reg.nvmIntEn, 0x7F), (Reg.hifIntEn, 0x3F)] → bs.length = 4 →
    s.dev.hostUp = true → s.dev.keptBits x.1 = 0 →
    Completes (.registerWrite .host .bar0 x.1 bs) s fun d => d.reg x.1 &&& x.2 = wordAt bs 0 &&& x.2 ∧
      d.reg x.1 &&& ~~~x.2 = s.dev.reg x.1 &&& ~~~x.2 ∧ OnlyRegs s.dev d [x.1]) ∧
  (∀ (s : State) (x : Nat × Word) (bs : List Byte),
    x ∈ [(Reg.tckStatus, 0x7FE), (Reg.memStatus, 0xDF), (Reg.dskStatus, 0xFF), (Reg.lnsStatus, 0x1F), (Reg.ethStatus, 0xF),
      (Reg.timStatus, 0xFE), (Reg.nvmStatus, 0x7F), (Reg.hifStatus, 0x3F)] → bs.length = 4 → s.dev.hostUp = true →
    Completes (.registerWrite .host .bar0 x.1 bs) s fun d =>
      d.reg x.1 &&& x.2 = s.dev.reg x.1 &&& (~~~(wordAt bs 0) ||| s.dev.keptBits x.1) &&& x.2 ∧
      d.reg x.1 &&& ~~~x.2 = s.dev.reg x.1 &&& ~~~x.2 ∧ OnlyRegs s.dev d [x.1]) ∧
  (∀ (s : State) (k : Nat) (bs : List Byte), k ∈ [Reg.lnsCtrl, Reg.ethCtrl, Reg.nvmCtrl, Reg.dskCfg] → bs.length = 4 →
    s.dev.hostUp = true →
    Completes (.registerWrite .host .bar0 k bs) s fun d => d.bitAt k 31 = (s.dev.bitAt k 31 || bit (wordAt bs 0) 31) ∧
      (s.dev.bitAt k 31 = true → d.reg k = s.dev.reg k) ∧ OnlyRegs s.dev d [k]) ∧
  (∀ (s : State) (bs : List Byte), bs.length = 4 → s.dev.hostUp = true → s.dev.keptBits Reg.timStepMax = 0 →
    Completes (.registerWrite .host .bar0 Reg.timStepMax bs) s fun d =>
      d.reg Reg.timStepMax = (if s.dev.bitAt Reg.timCtrl 31 then s.dev.reg Reg.timStepMax else wordAt bs 0) ∧
      OnlyRegs s.dev d [Reg.timStepMax]) ∧
  (∀ (s : State) (sp : Space) (k : Nat) (bs : List Byte), sp = .bar0 ∨ sp = .bar4 → s.dev.hostUp = true →
    inBar (decide (sp = .bar4)) k bs.length = true → bs.length ≤ 8 → k % 4 ≠ 0 ∨ (bs.length ≠ 4 ∧ bs.length ≠ 8) →
    Completes (.registerWrite .host sp k bs) s fun d => d.bitAt Reg.hifStatus 1 = true ∧
      (meetsChk (decide (sp = .bar4)) k bs.length = true → d.bitAt Reg.hifStatus 2 = true) ∧ OnlyRegs s.dev d [Reg.hifStatus]) ∧
  (∀ (s : State) (k : Nat) (bs : List Byte), bs.length = 4 → s.dev.hostUp = true → k % 4 = 0 → chkBase ≤ k →
    k < chkBase + 0x100000 →
    Completes (.registerWrite .host .bar0 k bs) s fun d => d.bitAt Reg.hifStatus 2 = true ∧ OnlyRegs s.dev d [Reg.hifStatus]) ∧
  (∀ (s : State) (i : Nat) (bs : List Byte), i < 4 → bs.length = 4 → s.dev.hostUp = true →
    Completes (.registerWrite .host .bar4 (Reg.hifReqArg i - chkBase) bs) s fun d => d.reg (Reg.hifReqArg i) = wordAt bs 0 ∧
      OnlyRegs s.dev d [Reg.hifReqArg i]) ∧
  (∀ (s : State) (i : Nat) (bs : List Byte), i < 16 → bs.length = 4 → s.dev.chanA = true →
    Completes (.registerWrite .channelA .bar4 (Reg.fltPend i - chkBase) bs) s fun d =>
      d.reg (Reg.fltPend i) = s.dev.reg (Reg.fltPend i) &&& (~~~(wordAt bs 0) ||| s.dev.keptBits (Reg.fltPend i)) ∧
      OnlyRegs s.dev d [Reg.fltPend i])) ∧
  ((∀ (s : State) (bs : List Byte), bs.length = 4 → s.dev.linkOk = true →
    Completes (.registerWrite .host .config Cfg.command bs) s fun d => d.hif.bme = bit (wordAt bs 0) 2 ∧
      d.hif.bar2Log = s.dev.hif.bar2Log ∧ d.hif.d3 = s.dev.hif.d3 ∧ SameRegs s.dev d [0x4808, 0x480C] ∧
      d.sansRegs = { s.dev with hif := d.hif }.sansRegs) ∧
  (∀ (s : State) (bs : List Byte), bs.length = 4 → s.dev.linkOk = true →
    Completes (.registerWrite .host .config Cfg.pmcsr bs) s fun d =>
      (bits (wordAt bs 0) 1 0 = 3 → d.hif.d3 = true) ∧ (bits (wordAt bs 0) 1 0 = 0 → d.hif.d3 = false) ∧
      (bits (wordAt bs 0) 1 0 ≠ 0 → bits (wordAt bs 0) 1 0 ≠ 3 → d = s.dev) ∧ d.hif.bme = s.dev.hif.bme) ∧
  (∀ (s : State) (bs : List Byte), bs.length = 4 → s.dev.linkOk = true → 10 ≤ bits (wordAt bs 0) 13 8 →
    bits (wordAt bs 0) 13 8 ≤ 15 →
    Completes (.registerWrite .host .config Cfg.rebar bs) s fun d => d.hif.bar2Log = 20 + bits (wordAt bs 0) 13 8) ∧
  (∀ (s : State) (bs : List Byte), bs.length = 4 → s.dev.linkOk = true → bit (wordAt bs 0) 15 = true →
    Completes (.registerWrite .host .config Cfg.devCtl bs) s (PcieResetOnly s.dev)) ∧
  (∀ (s : State) (o : Nat), o % 4 = 0 → o < 4096 → s.dev.linkOk = true →
    Completes (.hostMemoryRead ⟨.config, o⟩ 4) s fun d =>
      d = { s.dev with hif := { s.dev.hif with rsp := ⟨toLe 4 (s.dev.hif.cfgView o).toNat, false, false⟩ } }) ∧
  (∀ (s : State) (k : Nat), k % 4 = 0 → k < chkBase → s.dev.hostUp = true → k ≠ Reg.timNs →
    isIdx k (Reg.timCapNs 0) 16 32 = false →
    Completes (.hostMemoryRead ⟨.bar0, k⟩ 4) s fun d =>
      d = { s.dev with hif := { s.dev.hif with rsp := ⟨toLe 4 (s.dev.view k).toNat, false, false⟩ } }) ∧
  (∀ (s : State) (sp : Space) (k n : Nat), sp = .bar0 ∨ sp = .bar4 → inBar (decide (sp = .bar4)) k n = true → s.dev.hostUp = true →
    8 < n →
    Completes (.hostMemoryRead ⟨sp, k⟩ n) s fun d => d.hif.rsp = ⟨[], false, true⟩ ∧ d.bitAt Reg.hifStatus 0 = true ∧
      SameRegs s.dev d [Reg.hifStatus]))

/-- Reads that latch (R210, R217, R222) and the timestamp queues (R216): a read returns the nanoseconds and latches the seconds of the
same instant; a pop moves the oldest timestamp into its registers, or clears VALID on an empty queue.
Capture channels take the time and count (R217); a trigger pulse starts where its output is on and due, is withheld with
TRG_CFG where its registers are out of range, and ends (R218, R219). -/
def Obligations.TimeReadsCapturesTriggers : Prop :=
  ((∀ s : State, s.dev.hostUp = true →
    Completes .timNsRead s fun d => d.hif.rsp.data = toLe 4 s.dev.tim.ns ∧ d.reg Reg.timSecLo = word s.dev.tim.sec ∧
      d.reg Reg.timSecHi = word (natBits s.dev.tim.sec 47 32) ∧ SameRegs s.dev d [Reg.timSecLo, Reg.timSecHi] ∧
      d = { s.dev with regs := d.regs, hif := d.hif }) ∧
  (∀ (s : State) (n : Nat), s.dev.hostUp = true → n < 32 →
    Completes (.timCapNsRead n) s fun d => d.hif.rsp.data = toLe 4 (s.dev.capAt n).ns ∧
      d.reg (Reg.timCapSec n) = word (s.dev.capAt n).sec ∧ d.reg (Reg.timCapCnt n) = (s.dev.capAt n).count ∧
      SameRegs s.dev d [Reg.timCapSec n, Reg.timCapCnt n] ∧ d = { s.dev with regs := d.regs, hif := d.hif }) ∧
  (∀ s : State, s.dev.chk.power = true →
    Completes .chkTimeNsRead s fun d => d.hif.rsp.data = toLe 4 s.dev.ctime.ns ∧ d.reg Reg.chkTimeSec = word s.dev.ctime.sec ∧
      SameRegs s.dev d [Reg.chkTimeSec] ∧ d = { s.dev with regs := d.regs, hif := d.hif }) ∧
  (∀ (s : State) (m : Nat) (t : TxStamp) (l : List TxStamp), s.dev.hostUp = true → m < 2 → tabGet [] s.dev.eth.tsq m = t :: l →
    Completes (.ethTsqPop m) s fun d => tabGet [] d.eth.tsq m = l ∧ d.bitAt (Reg.ethTsqId m) 31 = true ∧
      d.fld (Reg.ethTsqId m) 15 0 = t.id % 65536 ∧ d.reg (Reg.ethTsqId m + 4) = word t.ns ∧ d.reg (Reg.ethTsqId m + 8) = word t.sec ∧
      SameRegs s.dev d [Reg.ethTsqId m, Reg.ethTsqId m + 4, Reg.ethTsqId m + 8] ∧ d = { s.dev with regs := d.regs, eth := d.eth }) ∧
  (∀ (s : State) (m : Nat), s.dev.hostUp = true → m < 2 → tabGet [] s.dev.eth.tsq m = [] →
    Completes (.ethTsqPop m) s fun d => d.bitAt (Reg.ethTsqId m) 31 = false ∧ tabGet [] d.eth.tsq m = [] ∧
      SameRegs s.dev d [Reg.ethTsqId m]) ∧
  (∀ (s : State) (n : Nat) (t : TxStamp) (l : List TxStamp), s.dev.chk.power = true → n < 2 → tabGet [] s.dev.rng.tsq n = t :: l →
    Completes (.chkRngTsqPop n) s fun d => tabGet [] d.rng.tsq n = l ∧ d.bitAt (Reg.chkRngTsqId n) 31 = true ∧
      d.fld (Reg.chkRngTsqId n) 15 0 = t.id % 65536 ∧ d.reg (Reg.chkRngTsqId n + 4) = word t.ns ∧
      d = { s.dev with regs := d.regs, rng := d.rng }) ∧
  (∀ (s : State) (n : Nat), s.dev.chk.power = true → n < 2 → tabGet [] s.dev.rng.tsq n = [] →
    Completes (.chkRngTsqPop n) s fun d => d.bitAt (Reg.chkRngTsqId n) 31 = false ∧ SameRegs s.dev d [Reg.chkRngTsqId n])) ∧
  ((∀ (s : State) (n : Nat), s.dev.cmpAlive = true → n < 32 →
    Completes (.captureEvent n) s fun d =>
      d.capAt n = Capture.mk s.dev.tim.ns s.dev.tim.sec ((s.dev.capAt n).count + 1) ∧
      (∀ m, m ≠ n → d.capAt m = s.dev.capAt m) ∧ d = { s.dev with tim := { s.dev.tim with cap := d.tim.cap } }) ∧
  (∀ (s : State) (n : Nat), s.dev.cmpAlive = true → n < 16 →
    Completes (.triggerPulseStart n) s fun d =>
      (s.dev.trgOn n = false ∨ (s.dev.trgTick n = true ∧ (s.dev.trgAt n).pending = false) ∨
        (s.dev.trgValid n = true ∧ s.dev.trgDue n = false) → d = s.dev) ∧
      (s.dev.trgOn n = true → s.dev.trgDue n = true → s.dev.trgValid n = true →
        d.trgAt n = Trigger.mk (some s.dev.q) false ∧ (∀ m, m ≠ n → d.trgAt m = s.dev.trgAt m) ∧
        d = { s.dev with tim := { s.dev.tim with trg := d.tim.trg } }) ∧
      (s.dev.trgOn n = true → s.dev.trgTick n = false ∨ (s.dev.trgAt n).pending = true → s.dev.trgValid n = false →
        d.trgAt n = { s.dev.trgAt n with pending := false } ∧ d.bitAt Reg.timStatus 7 = true ∧
        SameRegs s.dev d [Reg.timStatus] ∧ d.sansRegs = { s.dev with tim := { s.dev.tim with trg := d.tim.trg } }.sansRegs)) ∧
  (∀ (s : State) (n : Nat), s.dev.cmpAlive = true → n < 16 →
    Completes (.triggerPulseEnd n) s fun d => d.trgAt n = { s.dev.trgAt n with since := none } ∧
      (∀ m, m ≠ n → d.trgAt m = s.dev.trgAt m) ∧ d = { s.dev with tim := { s.dev.tim with trg := d.tim.trg } }))

/-- Rate, steps and grants (R209, R211 to R213): only the time master sets them; a rate out of range and a step beyond the limit
without a grant are refused; a step moves the time and the tick schedule alike, and uses up its grant.
The checker's time copy (R220, R221): the first message starts it, a small difference changes its rate, one within the limit
steps it, one beyond it is refused, and the third refusal in a row or 30 ms without a message lets it run free with TIME_COPY. The unit of the rate is the model's (log 23); the link delay is open (log 11). -/
def Obligations.TimeStepsAndCopy : Prop :=
  ((∀ (s : State) (v : Word), s.dev.hostUp = true →
    Completes (.timIncrWrite v) s fun d =>
      (s.dev.isMaster = false → d.bitAt Reg.timStatus 5 = true ∧ OnlyRegs s.dev d [Reg.timStatus]) ∧
      (s.dev.isMaster = true → 0x01FF7CEE ≤ v.toNat → v.toNat ≤ 0x02008312 →
        d.reg Reg.timIncr = v ∧ OnlyRegs s.dev d [Reg.timIncr]) ∧
      (s.dev.isMaster = true → v.toNat < 0x01FF7CEE ∨ 0x02008312 < v.toNat →
        d.bitAt Reg.timStatus 4 = true ∧ OnlyRegs s.dev d [Reg.timStatus])) ∧
  (∀ (s : State) (o : Int), s.dev.hostUp = true →
    o = sext 64 ((s.dev.reg Reg.timStepHi).toNat * 2 ^ 32 + (s.dev.reg Reg.timStepLo).toNat) →
    Completes .stepGo s fun d =>
      (s.dev.isMaster = false → d.bitAt Reg.timStatus 5 = true ∧ OnlyRegs s.dev d [Reg.timStatus]) ∧
      (s.dev.isMaster = true → s.dev.tim.grantAt = none → (s.dev.reg Reg.timStepMax).toNat < o.natAbs →
        d.bitAt Reg.timStatus 3 = true ∧ d.fld Reg.timStepRejCnt 31 0 = satAdd 32 (s.dev.fld Reg.timStepRejCnt 31 0) 1 ∧
        (d.pairAt Src.timStepRefused).level = 1 ∧ d.tim = s.dev.tim ∧ d.tck = s.dev.tck ∧ d.apt = s.dev.apt) ∧
      (s.dev.isMaster = true → (s.dev.timNs : Int) + o < 0 →
        d.bitAt Reg.timStatus 3 = true ∧ d.tim = s.dev.tim ∧ d.tck = s.dev.tck) ∧
      (s.dev.isMaster = true → 0 ≤ (s.dev.timNs : Int) + o → s.dev.tim.grantAt = none →
        o.natAbs ≤ (s.dev.reg Reg.timStepMax).toNat →
        (d.timNs : Int) = s.dev.timNs + o ∧ d.tim.ns < 1000000000 ∧ d.tim.tickNs = moveNs s.dev.tim.tickNs o ∧
        d.bitAt Reg.timStatus 2 = true ∧
        d.tck = { s.dev.tck with expected := moveNs s.dev.tck.expected o, phaseRef := moveNs s.dev.tck.phaseRef o } ∧
        SameRegs s.dev d [Reg.timStatus] ∧ d.sansRegs = { s.dev with tim := d.tim, tck := d.tck }.sansRegs) ∧
      (s.dev.isMaster = true → 0 ≤ (s.dev.timNs : Int) + o → s.dev.tim.grantAt.isSome = true →
        (d.timNs : Int) = s.dev.timNs + o ∧ d.tim.grantAt = none ∧ d.tck.grantedStep = true ∧ Caused s.dev d 13 ∧
        d.bitAt Reg.timStatus 1 = true ∧ d.bitAt Reg.timStatus 2 = true ∧ SameRegs s.dev d [Reg.timStatus])) ∧
  (∀ s : State, s.dev.chk.power = true →
    Completes .timeGrantLapse s fun d => d = { s.dev with
      tim := { s.dev.tim with grantAt := none }, ctime := { s.dev.ctime with grant := false } })) ∧
  ((∀ (s : State) (sec ns c : Nat) (th : Int), s.dev.cmpAlive = true → ns < secNs → c = sec * secNs + ns → s.dev.tim.msg = some c →
    th = (c : Int) + Config.linkDelayNs - s.dev.chkNs →
    Completes (.timeMessage sec ns) s fun d => d.tim = { s.dev.tim with msg := none } ∧
      d.reg Reg.chkTimeOfs = BitVec.ofInt 32 (clampI (-2147483648) 2147483647 th) ∧
      (s.dev.ctime.st = .notStarted → d.chkNs = c + Config.linkDelayNs ∧ d.ctime.st = .disciplined ∧
        d.ctime.refused = 0) ∧
      (s.dev.ctime.st = .disciplined → th.natAbs ≤ 100 → 998900 ≤ (s.dev.ctime.inc : Int) + th →
        (s.dev.ctime.inc : Int) + th ≤ 1001100 →
        (d.ctime.inc : Int) = s.dev.ctime.inc + th ∧ d.ctime.st = .disciplined ∧ d.ctime.refused = 0 ∧ d.chkNs = s.dev.chkNs ∧
        SameRegs s.dev d [Reg.chkTimeOfs] ∧ d.sansRegs = { s.dev with ctime := d.ctime, tim := d.tim }.sansRegs) ∧
      (s.dev.ctime.st = .disciplined → 100 < th.natAbs → th.natAbs ≤ s.dev.boot.img.device.timStepMax.toNat →
        d.chkNs = c + Config.linkDelayNs ∧ d.ctime.st = .disciplined ∧
        d.tck.copySteps = s.dev.tck.copySteps + th) ∧
      (s.dev.ctime.st = .disciplined → 100 < th.natAbs → s.dev.boot.img.device.timStepMax.toNat < th.natAbs →
        s.dev.ctime.grant = false →
        d.chkNs = s.dev.chkNs ∧ d.ctime.refused = s.dev.ctime.refused + 1 ∧
        d.fld Reg.chkTimeRejCnt 31 0 = satAdd 32 (s.dev.fld Reg.chkTimeRejCnt 31 0) 1 ∧
        (2 ≤ s.dev.ctime.refused → d.ctime.st = .freeRun ∧ d.pend Src.timeCopy = true) ∧
        (s.dev.ctime.refused < 2 → d.ctime.st = .disciplined))) ∧
  (∀ (s : State) (sec ns : Nat), s.dev.tim.msg ≠ some (sec * secNs + ns) → Completes (.timeMessage sec ns) s fun d => d = s.dev) ∧
  (∀ s : State, s.dev.chk.power = true → s.dev.ctime.st = .disciplined →
    Completes .timeCopyTimeout s fun d => d.ctime = { s.dev.ctime with st := .freeRun } ∧ d.pend Src.timeCopy = true))

/-- An MM or MMC that stands alone at the head of its engine enters the pipeline (R67, R68): its weights load into the shadow register
unless it reuses the active ones, and its header WAIT counts down or blocks the engine. AGD stores its descriptor (R136); ABFT_INJ is
armed in STARTUP_TEST and MAINT and refused elsewhere.
The oldest command whose stream has not started starts it once its WAIT is satisfied: the weight registers exchange roles unless
it reuses the active ones, a row per row of activations is formed, and the stream starts at the time of R67, or now where its feeders were
empty then (R64, R67). -/
def Obligations.MatrixCommandsStart : Prop :=
  ((∀ (s : State) (e : Nat) (h : FCmd) (w : CmdWord), isMe e = true → w = stepWord h.word (s.dev.engAt e).loops →
    hdrCauses h.word ++ mmCauses e h.word s.dev w = [] →
    (s.dev.solo e 0x10 h → Completes (.mm e) s (MatrixStarted s.dev e h w)) ∧
    (s.dev.solo e 0x11 h → Completes (.mmc e) s (MatrixStarted s.dev e h w))) ∧
  (∀ (s : State) (e : Nat) (h : FCmd) (w : CmdWord), isMe e = true → s.dev.solo e 0x12 h →
    w = stepWord h.word (s.dev.engAt e).loops → hdrCauses h.word = [] → agdCauses e s.dev w = [] → s.dev.waitMet e w →
    Completes (.agd e) s fun d => LoneDone s.dev d e w [] ∧
      tabGet (agdOf 0) (d.meAt e).agd (cmdFld w 8 0 4) = agdOf w ∧
      (∀ n, n ≠ cmdFld w 8 0 4 → tabGet (agdOf 0) (d.meAt e).agd n = tabGet (agdOf 0) (s.dev.meAt e).agd n) ∧
      d.meAt e = { s.dev.meAt e with agd := (d.meAt e).agd } ∧ (∀ y, y ≠ e → d.meAt y = s.dev.meAt y) ∧
      d.sansRegs = { s.dev with eng := d.eng, me := d.me, sigs := s.dev.signalled e w }.sansRegs) ∧
  (∀ (s : State) (e : Nat), isMe e = true → s.dev.cmpAlive = true →
    Completes (.abftInj e) s fun d =>
      (s.dev.chk.dev = .startupTest ∨ s.dev.chk.dev = .maint → d.bitAt (Reg.meCtrl e) 2 = true ∧ OnlyRegs s.dev d [Reg.meCtrl e]) ∧
      (s.dev.chk.dev ≠ .startupTest → s.dev.chk.dev ≠ .maint → d.bitAt (Reg.meErr e) 5 = true ∧ OnlyRegs s.dev d [Reg.meErr e]))) ∧
  (∀ (s : State) (e i : Nat) (x : MeCmd), isMe e = true →
    (s.dev.meAt e).pipe.findIdx? (fun x => x.s.isNone) = some i → (s.dev.meAt e).pipe[i]? = some x → mmStreams x.word = true →
    x.v.isSome = true → s.dev.running e = true →
    (∀ h, h ∈ (s.dev.engAt e).queue.head? → h.poisoned = false ∧ opAllowed (engKind e) (opcode h.word) = true) →
    Completes (.meStreamStart e) s fun d =>
      (∃ y : MeCmd, (d.meAt e).pipe[i]? = some y ∧ y.word = x.word ∧ y.addr = x.addr ∧ y.v = x.v ∧ y.next = x.next ∧
        y.rows.length = mmM x.word ∧ y.waste.length = mmM x.word ∧
        y.s = some (max (max (max (x.b + loadTime x.word) ((s.dev.meAt e).sPrev + (s.dev.meAt e).spanPrev)) (x.v.getD 0) + 4)
          (s.dev.q / aQ))) ∧
      (∀ j, j ≠ i → (d.meAt e).pipe[j]? = (s.dev.meAt e).pipe[j]?) ∧
      (d.meAt e).active = (if mmReuse x.word then (s.dev.meAt e).active else (s.dev.meAt e).shadow) ∧
      (d.meAt e).shadow = (if mmReuse x.word then (s.dev.meAt e).shadow else none) ∧ (d.meAt e).agd = (s.dev.meAt e).agd ∧
      (d.meAt e).spanPrev = mmM x.word * (classOf (mmAfmt x.word) (mmWfmt x.word)).r ∧
      (∀ y, y ≠ e → d.meAt y = s.dev.meAt y) ∧ d.sansMem = { s.dev with me := d.me }.sansMem)

/-- A result row is written to its row of the engine's own accumulator memory and nowhere else (R77, R79, R87): under ACC_MODE 0 the
active columns and the checksum column take its words, and a row that mismatches its checksum is counted, sets ABFT in ME_ERR and, the
first of its command, drives the pair of ME_ABFT. -/
def Obligations.RowsAreWritten : Prop :=
  ∀ (s : State) (e i : Nat) (x : MeCmd) (y : RowRes), isMe e = true → s.dev.meUp e = true →
    (s.dev.meAt e).pipe.findIdx? (fun x => decide (x.next < x.rows.length)) = some i → (s.dev.meAt e).pipe[i]? = some x →
    x.rows[x.next]? = some y → mmRow x.word + x.next < 2048 → s.dev.mem.syn = [] → s.dev.mem.decode = [] →
    s.dev.raceAt ≠ s.dev.q / aQ → Completes (.meRowWrite e) s fun d =>
      (∃ z : MeCmd, (d.meAt e).pipe[i]? = some z ∧ z = { x with next := x.next + 1, mismatched := z.mismatched }) ∧
      (∀ j, j ≠ i → (d.meAt e).pipe[j]? = (s.dev.meAt e).pipe[j]?) ∧
      (mmMode x.word = 0 → (∀ n, n < 32 → (mmMask x.word).getLsbD n = true →
          d.mem.word (accAddr e (mmRow x.word + x.next) n) = (nth y.y n 0).toNat) ∧
        d.mem.word (accAddr e (mmRow x.word + x.next) 32) = y.z.toNat % 2 ^ 32) ∧
      (∀ a, a < accAddr e (mmRow x.word + x.next) 0 ∨ accAddr e (mmRow x.word + x.next) 33 ≤ a →
        tabGet 0 d.mem.data a = tabGet 0 s.dev.mem.data a) ∧
      (y.poison = false → compareRow (classOf (mmAfmt x.word) (mmWfmt x.word)).int (mmMask x.word)
          (s.dev.reg (Reg.meAbftTol0 e + 4 * cmdFld x.word 9 0 2)) x.injected y = some true →
        d.bitAt (Reg.meErr e) 1 = true ∧
        d.fld (Reg.meAbftFrame e) 31 0 = satAdd 32 (s.dev.fld (Reg.meAbftFrame e) 31 0) 1 ∧
        d.fld (Reg.meAbftTotal e) 31 0 = satAdd 32 (s.dev.fld (Reg.meAbftTotal e) 31 0) 1 ∧
        (x.mismatched = false → (d.pairAt (Src.meAbft (4 * (e / 7) + e % 7))).level = 1)) ∧
      (y.poison = true → d.fld (Reg.mePoisonRows e) 31 0 = satAdd 32 (s.dev.fld (Reg.mePoisonRows e) 31 0) 1 ∧
        d.fld (Reg.meAbftFrame e) 31 0 = s.dev.fld (Reg.meAbftFrame e) 31 0) ∧
      d.eng = s.dev.eng ∧ d.sigs = s.dev.sigs ∧ (∀ y, y ≠ e → d.meAt y = s.dev.meAt y) ∧
      d.sansMem = { s.dev with me := d.me, raceAt := d.raceAt, races := d.races }.sansMem

/-- A streaming matrix command completes once its rows are written, and a VE command with its last write (R111, R112, Table 5.1): the
engine's only command retires, its header SIGNAL is sent, and a test injection ends. -/
def Obligations.EngineCommandsComplete : Prop :=
  (∀ (s : State) (e i : Nat) (x : MeCmd) (a : Act), isMe e = true → s.dev.meUp e = true → s.dev.tck.abandoning = false →
    (s.dev.meAt e).pipe.zipIdx.find? (fun x => meDone x.2 x.1) = some (x, i) → mmStreams x.word = true →
    opcode x.word = 0x10 ∨ opcode x.word = 0x11 → x.tag = none → a.tag = none → a.done = false → a.addr = x.addr → a.word = x.word →
    (s.dev.engAt e).acts = [a] → (s.dev.engAt e).queue = [] →
    Completes (.meCommandDone e) s fun d => (d.engAt e) = { s.dev.engAt e with acts := [] } ∧
      d.meAt e = { s.dev.meAt e with pipe := (s.dev.meAt e).pipe.eraseIdx i } ∧ d.sigs = s.dev.signalled e x.word ∧
      (x.injected = true → d.bitAt (Reg.meCtrl e) 2 = (s.dev.bitAt (Reg.meCtrl e) 2 && s.dev.justSet (Reg.meCtrl e) 2)) ∧ SameRegs s.dev d (if x.injected then [Reg.meCtrl e] else []) ∧
      OtherEngines s.dev d e ∧ d.sansRegs = { s.dev with eng := d.eng, me := d.me, sigs := d.sigs }.sansRegs) ∧
  (∀ (s : State) (e : Nat) (a : Act), isVe e = true → s.dev.tck.abandoning = false → (s.dev.engAt e).fenced = false →
    (s.dev.engAt e).stopped = false → (s.dev.engAt e).acts = [a] → (s.dev.engAt e).queue = [] → a.done = false → a.tag = none →
    opcode a.word ≠ 3 → opcode a.word ≠ 4 →
    Completes (.veCommandComplete e) s fun d => d.engAt e = { s.dev.engAt e with acts := [], veOut := [] } ∧
      d.mem = (s.dev.veWrite e (s.dev.engAt e).veOut).mem ∧ d.sigs = s.dev.signalled e a.word ∧ OtherEnginesRun s.dev d e ∧
      d.sansMem = { s.dev with eng := d.eng, sigs := d.sigs, raceAt := d.raceAt, races := d.races }.sansMem)

/-- A VE command that stands alone at the head of its engine starts (R138 to R140): its results, by its own function of the memory as
read, wait for its completion; until then no byte is written but what decoding corrects. Results that the spec does not state are free (log 10).
A transfer without remote ends that stands alone at the head of its engine starts (R126, R130 to R134): it issues its requests up
to the engine's limit, each outstanding until it completes, and writes nothing yet. -/
def Obligations.VectorsAndTransfersStart : Prop :=
  (∀ (s : State) (e : Nat) (h : FCmd) (w : CmdWord), isVe e = true → w = stepWord h.word (s.dev.engAt e).loops →
    hdrCauses h.word = [] → vCauses e s.dev w = [] → s.dev.waitMet e w →
    (s.dev.solo e opVew h → Completes (.vew e) s (VectorStarted s.dev e h w (overRows w (vewRow e w)))) ∧
    (s.dev.solo e opVact h → Completes (.vact e) s (VectorStarted s.dev e h w (fun x => overRows w (vactRow e w (if vFunc w = 2 then (x.dev.readTag (x.dev.phys (vAux w)) 1040).2 else []))
      { x with dev := if vFunc w = 2 then (x.dev.readTag (x.dev.phys (vAux w)) 1040).1 else x.dev }))) ∧
    (s.dev.solo e opVnorm h → Completes (.vnorm e) s (VectorStarted s.dev e h w (overRows w (vnormRow e w)))) ∧
    (s.dev.solo e opVsmax h → Completes (.vsmax e) s (VectorStarted s.dev e h w (overRows w (vnormRow e w)))) ∧
    (s.dev.solo e opVpool h → Completes (.vpool e) s (VectorStarted s.dev e h w (vpoolAll e w))) ∧
    (s.dev.solo e opVresize h → Completes (.vresize e) s (VectorStarted s.dev e h w (vresizeAll e w))) ∧
    (s.dev.solo e opVred h → Completes (.vred e) s (VectorStarted s.dev e h w (overRows w (vredRow e w)))) ∧
    (s.dev.solo e opVargmax h → Completes (.vargmax e) s (VectorStarted s.dev e h w (overRows w (vargmaxRow e w)))) ∧
    (s.dev.solo e opVtopk h → Completes (.vtopk e) s (VectorStarted s.dev e h w (overRows w (vtopkRow e w)))) ∧
    (s.dev.solo e opVcompact h → Completes (.vcompact e) s (VectorStarted s.dev e h w (vcompactAll e w))) ∧
    (s.dev.solo e opVqmx h → Completes (.vqmx e) s (VectorStarted s.dev e h w (overRows w (vqmxRow e w))))) ∧
  (∀ (s : State) (e : Nat) (h : FCmd) (w : CmdWord), w = stepWord h.word (s.dev.engAt e).loops → hdrCauses h.word = [] →
    s.dev.waitMet e w → (∀ i, i < reqTotal w → s.dev.reqRemote w i = none) →
    (engKind e = 2 → s.dev.solo e 0x30 h → copyCauses e s.dev w = [] → Completes (.copy e) s (TransferStarted s.dev e h w)) ∧
    (engKind e = 2 → s.dev.solo e 0x31 h → fetch2dCauses e s.dev w = [] → Completes (.fetch2d e) s (TransferStarted s.dev e h w)) ∧
    (engKind e = 2 → s.dev.solo e 0x32 h → gatherCauses e s.dev w = [] → Completes (.gather e) s (TransferStarted s.dev e h w)) ∧
    (engKind e = 3 → s.dev.solo e 0x40 h → storeCauses e s.dev w = [] → Completes (.store e) s (TransferStarted s.dev e h w)) ∧
    (engKind e = 3 → s.dev.solo e 0x41 h → storeCauses e s.dev w = [] → Completes (.storeT e) s (TransferStarted s.dev e h w)))

/-- A memory request that nothing holds completes: its data is written, and its transfer completes in a later a-cycle, with its SIGNAL;
one that finds an uncorrectable source word is held by a page decode; the decode's end releases what it held (R126, R127, R151, R152). -/
def Obligations.RequestsComplete : Prop :=
  (∀ (s : State) (e : Nat) (a : Act) (r : Request), e < 168 → (s.dev.engAt e).acts = [a] → (s.dev.engAt e).queue = [] → a.out = [r] →
    a.next = a.total → r.held = [] → r.remote = false → s.dev.spanBusy a.word r.idx = false →
    s.dev.refreshHolds a.word r.idx = false → s.dev.badSpans a.word r.idx = [] →
    Completes (.memoryRequestComplete e 0) s fun d => d.engAt e = { s.dev.engAt e with acts := [{ a with out := [], last := s.dev.q / aQ }] } ∧
      d.mem = ((s.dev.reqData e a.word r.idx).1.reqWrite e a.word r.idx (s.dev.reqData e a.word r.idx).2).mem ∧
      OtherEnginesRun s.dev d e ∧ d.sansMem = { s.dev with eng := d.eng, raceAt := d.raceAt, races := d.races }.sansMem) ∧
  (∀ (d : Device) (e : Nat) (a : Act), d.tck.abandoning = false → (d.engAt e).acts = [a] → (d.engAt e).queue = [] →
    a.out = [] → a.next = a.total → 0 < a.total → a.done = false → a.tag = none → opcode a.word ≠ 3 → opcode a.word ≠ 4 →
    (a.last < d.q / aQ → (d.finishDue e).engAt e = { d.engAt e with acts := [] } ∧ (d.finishDue e).sigs = d.signalled e a.word) ∧
    (d.q / aQ ≤ a.last → d.finishDue e = d)) ∧
  (∀ (s : State) (e : Nat) (a : Act) (r : Request), e < 168 → (s.dev.engAt e).acts = [a] → a.out = [r] →
    r.held = [] → r.remote = false → s.dev.spanBusy a.word r.idx = false → s.dev.refreshHolds a.word r.idx = false →
    s.dev.badSpans a.word r.idx ≠ [] →
    Completes (.memoryRequestComplete e 0) s fun d =>
      (d.engAt e).acts = [{ a with out := [{ r with held := s.dev.badSpans a.word r.idx }] }] ∧
      (∀ b, b ∈ s.dev.badSpans a.word r.idx → b ∈ d.mem.decode) ∧ OtherEngines s.dev d e ∧ d.mem.data = s.dev.mem.data ∧
      d = { s.dev with eng := d.eng, mem := d.mem }) ∧
  (∀ (s : State) (e : Nat) (a : Act) (r : Request), e < 168 → (s.dev.engAt e).acts = [a] → a.out = [r] →
    r.held ≠ [] ∨ r.remote = true ∨ s.dev.spanBusy a.word r.idx = true ∨ s.dev.refreshHolds a.word r.idx = true →
    Completes (.memoryRequestComplete e 0) s fun d => d = s.dev) ∧
  (∀ (s : State) (b : Nat), b ∈ s.dev.mem.decode →
    Completes (.pageDecodeComplete b) s fun d =>
      (∀ e, (d.engAt e).keepHeld (fun _ => false) = (s.dev.engAt e).keepHeld fun _ => false) ∧
      (s.dev.mem.decode.Nodup → b ∉ d.mem.decode) ∧ (∀ e a r, a ∈ (d.engAt e).acts → r ∈ a.out → b ∉ r.held) ∧
      (s.dev.mem.wf = true → d.mem.wf = true) ∧ d.sansMem = s.dev.sansMem)

/-- A packet with a header error, and one that no stream takes, are counted; a line of a stream joins its camera frame, marked bad where
its CRC fails, waits where its frame has no buffer, and sets OVERFLOW where the line store is full (R194, R196, R201, R202). The byte order of a line is presumed (log 26).
A Frame Start opens a camera frame in every stream of its port and virtual channel, and cuts one in progress as TRUNCATED; a Frame
End ends the open ones, and lines that have not come count as bad; a header that ECC cannot correct has neither effect; complete, the
frame is the newest and stands in every powered Facet (R194, R198, R201). -/
def Obligations.CamerasAreReceived : Prop :=
  ((∀ (s : State) (p : Nat) (h : Csi2Header) (ok : Bool) (pl : List Byte), s.dev.lensPort p = true → h.eccOk = false →
    Completes (.csi2LongPacket p h ok pl) s fun d =>
      d.fld (Reg.lnsPortCnt p) 15 0 = satAdd 16 (s.dev.fld (Reg.lnsPortCnt p) 15 0) 1 ∧ d.bitAt Reg.lnsStatus 0 = true ∧
      OnlyRegs { s.dev with free := d.free } d [Reg.lnsPortCnt p, Reg.lnsStatus, Reg.lnsPortStatus p]) ∧
  (∀ (s : State) (p : Nat) (h : Csi2Header) (ok : Bool) (pl : List Byte), s.dev.lensPort p = true → h.eccOk = true →
    s.dev.streams.find? (fun r => decide (r.1.port = p) && decide (r.1.vc = h.vc) && decide (r.1.dt = h.dt)) = none →
    Completes (.csi2LongPacket p h ok pl) s fun d =>
      d.fld (Reg.lnsPortCnt p) 15 0 = satAdd 16 (s.dev.fld (Reg.lnsPortCnt p) 15 0) 1 ∧ d.bitAt Reg.lnsStatus 1 = true ∧
      (h.corrected = true → d.fld (Reg.lnsPortCnt p) 31 16 = satAdd 16 (s.dev.fld (Reg.lnsPortCnt p) 31 16) 1) ∧
      OnlyRegs { s.dev with free := d.free } d [Reg.lnsPortCnt p, Reg.lnsStatus, Reg.lnsPortStatus p]) ∧
  (∀ (s : State) (p n : Nat) (h : Csi2Header) (ok : Bool) (pl : List Byte) (r : LensRec) (l : Lens) (x : LensFrame) (t : LensLine),
    s.dev.lensPort p = true → h.eccOk = true → n < 16 →
    s.dev.streams.find? (fun r => decide (r.1.port = p) && decide (r.1.vc = h.vc) && decide (r.1.dt = h.dt)) = some (r, n) →
    l = (s.dev.lensAt n).assign → l.cur = some x → r.y0 ≤ l.lineNo → l.lineNo < r.y0 + r.h →
    t = LensLine.mk (l.lineNo - r.y0) (((pixelsOf r.dt pl).drop (chansOf r.dt * r.x0)).take (chansOf r.dt * r.w))
      (!ok || decide ((pixelsOf r.dt pl).length < chansOf r.dt * (r.x0 + r.w))) →
    Completes (.csi2LongPacket p h ok pl) s fun d =>
      (x.buf.isSome = true →
        d.lensAt n = { l with lineNo := l.lineNo + 1, frames := l.frames.dropLast ++ [{ x with lines := x.lines ++ [t] }] }) ∧
      (x.buf = none → l.held < 16 →
        d.lensAt n = { l with lineNo := l.lineNo + 1, frames := l.frames.dropLast ++ [{ x with waiting := x.waiting ++ [t] }] }) ∧
      (x.buf.isSome = true ∨ l.held < 16 → d.fld (Reg.lnsStrErr n) 31 16 = satAdd 16 (s.dev.fld (Reg.lnsStrErr n) 31 16) (b2n t.bad) ∧
        (t.bad = true → d.bitAt Reg.lnsStatus 2 = true) ∧ (t.bad = false → d.reg Reg.lnsStatus = s.dev.reg Reg.lnsStatus)) ∧
      (x.buf = none → 16 ≤ l.held →
        d.lensAt n = { l with lineNo := l.lineNo + 1, frames := l.frames.dropLast ++
          [{ x with overflow := true, lines := x.lines ++ [⟨t.y, [], true⟩] }] } ∧
        d.fld (Reg.lnsStrErr n) 31 16 = satAdd 16 (s.dev.fld (Reg.lnsStrErr n) 31 16) 1 ∧ d.bitAt Reg.lnsStatus 3 = true) ∧
      d.fld (Reg.lnsPortCnt p) 31 16 = satAdd 16 (s.dev.fld (Reg.lnsPortCnt p) 31 16) (b2n h.corrected) ∧
      SameRegs s.dev d [Reg.lnsPortCnt p, Reg.lnsPortStatus p, Reg.lnsStatus, Reg.lnsStrErr n] ∧
      (∀ m, m ≠ n → d.lensAt m = s.dev.lensAt m) ∧ d.sansRegs = { s.dev with lens := d.lens, free := d.free }.sansRegs)) ∧
  ((∀ (s : State) (p vc num : Nat) (fix : Bool), s.dev.lensPort p = true →
    Completes (.frameStart ⟨p, false, fix⟩ vc num) s fun d =>
      d.fld (Reg.lnsPortCnt p) 15 0 = satAdd 16 (s.dev.fld (Reg.lnsPortCnt p) 15 0) 1 ∧ d.bitAt Reg.lnsStatus 0 = true ∧
      OnlyRegs { s.dev with free := d.free } d [Reg.lnsPortCnt p, Reg.lnsStatus, Reg.lnsPortStatus p]) ∧
  (∀ (s : State) (p vc num : Nat) (fix : Bool), s.dev.lensPort p = true → s.dev.boot.img.lens.length ≤ 16 →
    Completes (.frameStart ⟨p, true, fix⟩ vc num) s fun d =>
      (∀ r n, (r, n) ∈ s.dev.streams → r.port = p → r.vc = vc →
        (∃ x : LensFrame, (d.lensAt n).cur = some x ∧ x.num = num ∧ x.sofNs = s.dev.tim.ns ∧ x.sofSec = s.dev.tim.sec ∧
          x.lines = [] ∧ x.waiting = [] ∧ x.truncated = false ∧ x.overflow = false) ∧
        (d.lensAt n).lineNo = 0 ∧ (d.lensAt n).frames.length = (s.dev.lensAt n).frames.length + 1 ∧
        (∀ y, (s.dev.lensAt n).cur = some y →
          (∃ z, z ∈ (d.lensAt n).frames ∧ z.ended = true ∧ z.truncated = true ∧ z.num = y.num ∧ z.sofNs = y.sofNs) ∧
          d.fld (Reg.lnsStrErr n) 15 0 = satAdd 16 (s.dev.fld (Reg.lnsStrErr n) 15 0) 1)) ∧
      (∀ n, (∀ r, (r, n) ∈ s.dev.streams → ¬ (r.port = p ∧ r.vc = vc)) → d.lensAt n = s.dev.lensAt n) ∧
      ((∀ r n, (r, n) ∈ s.dev.streams → r.port = p → r.vc = vc → (s.dev.lensAt n).cur = none) →
        SameRegs s.dev d [Reg.lnsPortCnt p, Reg.lnsPortStatus p]) ∧
      SameRegs s.dev d (Reg.lnsPortCnt p :: Reg.lnsPortStatus p :: Reg.lnsStatus :: (List.range 16).map Reg.lnsStrErr) ∧
      d.sansRegs = { s.dev with lens := d.lens, free := d.free }.sansRegs) ∧
  (∀ (s : State) (p vc : Nat) (fix : Bool), s.dev.lensPort p = true →
    Completes (.frameEnd ⟨p, false, fix⟩ vc) s fun d =>
      d.fld (Reg.lnsPortCnt p) 15 0 = satAdd 16 (s.dev.fld (Reg.lnsPortCnt p) 15 0) 1 ∧ d.bitAt Reg.lnsStatus 0 = true ∧
      OnlyRegs { s.dev with free := d.free } d [Reg.lnsPortCnt p, Reg.lnsStatus, Reg.lnsPortStatus p]) ∧
  (∀ (s : State) (p vc : Nat) (fix : Bool), s.dev.lensPort p = true → s.dev.boot.img.lens.length ≤ 16 →
    Completes (.frameEnd ⟨p, true, fix⟩ vc) s fun d =>
      (∀ r n x, (r, n) ∈ s.dev.streams → r.port = p → r.vc = vc → (s.dev.lensAt n).cur = some x →
        d.lensAt n = { s.dev.lensAt n with frames := (s.dev.lensAt n).frames.dropLast ++
          [{ x with ended := true, eofNs := s.dev.tim.ns, eofSec := s.dev.tim.sec }] } ∧
        d.fld (Reg.lnsStrErr n) 31 16 = satAdd 16 (s.dev.fld (Reg.lnsStrErr n) 31 16) (r.h - (x.lines.length + x.waiting.length))) ∧
      (∀ n, (∀ r, (r, n) ∈ s.dev.streams → ¬ (r.port = p ∧ r.vc = vc)) ∨ (s.dev.lensAt n).cur = none →
        d.lensAt n = s.dev.lensAt n) ∧
      SameRegs s.dev d (Reg.lnsPortCnt p :: Reg.lnsPortStatus p :: Reg.lnsStatus :: (List.range 16).map Reg.lnsStrErr) ∧
      d.sansRegs = { s.dev with lens := d.lens, free := d.free }.sansRegs) ∧
  (∀ (s : State) (n i : Nat) (r : LensRec) (x : LensFrame) (rest : List LensFrame), s.dev.cmpAlive = true → n < 16 →
    s.dev.streams.find? (fun r => decide (r.2 = n)) = some (r, n) → (s.dev.lensAt n).assign.frames = x :: rest →
    x.ended = true → x.buf = some i →
    Completes (.lensFrameComplete n) s fun d => (d.lensAt n).frames.length = rest.length ∧
      (d.lensAt n).newest = some i ∧ (d.lensAt n).seq = (s.dev.lensAt n).seq + 1 ∧
      (∀ f, f < 4 → (f ∈ tabGet [] (d.lensAt n).missing i ↔ s.dev.facetUp f = false)) ∧
      d.fld (Reg.lnsStrFrames n) 31 0 = satAdd 32 (s.dev.fld (Reg.lnsStrFrames n) 31 0) 1 ∧
      d.mem = (((List.range 4).filter fun f => s.dev.facetUp f).foldl
        (fun d f => d.lensStore x r ((s.dev.lensAt n).seq + 1) i f) s.dev).mem ∧
      (0 < x.badRows r → (d.pairAt Src.lnsIngest).level = 1) ∧
      (∀ m, m ≠ n → d.lensAt m = s.dev.lensAt m) ∧ d.sansMem = { s.dev with lens := d.lens }.sansMem))

/-- A received frame with a bad check sequence, a PAUSE frame, one whose filter drops it, and one without a posted buffer are counted as
dropped; a view takes a frame that fits; a ring takes one with a posted buffer, moves its HEAD and fires its vector (R203 to R206). Where the fields of a frame stand is presumed (log 27). -/
def Obligations.EthernetReceives : Prop :=
  (∀ (s : State) (p : Nat) (bs : List Byte), s.dev.ethPort p = true →
    Completes (.ethFrameReceive p false bs) s fun d =>
      d.fld (Reg.ethPortDropCnt p) 31 16 = satAdd 16 (s.dev.fld (Reg.ethPortDropCnt p) 31 16) 1 ∧
      OnlyRegs s.dev d [Reg.ethPortDropCnt p]) ∧
  (∀ (s : State) (p : Nat) (bs : List Byte), s.dev.ethPort p = true → bs.length ≤ 9216 →
    isPause bs = true ∨ (∃ f i, s.dev.filterOf p bs = some (f, i) ∧ f.action = 1) →
    Completes (.ethFrameReceive p true bs) s fun d =>
      d.fld (Reg.ethPortRxCnt p) 31 0 = satAdd 32 (s.dev.fld (Reg.ethPortRxCnt p) 31 0) 1 ∧
      d.fld (Reg.ethPortDropCnt p) 15 0 = satAdd 16 (s.dev.fld (Reg.ethPortDropCnt p) 15 0) 1 ∧
      OnlyRegs s.dev d [Reg.ethPortRxCnt p, Reg.ethPortDropCnt p]) ∧
  (∀ (s : State) (p : Nat) (bs : List Byte), s.dev.ethPort p = true → bs.length ≤ 9216 → isPause bs = false →
    s.dev.filterOf p bs = none → s.dev.descAt p false 0 = none →
    Completes (.ethFrameReceive p true bs) s fun d =>
      d.fld (Reg.ethPortRxCnt p) 31 0 = satAdd 32 (s.dev.fld (Reg.ethPortRxCnt p) 31 0) 1 ∧
      d.fld (Reg.ethPortDropCnt p) 15 0 = satAdd 16 (s.dev.fld (Reg.ethPortDropCnt p) 15 0) 1 ∧
      d.mem = (s.dev.descRead p false 0).mem ∧ d.sansMem = s.dev.sansMem) ∧
  (∀ (s : State) (p v i : Nat) (bs rec : List Byte) (f : EthFilter) (x : EthViewRec), s.dev.ethPort p = true → bs.length ≤ 9216 →
    isPause bs = false → s.dev.filterOf p bs = some (f, i) → f.action = 0x80 + v → (s.dev.viewAt v).next = none →
    x = nth s.dev.boot.img.views v ⟨0, 0, 0⟩ →
    rec = viewRecord p i false (s.dev.portTime p false).1 (s.dev.portTime p false).2 bs →
    Completes (.ethFrameReceive p true bs) s fun d =>
      d.fld (Reg.ethPortRxCnt p) 31 0 = satAdd 32 (s.dev.fld (Reg.ethPortRxCnt p) 31 0) 1 ∧
      (64 + (s.dev.viewAt v).bytes + rec.length ≤ x.bufBytes →
        d.viewAt v = { s.dev.viewAt v with count := (s.dev.viewAt v).count + 1, bytes := (s.dev.viewAt v).bytes + rec.length } ∧
        d.mem = (s.dev.writeAll (x.bufOfs + (s.dev.viewAt v).collecting * x.bufBytes + 64 + (s.dev.viewAt v).bytes) rec).mem) ∧
      (x.bufBytes < 64 + (s.dev.viewAt v).bytes + rec.length →
        d.viewAt v = { s.dev.viewAt v with dropped := (s.dev.viewAt v).dropped + 1 } ∧ d.bitAt Reg.ethStatus 2 = true ∧
        d.mem = s.dev.mem) ∧
      (∀ w, w ≠ v → d.viewAt w = s.dev.viewAt w) ∧ d.sansMem = { s.dev with eth := d.eth }.sansMem) ∧
  (∀ (s : State) (p a : Nat) (bs : List Byte), s.dev.ethPort p = true → bs.length ≤ 9216 → isPause bs = false →
    s.dev.filterOf p bs = none → s.dev.descAt p false 0 = some a →
    s.dev.inRingFacet (leAt (s.dev.peek a 32) 0 6) (min (leAt (s.dev.peek a 32) 8 2) bs.length) = true →
    Completes (.ethFrameReceive p true bs) s fun d =>
      d.reg (Reg.ethPortRxHead p) = word (((s.dev.ring p false).head + 1) % (s.dev.ring p false).size) ∧
      d.mem = (((s.dev.descRead p false 0).writeMem (leAt (s.dev.peek a 32) 0 6) (bs.take (leAt (s.dev.peek a 32) 8 2)) false).writeBack a
        (patch (patch (patch (patch (s.dev.peek a 32) 8 (toLe 2 bs.length)) 13 (toLe 1 0xFF)) 16
          (toLe 4 (s.dev.portTime p false).2)) 20 (toLe 6 (s.dev.portTime p false).1))
        (decide (leAt (s.dev.peek a 32) 8 2 < bs.length)) false).mem ∧
      (s.dev.vecHeld (16 + 2 * p) = true → d.bitAt 0x4800 (16 + 2 * p) = true) ∧
      (s.dev.vecHeld (16 + 2 * p) = false →
        tabGet 0 d.hif.sent (16 + 2 * p) = tabGet 0 s.dev.hif.sent (16 + 2 * p) + 1) ∧
      d.sansMem = s.dev.sansMem)

/-- TAIL, RING_FACET and link changes (R203, R206); a posted frame is sent once, with its one-step time where asked and its transmit
timestamp in the queue of its management port, or passes on to the checker; its descriptor is written back (R206, R208, R214 to R216). Where the one-step time stands in a frame is presumed (log 27). -/
def Obligations.EthernetSends : Prop :=
  (∀ (s : State) (p : Nat) (tx : Bool) (v : Word), s.dev.hostUp = true → p < 8 →
    Completes (.ethTailWrite p tx v) s fun d =>
      d.reg (if tx then Reg.ethPortTxTail p else Reg.ethPortRxTail p) = word (bits v 11 0) ∧
      OnlyRegs s.dev d [if tx then Reg.ethPortTxTail p else Reg.ethPortRxTail p]) ∧
  (∀ (s : State) (v : Word), s.dev.hostUp = true →
    Completes (.ringFacetWrite v) s fun d => d.fld Reg.ethCfg 1 0 = bits v 1 0 ∧ d.eth = { s.dev.eth with ringsLost := false } ∧
      (∀ p, p < 8 → d.reg (Reg.ethPortRxHead p) = 0 ∧ d.reg (Reg.ethPortRxTail p) = 0 ∧ d.reg (Reg.ethPortTxHead p) = 0 ∧
        d.reg (Reg.ethPortTxTail p) = 0) ∧ d = { s.dev with regs := d.regs, eth := d.eth }) ∧
  (∀ (s : State) (p : Nat) (up : Bool) (v : Nat), s.dev.ethPort p = true → v ≤ 5 →
    Completes (.ethLinkChange p up v) s fun d => d.fld (Reg.ethPortStatus p) 0 0 = b2n up ∧ d.fld (Reg.ethPortStatus p) 3 1 = v ∧
      d.bitAt Reg.ethStatus 0 = true ∧ OnlyRegs s.dev d [Reg.ethPortStatus p, Reg.ethStatus]) ∧
  (∀ (s : State) (p a : Nat) (old bs : List Byte), s.dev.ethPort p = true → s.dev.descAt p true 0 = some a →
    old = s.dev.peek a 32 → bs = (s.dev.descRead p true 0).peek (leAt old 0 6) (leAt old 8 2) →
    1 ≤ leAt old 8 2 → leAt old 8 2 ≤ 9216 → s.dev.inRingFacet (leAt old 0 6) (leAt old 8 2) = true →
    Completes (.ethTransmit p) s fun d =>
      (natBits (leAt old 12 1) 2 2 = 0 ∨ 4 ≤ p → d.eth.wire = s.dev.eth.wire ++ [(p, bs)]) ∧
      (natBits (leAt old 12 1) 2 2 = 1 → p < 4 →
        d.eth.wire = s.dev.eth.wire ++ [(p, (oneStep bs old (s.dev.portTime p true)).getD bs)]) ∧
      d.fld (Reg.ethPortTxCnt p) 15 0 = (s.dev.fld (Reg.ethPortTxCnt p) 15 0 + 1) % 65536 ∧
      (4 ≤ p → natBits (leAt old 12 1) 1 1 = 1 → (tabGet [] s.dev.eth.tsq (p - 4)).length < 4 →
        tabGet [] d.eth.tsq (p - 4) = tabGet [] s.dev.eth.tsq (p - 4) ++
          [TxStamp.mk (leAt old 10 2) (s.dev.portTime p true).1 (s.dev.portTime p true).2]) ∧
      d.reg (Reg.ethPortTxHead p) = word (((s.dev.ring p true).head + 1) % (s.dev.ring p true).size) ∧
      d.sansMem = { s.dev with eth := d.eth }.sansMem) ∧
  (∀ (s : State) (p a : Nat) (old : List Byte), s.dev.cmpAlive = true → 6 ≤ p → p < 8 →
    s.dev.descAt p true (tabGet [] s.dev.rng.tx (p - 6)).length = some a → old = s.dev.peek a 32 →
    1 ≤ leAt old 8 2 → leAt old 8 2 ≤ 9216 → s.dev.inRingFacet (leAt old 0 6) (leAt old 8 2) = true →
    Completes (.ethTransmit p) s fun d =>
      tabGet [] d.rng.tx (p - 6) = tabGet [] s.dev.rng.tx (p - 6) ++
        [RngTx.mk ((s.dev.descRead p true (tabGet [] s.dev.rng.tx (p - 6)).length).peek (leAt old 0 6) (leAt old 8 2))
          (leAt old 10 2) (decide (natBits (leAt old 12 1) 1 1 = 1)) a] ∧
      d.sansMem = { s.dev with rng := d.rng }.sansMem)

/-- Range ports (R207, R208, R227, R228): a frame of a sensor is binned, into the closed grid where it was received before the tick, and
every good frame is forwarded to the compute die in the order of receipt, or counted as not forwarded; in RUN and DEGRADED only PTP
messages of the host are sent. -/
def Obligations.RangeFrames : Prop :=
  (∀ (s : State) (n lead : Nat) (bs : List Byte), s.dev.chk.power = true → n < 2 →
    Completes (.rangeFrameReceive n false ⟨bs, lead⟩) s fun d =>
      d.fld (Reg.chkRngDropCnt n) 31 16 = satAdd 16 (s.dev.fld (Reg.chkRngDropCnt n) 31 16) 1 ∧
      OnlyRegs s.dev d [Reg.chkRngDropCnt n]) ∧
  (∀ (s : State) (n lead : Nat) (bs : List Byte) (t : Nat × Nat) (late : Bool), s.dev.chk.power = true → n < 2 →
    t = s.dev.rngTime n false →
    late = decide (((t.1 * 1000000000 + t.2 : Nat) : Int) < s.dev.tck.lastTickChk + s.dev.tck.copySteps) →
    (∀ r i pl, s.dev.sensorOf n bs = some (r, i, pl) → r.prot = false) →
    Completes (.rangeFrameReceive n true ⟨bs, lead⟩) s fun d =>
      d.fld (Reg.chkRngRxCnt n) 31 0 = satAdd 32 (s.dev.fld (Reg.chkRngRxCnt n) 31 0) 1 ∧
      (∀ r i pl, s.dev.sensorOf n bs = some (r, i, pl) → late = false →
        d.rng = { s.dev.rng.bin s.dev.safetySet.range r i pl with fwd := d.rng.fwd }) ∧
      (∀ r i pl x, s.dev.sensorOf n bs = some (r, i, pl) → late = true →
        x = ({ s.dev.rng with grid := s.dev.rng.closed, pts := s.dev.rng.closedPts,
                              binned := (s.dev.reg Reg.aptRangePts).toNat } : Rng).bin s.dev.safetySet.range r i pl →
        d.rng = { s.dev.rng with closed := x.grid, closedPts := x.pts, fwd := d.rng.fwd } ∧ d.reg Reg.aptRangePts = word x.binned) ∧
      (s.dev.sensorOf n bs = none → d.rng = { s.dev.rng with fwd := d.rng.fwd }) ∧
      (s.dev.cmpAlive = true → s.dev.rng.fwd.length < 64 →
        d.rng.fwd = s.dev.rng.fwd ++ [(n, FwdFrame.mk bs t.1 t.2)] ∧
        SameRegs s.dev d [Reg.chkRngRxCnt n, Reg.aptRangePts, Reg.aptRangeSilent]) ∧
      (s.dev.cmpAlive = false ∨ 64 ≤ s.dev.rng.fwd.length →
        d.fld (Reg.chkRngDropCnt n) 15 0 = satAdd 16 (s.dev.fld (Reg.chkRngDropCnt n) 15 0) 1 ∧ d.rng.fwd = s.dev.rng.fwd ∧
        SameRegs s.dev d [Reg.chkRngRxCnt n, Reg.chkRngDropCnt n, Reg.aptRangePts, Reg.aptRangeSilent]) ∧
      (late = false ∨ s.dev.sensorOf n bs = none → SameRegs s.dev d [Reg.chkRngRxCnt n, Reg.chkRngDropCnt n]) ∧
      d.sansRegs = { s.dev with rng := d.rng }.sansRegs) ∧
  (∀ (s : State) (n m : Nat) (f : FwdFrame) (q : List (Nat × FwdFrame)), s.dev.chk.power = true → n < 2 →
    s.dev.rng.fwd = (m, f) :: q →
    Completes (.rangeFrameForward n) s fun d => (m ≠ n → d = s.dev) ∧
      (m = n → d.rng = { s.dev.rng with fwd := q } ∧ d.sansMem = { s.dev with rng := d.rng, eth := d.eth }.sansMem ∧
        (s.dev.cmpAlive = false → d.fld (Reg.chkRngDropCnt n) 15 0 = satAdd 16 (s.dev.fld (Reg.chkRngDropCnt n) 15 0) 1) ∧
        (s.dev.cmpAlive = true →
          d.fld (Reg.ethPortRxCnt (6 + n)) 31 0 = satAdd 32 (s.dev.fld (Reg.ethPortRxCnt (6 + n)) 31 0) 1))) ∧
  (∀ (s : State) (n : Nat) (x : RngTx) (q : List RngTx), s.dev.chk.power = true → s.dev.cmpAlive = true → n < 2 →
    tabGet [] s.dev.rng.tx n = x :: q → x.bytes ≠ [] →
    Completes (.rangeTransmit n) s fun d => tabGet [] d.rng.tx n = q ∧
      (s.dev.chk.dev.running = true → isPtp x.bytes = false → d.rng.wire = s.dev.rng.wire ∧
        d.fld (Reg.chkRngTxBlockCnt n) 31 0 = satAdd 32 (s.dev.fld (Reg.chkRngTxBlockCnt n) 31 0) 1) ∧
      (s.dev.chk.dev.running = false ∨ isPtp x.bytes = true → d.rng.wire = s.dev.rng.wire ++ [(n, x.bytes)] ∧
        d.fld (Reg.ethPortTxCnt (6 + n)) 15 0 = (s.dev.fld (Reg.ethPortTxCnt (6 + n)) 15 0 + 1) % 65536 ∧
        (x.tsReq = true → (tabGet [] s.dev.rng.tsq n).length < 4 → tabGet [] d.rng.tsq n = tabGet [] s.dev.rng.tsq n ++
          [TxStamp.mk x.tsId (s.dev.rngTime n true).1 (s.dev.rngTime n true).2])) ∧
      d.sansMem = { s.dev with rng := d.rng }.sansMem)

/-- A flit with a CRC error is counted and discarded, one out of turn is discarded, its ACK with it, and both are answered with a NAK
that names the last good one; one for another device is passed on along its route with the sequence numbers of that link; a NAK replays
what it does not acknowledge, and a flit replayed 8 times takes the port down; an IDLE only acknowledges (R182, R183, R185). That NAK takes no sequence number is the model's (log 16). -/
def Obligations.FlitsInTurn : Prop :=
  (∀ (s : State) (p t : Nat) (f : Flit) (w : Nat) (c : Instr),
    (c, t) ∈ (.idle p f, FT.idle) :: (.nak p f, FT.nak) :: (.timeFlit p f w, FT.time) :: flits p f →
    f.wf = true → s.dev.linkOn p = true → f.crc ≠ flitCrc t f →
    Completes c s fun d => d.fld (Reg.dskPortCnt p) 15 0 = satAdd 16 (s.dev.fld (Reg.dskPortCnt p) 15 0) 1 ∧
      SameRegs s.dev d [Reg.dskPortCnt p] ∧ NakSent s.dev d p) ∧
  (∀ (s : State) (p t : Nat) (f : Flit) (w : Nat) (c : Instr), (c, t) ∈ (.timeFlit p f w, FT.time) :: flits p f →
    f.wf = true → s.dev.linkOn p = true → f.crc = flitCrc t f → f.seq ≠ ((s.dev.portAt p).rxSeq + 1) % 4096 →
    Completes c s fun d => SameRegs s.dev d [] ∧ NakSent s.dev d p) ∧
  (∀ (s : State) (p t o : Nat) (f : Flit) (c : Instr) (u : Device), (c, t) ∈ flits p f → s.dev.inTurn p t f →
    f.dst ≠ s.dev.devId → s.dev.route f.dst = some o → u = s.dev.took p f →
    Completes c s fun d =>
      (u.linkFree o → ∃ x : TxFlit, x.type = t ∧
        x.flit = Flit.seal t { f with seq := (u.portAt o).txSeq, ack := (u.portAt o).rxSeq } ∧ Handled s.dev d p f [(o, x)] ∧
        d.portAt o = { u.portAt o with txSeq := ((u.portAt o).txSeq + 1) % 4096, replay := (u.portAt o).replay ++ [x] }) ∧
      (¬ u.linkFree o → Handled s.dev d p f [] ∧
        d.portAt o = { u.portAt o with wait := (u.portAt o).wait ++ [TxFlit.mk t f 0] }) ∧
      (∀ y, y ≠ o → d.portAt y = u.portAt y) ∧ SameRegs s.dev d [] ∧
      d.sansRegs = { s.dev with dsk := { s.dev.dsk with port := d.dsk.port, out := d.dsk.out } }.sansRegs) ∧
  (∀ (s : State) (p : Nat), s.dev.linkOn p = true →
    Completes (.flitCrcError p) s fun d =>
      d.fld (Reg.dskPortCnt p) 15 0 = satAdd 16 (s.dev.fld (Reg.dskPortCnt p) 15 0) 1 ∧ SameRegs s.dev d [Reg.dskPortCnt p] ∧
      NakSent s.dev d p) ∧
  (∀ (s : State) (p : Nat) (f : Flit) (u : Device) (l : List TxFlit), s.dev.linkOn p = true → f.wf = true →
    f.crc = flitCrc FT.nak f → u = s.dev.takeAck p f.ack →
    l = (u.portAt p).replay.map (fun x => { x with replays := x.replays + 1 }) →
    Completes (.nak p f) s fun d =>
      ((∀ x, x ∈ l → x.replays < 8) → d.portAt p = { u.portAt p with replay := l } ∧
        d.dsk.out = u.dsk.out ++ l.map (fun x => (p, x)) ∧
        d.fld (Reg.dskPortCnt p) 31 16 = satAdd 16 (s.dev.fld (Reg.dskPortCnt p) 31 16) l.length ∧
        SameRegs s.dev d [Reg.dskPortCnt p] ∧
        d.sansRegs = { s.dev with dsk := { s.dev.dsk with port := d.dsk.port, out := d.dsk.out } }.sansRegs) ∧
      ((∃ x, x ∈ l ∧ 8 ≤ x.replays) → (d.portAt p).up = false ∧ (d.portAt p).failed = true ∧ d.bitAt Reg.dskStatus 0 = true ∧
        (d.pairAt Src.dskLink).level = 1)) ∧
  (∀ (s : State) (p : Nat) (f : Flit), s.dev.linkOn p = true → f.wf = true → f.crc = flitCrc FT.idle f →
    Completes (.idle p f) s fun d =>
      ((s.dev.portAt p).wait = [] → d.portAt p = { s.dev.portAt p with replay := acked (s.dev.portAt p).replay f.ack } ∧
        d.dsk.out = s.dev.dsk.out) ∧
      (∀ o, o ≠ p → d.portAt o = s.dev.portAt o) ∧ SameRegs s.dev d [] ∧
      d.sansRegs = { s.dev with dsk := { s.dev.dsk with port := d.dsk.port, out := d.dsk.out } }.sansRegs)

/-- A port that is down trains again with a TRAIN flit; a partner of major version 1 brings it up at ×8 or ×4 and at minor version 0 and
is told this device's claim, any other leaves it down, one of another major version with DSK_STATUS.VER (R181, R183, R184, R190). -/
def Obligations.PortsTrain : Prop :=
  (∀ (s : State) (p : Nat), s.dev.portOn p = true → (s.dev.portAt p).up = false →
    Completes (.dskPortRetrain p) s fun d => d.portAt p = { DskPort.reset with training := true } ∧
      d.fld (Reg.dskPortStatus p) 1 0 = 1 ∧ SameRegs s.dev d [Reg.dskPortStatus p] ∧
      (∃ x : TxFlit, d.dsk.out = s.dev.dsk.out ++ [(p, x)] ∧ x.type = FT.train ∧ x.flit.src = s.dev.devId ∧
        x.flit.payload.take 2 = [1, 0]) ∧
      d.sansRegs = { s.dev with dsk := { s.dev.dsk with port := d.dsk.port, out := d.dsk.out } }.sansRegs) ∧
  (∀ (s : State) (p minor lanes : Nat) (f : Flit), s.dev.portOn p = true → f.wf = true → f.crc = flitCrc FT.train f →
    (s.dev.portAt p).up = false → lanes = 8 ∨ lanes = 4 →
    Completes (.train p f 1 minor lanes) s fun d => (d.portAt p).up = true ∧ (d.portAt p).x8 = decide (lanes = 8) ∧
      (d.portAt p).partner = f.src ∧ (d.portAt p).major = 1 ∧ (d.portAt p).minor = 0 ∧ (d.portAt p).rxSeq = 4095 ∧
      d.fld (Reg.dskPortStatus p) 1 0 = 2 ∧ d.fld (Reg.dskPortStatus p) 31 28 = f.src ∧ SameRegs s.dev d [Reg.dskPortStatus p] ∧
      (s.dev.topo = 0 → (d.portAt p).txSeq = 0 ∧ (d.portAt p).replay = [] ∧ d.dsk.out = s.dev.dsk.out ∧
        ∀ o, o ≠ p → d.portAt o = s.dev.portAt o) ∧
      (s.dev.topo ≠ 0 → d.dsk.claimAt.isSome = true ∧ (d.route f.src = none → ∃ x : TxFlit, (p, x) ∈ d.dsk.out ∧
        x.type = FT.status ∧ x.flit.dst = f.src ∧ x.flit.payload = padFlit d.statusBytes)) ∧
      d.sansRegs = { s.dev with dsk := { s.dev.dsk with port := d.dsk.port, out := d.dsk.out, claimAt := d.dsk.claimAt } }.sansRegs) ∧
  (∀ (s : State) (p major minor lanes : Nat) (f : Flit), s.dev.portOn p = true → f.wf = true → f.crc = flitCrc FT.train f →
    (s.dev.portAt p).up = false → major ≠ 1 ∨ (lanes ≠ 8 ∧ lanes ≠ 4) →
    Completes (.train p f major minor lanes) s fun d => d.portAt p = { DskPort.reset with partner := f.src } ∧
      (major ≠ 1 → d.bitAt Reg.dskStatus 1 = true) ∧ (∀ o, o ≠ p → d.portAt o = s.dev.portAt o) ∧
      SameRegs s.dev d [Reg.dskPortStatus p, Reg.dskStatus] ∧
      d.sansRegs = { s.dev with dsk := { s.dev.dsk with port := d.dsk.port } }.sansRegs)

/-- WR is written only where IMPORT allows it, within one line and of this frame, and is acknowledged as written or discarded; RD_REQ returns
the data where EXPORT allows it and else zeros marked as poisoned; both refusals are counted and raise DSK_INBOUND (R186, R187).
An answer ends the oldest remote request that it fits, and no other, and the data of a read is written; a SIG of this frame adds to its
device counter, a stale one is discarded and counted (R186, R187). -/
def Obligations.InboundFlitsAreJudged : Prop :=
  ((∀ (s : State) (p : Nat) (f : Flit), s.dev.inTurn p FT.wr f → f.dst = s.dev.devId → s.dev.isStale f = true →
    Completes (.wr p f) s fun d => d.reg Reg.dskStaleCnt = word (satAdd 32 (s.dev.fld Reg.dskStaleCnt 31 0) 1) ∧
      d.bitAt Reg.dskStatus 4 = true ∧ d.mem = s.dev.mem ∧ SentFlit s.dev d p f FT.wrAck f.src 0 [1] ∧
      SameRegs s.dev d [Reg.dskStaleCnt, Reg.dskStatus] ∧
      d.sansRegs = { s.dev with dsk := { s.dev.dsk with port := d.dsk.port, out := d.dsk.out } }.sansRegs) ∧
  (∀ (s : State) (p : Nat) (f : Flit), s.dev.inTurn p FT.wr f → f.dst = s.dev.devId → s.dev.isStale f = false →
    Completes (.wr p f) s fun d =>
      (inLine f = true → s.dev.shared 1 f.addr f.len = true → d.mem = (s.dev.writeTag (s.dev.phys f.addr) (flitData f)).mem ∧
        SentFlit s.dev d p f FT.wrAck f.src 0 [0]) ∧
      (inLine f = false ∨ s.dev.shared 1 f.addr f.len = false → d.mem = s.dev.mem ∧ SentFlit s.dev d p f FT.wrAck f.src 0 [1] ∧
        d.fld Reg.dskInbCnt 31 0 = satAdd 32 (s.dev.fld Reg.dskInbCnt 31 0) 1 ∧ d.bitAt Reg.dskStatus 3 = true ∧
        (d.pairAt Src.dskInbound).level = 1) ∧
      d.sansMem = { s.dev with dsk := { s.dev.dsk with port := d.dsk.port, out := d.dsk.out } }.sansMem) ∧
  (∀ (s : State) (p : Nat) (f : Flit) (l : Marked), s.dev.inTurn p FT.rdReq f → f.dst = s.dev.devId →
    l = (s.dev.readTag (s.dev.phys f.addr) f.len).2 →
    Completes (.rdReq p f) s fun d =>
      (s.dev.shared 0 f.addr f.len = true → SentFlit s.dev d p f FT.rdResp f.src (poisonField l) (unmark l)) ∧
      (s.dev.shared 0 f.addr f.len = false →
        SentFlit s.dev d p f FT.rdResp f.src (poisonField (List.replicate f.len (0, true))) (List.replicate f.len 0) ∧
        d.fld Reg.dskInbCnt 31 0 = satAdd 32 (s.dev.fld Reg.dskInbCnt 31 0) 1 ∧ d.bitAt Reg.dskStatus 3 = true ∧
        (d.pairAt Src.dskInbound).level = 1) ∧
      d.sansMem = { s.dev with dsk := { s.dev.dsk with port := d.dsk.port, out := d.dsk.out } }.sansMem)) ∧
  ((∀ (s : State) (p : Nat) (f : Flit), f.dst = s.dev.devId →
    (s.dev.inTurn p FT.wrAck f →
      s.dev.dsk.rem.find? (fun r => decide (r.dev = f.src) && decide (r.addr = f.addr) && decide (r.read = false)) = none →
      Completes (.wrAck p f) s fun d => Handled s.dev d p f [] ∧ SameRegs s.dev d [] ∧
        d.sansRegs = { s.dev with dsk := { s.dev.dsk with port := d.dsk.port, out := d.dsk.out } }.sansRegs) ∧
    (s.dev.inTurn p FT.rdResp f →
      s.dev.dsk.rem.find? (fun r => decide (r.dev = f.src) && decide (r.addr = f.addr) && decide (r.read = true)) = none →
      Completes (.rdResp p f) s fun d => Handled s.dev d p f [] ∧ SameRegs s.dev d [] ∧
        d.sansRegs = { s.dev with dsk := { s.dev.dsk with port := d.dsk.port, out := d.dsk.out } }.sansRegs)) ∧
  (∀ (s : State) (p y : Nat) (f : Flit) (rd : Bool) (r : RemReq) (a : Act) (q : Request) (z : Bool × Nat), f.dst = s.dev.devId →
    s.dev.dsk.rem.find? (fun r => decide (r.dev = f.src) && decide (r.addr = f.addr) && decide (r.read = rd)) = some r →
    (s.dev.engAt r.eng).acts = [a] → (s.dev.engAt r.eng).queue = [] → a.out = [q] → a.next = a.total →
    q.remote = true → q.held = [] → q.idx = r.idx → s.dev.reqRemote a.word r.idx = some (z.1, y, z.2) →
    remDev y = r.dev → remAddr y = r.addr →
    (rd = false → s.dev.inTurn p FT.wrAck f →
      Completes (.wrAck p f) s fun d => RemoteAnswered s.dev d r a ∧ Handled s.dev d p f [] ∧ d.mem = s.dev.mem) ∧
    (rd = true → s.dev.inTurn p FT.rdResp f →
      Completes (.rdResp p f) s fun d => RemoteAnswered s.dev d r a ∧ Handled s.dev d p f [] ∧
        d.mem = (s.dev.reqWrite r.eng a.word r.idx (flitData f)).mem)) ∧
  (∀ (s : State) (p i : Nat) (f : Flit), s.dev.inTurn p FT.sig f → f.dst = s.dev.devId → s.dev.isStale f = false →
    i = leAt f.payload 0 1 % 16 → (∀ e, e < 168 → ∀ n, (s.dev.engAt e).blocked ≠ some (Ctr.dev i, n)) →
    s.dev.ctr (.dev i) + leAt f.payload 2 2 ≤ 0xFFFF →
    Completes (.sig p f) s fun d => d.ctr (.dev i) = s.dev.ctr (.dev i) + leAt f.payload 2 2 ∧ Handled s.dev d p f [] ∧
      SameRegs s.dev d [ctrReg (.dev i)] ∧
      d.sansRegs = { s.dev with dsk := { s.dev.dsk with port := d.dsk.port, out := d.dsk.out } }.sansRegs) ∧
  (∀ (s : State) (p : Nat) (f : Flit), s.dev.inTurn p FT.sig f → f.dst = s.dev.devId → s.dev.isStale f = true →
    Completes (.sig p f) s fun d => d.reg Reg.dskStaleCnt = word (satAdd 32 (s.dev.fld Reg.dskStaleCnt 31 0) 1) ∧
      d.bitAt Reg.dskStatus 4 = true ∧ SameRegs s.dev d [Reg.dskStaleCnt, Reg.dskStatus] ∧ Handled s.dev d p f [] ∧
      d.sansRegs = { s.dev with dsk := { s.dev.dsk with port := d.dsk.port, out := d.dsk.out } }.sansRegs))

/-- The master sends a TICK flit along every route; a follower holds the one of its master for its next tick; one that holds none marks the
frame, and the second in a row loses the master and claims; TIME carries the sender's time, and steps a follower whose master lies that
way (R189, R190).
A STATUS flit updates what its device last reported and counts qualifying flits in a row; a claim of a lower ID makes it the master;
after an election the lowest claiming ID is master, and a device that knows of none enters SAFE (R190, R191). -/
def Obligations.TickMasterAndElection : Prop :=
  ((∀ (s : State) (b : List Byte), s.dev.cmpAlive = true → s.dev.topo ≠ 0 → s.dev.isMaster = true →
    b = toLe 6 (s.dev.tck.expected / 1000000000) ++ toLe 4 (s.dev.tck.expected % 1000000000) ++ toLe 4 (s.dev.frame + 1).toNat ++
      toLe 4 s.dev.tck.period ++ toLe 1 (s.dev.dsk.annSv.getD 0 + 128 * b2n s.dev.dsk.annSafe) →
    Completes .tickFlitSend s fun d =>
      (∀ j o, j < 16 → s.dev.route j = some o → ∃ x : TxFlit, ((o, x) ∈ d.dsk.out ∨ x ∈ (d.portAt o).wait) ∧ x.type = FT.tick ∧
        x.flit.dst = j ∧ x.flit.payload = padFlit b) ∧
      ((∀ j o, s.dev.route j = some o → (s.dev.portAt o).replay.length + 16 ≤ 512 ∧ (s.dev.portAt o).wait = []) →
        ∃ l : List (Nat × TxFlit), d.dsk.out = s.dev.dsk.out ++ l ∧ (∀ x, x ∈ l → x.2.flit.payload = padFlit b) ∧
          l.map (fun x => (x.2.type, x.2.flit.dst)) =
            ((List.range 16).filter fun j => (s.dev.route j).isSome).map (fun j => (FT.tick, j))) ∧
      SameRegs s.dev d [] ∧ d.sansRegs = { s.dev with dsk := { s.dev.dsk with port := d.dsk.port, out := d.dsk.out } }.sansRegs) ∧
  (∀ (s : State) (p : Nat) (f : Flit), s.dev.inTurn p FT.tick f → f.dst = s.dev.devId →
    Completes (.tickFlit p f) s fun d => Handled s.dev d p f [] ∧
      (s.dev.follower = true → f.src = s.dev.masterId → d.dsk.lost = 0 ∧ d.dsk.periodUs = leAt f.payload 14 4 ∧
        d.dsk.nextTick = some (leAt f.payload 0 6 * 1000000000 + leAt f.payload 6 4, leAt f.payload 10 4, leAt f.payload 14 4,
          leAt f.payload 18 1 % 16, decide (128 ≤ leAt f.payload 18 1))) ∧
      (s.dev.follower = false ∨ f.src ≠ s.dev.masterId →
        d.dsk.nextTick = s.dev.dsk.nextTick ∧ d.dsk.lost = s.dev.dsk.lost ∧ d.dsk.periodUs = s.dev.dsk.periodUs) ∧
      SameRegs s.dev d [] ∧ d.sansRegs = { s.dev with dsk := { s.dev.dsk with
        port := d.dsk.port, out := d.dsk.out, nextTick := d.dsk.nextTick, lost := d.dsk.lost, periodUs := d.dsk.periodUs } }.sansRegs) ∧
  (∀ s : State, s.dev.cmpAlive = true → s.dev.follower = true → s.dev.dsk.nextTick = none →
    Completes .tickFlitMissing s fun d => d.dsk.sysCause = true ∧ d.bitAt Reg.dskStatus 5 = true ∧
      (s.dev.dsk.lost = 0 → d.dsk.lost = 1 ∧ d.dsk.hasMaster = s.dev.dsk.hasMaster) ∧
      (1 ≤ s.dev.dsk.lost → d.dsk.lost = 0 ∧ d.dsk.hasMaster = false ∧ d.bitAt Reg.dskStatus 7 = true ∧
        d.dsk.claimAt.isSome = true ∧ (d.sysAt s.dev.masterId).claim = false) ∧ SameRegs s.dev d [Reg.dskStatus] ∧
      d.sansRegs = { s.dev with dsk := d.dsk }.sansRegs) ∧
  (∀ (s : State) (p w : Nat) (f : Flit) (ofs : Int), s.dev.inTurn p FT.time f →
    ofs = ((leAt f.payload 0 6 * 1000000000 + leAt f.payload 6 4 + w : Nat) : Int) - s.dev.timNs →
    Completes (.timeFlit p f w) s fun d => (d.portAt p).peerDelay = w ∧ Handled s.dev d p f [] ∧
      (s.dev.follower = false ∨ s.dev.route s.dev.masterId ≠ some p ∨ ofs = 0 → d.tim = s.dev.tim ∧ SameRegs s.dev d []) ∧
      (s.dev.follower = true → s.dev.route s.dev.masterId = some p → ofs ≠ 0 → d.tim = (s.dev.tryStep ofs).tim) ∧
      d.eng = s.dev.eng ∧ d.mem = s.dev.mem) ∧
  (∀ (s : State) (p : Nat), s.dev.linkOn p = true →
    Completes (.timeFlitSend p) s fun d =>
      (∃ x : TxFlit, x.type = FT.time ∧ x.flit.payload = padFlit (toLe 6 s.dev.tim.sec ++ toLe 4 s.dev.tim.ns) ∧
        (s.dev.linkFree p → d.dsk.out = s.dev.dsk.out ++ [(p, x)]) ∧
        (¬ s.dev.linkFree p → d.dsk.out = s.dev.dsk.out ∧ (d.portAt p).wait = (s.dev.portAt p).wait ++ [x])) ∧
      SameRegs s.dev d [] ∧ d.sansRegs = { s.dev with dsk := { s.dev.dsk with port := d.dsk.port, out := d.dsk.out } }.sansRegs)) ∧
  ((∀ (s : State) (p : Nat) (f : Flit) (v : SysDev) (yield : Bool), s.dev.inTurn p FT.status f → f.dst = s.dev.devId →
    v = s.dev.sysAt f.src →
    yield = (decide (s.dev.topo ≠ 0) && s.dev.isMaster && flitClaim f && decide (f.src < s.dev.devId)) →
    Completes (.statusFlit p f (flitReport f)) s fun d =>
      d.sysAt f.src = { v with
        state := flitState f, sysTag := flitTag f, claim := flitClaim f && !yield, fresh := true
        streak := if stQual (flitState f) && decide (flitTag f = s.dev.sysTag) then v.streak + 1 else 0 } ∧
      (∀ n, n ≠ f.src → d.sysAt n = { s.dev.sysAt n with claim := (s.dev.sysAt n).claim && !yield }) ∧
      (yield = true → d.masterId = f.src ∧ d.bitAt Reg.dskStatus 27 = false ∧ d.bitAt Reg.dskStatus 6 = true ∧
        (d.pairAt Src.dskMaster).level = 1) ∧
      (yield = false → SameRegs s.dev d []) ∧ Handled s.dev d p f [] ∧
      d.sansMem = { s.dev with dsk := d.dsk }.sansMem ∧ d.mem = s.dev.mem) ∧
  (∀ (s : State) (m : Nat) (l : List Nat), s.dev.cmpAlive = true → s.dev.topo ≠ 0 → s.dev.dsk.claimAt.isSome = true →
    l = (List.range 16).filter (fun n => if n = s.dev.devId then s.dev.mayClaim else (s.dev.route n).isSome && (s.dev.sysAt n).claim) →
    Completes .masterElection s fun d =>
      (m ∈ l → (∀ n, n ∈ l → m ≤ n) → d.masterId = m ∧ d.dsk.hasMaster = true ∧ d.dsk.claimAt = none ∧
        d.bitAt Reg.dskStatus 27 = decide (m = s.dev.devId) ∧ OnlyRegs { s.dev with dsk := d.dsk } d [Reg.dskStatus]) ∧
      (l = [] → d.dsk.hasMaster = false ∧ d.bitAt Reg.dskStatus 27 = false ∧ d.dsk.claimAt = none ∧
        (s.dev.chk.dev = .configured ∨ s.dev.chk.dev.running = true → d.chk.dev = .safe ∧ d.chk.cause = 0xE2 ∧
          d.chk.lockout = false) ∧
        (s.dev.chk.dev = .safe → 0xE2 ∈ d.chk.causes))))

/-- A SEND that stands alone at the head of its engine hands its tensor to the sender in packets of at most 1024 bytes, and completes with the
last acknowledgement; acknowledgements come in the order of the packets (R133, R135, R223). -/
def Obligations.SendsLeaveAndComplete : Prop :=
  (∀ (s : State) (e : Nat) (h : FCmd) (w : CmdWord), engKind e = 3 → s.dev.solo e 0x42 h →
    w = stepWord h.word (s.dev.engAt e).loops → hdrCauses h.word = [] → sendCauses e s.dev w = [] → s.dev.waitMet e w →
    Completes (.send e) s fun d => (d.engAt e).queue = [] ∧
      d.apt.packets = s.dev.apt.packets ++
        packetsOf e (sendEntry w) ((s.dev.gate e w).1.readTag (s.dev.phys (mSrc w)) (sendLen w)).2 ∧
      (∃ a : Act, (d.engAt e).acts = [a] ∧ a.word = w ∧ a.addr = h.addr ∧ a.done = false ∧ a.acks = ceilDiv (sendLen w) 1024) ∧
      OtherEnginesRun s.dev d e ∧ d.sigs = s.dev.sigs ∧
      d.sansMem = { s.dev with eng := d.eng, apt := { s.dev.apt with packets := d.apt.packets } }.sansMem) ∧
  (∀ (s : State) (e : Nat), e < 168 → engKind e = 3 → s.dev.apt.acks.head? ≠ some e → Completes (.packetAck e) s fun d => d = s.dev) ∧
  (∀ (s : State) (e : Nat) (l : List Nat) (a : Act), e < 168 → engKind e = 3 → s.dev.apt.acks = e :: l → (s.dev.engAt e).acts = [a] →
    (s.dev.engAt e).queue = [] → opcode a.word = 0x42 → a.done = false → a.tag = none → s.dev.tck.abandoning = false →
    Completes (.packetAck e) s fun d => d.apt = { s.dev.apt with acks := l } ∧ OtherEngines s.dev d e ∧
      (1 < a.acks → d.engAt e = { s.dev.engAt e with acts := [{ a with acks := a.acks - 1 }] } ∧ d.sigs = s.dev.sigs) ∧
      (a.acks = 1 → d.engAt e = { s.dev.engAt e with acts := [] } ∧ d.sigs = s.dev.signalled e a.word) ∧
      d.sansRegs = { s.dev with eng := d.eng, sigs := d.sigs, apt := d.apt }.sansRegs)

/-- A check-in of the frame counts in its window, is EARLY before it, LATE after it and EXTRA over its COUNT; one of the frame before is LATE
or UNDECLARED by that frame's windows, one of another is STALE, one without a window UNDECLARED, and none counts while no window is
armed (R267, R269, R270, Table 10.3).
A window that closes short of its COUNT is MISSING, with the cause STAGE; after the last one the faults of the frame are published
(R267, R269). -/
def Obligations.StageWindows : Prop :=
  ((∀ (s : State) (m : MarkMsg) (l : List MarkMsg), s.dev.cmpAlive = true → s.dev.marks = m :: l → s.dev.stw.armed = false →
    Completes .markCheckin s fun d => d.marks = l ∧
      d.fld Reg.stwIgnoredCnt 31 0 = satAdd 32 (s.dev.fld Reg.stwIgnoredCnt 31 0) 1 ∧
      OnlyRegs { s.dev with marks := l } d [Reg.stwIgnoredCnt]) ∧
  (∀ (s : State) (m : MarkMsg) (l : List MarkMsg) (w : StwWin), s.dev.cmpAlive = true → s.dev.marks = m :: l →
    s.dev.stw.armed = true → m.frame = s.dev.stw.frame → s.dev.winAt m.stage = some w →
    Completes .markCheckin s fun d => d.marks = l ∧
      ((w.openUs * 1000 : Nat) ≤ s.dev.sinceTickNs → s.dev.sinceTickNs < (w.closeUs * 1000 : Nat) → w.closed = false →
        w.got < w.count → d.winAt m.stage = some { w with got := min 15 (w.got + 1) } ∧ d.stw.flags = s.dev.stw.flags ∧
        OnlyRegs { s.dev with marks := l, stw := d.stw } d []) ∧
      ((w.openUs * 1000 : Nat) ≤ s.dev.sinceTickNs → s.dev.sinceTickNs < (w.closeUs * 1000 : Nat) → w.closed = false →
        w.count ≤ w.got → w.extra = false →
        d.stw.flags = s.dev.stw.flags ||| 1 ∧ (∃ x, d.winAt m.stage = some x ∧ x.extra = true)) ∧
      (s.dev.sinceTickNs < (w.openUs * 1000 : Nat) →
        d.stw.flags = s.dev.stw.flags ||| 4 ∧ d.winAt m.stage = some { w with timing := true }) ∧
      ((w.openUs * 1000 : Nat) ≤ s.dev.sinceTickNs → (w.closeUs * 1000 : Nat) ≤ s.dev.sinceTickNs ∨ w.closed = true →
        d.stw.flags = s.dev.stw.flags ||| 8 ∧ d.winAt m.stage = some { w with timing := true }) ∧
      d.mem = s.dev.mem ∧ d.eng = s.dev.eng) ∧
  (∀ (s : State) (m : MarkMsg) (l : List MarkMsg), s.dev.cmpAlive = true → s.dev.marks = m :: l → s.dev.stw.armed = true →
    (m.frame = s.dev.stw.frame ∧ s.dev.winAt m.stage = none ∧ s.dev.tck.active.isSome = true) ∨
      (m.frame ≠ s.dev.stw.frame ∧ m.frame + 1 ≠ s.dev.stw.frame) →
    Completes .markCheckin s fun d => d.marks = l ∧ d.pend Src.stwFault = true ∧ Caused s.dev d 12 ∧
      d.stw = { s.dev.stw with
        flags := s.dev.stw.flags ||| (if m.frame = s.dev.stw.frame then 16 else 32) }) ∧
  (∀ (s : State) (m : MarkMsg) (l : List MarkMsg), s.dev.cmpAlive = true → s.dev.marks = m :: l → s.dev.stw.armed = true →
    m.frame ≠ s.dev.stw.frame → m.frame + 1 = s.dev.stw.frame →
    Completes .markCheckin s fun d => d.marks = l ∧ d.stw = s.dev.stw ∧
      (s.dev.stw.prev = none ∨ (∃ k, s.dev.stw.prev = some (k, false) ∧ m.stage ∉ k) →
        d.fld Reg.stwIgnoredCnt 31 0 = satAdd 32 (s.dev.fld Reg.stwIgnoredCnt 31 0) 1 ∧
        OnlyRegs { s.dev with marks := l } d [Reg.stwIgnoredCnt]) ∧
      (∀ k b, s.dev.stw.prev = some (k, b) → m.stage ∈ k ∨ b = true →
        d.bitAt Reg.stwFault (if m.stage ∈ k then 3 else 4) = true ∧ Caused s.dev d 15 ∧ d.pend Src.stwFault = true))) ∧
  (∀ (s : State) (n : Nat) (w : StwWin), s.dev.chk.power = true → s.dev.winAt n = some w → s.dev.stw.armed = true →
    (w.closeUs * 1000 : Nat) ≤ s.dev.sinceTickNs → w.closed = false →
    Completes (.stageWindowClose n) s fun d =>
      d.winAt n = some { w with closed := true, missing := decide (w.got < w.count) } ∧
      (∀ m, m ≠ n → d.winAt m = s.dev.winAt m) ∧
      (w.got < w.count → d.stw.flags = s.dev.stw.flags ||| 2 ∧ Caused s.dev d 12 ∧ d.pend Src.stwFault = true) ∧
      (w.count ≤ w.got → d.stw.flags = s.dev.stw.flags ∧ d.apt = s.dev.apt ∧ d.chk = s.dev.chk) ∧
      (d.winsClosed = true →
        d.reg Reg.stwFault = word (s.dev.stw.frame.toNat * 65536 + d.stw.flags.toNat) ∧
        d.reg Reg.stwMissingLo = word (stageMask d.stw.wins (·.missing))))

/-- The all-END report settles once; a packet joins what has come of its entry, with its mark, and its SE is owed the acknowledgement; a packet out
of turn is an entry error; none is taken while a message of a higher class waits (R53, R223, R224, R237, R238).
The lowest entry whose comparison can end is compared: a failed replica pair is PARALLAX with its lower entry, a failed challenge answer
CHALLENGE with its slot (R234, R236). -/
def Obligations.EntriesArriveAndCompare : Prop :=
  ((∀ s : State, s.dev.cmpAlive = true →
    Completes .allEndReport s fun d => d = { s.dev with apt := d.apt } ∧
      d.apt = { s.dev.apt with allEndAt :=
        if s.dev.tck.allEndSent = true ∧ s.dev.apt.allEndAt = none then some s.dev.q else s.dev.apt.allEndAt }) ∧
  (∀ (s : State) (bs : Option (List Byte)) (lead : Nat), s.dev.cmpAlive = true →
    s.dev.apt.next = none ∨ s.dev.apertureBusy (s.dev.q - lead * cQ) = true →
    Completes (.aperturePacket ⟨bs, lead⟩) s fun d => d = s.dev) ∧
  (∀ (s : State) (bs : Option (List Byte)) (lead : Nat) (p : Packet) (m : ManEntry), s.dev.cmpAlive = true →
    s.dev.apertureBusy (s.dev.q - lead * cQ) = false → s.dev.apt.next = some p → s.dev.manEntry p.entry = some m →
    Completes (.aperturePacket ⟨bs, lead⟩) s fun d => d.apt.packets = s.dev.apt.packets.erase p ∧ d.apt.turn = p.eng ∧
      d.apt.acks = s.dev.apt.acks ++ [p.eng] ∧
      ((s.dev.recvAt p.entry).arrival = none → p.ofs = (s.dev.recvAt p.entry).data.length →
        (d.recvAt p.entry).data = (s.dev.recvAt p.entry).data ++ p.bytes ∧
        (d.recvAt p.entry).poison = ((s.dev.recvAt p.entry).poison || p.marks.any id) ∧
        ((d.recvAt p.entry).arrival.isSome = true ↔ m.len ≤ p.ofs + p.bytes.length) ∧
        (p.marks.any id = true → s.dev.apt.issued = false → d.apt.causes.getLsbD 4 = true)) ∧
      ((s.dev.recvAt p.entry).arrival.isSome = true ∨ p.ofs ≠ (s.dev.recvAt p.entry).data.length →
        d.recvAt p.entry = s.dev.recvAt p.entry ∧ (s.dev.apt.issued = false → d.apt.causes.getLsbD 2 = true)) ∧
      (∀ i, i ≠ p.entry → d.recvAt i = s.dev.recvAt i) ∧ d.mem = s.dev.mem ∧ d.eng = s.dev.eng ∧ d.stw = s.dev.stw)) ∧
  (∀ (s : State) (i : Nat) (m : ManEntry), s.dev.chk.power = true →
    (List.range s.dev.tck.plan.man.entries.length).find? (fun i => s.dev.cmpReady i) = some i → s.dev.manEntry i = some m →
    Completes .comparisonComplete s fun d => (d.recvAt i).cmpDone = true ∧
      (m.kind = 4 → m.partner ≠ i → (d.recvAt m.partner).cmpDone = true ∧
        ((s.dev.recvAt m.partner).poison = true ∨
            tensorPasses m (s.dev.recvAt i).data (s.dev.recvAt m.partner).data true = true →
          d.apt.causes = s.dev.apt.causes ∧ d.apt.parFail = s.dev.apt.parFail) ∧
        ((s.dev.recvAt m.partner).poison = false →
            tensorPasses m (s.dev.recvAt i).data (s.dev.recvAt m.partner).data true = false →
          Caused s.dev d 10 ∧ d.apt.parFail = some (s.dev.apt.parFail.getD (min i m.partner)))) ∧
      (m.kind ≠ 4 → ∀ t, s.dev.tileAt m.partner = some t →
        (tensorPasses m (s.dev.recvAt i).data t.answer false = true → d.apt.causes = s.dev.apt.causes ∧
          d.apt.chalFail = s.dev.apt.chalFail) ∧
        (tensorPasses m (s.dev.recvAt i).data t.answer false = false → Caused s.dev d 8 ∧
          d.apt.chalFail = some (s.dev.apt.chalFail.getD m.partner))) ∧
      d = { s.dev with apt := d.apt })

/-- The drawn tiles are those of the command where each fits its slot; the write of a slot puts its tile's input there, and after the last slot
of a Facet counter 31 of it gets READERS (R232, R233). -/
def Obligations.ChallengesAreSpliced : Prop :=
  (∀ (s : State) (l : List Nat), s.dev.cmpAlive = true →
    Completes (.challengeSplice l) s fun d => d = { s.dev with apt := d.apt } ∧
      (s.dev.apt.spliceDue = true → l.length = s.dev.tck.plan.man.slots.length →
        (∀ i t, l[i]? = some t → s.dev.drawOk i t = true) →
        d.apt.draws = l ∧ d.apt.spliceDue = false ∧ d.apt.splicing = decide (0 < l.length) ∧ d.apt.slotNext = 0) ∧
      (s.dev.apt.spliceDue = false ∨ l.length ≠ s.dev.tck.plan.man.slots.length → d = s.dev)) ∧
  (∀ (s : State) (x : ManSlot) (t : Tile) (r : ReadRes), s.dev.cmpAlive = true → s.dev.apt.splicing = true →
    s.dev.tck.plan.man.slots[s.dev.apt.slotNext]? = some x → s.dev.tileAt s.dev.apt.slotNext = some t →
    r = s.dev.readMem (s.dev.tileAddr (s.dev.phi (slotFacet x)) t) t.inLen → r.poison = false →
    crc32c 0xFFFFFFFF r.bytes = t.inCrc.toNat → (∀ e, e < 168 → (s.dev.engAt e).blocked = none) →
    Completes .challengeSlotDone s fun d => d.mem = (r.dev.writeMem (r.dev.phys x.addr) r.bytes false).mem ∧
      d.apt.slotNext = s.dev.apt.slotNext + 1 ∧ d.apt.causes = s.dev.apt.causes ∧
      d.apt.splicing = !(s.dev.tck.plan.man.slots.drop (s.dev.apt.slotNext + 1)).isEmpty ∧
      ((∃ y, y ∈ s.dev.tck.plan.man.slots.drop (s.dev.apt.slotNext + 1) ∧ slotFacet y = slotFacet x) →
        d.ctr (.fct (s.dev.phi (slotFacet x)) 31) = s.dev.ctr (.fct (s.dev.phi (slotFacet x)) 31)) ∧
      ((∀ y, y ∈ s.dev.tck.plan.man.slots.drop (s.dev.apt.slotNext + 1) → slotFacet y ≠ slotFacet x) →
        s.dev.phi (slotFacet x) < 4 → d.ctr (.fct (s.dev.phi (slotFacet x)) 31) =
          min 0xFFFF (s.dev.ctr (.fct (s.dev.phi (slotFacet x)) 31) + nth s.dev.tck.plan.man.readers (slotFacet x) 0)))

/-- The verdict of a frame waits for every condition; issued, it follows Table 9.6, is shown with the causes, counts in its register and in
the m-of-n window, sets the restriction, and leaves a record to publish (R240 to R245).
The oldest record that waits is published: its entries go to the result buffer, and the record with the next ALIVE to its area
(R245). -/
def Obligations.VerdictsAndRecords : Prop :=
  ((∀ s : State, s.dev.apt.issued = true ∨ s.dev.verdictReady = false → s.dev.chk.power = true → s.dev.chk.dev ≠ .fatal →
    Completes .verdict s fun d => d = s.dev) ∧
  (∀ s : State, s.dev.apt.issued = false → s.dev.verdictReady = true → s.dev.apt.none_ = true → s.dev.chk.power = true →
    s.dev.chk.dev ≠ .fatal →
    Completes .verdict s fun d => d.apt.verdict = .none ∧ d.apt.issued = true ∧ d.apt.window = s.dev.apt.window ∧
      d.reg Reg.aptVerdict = word (s.dev.frame.toNat % 65536 * 65536) ∧ SameRegs s.dev d [Reg.aptVerdict] ∧
      d.apt.pub.length = s.dev.apt.pub.length + 1 ∧ d.chk = s.dev.chk) ∧
  (∀ s : State, s.dev.apt.issued = false → s.dev.verdictReady = true → s.dev.apt.none_ = false → s.dev.chk.power = true →
    s.dev.chk.dev ≠ .fatal →
    Completes .verdict s fun d => d.apt.issued = true ∧
      (∀ b, s.dev.apt.causes.getLsbD b = true → d.apt.causes.getLsbD b = true) ∧ d.reg Reg.aptCause = d.apt.causes ∧
      (d.apt.causes.getLsbD 0 = true → d.apt.verdict = .overrun) ∧
      (d.apt.causes.getLsbD 0 = false → d.apt.causes.toNat % 0x20000 ≠ 0 → d.apt.verdict = .untrusted) ∧
      (d.apt.causes.toNat % 0x20000 = 0 → s.dev.apt.healthy < 4 ∨ s.dev.apt.sv ≠ 0 → d.apt.verdict = .degraded) ∧
      (d.apt.causes.toNat % 0x20000 = 0 → s.dev.apt.healthy = 4 → s.dev.apt.sv = 0 → d.apt.verdict = .trusted) ∧
      d.reg Reg.aptVerdict = word (s.dev.frame.toNat % 65536 * 65536 + d.apt.verdict.code) ∧
      (d.apt.verdict.bad = true → d.apt.restrict = 2 ∧ d.apt.speed = 0 ∧ d.pend Src.aptUntrusted = true) ∧
      (d.apt.verdict.good = true → d.apt.restrict = s.dev.apt.restrict - 1) ∧
      (s.dev.chk.dev.running = true → d.apt.window = (d.apt.verdict :: s.dev.apt.window).take s.dev.safetySet.n ∧
        (s.dev.safetySet.m ≤ d.apt.badCount → ⟨0xE0, true⟩ ∈ d.chk.decisions)) ∧
      d.apt.pub.length = s.dev.apt.pub.length + 1 ∧ d.mem = s.dev.mem)) ∧
  (∀ (s : State) (p : Pub) (l : List Pub), s.dev.apt.pub = p :: l → s.dev.chk.power = true → s.dev.chk.dev ≠ .fatal →
    Completes .resultRecordPublish s fun d => d.apt.pub = l ∧
      d.reg Reg.aptAlive = word ((s.dev.fld Reg.aptAlive 15 0 + 1) % 65536) ∧
      tabGet [] d.apt.records (p.frame % 2) = p.pre ++ toLe 2 ((s.dev.fld Reg.aptAlive 15 0 + 1) % 65536) ++ p.post ++
        toLe 4 (crc32c s.dev.boot.img.device.resSeed.toNat
          (p.pre ++ toLe 2 ((s.dev.fld Reg.aptAlive 15 0 + 1) % 65536) ++ p.post ++ p.stamps)) ++ p.stamps ∧
      tabGet [] d.apt.records (1 - p.frame % 2) = tabGet [] s.dev.apt.records (1 - p.frame % 2) ∧
      d.mem = (p.copies.foldl (fun d c => d.writeMem c.1 c.2 false) s.dev).mem ∧
      (s.dev.cmpAlive = true → s.dev.vecHeld 2 = false → tabGet 0 d.hif.sent 2 = tabGet 0 s.dev.hif.sent 2 + 1))

/-- An edge of one phase counts by one, a change of both counts nothing and is an error (SIO_ENC_DISC where more than 4 fall within 10 ms), a
pulse under 25 ns is rejected; the reference pulse sets the position to Z_POS. Each channel has its own counters. Which phase order counts
up is the model's choice, log 30, that channel B's errors are the counted ones, log 41 (R320 to R322, R327).
A sample takes both counts of its channel; over the limit, against the direction or outside the position range at two samples in a row,
it locks SIO_LOCK, withdraws both requests and raises SIO_LIMIT; a new class takes the limit on from where it was (R321, R325, R326, R328). -/
def Obligations.EncodersAndSpeed : Prop :=
  ((∀ (s : State) (c : Chan) (n h : Nat) (a b : Bool) (e : Encoder), s.dev.chk.power = true → n < 2 → 25 ≤ h → e = s.dev.encAt c n →
    (a = e.a ∧ b ≠ e.b) ∨ (a ≠ e.a ∧ b = e.b) →
    Completes (.encoderEdge ⟨c, n, h⟩ a b e.z) s fun d =>
      d.encAt c n = { e with a := a, b := b, count := e.count + quadStep e a b } ∧
      (quadStep e a b = 1 ∨ quadStep e a b = -1) ∧
      (∀ x m, m < 2 → (x, m) ≠ (c, n) → d.encAt x m = s.dev.encAt x m) ∧ d = { s.dev with sio := d.sio } ∧
      d.sio = { s.dev.sio with chA := d.sio.chA, chB := d.sio.chB }) ∧
  (∀ (s : State) (c : Chan) (n h : Nat) (e : Encoder) (l : List Nat), s.dev.chk.power = true → n < 2 → 25 ≤ h →
    e = s.dev.encAt c n → l = e.bad.filter (fun t => decide (s.dev.q < t + 10 * msQ)) →
    Completes (.encoderEdge ⟨c, n, h⟩ (!e.a) (!e.b) e.z) s fun d =>
      (d.encAt c n).count = e.count ∧ (d.encAt c n).bad = s.dev.q :: l ∧
      (∀ x m, m < 2 → (x, m) ≠ (c, n) → d.encAt x m = s.dev.encAt x m) ∧
      d.fld Reg.sioEncErr 15 0 = (if c = .b ∧ n = 0 then satAdd 16 (s.dev.fld Reg.sioEncErr 15 0) 1 else s.dev.fld Reg.sioEncErr 15 0) ∧
      d.fld Reg.sioEncErr 31 16 = (if c = .b ∧ n = 1 then satAdd 16 (s.dev.fld Reg.sioEncErr 31 16) 1 else s.dev.fld Reg.sioEncErr 31 16) ∧
      (l.length < 4 → d.sio.lock = s.dev.sio.lock ∧ OnlyRegs { s.dev with sio := d.sio } d [Reg.sioEncErr]) ∧
      (4 ≤ l.length → d.sio.lock = s.dev.sio.lock ||| 8 ∧ d.pend Src.encDisc = true ∧ d.sio.chA.referenced = false ∧
        d.sio.chB.referenced = false ∧ d.sio.chA.req = false ∧ d.sio.chB.req = false)) ∧
  (∀ (s : State) (c : Chan) (n h : Nat) (a b z : Bool), s.dev.chk.power = true → n < 2 → h < 25 →
    Completes (.encoderEdge ⟨c, n, h⟩ a b z) s fun d => d = s.dev) ∧
  (∀ (s : State) (c : Chan) (h : Nat) (e : Encoder), s.dev.chk.power = true → s.dev.safetySet.slpEn = true → 25 ≤ h →
    e = (s.dev.chanAt c).enc0 → (s.dev.chanAt c).referenced = false → e.z = false →
    Completes (.encoderEdge ⟨c, 0, h⟩ e.a e.b true) s fun d => (d.chanAt c).referenced = true ∧
      d.posNm c = s.dev.safetySet.zPos * 1000 ∧ (d.chanAt c).enc0.count = e.count ∧
      d.chanAt (otherChan c) = s.dev.chanAt (otherChan c) ∧ d = { s.dev with sio := d.sio })) ∧
  ((∀ s : State, s.dev.chk.power = true →
    Completes .speedSampleA s (Sampled s.dev .a) ∧ Completes .speedSampleB s (Sampled s.dev .b)) ∧
  (∀ (s : State) (c : Chan), s.dev.chk.power = true →
    Completes (.speedClassChange c) s fun d =>
      (s.dev.apt.speed = (s.dev.chanAt c).cls → d = s.dev) ∧
      (s.dev.apt.speed ≠ (s.dev.chanAt c).cls → (d.chanAt c).cls = s.dev.apt.speed ∧ (d.chanAt c).clsFrom = s.dev.q ∧
        (d.chanAt c).limFrom = (s.dev.chanAt c).limit s.dev.safetySet s.dev.q ∧
        ((classRec s.dev.safetySet s.dev.apt.speed).sto = true → (d.chanAt c).req = false ∧
          ((classRec s.dev.safetySet s.dev.apt.speed).latch = true → d.sio.lock = s.dev.sio.lock ||| 64 ∧
            d.sio.chA.req = false ∧ d.sio.chB.req = false) ∧
          ((classRec s.dev.safetySet s.dev.apt.speed).latch = false → d.sio.lock = s.dev.sio.lock)) ∧
        ((classRec s.dev.safetySet s.dev.apt.speed).sto = false → d.sio.lock = s.dev.sio.lock ∧
          d.chanAt (otherChan c) = s.dev.chanAt (otherChan c)) ∧
        d = { s.dev with sio := d.sio })))

/-- An input that opens starts an emergency-stop demand: it is counted, both requests go, no pulse returns, and RUN and DEGRADED go to SAFE
and SAFE adds the cause; inputs that disagree lock SIO_LOCK and raise SIO_ESTOP_DISC (R329, R330, R332, R422). When a demand starts and
ends is the model's reading, log 31.
A read of the sealed switches that equals the sealed value in every sample changes no state of the device; another raises SIO_SEAL, and RUN
and DEGRADED go to SAFE with cause 0x55, which SAFE adds (R319, R422). Which sample SIO_SEAL shows is the model's (log 32). -/
def Obligations.StopAndSeal : Prop :=
  ((∀ (s : State) (c : Chan) (second : Bool), s.dev.chk.power = true → s.dev.sio.demand = false →
    Completes (.estopInput c second false) s fun d => d.sio.demand = true ∧
      d.fld Reg.sioDemandCnt 31 0 = satAdd 32 (s.dev.fld Reg.sioDemandCnt 31 0) 1 ∧
      d.sio.chA.req = false ∧ d.sio.chB.req = false ∧ (if second then (d.chanAt c).estopB else (d.chanAt c).estopA) = false ∧
      (∀ o, (d.outAt o).waitA = false ∧ (d.outAt o).waitB = false ∧ ((d.outAt o).pulseAt = none ∨ (d.outAt o).demand = true)) ∧
      d.chk = (if s.dev.chk.dev.maySafe then { s.dev.chk with decisions := s.dev.chk.decisions ++ [Decision.mk 0xE5 true] }
        else s.dev.chk) ∧ OnlyRegs { s.dev with sio := d.sio, chk := d.chk } d [Reg.sioDemandCnt]) ∧
  (∀ (s : State) (c : Chan) (second : Bool), s.dev.chk.power = true → s.dev.sio.demand = true →
    Completes (.estopInput c second false) s fun d => d.sio.demand = true ∧
      (if second then (d.chanAt c).estopB else (d.chanAt c).estopA) = false ∧ d = { s.dev with sio := d.sio }) ∧
  (∀ (s : State) (c : Chan) (second : Bool), s.dev.chk.power = true →
    Completes (.estopInput c second true) s fun d => (if second then (d.chanAt c).estopB else (d.chanAt c).estopA) = true ∧
      d.sio.demand = (s.dev.sio.demand && !d.estopClosed) ∧ d = { s.dev with sio := d.sio }) ∧
  (∀ (s : State) (c : Chan), s.dev.chk.power = true →
    Completes (.estopDiscrepancy c) s fun d =>
      ((s.dev.chanAt c).estopA = (s.dev.chanAt c).estopB → d = s.dev) ∧
      ((s.dev.chanAt c).estopA ≠ (s.dev.chanAt c).estopB → d.sio.lock = s.dev.sio.lock ||| 16 ∧ d.pend Src.estopDisc = true ∧
        d.sio.chA.req = false ∧ d.sio.chB.req = false ∧ d.sio.discClear = false))) ∧
  (∀ (s : State) (r : SealRead), s.dev.chk.power = true → s.dev.chk.dev ≠ .boot →
    Completes (.sealRead r) s fun d =>
      (sealAll r s.dev.boot.sealed = true → d.sio.sealEqual = min 3 (s.dev.sio.sealEqual + 1) ∧ d.chk = s.dev.chk ∧
        OnlyRegs { s.dev with sio := d.sio, boot := d.boot } d [Reg.sioSeal]) ∧
      (sealAll r s.dev.boot.sealed = false → d.sio.sealEqual = 0 ∧ d.bitAt Reg.sioStatus 3 = true ∧ d.pend Src.sealChg = true ∧
        (s.dev.chk.dev.maySafe = true → ⟨0x55, true⟩ ∈ d.chk.decisions)) ∧
      d.boot.sealed = s.dev.boot.sealed ∧ d.fld Reg.sioSeal 31 16 =
        r.b2.code.toNat * 256 + r.b2.selN.toNat * 16 + r.b2.sel.toNat)

/-- The reset button (R335 to R337): a press opens on the level; its valid release in both channels within 5 ms is judged when its c-cycle
ends, accepted where every condition holds and else ignored and counted; a short one is counted once, 3 s hold it, and an armed reset
lapses after 10 s. -/
def Obligations.ResetButton : Prop :=
  (∀ (s : State) (c : Chan), s.dev.chk.power = true → (s.dev.chanAt c).resetIn = false →
    Completes (.sresetInLevel c true) s fun d => d.chanAt c = { s.dev.chanAt c with
        resetIn := true, resetAt := s.dev.q, stuck := false, release := none, short := false
        pressOk := decide ((s.dev.chanAt c).resetAt + 100 * msQ ≤ s.dev.q) } ∧
      d.chanAt (otherChan c) = { s.dev.chanAt (otherChan c) with short := false } ∧
      ((s.dev.chanAt c).release = none → d = { s.dev with sio := d.sio }) ∧
      ((s.dev.chanAt c).release.isSome = true → d.fld Reg.sioResetCnt 23 16 = satAdd 8 (s.dev.fld Reg.sioResetCnt 23 16) 1 ∧
        OnlyRegs { s.dev with sio := d.sio } d [Reg.sioResetCnt])) ∧
  (∀ (s : State) (c : Chan) (h o : Channel), s.dev.chk.power = true → h = s.dev.chanAt c → o = s.dev.chanAt (otherChan c) →
    h.resetIn = true → h.pressOk = true → h.stuck = false → h.resetAt + 100 * msQ ≤ s.dev.q → s.dev.q < h.resetAt + 3000 * msQ →
    Completes (.sresetInLevel c false) s fun d => (d.chanAt c).resetIn = false ∧ (d.chanAt c).pressOk = false ∧ d.chk = s.dev.chk ∧
      (o.resetIn = true → o.pressOk = true → o.stuck = false →
        (d.chanAt c).release = some s.dev.q ∧ d.sio.press = s.dev.sio.press ∧ d = { s.dev with sio := d.sio }) ∧
      (∀ t, o.resetIn = false ∨ o.pressOk = false ∨ o.stuck = true → o.release = some t → s.dev.q ≤ t + 5 * msQ →
        d.sio.press = true ∧ d = { s.dev with sio := d.sio }) ∧
      (o.resetIn = false ∨ o.pressOk = false ∨ o.stuck = true → (∀ t, o.release = some t → t + 5 * msQ < s.dev.q) →
        d.fld Reg.sioResetCnt 23 16 = satAdd 8 (s.dev.fld Reg.sioResetCnt 23 16) 1 ∧ d.sio.press = s.dev.sio.press ∧
        OnlyRegs { s.dev with sio := d.sio } d [Reg.sioResetCnt])) ∧
  (∀ d : Device, (d.sio.press = false → d.pressJudge = d) ∧
    (d.sio.press = true → d.resetOk = true → d.pressJudge.chk = { d.chk with accepted := true } ∧
      d.pressJudge.fld Reg.sioResetCnt 31 24 = satAdd 8 (d.fld Reg.sioResetCnt 31 24) 1 ∧ d.pressJudge.sio.press = false) ∧
    (d.sio.press = true → d.resetOk = false → d.pressJudge.chk = d.chk ∧
      d.pressJudge.fld Reg.sioResetCnt 23 16 = satAdd 8 (d.fld Reg.sioResetCnt 23 16) 1 ∧ d.pressJudge.sio.press = false)) ∧
  (∀ (s : State) (c : Chan) (h : Channel), s.dev.chk.power = true → h = s.dev.chanAt c → h.resetIn = true → h.pressOk = true →
    h.stuck = false → s.dev.q < h.resetAt + 100 * msQ →
    Completes (.sresetInLevel c false) s fun d => (d.chanAt c).resetIn = false ∧ (d.chanAt (otherChan c)).release =
        (if (s.dev.chanAt (otherChan c)).short then (s.dev.chanAt (otherChan c)).release else none) ∧ d.chk = s.dev.chk ∧
      d.fld Reg.sioResetCnt 15 8 = (if (s.dev.chanAt (otherChan c)).short then s.dev.fld Reg.sioResetCnt 15 8
        else satAdd 8 (s.dev.fld Reg.sioResetCnt 15 8) 1) ∧ OnlyRegs { s.dev with sio := d.sio } d [Reg.sioResetCnt]) ∧
  (∀ (s : State) (c : Chan), s.dev.chk.power = true → (s.dev.chanAt c).resetIn = true → (s.dev.chanAt c).pressOk = true →
    (s.dev.chanAt c).stuck = false →
    Completes (.resetHeld3s c) s fun d => (d.chanAt c).stuck = true ∧ (d.chanAt (otherChan c)).release = none ∧
      ((s.dev.chanAt (otherChan c)).stuck = false → d.bitAt Reg.sioStatus 2 = true ∧ d.pend Src.resetStuck = true ∧
        d.fld Reg.sioResetCnt 7 0 = satAdd 8 (s.dev.fld Reg.sioResetCnt 7 0) 1) ∧
      ((s.dev.chanAt (otherChan c)).stuck = true → d.fld Reg.sioResetCnt 7 0 = s.dev.fld Reg.sioResetCnt 7 0 ∧
        OnlyRegs { s.dev with sio := d.sio } d [Reg.sioResetCnt])) ∧
  (∀ s : State, s.dev.chk.power = true →
    Completes .armedResetLapse s fun d =>
      ((∃ t, s.dev.chk.armedAt = some t ∧ t + 10 * sQ ≤ s.dev.q) → d = { s.dev with chk := { s.dev.chk with armedAt := none } }) ∧
      ((∀ t, s.dev.chk.armedAt = some t → s.dev.q < t + 10 * sQ) → d = s.dev))

/-- An output has a switch per channel, closed only while that channel requests enable; an enable within a slot waits for its end; a test
pulse opens the output's own switch at the start of its slot, and the end of the slot closes it again unless enable was withdrawn; a
readback that contradicts the output locks SIO_LOCK, judged by each channel for itself (R314, R315, R331 to R333). -/
def Obligations.OutputsFollowRequests : Prop :=
  (∀ (s : State) (c o : Chan) (x : Output), s.dev.chk.power = true → s.dev.mayEnable c = true → x = s.dev.outAt o →
    Completes (.enableRequestChange c o) s fun d => (d.chanAt c).req = true ∧
      ((if c = .a then x.swA else x.swB) = true → d.outAt o = x) ∧
      ((if c = .a then x.swA else x.swB) = false → inSlot o s.dev.q = false → x.pulseAt = none →
        (d.outAt o).swA = (x.swA || decide (c = .a)) ∧ (d.outAt o).swB = (x.swB || decide (c = .b))) ∧
      ((if c = .a then x.swA else x.swB) = false → inSlot o s.dev.q = true ∨ x.pulseAt.isSome = true →
        d.outAt o = { x with waitA := x.waitA || decide (c = .a), waitB := x.waitB || decide (c = .b) }) ∧
      d.outAt (otherChan o) = s.dev.outAt (otherChan o) ∧ d.chanAt (otherChan c) = s.dev.chanAt (otherChan c) ∧
      d = { s.dev with sio := d.sio }) ∧
  (∀ (s : State) (c o : Chan), s.dev.chk.power = true → s.dev.mayEnable c = false →
    Completes (.enableRequestChange c o) s fun d => (d.chanAt c).req = false ∧
      (if c = .a then (d.outAt o).swA else (d.outAt o).swB) = false ∧
      (∀ y, (if c = .a then (d.outAt y).waitA else (d.outAt y).waitB) = false ∧
        ((d.outAt y).pulseAt = none ∨ (d.outAt y).demand = true)) ∧
      d.outAt (otherChan o) = (s.dev.outAt (otherChan o)).noDemand (otherChan o) (decide (c = .a)) (decide (c = .b)) s.dev.q ∧
      d.chanAt (otherChan c) = s.dev.chanAt (otherChan c) ∧ d = { s.dev with sio := d.sio }) ∧
  (∀ (s : State) (o : Chan), s.dev.chk.power = true →
    Completes (.testPulseStart o) s fun d =>
      (∀ t, (s.dev.outAt o).onAt = some t → (s.dev.outAt o).swA = true → (s.dev.outAt o).swB = true → slotPhase o s.dev.q = 0 →
        t + msQ ≤ s.dev.q →
        (d.outAt o).swA = decide (o = .b) ∧ (d.outAt o).swB = decide (o = .a) ∧ (d.outAt o).pulseAt = some s.dev.q ∧
        d.outAt (otherChan o) = s.dev.outAt (otherChan o) ∧ d = { s.dev with sio := d.sio }) ∧
      (slotPhase o s.dev.q ≠ 0 ∨ (s.dev.outAt o).onAt = none ∨ (s.dev.outAt o).swA = false ∨ (s.dev.outAt o).swB = false ∨
        (∃ t, (s.dev.outAt o).onAt = some t ∧ s.dev.q < t + msQ) → d = s.dev)) ∧
  (∀ (s : State) (o : Chan) (x : Output), s.dev.chk.power = true → x = s.dev.outAt o →
    Completes (.testPulseEnd o) s fun d => (inSlot o s.dev.q = true → d = s.dev) ∧
      (inSlot o s.dev.q = false → (d.outAt o).pulseAt = none ∧ (d.outAt o).waitA = false ∧ (d.outAt o).waitB = false ∧
        (d.outAt o).swA = (x.swA || x.waitA || (decide (o = .a) && x.pulseAt.isSome && !x.demand)) ∧
        (d.outAt o).swB = (x.swB || x.waitB || (decide (o = .b) && x.pulseAt.isSome && !x.demand)) ∧
        d.outAt (otherChan o) = s.dev.outAt (otherChan o) ∧ d = { s.dev with sio := d.sio })) ∧
  (∀ (s : State) (c o : Chan) (level bad : Bool), s.dev.chk.power = true →
    bad = ((s.dev.outAt o).judge (s.dev.outAt (otherChan o)) c level s.dev.q).1 →
    Completes (.readbackSample c o level) s fun d => (d.outAt o).fb = level ∧
      (bad = true → (s.dev.outAt o).failRunA = false → (s.dev.outAt o).failRunB = false →
        d.sio.lock = s.dev.sio.lock ||| 32 ∧ d.bitAt Reg.sioStatus 1 = true ∧ d.pend Src.feedback = true ∧
        d.fld Reg.sioPulseCnt 31 16 = satAdd 16 (s.dev.fld Reg.sioPulseCnt 31 16) 1 ∧ d.sio.chA.req = false ∧
        d.sio.chB.req = false) ∧
      (bad = true → (s.dev.outAt o).failRunA = true ∨ (s.dev.outAt o).failRunB = true →
        d.sio.lock = s.dev.sio.lock ∧ d = { s.dev with sio := d.sio }) ∧
      (bad = false → (d.outAt o).swA = (s.dev.outAt o).swA ∧ (d.outAt o).swB = (s.dev.outAt o).swB ∧
        d.sio.lock = s.dev.sio.lock ∧ d.sio.chA = s.dev.sio.chA ∧ d.sio.chB = s.dev.sio.chB ∧
        d.outAt (otherChan o) = s.dev.outAt (otherChan o) ∧ OnlyRegs { s.dev with sio := d.sio } d [Reg.sioPulseCnt]))
end

