-- ==== Sys2Proof/Laws/Tab.lean ====
section
/-! SUPPORT. Laws of the sparse tables that hold registers, memories and the parts of the device. -/

namespace Sys2Proof.Machine

variable {α : Type}

/-! ## Read after write -/

theorem tabGet_filter_self (dflt : α) (t : Tab α) (k : Nat) :
    tabGet dflt (t.filter fun e => !decide (e.1 = k)) k = dflt := by
  induction t with
  | nil => rfl
  | cons e t ih =>
    by_cases h : e.1 = k
    · simpa [h] using ih
    · have h' : k ≠ e.1 := fun x => h x.symm
      simpa [h, tabGet, h'] using ih

theorem tabGet_filter_ne (dflt : α) (t : Tab α) (k j : Nat) (h : j ≠ k) :
    tabGet dflt (t.filter fun e => !decide (e.1 = k)) j = tabGet dflt t j := by
  induction t with
  | nil => rfl
  | cons e t ih =>
    by_cases he : e.1 = k
    · have hj : j ≠ e.1 := fun x => h (x.trans he)
      simpa [he, tabGet, h] using ih
    · simp only [List.filter_cons, he, decide_false, Bool.not_false, if_true, tabGet, ih]

theorem tabGet_ins_self (dflt : α) (t : Tab α) (k : Nat) (v : α) (h : tabGet dflt t k = dflt ∨ ∀ e ∈ t, e.1 ≠ k)
    (hk : ∀ e ∈ t, e.1 ≠ k) : tabGet dflt (tabIns t k v) k = v := by
  induction t with
  | nil => simp [tabIns, tabGet]
  | cons e t ih =>
    have he : k ≠ e.1 := fun x => hk e (by simp) x.symm
    have ht : ∀ x ∈ t, x.1 ≠ k := fun x hx => hk x (by simp [hx])
    by_cases hlt : k < e.1
    · simp [tabIns, hlt, tabGet]
    · simp [tabIns, hlt, tabGet, he, ih (Or.inr ht) ht]

theorem tabGet_ins_ne (dflt : α) (t : Tab α) (k j : Nat) (v : α) (h : j ≠ k) :
    tabGet dflt (tabIns t k v) j = tabGet dflt t j := by
  induction t with
  | nil => simp [tabIns, tabGet, h]
  | cons e t ih =>
    by_cases hlt : k < e.1
    · simp [tabIns, hlt, tabGet, h]
    · simp [tabIns, hlt, tabGet, ih]

variable [DecidableEq α]

/-- The value written is read back. -/
@[simp] theorem tabGet_tabSet_same (dflt : α) (t : Tab α) (k : Nat) (v : α) :
    tabGet dflt (tabSet dflt t k v) k = v := by
  unfold tabSet
  by_cases h : v = dflt
  · simpa [h] using tabGet_filter_self dflt t k
  · have hk : ∀ e ∈ t.filter (fun e => !decide (e.1 = k)), e.1 ≠ k := by
      intro e he
      simpa using (List.mem_filter.mp he).2
    simpa [h] using tabGet_ins_self dflt _ k v (Or.inr hk) hk

/-- A write leaves every other key alone. -/
theorem tabGet_tabSet_ne (dflt : α) (t : Tab α) {k j : Nat} (v : α) (h : j ≠ k) :
    tabGet dflt (tabSet dflt t k v) j = tabGet dflt t j := by
  unfold tabSet
  by_cases hv : v = dflt
  · simpa [hv] using tabGet_filter_ne dflt t k j h
  · have := tabGet_filter_ne dflt t k j h
    simpa [hv, tabGet_ins_ne dflt _ k j v h] using this

/-- A table that is written under one default and read under another: registers, whose defaults differ. -/
theorem tabGet_tabSet_other (d₁ d₂ : α) (t : Tab α) {k j : Nat} (v : α) (h : j ≠ k) :
    tabGet d₂ (tabSet d₁ t k v) j = tabGet d₂ t j := by
  unfold tabSet
  by_cases hv : v = d₁
  · simpa [hv] using tabGet_filter_ne d₂ t k j h
  · have := tabGet_filter_ne d₂ t k j h
    simpa [hv, tabGet_ins_ne d₂ _ k j v h] using this

/-! ## The canonical form -/

omit [DecidableEq α] in
theorem tabAbove_filter (k : Nat) (p : Nat × α → Bool) (t : Tab α) (h : tabAbove k t = true) :
    tabAbove k (t.filter p) = true := by
  induction t with
  | nil => rfl
  | cons e t ih =>
    simp only [tabAbove, Bool.and_eq_true, decide_eq_true_eq] at h
    by_cases hp : p e
    · simp [hp, tabAbove, h.1, ih h.2]
    · simp [hp, ih h.2]

omit [DecidableEq α] in
theorem tabAbove_trans {k k' : Nat} (hk : k < k') (t : Tab α) (h : tabAbove k' t = true) : tabAbove k t = true := by
  induction t with
  | nil => rfl
  | cons e t ih =>
    simp only [tabAbove, Bool.and_eq_true, decide_eq_true_eq] at h ⊢
    exact ⟨by omega, ih h.2⟩

omit [DecidableEq α] in
theorem tabAbove_ins (k j : Nat) (v : α) (t : Tab α) (hj : k < j) (h : tabAbove k t = true) :
    tabAbove k (tabIns t j v) = true := by
  induction t with
  | nil => simp [tabIns, tabAbove, hj]
  | cons e t ih =>
    simp only [tabAbove, Bool.and_eq_true, decide_eq_true_eq] at h
    by_cases hlt : j < e.1
    · simp [tabIns, hlt, tabAbove, hj, h.1, h.2]
    · simp [tabIns, hlt, tabAbove, h.1, ih h.2]

/-- Dropping entries keeps the canonical form. -/
theorem tabWf_filter (dflt : α) (p : Nat × α → Bool) (t : Tab α) (h : tabWf dflt t = true) :
    tabWf dflt (t.filter p) = true := by
  induction t with
  | nil => rfl
  | cons e t ih =>
    simp only [tabWf, Bool.and_eq_true, decide_eq_true_eq] at h
    by_cases hp : p e
    · simp [hp, tabWf, tabAbove_filter _ _ _ h.1.1, h.1.2, ih h.2]
    · simp [hp, ih h.2]

theorem tabWf_ins (dflt : α) (t : Tab α) (k : Nat) (v : α) (h : tabWf dflt t = true) (hv : v ≠ dflt)
    (hk : ∀ e ∈ t, e.1 ≠ k) : tabWf dflt (tabIns t k v) = true := by
  induction t with
  | nil => simp [tabIns, tabWf, tabAbove, hv]
  | cons e t ih =>
    have hf := h
    simp only [tabWf, Bool.and_eq_true, decide_eq_true_eq] at h
    have he : e.1 ≠ k := hk e (by simp)
    by_cases hlt : k < e.1
    · simp [tabIns, hlt, tabWf, tabAbove, tabAbove_trans hlt t h.1.1, hv, h.1.1, h.1.2, h.2]
    · simp [tabIns, hlt, tabWf, tabAbove_ins e.1 k v t (by omega) h.1.1, h.1.2,
        ih h.2 fun x hx => hk x (by simp [hx])]

/-- A write keeps the canonical form. -/
theorem tabWf_tabSet (dflt : α) (t : Tab α) (k : Nat) (v : α) (h : tabWf dflt t = true) :
    tabWf dflt (tabSet dflt t k v) = true := by
  unfold tabSet
  by_cases hv : v = dflt
  · simpa [hv] using tabWf_filter dflt _ t h
  · have hk : ∀ e ∈ t.filter (fun e => !decide (e.1 = k)), e.1 ≠ k := by
      intro e he
      simpa using (List.mem_filter.mp he).2
    simpa [hv] using tabWf_ins dflt _ k v (tabWf_filter dflt _ t h) hv hk

/-- Dropping a range of keys keeps the canonical form. -/
theorem tabWf_tabDrop (dflt : α) (t : Tab α) (lo hi : Nat) (h : tabWf dflt t = true) :
    tabWf dflt (tabDrop t lo hi) = true := tabWf_filter dflt _ t h

end Sys2Proof.Machine
end

