-- ==== Sys2Proof/Laws/State.lean ====
section
/-! SUPPORT. Laws of the state: one lemma per field per update, and reading a register after writing one. -/

namespace Sys2Proof.Machine

variable (d : Device)

/-! ## setReg -/

@[simp] theorem Device.setReg_q (k : Nat) (v : Word) : (d.setReg k v).q = d.q := rfl
@[simp] theorem Device.setReg_free (k : Nat) (v : Word) : (d.setReg k v).free = d.free := rfl
@[simp] theorem Device.setReg_chk (k : Nat) (v : Word) : (d.setReg k v).chk = d.chk := rfl
@[simp] theorem Device.setReg_boot (k : Nat) (v : Word) : (d.setReg k v).boot = d.boot := rfl
@[simp] theorem Device.setReg_tck (k : Nat) (v : Word) : (d.setReg k v).tck = d.tck := rfl
@[simp] theorem Device.setReg_eng (k : Nat) (v : Word) : (d.setReg k v).eng = d.eng := rfl
@[simp] theorem Device.setReg_me (k : Nat) (v : Word) : (d.setReg k v).me = d.me := rfl
@[simp] theorem Device.setReg_sigs (k : Nat) (v : Word) : (d.setReg k v).sigs = d.sigs := rfl
@[simp] theorem Device.setReg_marks (k : Nat) (v : Word) : (d.setReg k v).marks = d.marks := rfl
@[simp] theorem Device.setReg_mem (k : Nat) (v : Word) : (d.setReg k v).mem = d.mem := rfl
@[simp] theorem Device.setReg_facet (k : Nat) (v : Word) : (d.setReg k v).facet = d.facet := rfl
@[simp] theorem Device.setReg_prism (k : Nat) (v : Word) : (d.setReg k v).prism = d.prism := rfl
@[simp] theorem Device.setReg_bg (k : Nat) (v : Word) : (d.setReg k v).bg = d.bg := rfl
@[simp] theorem Device.setReg_rsv (k : Nat) (v : Word) : (d.setReg k v).rsv = d.rsv := rfl
@[simp] theorem Device.setReg_model0 (k : Nat) (v : Word) : (d.setReg k v).model0 = d.model0 := rfl
@[simp] theorem Device.setReg_model1 (k : Nat) (v : Word) : (d.setReg k v).model1 = d.model1 := rfl
@[simp] theorem Device.setReg_load (k : Nat) (v : Word) : (d.setReg k v).load = d.load := rfl
@[simp] theorem Device.setReg_hif (k : Nat) (v : Word) : (d.setReg k v).hif = d.hif := rfl
@[simp] theorem Device.setReg_tim (k : Nat) (v : Word) : (d.setReg k v).tim = d.tim := rfl
@[simp] theorem Device.setReg_ctime (k : Nat) (v : Word) : (d.setReg k v).ctime = d.ctime := rfl
@[simp] theorem Device.setReg_lens (k : Nat) (v : Word) : (d.setReg k v).lens = d.lens := rfl
@[simp] theorem Device.setReg_eth (k : Nat) (v : Word) : (d.setReg k v).eth = d.eth := rfl
@[simp] theorem Device.setReg_rng (k : Nat) (v : Word) : (d.setReg k v).rng = d.rng := rfl
@[simp] theorem Device.setReg_apt (k : Nat) (v : Word) : (d.setReg k v).apt = d.apt := rfl
@[simp] theorem Device.setReg_stw (k : Nat) (v : Word) : (d.setReg k v).stw = d.stw := rfl
@[simp] theorem Device.setReg_core (k : Nat) (v : Word) : (d.setReg k v).core = d.core := rfl
@[simp] theorem Device.setReg_wdg (k : Nat) (v : Word) : (d.setReg k v).wdg = d.wdg := rfl
@[simp] theorem Device.setReg_ladder (k : Nat) (v : Word) : (d.setReg k v).ladder = d.ladder := rfl
@[simp] theorem Device.setReg_cvu (k : Nat) (v : Word) : (d.setReg k v).cvu = d.cvu := rfl
@[simp] theorem Device.setReg_flt (k : Nat) (v : Word) : (d.setReg k v).flt = d.flt := rfl
@[simp] theorem Device.setReg_sio (k : Nat) (v : Word) : (d.setReg k v).sio = d.sio := rfl
@[simp] theorem Device.setReg_prf (k : Nat) (v : Word) : (d.setReg k v).prf = d.prf := rfl
@[simp] theorem Device.setReg_nvm (k : Nat) (v : Word) : (d.setReg k v).nvm = d.nvm := rfl
@[simp] theorem Device.setReg_dsk (k : Nat) (v : Word) : (d.setReg k v).dsk = d.dsk := rfl
@[simp] theorem Device.setReg_raceAt (k : Nat) (v : Word) : (d.setReg k v).raceAt = d.raceAt := rfl
@[simp] theorem Device.setReg_races (k : Nat) (v : Word) : (d.setReg k v).races = d.races := rfl

/-! ## setFld -/

@[simp] theorem Device.setFld_q (k hi lo v : Nat) : (d.setFld k hi lo v).q = d.q := rfl
@[simp] theorem Device.setFld_free (k hi lo v : Nat) : (d.setFld k hi lo v).free = d.free := rfl
@[simp] theorem Device.setFld_chk (k hi lo v : Nat) : (d.setFld k hi lo v).chk = d.chk := rfl
@[simp] theorem Device.setFld_boot (k hi lo v : Nat) : (d.setFld k hi lo v).boot = d.boot := rfl
@[simp] theorem Device.setFld_tck (k hi lo v : Nat) : (d.setFld k hi lo v).tck = d.tck := rfl
@[simp] theorem Device.setFld_eng (k hi lo v : Nat) : (d.setFld k hi lo v).eng = d.eng := rfl
@[simp] theorem Device.setFld_me (k hi lo v : Nat) : (d.setFld k hi lo v).me = d.me := rfl
@[simp] theorem Device.setFld_sigs (k hi lo v : Nat) : (d.setFld k hi lo v).sigs = d.sigs := rfl
@[simp] theorem Device.setFld_marks (k hi lo v : Nat) : (d.setFld k hi lo v).marks = d.marks := rfl
@[simp] theorem Device.setFld_mem (k hi lo v : Nat) : (d.setFld k hi lo v).mem = d.mem := rfl
@[simp] theorem Device.setFld_facet (k hi lo v : Nat) : (d.setFld k hi lo v).facet = d.facet := rfl
@[simp] theorem Device.setFld_prism (k hi lo v : Nat) : (d.setFld k hi lo v).prism = d.prism := rfl
@[simp] theorem Device.setFld_bg (k hi lo v : Nat) : (d.setFld k hi lo v).bg = d.bg := rfl
@[simp] theorem Device.setFld_rsv (k hi lo v : Nat) : (d.setFld k hi lo v).rsv = d.rsv := rfl
@[simp] theorem Device.setFld_model0 (k hi lo v : Nat) : (d.setFld k hi lo v).model0 = d.model0 := rfl
@[simp] theorem Device.setFld_model1 (k hi lo v : Nat) : (d.setFld k hi lo v).model1 = d.model1 := rfl
@[simp] theorem Device.setFld_load (k hi lo v : Nat) : (d.setFld k hi lo v).load = d.load := rfl
@[simp] theorem Device.setFld_hif (k hi lo v : Nat) : (d.setFld k hi lo v).hif = d.hif := rfl
@[simp] theorem Device.setFld_tim (k hi lo v : Nat) : (d.setFld k hi lo v).tim = d.tim := rfl
@[simp] theorem Device.setFld_ctime (k hi lo v : Nat) : (d.setFld k hi lo v).ctime = d.ctime := rfl
@[simp] theorem Device.setFld_lens (k hi lo v : Nat) : (d.setFld k hi lo v).lens = d.lens := rfl
@[simp] theorem Device.setFld_eth (k hi lo v : Nat) : (d.setFld k hi lo v).eth = d.eth := rfl
@[simp] theorem Device.setFld_rng (k hi lo v : Nat) : (d.setFld k hi lo v).rng = d.rng := rfl
@[simp] theorem Device.setFld_apt (k hi lo v : Nat) : (d.setFld k hi lo v).apt = d.apt := rfl
@[simp] theorem Device.setFld_stw (k hi lo v : Nat) : (d.setFld k hi lo v).stw = d.stw := rfl
@[simp] theorem Device.setFld_core (k hi lo v : Nat) : (d.setFld k hi lo v).core = d.core := rfl
@[simp] theorem Device.setFld_wdg (k hi lo v : Nat) : (d.setFld k hi lo v).wdg = d.wdg := rfl
@[simp] theorem Device.setFld_ladder (k hi lo v : Nat) : (d.setFld k hi lo v).ladder = d.ladder := rfl
@[simp] theorem Device.setFld_cvu (k hi lo v : Nat) : (d.setFld k hi lo v).cvu = d.cvu := rfl
@[simp] theorem Device.setFld_flt (k hi lo v : Nat) : (d.setFld k hi lo v).flt = d.flt := rfl
@[simp] theorem Device.setFld_sio (k hi lo v : Nat) : (d.setFld k hi lo v).sio = d.sio := rfl
@[simp] theorem Device.setFld_prf (k hi lo v : Nat) : (d.setFld k hi lo v).prf = d.prf := rfl
@[simp] theorem Device.setFld_nvm (k hi lo v : Nat) : (d.setFld k hi lo v).nvm = d.nvm := rfl
@[simp] theorem Device.setFld_dsk (k hi lo v : Nat) : (d.setFld k hi lo v).dsk = d.dsk := rfl
@[simp] theorem Device.setFld_raceAt (k hi lo v : Nat) : (d.setFld k hi lo v).raceAt = d.raceAt := rfl
@[simp] theorem Device.setFld_races (k hi lo v : Nat) : (d.setFld k hi lo v).races = d.races := rfl

/-! ## setBit -/

@[simp] theorem Device.setBit_q (k i : Nat) (b : Bool) : (d.setBit k i b).q = d.q := rfl
@[simp] theorem Device.setBit_free (k i : Nat) (b : Bool) : (d.setBit k i b).free = d.free := rfl
@[simp] theorem Device.setBit_chk (k i : Nat) (b : Bool) : (d.setBit k i b).chk = d.chk := rfl
@[simp] theorem Device.setBit_boot (k i : Nat) (b : Bool) : (d.setBit k i b).boot = d.boot := rfl
@[simp] theorem Device.setBit_tck (k i : Nat) (b : Bool) : (d.setBit k i b).tck = d.tck := rfl
@[simp] theorem Device.setBit_eng (k i : Nat) (b : Bool) : (d.setBit k i b).eng = d.eng := rfl
@[simp] theorem Device.setBit_me (k i : Nat) (b : Bool) : (d.setBit k i b).me = d.me := rfl
@[simp] theorem Device.setBit_sigs (k i : Nat) (b : Bool) : (d.setBit k i b).sigs = d.sigs := rfl
@[simp] theorem Device.setBit_marks (k i : Nat) (b : Bool) : (d.setBit k i b).marks = d.marks := rfl
@[simp] theorem Device.setBit_mem (k i : Nat) (b : Bool) : (d.setBit k i b).mem = d.mem := rfl
@[simp] theorem Device.setBit_facet (k i : Nat) (b : Bool) : (d.setBit k i b).facet = d.facet := rfl
@[simp] theorem Device.setBit_prism (k i : Nat) (b : Bool) : (d.setBit k i b).prism = d.prism := rfl
@[simp] theorem Device.setBit_bg (k i : Nat) (b : Bool) : (d.setBit k i b).bg = d.bg := rfl
@[simp] theorem Device.setBit_rsv (k i : Nat) (b : Bool) : (d.setBit k i b).rsv = d.rsv := rfl
@[simp] theorem Device.setBit_model0 (k i : Nat) (b : Bool) : (d.setBit k i b).model0 = d.model0 := rfl
@[simp] theorem Device.setBit_model1 (k i : Nat) (b : Bool) : (d.setBit k i b).model1 = d.model1 := rfl
@[simp] theorem Device.setBit_load (k i : Nat) (b : Bool) : (d.setBit k i b).load = d.load := rfl
@[simp] theorem Device.setBit_hif (k i : Nat) (b : Bool) : (d.setBit k i b).hif = d.hif := rfl
@[simp] theorem Device.setBit_tim (k i : Nat) (b : Bool) : (d.setBit k i b).tim = d.tim := rfl
@[simp] theorem Device.setBit_ctime (k i : Nat) (b : Bool) : (d.setBit k i b).ctime = d.ctime := rfl
@[simp] theorem Device.setBit_lens (k i : Nat) (b : Bool) : (d.setBit k i b).lens = d.lens := rfl
@[simp] theorem Device.setBit_eth (k i : Nat) (b : Bool) : (d.setBit k i b).eth = d.eth := rfl
@[simp] theorem Device.setBit_rng (k i : Nat) (b : Bool) : (d.setBit k i b).rng = d.rng := rfl
@[simp] theorem Device.setBit_apt (k i : Nat) (b : Bool) : (d.setBit k i b).apt = d.apt := rfl
@[simp] theorem Device.setBit_stw (k i : Nat) (b : Bool) : (d.setBit k i b).stw = d.stw := rfl
@[simp] theorem Device.setBit_core (k i : Nat) (b : Bool) : (d.setBit k i b).core = d.core := rfl
@[simp] theorem Device.setBit_wdg (k i : Nat) (b : Bool) : (d.setBit k i b).wdg = d.wdg := rfl
@[simp] theorem Device.setBit_ladder (k i : Nat) (b : Bool) : (d.setBit k i b).ladder = d.ladder := rfl
@[simp] theorem Device.setBit_cvu (k i : Nat) (b : Bool) : (d.setBit k i b).cvu = d.cvu := rfl
@[simp] theorem Device.setBit_flt (k i : Nat) (b : Bool) : (d.setBit k i b).flt = d.flt := rfl
@[simp] theorem Device.setBit_sio (k i : Nat) (b : Bool) : (d.setBit k i b).sio = d.sio := rfl
@[simp] theorem Device.setBit_prf (k i : Nat) (b : Bool) : (d.setBit k i b).prf = d.prf := rfl
@[simp] theorem Device.setBit_nvm (k i : Nat) (b : Bool) : (d.setBit k i b).nvm = d.nvm := rfl
@[simp] theorem Device.setBit_dsk (k i : Nat) (b : Bool) : (d.setBit k i b).dsk = d.dsk := rfl
@[simp] theorem Device.setBit_raceAt (k i : Nat) (b : Bool) : (d.setBit k i b).raceAt = d.raceAt := rfl
@[simp] theorem Device.setBit_races (k i : Nat) (b : Bool) : (d.setBit k i b).races = d.races := rfl

/-! ## count -/

@[simp] theorem Device.count_q (k hi lo a : Nat) : (d.count k hi lo a).q = d.q := rfl
@[simp] theorem Device.count_free (k hi lo a : Nat) : (d.count k hi lo a).free = d.free := rfl
@[simp] theorem Device.count_chk (k hi lo a : Nat) : (d.count k hi lo a).chk = d.chk := rfl
@[simp] theorem Device.count_boot (k hi lo a : Nat) : (d.count k hi lo a).boot = d.boot := rfl
@[simp] theorem Device.count_tck (k hi lo a : Nat) : (d.count k hi lo a).tck = d.tck := rfl
@[simp] theorem Device.count_eng (k hi lo a : Nat) : (d.count k hi lo a).eng = d.eng := rfl
@[simp] theorem Device.count_me (k hi lo a : Nat) : (d.count k hi lo a).me = d.me := rfl
@[simp] theorem Device.count_sigs (k hi lo a : Nat) : (d.count k hi lo a).sigs = d.sigs := rfl
@[simp] theorem Device.count_marks (k hi lo a : Nat) : (d.count k hi lo a).marks = d.marks := rfl
@[simp] theorem Device.count_mem (k hi lo a : Nat) : (d.count k hi lo a).mem = d.mem := rfl
@[simp] theorem Device.count_facet (k hi lo a : Nat) : (d.count k hi lo a).facet = d.facet := rfl
@[simp] theorem Device.count_prism (k hi lo a : Nat) : (d.count k hi lo a).prism = d.prism := rfl
@[simp] theorem Device.count_bg (k hi lo a : Nat) : (d.count k hi lo a).bg = d.bg := rfl
@[simp] theorem Device.count_rsv (k hi lo a : Nat) : (d.count k hi lo a).rsv = d.rsv := rfl
@[simp] theorem Device.count_model0 (k hi lo a : Nat) : (d.count k hi lo a).model0 = d.model0 := rfl
@[simp] theorem Device.count_model1 (k hi lo a : Nat) : (d.count k hi lo a).model1 = d.model1 := rfl
@[simp] theorem Device.count_load (k hi lo a : Nat) : (d.count k hi lo a).load = d.load := rfl
@[simp] theorem Device.count_hif (k hi lo a : Nat) : (d.count k hi lo a).hif = d.hif := rfl
@[simp] theorem Device.count_tim (k hi lo a : Nat) : (d.count k hi lo a).tim = d.tim := rfl
@[simp] theorem Device.count_ctime (k hi lo a : Nat) : (d.count k hi lo a).ctime = d.ctime := rfl
@[simp] theorem Device.count_lens (k hi lo a : Nat) : (d.count k hi lo a).lens = d.lens := rfl
@[simp] theorem Device.count_eth (k hi lo a : Nat) : (d.count k hi lo a).eth = d.eth := rfl
@[simp] theorem Device.count_rng (k hi lo a : Nat) : (d.count k hi lo a).rng = d.rng := rfl
@[simp] theorem Device.count_apt (k hi lo a : Nat) : (d.count k hi lo a).apt = d.apt := rfl
@[simp] theorem Device.count_stw (k hi lo a : Nat) : (d.count k hi lo a).stw = d.stw := rfl
@[simp] theorem Device.count_core (k hi lo a : Nat) : (d.count k hi lo a).core = d.core := rfl
@[simp] theorem Device.count_wdg (k hi lo a : Nat) : (d.count k hi lo a).wdg = d.wdg := rfl
@[simp] theorem Device.count_ladder (k hi lo a : Nat) : (d.count k hi lo a).ladder = d.ladder := rfl
@[simp] theorem Device.count_cvu (k hi lo a : Nat) : (d.count k hi lo a).cvu = d.cvu := rfl
@[simp] theorem Device.count_flt (k hi lo a : Nat) : (d.count k hi lo a).flt = d.flt := rfl
@[simp] theorem Device.count_sio (k hi lo a : Nat) : (d.count k hi lo a).sio = d.sio := rfl
@[simp] theorem Device.count_prf (k hi lo a : Nat) : (d.count k hi lo a).prf = d.prf := rfl
@[simp] theorem Device.count_nvm (k hi lo a : Nat) : (d.count k hi lo a).nvm = d.nvm := rfl
@[simp] theorem Device.count_dsk (k hi lo a : Nat) : (d.count k hi lo a).dsk = d.dsk := rfl
@[simp] theorem Device.count_raceAt (k hi lo a : Nat) : (d.count k hi lo a).raceAt = d.raceAt := rfl
@[simp] theorem Device.count_races (k hi lo a : Nat) : (d.count k hi lo a).races = d.races := rfl

/-! ## incr -/

@[simp] theorem Device.incr_q (k : Nat) : (d.incr k).q = d.q := rfl
@[simp] theorem Device.incr_free (k : Nat) : (d.incr k).free = d.free := rfl
@[simp] theorem Device.incr_chk (k : Nat) : (d.incr k).chk = d.chk := rfl
@[simp] theorem Device.incr_boot (k : Nat) : (d.incr k).boot = d.boot := rfl
@[simp] theorem Device.incr_tck (k : Nat) : (d.incr k).tck = d.tck := rfl
@[simp] theorem Device.incr_eng (k : Nat) : (d.incr k).eng = d.eng := rfl
@[simp] theorem Device.incr_me (k : Nat) : (d.incr k).me = d.me := rfl
@[simp] theorem Device.incr_sigs (k : Nat) : (d.incr k).sigs = d.sigs := rfl
@[simp] theorem Device.incr_marks (k : Nat) : (d.incr k).marks = d.marks := rfl
@[simp] theorem Device.incr_mem (k : Nat) : (d.incr k).mem = d.mem := rfl
@[simp] theorem Device.incr_facet (k : Nat) : (d.incr k).facet = d.facet := rfl
@[simp] theorem Device.incr_prism (k : Nat) : (d.incr k).prism = d.prism := rfl
@[simp] theorem Device.incr_bg (k : Nat) : (d.incr k).bg = d.bg := rfl
@[simp] theorem Device.incr_rsv (k : Nat) : (d.incr k).rsv = d.rsv := rfl
@[simp] theorem Device.incr_model0 (k : Nat) : (d.incr k).model0 = d.model0 := rfl
@[simp] theorem Device.incr_model1 (k : Nat) : (d.incr k).model1 = d.model1 := rfl
@[simp] theorem Device.incr_load (k : Nat) : (d.incr k).load = d.load := rfl
@[simp] theorem Device.incr_hif (k : Nat) : (d.incr k).hif = d.hif := rfl
@[simp] theorem Device.incr_tim (k : Nat) : (d.incr k).tim = d.tim := rfl
@[simp] theorem Device.incr_ctime (k : Nat) : (d.incr k).ctime = d.ctime := rfl
@[simp] theorem Device.incr_lens (k : Nat) : (d.incr k).lens = d.lens := rfl
@[simp] theorem Device.incr_eth (k : Nat) : (d.incr k).eth = d.eth := rfl
@[simp] theorem Device.incr_rng (k : Nat) : (d.incr k).rng = d.rng := rfl
@[simp] theorem Device.incr_apt (k : Nat) : (d.incr k).apt = d.apt := rfl
@[simp] theorem Device.incr_stw (k : Nat) : (d.incr k).stw = d.stw := rfl
@[simp] theorem Device.incr_core (k : Nat) : (d.incr k).core = d.core := rfl
@[simp] theorem Device.incr_wdg (k : Nat) : (d.incr k).wdg = d.wdg := rfl
@[simp] theorem Device.incr_ladder (k : Nat) : (d.incr k).ladder = d.ladder := rfl
@[simp] theorem Device.incr_cvu (k : Nat) : (d.incr k).cvu = d.cvu := rfl
@[simp] theorem Device.incr_flt (k : Nat) : (d.incr k).flt = d.flt := rfl
@[simp] theorem Device.incr_sio (k : Nat) : (d.incr k).sio = d.sio := rfl
@[simp] theorem Device.incr_prf (k : Nat) : (d.incr k).prf = d.prf := rfl
@[simp] theorem Device.incr_nvm (k : Nat) : (d.incr k).nvm = d.nvm := rfl
@[simp] theorem Device.incr_dsk (k : Nat) : (d.incr k).dsk = d.dsk := rfl
@[simp] theorem Device.incr_raceAt (k : Nat) : (d.incr k).raceAt = d.raceAt := rfl
@[simp] theorem Device.incr_races (k : Nat) : (d.incr k).races = d.races := rfl

/-! ## setReg64 -/

@[simp] theorem Device.setReg64_q (k v : Nat) : (d.setReg64 k v).q = d.q := rfl
@[simp] theorem Device.setReg64_free (k v : Nat) : (d.setReg64 k v).free = d.free := rfl
@[simp] theorem Device.setReg64_chk (k v : Nat) : (d.setReg64 k v).chk = d.chk := rfl
@[simp] theorem Device.setReg64_boot (k v : Nat) : (d.setReg64 k v).boot = d.boot := rfl
@[simp] theorem Device.setReg64_tck (k v : Nat) : (d.setReg64 k v).tck = d.tck := rfl
@[simp] theorem Device.setReg64_eng (k v : Nat) : (d.setReg64 k v).eng = d.eng := rfl
@[simp] theorem Device.setReg64_me (k v : Nat) : (d.setReg64 k v).me = d.me := rfl
@[simp] theorem Device.setReg64_sigs (k v : Nat) : (d.setReg64 k v).sigs = d.sigs := rfl
@[simp] theorem Device.setReg64_marks (k v : Nat) : (d.setReg64 k v).marks = d.marks := rfl
@[simp] theorem Device.setReg64_mem (k v : Nat) : (d.setReg64 k v).mem = d.mem := rfl
@[simp] theorem Device.setReg64_facet (k v : Nat) : (d.setReg64 k v).facet = d.facet := rfl
@[simp] theorem Device.setReg64_prism (k v : Nat) : (d.setReg64 k v).prism = d.prism := rfl
@[simp] theorem Device.setReg64_bg (k v : Nat) : (d.setReg64 k v).bg = d.bg := rfl
@[simp] theorem Device.setReg64_rsv (k v : Nat) : (d.setReg64 k v).rsv = d.rsv := rfl
@[simp] theorem Device.setReg64_model0 (k v : Nat) : (d.setReg64 k v).model0 = d.model0 := rfl
@[simp] theorem Device.setReg64_model1 (k v : Nat) : (d.setReg64 k v).model1 = d.model1 := rfl
@[simp] theorem Device.setReg64_load (k v : Nat) : (d.setReg64 k v).load = d.load := rfl
@[simp] theorem Device.setReg64_hif (k v : Nat) : (d.setReg64 k v).hif = d.hif := rfl
@[simp] theorem Device.setReg64_tim (k v : Nat) : (d.setReg64 k v).tim = d.tim := rfl
@[simp] theorem Device.setReg64_ctime (k v : Nat) : (d.setReg64 k v).ctime = d.ctime := rfl
@[simp] theorem Device.setReg64_lens (k v : Nat) : (d.setReg64 k v).lens = d.lens := rfl
@[simp] theorem Device.setReg64_eth (k v : Nat) : (d.setReg64 k v).eth = d.eth := rfl
@[simp] theorem Device.setReg64_rng (k v : Nat) : (d.setReg64 k v).rng = d.rng := rfl
@[simp] theorem Device.setReg64_apt (k v : Nat) : (d.setReg64 k v).apt = d.apt := rfl
@[simp] theorem Device.setReg64_stw (k v : Nat) : (d.setReg64 k v).stw = d.stw := rfl
@[simp] theorem Device.setReg64_core (k v : Nat) : (d.setReg64 k v).core = d.core := rfl
@[simp] theorem Device.setReg64_wdg (k v : Nat) : (d.setReg64 k v).wdg = d.wdg := rfl
@[simp] theorem Device.setReg64_ladder (k v : Nat) : (d.setReg64 k v).ladder = d.ladder := rfl
@[simp] theorem Device.setReg64_cvu (k v : Nat) : (d.setReg64 k v).cvu = d.cvu := rfl
@[simp] theorem Device.setReg64_flt (k v : Nat) : (d.setReg64 k v).flt = d.flt := rfl
@[simp] theorem Device.setReg64_sio (k v : Nat) : (d.setReg64 k v).sio = d.sio := rfl
@[simp] theorem Device.setReg64_prf (k v : Nat) : (d.setReg64 k v).prf = d.prf := rfl
@[simp] theorem Device.setReg64_nvm (k v : Nat) : (d.setReg64 k v).nvm = d.nvm := rfl
@[simp] theorem Device.setReg64_dsk (k v : Nat) : (d.setReg64 k v).dsk = d.dsk := rfl
@[simp] theorem Device.setReg64_raceAt (k v : Nat) : (d.setReg64 k v).raceAt = d.raceAt := rfl
@[simp] theorem Device.setReg64_races (k v : Nat) : (d.setReg64 k v).races = d.races := rfl

/-! ## setMem -/

@[simp] theorem Device.setMem_q (m : MemSys) : (d.setMem m).q = d.q := rfl
@[simp] theorem Device.setMem_free (m : MemSys) : (d.setMem m).free = d.free := rfl
@[simp] theorem Device.setMem_regs (m : MemSys) : (d.setMem m).regs = d.regs := rfl
@[simp] theorem Device.setMem_chk (m : MemSys) : (d.setMem m).chk = d.chk := rfl
@[simp] theorem Device.setMem_boot (m : MemSys) : (d.setMem m).boot = d.boot := rfl
@[simp] theorem Device.setMem_tck (m : MemSys) : (d.setMem m).tck = d.tck := rfl
@[simp] theorem Device.setMem_eng (m : MemSys) : (d.setMem m).eng = d.eng := rfl
@[simp] theorem Device.setMem_me (m : MemSys) : (d.setMem m).me = d.me := rfl
@[simp] theorem Device.setMem_sigs (m : MemSys) : (d.setMem m).sigs = d.sigs := rfl
@[simp] theorem Device.setMem_marks (m : MemSys) : (d.setMem m).marks = d.marks := rfl
@[simp] theorem Device.setMem_facet (m : MemSys) : (d.setMem m).facet = d.facet := rfl
@[simp] theorem Device.setMem_prism (m : MemSys) : (d.setMem m).prism = d.prism := rfl
@[simp] theorem Device.setMem_bg (m : MemSys) : (d.setMem m).bg = d.bg := rfl
@[simp] theorem Device.setMem_rsv (m : MemSys) : (d.setMem m).rsv = d.rsv := rfl
@[simp] theorem Device.setMem_model0 (m : MemSys) : (d.setMem m).model0 = d.model0 := rfl
@[simp] theorem Device.setMem_model1 (m : MemSys) : (d.setMem m).model1 = d.model1 := rfl
@[simp] theorem Device.setMem_load (m : MemSys) : (d.setMem m).load = d.load := rfl
@[simp] theorem Device.setMem_hif (m : MemSys) : (d.setMem m).hif = d.hif := rfl
@[simp] theorem Device.setMem_tim (m : MemSys) : (d.setMem m).tim = d.tim := rfl
@[simp] theorem Device.setMem_ctime (m : MemSys) : (d.setMem m).ctime = d.ctime := rfl
@[simp] theorem Device.setMem_lens (m : MemSys) : (d.setMem m).lens = d.lens := rfl
@[simp] theorem Device.setMem_eth (m : MemSys) : (d.setMem m).eth = d.eth := rfl
@[simp] theorem Device.setMem_rng (m : MemSys) : (d.setMem m).rng = d.rng := rfl
@[simp] theorem Device.setMem_apt (m : MemSys) : (d.setMem m).apt = d.apt := rfl
@[simp] theorem Device.setMem_stw (m : MemSys) : (d.setMem m).stw = d.stw := rfl
@[simp] theorem Device.setMem_core (m : MemSys) : (d.setMem m).core = d.core := rfl
@[simp] theorem Device.setMem_wdg (m : MemSys) : (d.setMem m).wdg = d.wdg := rfl
@[simp] theorem Device.setMem_ladder (m : MemSys) : (d.setMem m).ladder = d.ladder := rfl
@[simp] theorem Device.setMem_cvu (m : MemSys) : (d.setMem m).cvu = d.cvu := rfl
@[simp] theorem Device.setMem_flt (m : MemSys) : (d.setMem m).flt = d.flt := rfl
@[simp] theorem Device.setMem_sio (m : MemSys) : (d.setMem m).sio = d.sio := rfl
@[simp] theorem Device.setMem_prf (m : MemSys) : (d.setMem m).prf = d.prf := rfl
@[simp] theorem Device.setMem_nvm (m : MemSys) : (d.setMem m).nvm = d.nvm := rfl
@[simp] theorem Device.setMem_dsk (m : MemSys) : (d.setMem m).dsk = d.dsk := rfl
@[simp] theorem Device.setMem_raceAt (m : MemSys) : (d.setMem m).raceAt = d.raceAt := rfl
@[simp] theorem Device.setMem_races (m : MemSys) : (d.setMem m).races = d.races := rfl

/-! ## setEng -/

@[simp] theorem Device.setEng_q (e : Nat) (v : Eng) : (d.setEng e v).q = d.q := rfl
@[simp] theorem Device.setEng_free (e : Nat) (v : Eng) : (d.setEng e v).free = d.free := rfl
@[simp] theorem Device.setEng_regs (e : Nat) (v : Eng) : (d.setEng e v).regs = d.regs := rfl
@[simp] theorem Device.setEng_chk (e : Nat) (v : Eng) : (d.setEng e v).chk = d.chk := rfl
@[simp] theorem Device.setEng_boot (e : Nat) (v : Eng) : (d.setEng e v).boot = d.boot := rfl
@[simp] theorem Device.setEng_tck (e : Nat) (v : Eng) : (d.setEng e v).tck = d.tck := rfl
@[simp] theorem Device.setEng_me (e : Nat) (v : Eng) : (d.setEng e v).me = d.me := rfl
@[simp] theorem Device.setEng_sigs (e : Nat) (v : Eng) : (d.setEng e v).sigs = d.sigs := rfl
@[simp] theorem Device.setEng_marks (e : Nat) (v : Eng) : (d.setEng e v).marks = d.marks := rfl
@[simp] theorem Device.setEng_mem (e : Nat) (v : Eng) : (d.setEng e v).mem = d.mem := rfl
@[simp] theorem Device.setEng_facet (e : Nat) (v : Eng) : (d.setEng e v).facet = d.facet := rfl
@[simp] theorem Device.setEng_prism (e : Nat) (v : Eng) : (d.setEng e v).prism = d.prism := rfl
@[simp] theorem Device.setEng_bg (e : Nat) (v : Eng) : (d.setEng e v).bg = d.bg := rfl
@[simp] theorem Device.setEng_rsv (e : Nat) (v : Eng) : (d.setEng e v).rsv = d.rsv := rfl
@[simp] theorem Device.setEng_model0 (e : Nat) (v : Eng) : (d.setEng e v).model0 = d.model0 := rfl
@[simp] theorem Device.setEng_model1 (e : Nat) (v : Eng) : (d.setEng e v).model1 = d.model1 := rfl
@[simp] theorem Device.setEng_load (e : Nat) (v : Eng) : (d.setEng e v).load = d.load := rfl
@[simp] theorem Device.setEng_hif (e : Nat) (v : Eng) : (d.setEng e v).hif = d.hif := rfl
@[simp] theorem Device.setEng_tim (e : Nat) (v : Eng) : (d.setEng e v).tim = d.tim := rfl
@[simp] theorem Device.setEng_ctime (e : Nat) (v : Eng) : (d.setEng e v).ctime = d.ctime := rfl
@[simp] theorem Device.setEng_lens (e : Nat) (v : Eng) : (d.setEng e v).lens = d.lens := rfl
@[simp] theorem Device.setEng_eth (e : Nat) (v : Eng) : (d.setEng e v).eth = d.eth := rfl
@[simp] theorem Device.setEng_rng (e : Nat) (v : Eng) : (d.setEng e v).rng = d.rng := rfl
@[simp] theorem Device.setEng_apt (e : Nat) (v : Eng) : (d.setEng e v).apt = d.apt := rfl
@[simp] theorem Device.setEng_stw (e : Nat) (v : Eng) : (d.setEng e v).stw = d.stw := rfl
@[simp] theorem Device.setEng_core (e : Nat) (v : Eng) : (d.setEng e v).core = d.core := rfl
@[simp] theorem Device.setEng_wdg (e : Nat) (v : Eng) : (d.setEng e v).wdg = d.wdg := rfl
@[simp] theorem Device.setEng_ladder (e : Nat) (v : Eng) : (d.setEng e v).ladder = d.ladder := rfl
@[simp] theorem Device.setEng_cvu (e : Nat) (v : Eng) : (d.setEng e v).cvu = d.cvu := rfl
@[simp] theorem Device.setEng_flt (e : Nat) (v : Eng) : (d.setEng e v).flt = d.flt := rfl
@[simp] theorem Device.setEng_sio (e : Nat) (v : Eng) : (d.setEng e v).sio = d.sio := rfl
@[simp] theorem Device.setEng_prf (e : Nat) (v : Eng) : (d.setEng e v).prf = d.prf := rfl
@[simp] theorem Device.setEng_nvm (e : Nat) (v : Eng) : (d.setEng e v).nvm = d.nvm := rfl
@[simp] theorem Device.setEng_dsk (e : Nat) (v : Eng) : (d.setEng e v).dsk = d.dsk := rfl
@[simp] theorem Device.setEng_raceAt (e : Nat) (v : Eng) : (d.setEng e v).raceAt = d.raceAt := rfl
@[simp] theorem Device.setEng_races (e : Nat) (v : Eng) : (d.setEng e v).races = d.races := rfl

/-! ## modEng -/

@[simp] theorem Device.modEng_q (e : Nat) (f : Eng → Eng) : (d.modEng e f).q = d.q := rfl
@[simp] theorem Device.modEng_free (e : Nat) (f : Eng → Eng) : (d.modEng e f).free = d.free := rfl
@[simp] theorem Device.modEng_regs (e : Nat) (f : Eng → Eng) : (d.modEng e f).regs = d.regs := rfl
@[simp] theorem Device.modEng_chk (e : Nat) (f : Eng → Eng) : (d.modEng e f).chk = d.chk := rfl
@[simp] theorem Device.modEng_boot (e : Nat) (f : Eng → Eng) : (d.modEng e f).boot = d.boot := rfl
@[simp] theorem Device.modEng_tck (e : Nat) (f : Eng → Eng) : (d.modEng e f).tck = d.tck := rfl
@[simp] theorem Device.modEng_me (e : Nat) (f : Eng → Eng) : (d.modEng e f).me = d.me := rfl
@[simp] theorem Device.modEng_sigs (e : Nat) (f : Eng → Eng) : (d.modEng e f).sigs = d.sigs := rfl
@[simp] theorem Device.modEng_marks (e : Nat) (f : Eng → Eng) : (d.modEng e f).marks = d.marks := rfl
@[simp] theorem Device.modEng_mem (e : Nat) (f : Eng → Eng) : (d.modEng e f).mem = d.mem := rfl
@[simp] theorem Device.modEng_facet (e : Nat) (f : Eng → Eng) : (d.modEng e f).facet = d.facet := rfl
@[simp] theorem Device.modEng_prism (e : Nat) (f : Eng → Eng) : (d.modEng e f).prism = d.prism := rfl
@[simp] theorem Device.modEng_bg (e : Nat) (f : Eng → Eng) : (d.modEng e f).bg = d.bg := rfl
@[simp] theorem Device.modEng_rsv (e : Nat) (f : Eng → Eng) : (d.modEng e f).rsv = d.rsv := rfl
@[simp] theorem Device.modEng_model0 (e : Nat) (f : Eng → Eng) : (d.modEng e f).model0 = d.model0 := rfl
@[simp] theorem Device.modEng_model1 (e : Nat) (f : Eng → Eng) : (d.modEng e f).model1 = d.model1 := rfl
@[simp] theorem Device.modEng_load (e : Nat) (f : Eng → Eng) : (d.modEng e f).load = d.load := rfl
@[simp] theorem Device.modEng_hif (e : Nat) (f : Eng → Eng) : (d.modEng e f).hif = d.hif := rfl
@[simp] theorem Device.modEng_tim (e : Nat) (f : Eng → Eng) : (d.modEng e f).tim = d.tim := rfl
@[simp] theorem Device.modEng_ctime (e : Nat) (f : Eng → Eng) : (d.modEng e f).ctime = d.ctime := rfl
@[simp] theorem Device.modEng_lens (e : Nat) (f : Eng → Eng) : (d.modEng e f).lens = d.lens := rfl
@[simp] theorem Device.modEng_eth (e : Nat) (f : Eng → Eng) : (d.modEng e f).eth = d.eth := rfl
@[simp] theorem Device.modEng_rng (e : Nat) (f : Eng → Eng) : (d.modEng e f).rng = d.rng := rfl
@[simp] theorem Device.modEng_apt (e : Nat) (f : Eng → Eng) : (d.modEng e f).apt = d.apt := rfl
@[simp] theorem Device.modEng_stw (e : Nat) (f : Eng → Eng) : (d.modEng e f).stw = d.stw := rfl
@[simp] theorem Device.modEng_core (e : Nat) (f : Eng → Eng) : (d.modEng e f).core = d.core := rfl
@[simp] theorem Device.modEng_wdg (e : Nat) (f : Eng → Eng) : (d.modEng e f).wdg = d.wdg := rfl
@[simp] theorem Device.modEng_ladder (e : Nat) (f : Eng → Eng) : (d.modEng e f).ladder = d.ladder := rfl
@[simp] theorem Device.modEng_cvu (e : Nat) (f : Eng → Eng) : (d.modEng e f).cvu = d.cvu := rfl
@[simp] theorem Device.modEng_flt (e : Nat) (f : Eng → Eng) : (d.modEng e f).flt = d.flt := rfl
@[simp] theorem Device.modEng_sio (e : Nat) (f : Eng → Eng) : (d.modEng e f).sio = d.sio := rfl
@[simp] theorem Device.modEng_prf (e : Nat) (f : Eng → Eng) : (d.modEng e f).prf = d.prf := rfl
@[simp] theorem Device.modEng_nvm (e : Nat) (f : Eng → Eng) : (d.modEng e f).nvm = d.nvm := rfl
@[simp] theorem Device.modEng_dsk (e : Nat) (f : Eng → Eng) : (d.modEng e f).dsk = d.dsk := rfl
@[simp] theorem Device.modEng_raceAt (e : Nat) (f : Eng → Eng) : (d.modEng e f).raceAt = d.raceAt := rfl
@[simp] theorem Device.modEng_races (e : Nat) (f : Eng → Eng) : (d.modEng e f).races = d.races := rfl

/-! ## setMe -/

@[simp] theorem Device.setMe_q (e : Nat) (v : Me) : (d.setMe e v).q = d.q := rfl
@[simp] theorem Device.setMe_free (e : Nat) (v : Me) : (d.setMe e v).free = d.free := rfl
@[simp] theorem Device.setMe_regs (e : Nat) (v : Me) : (d.setMe e v).regs = d.regs := rfl
@[simp] theorem Device.setMe_chk (e : Nat) (v : Me) : (d.setMe e v).chk = d.chk := rfl
@[simp] theorem Device.setMe_boot (e : Nat) (v : Me) : (d.setMe e v).boot = d.boot := rfl
@[simp] theorem Device.setMe_tck (e : Nat) (v : Me) : (d.setMe e v).tck = d.tck := rfl
@[simp] theorem Device.setMe_eng (e : Nat) (v : Me) : (d.setMe e v).eng = d.eng := rfl
@[simp] theorem Device.setMe_sigs (e : Nat) (v : Me) : (d.setMe e v).sigs = d.sigs := rfl
@[simp] theorem Device.setMe_marks (e : Nat) (v : Me) : (d.setMe e v).marks = d.marks := rfl
@[simp] theorem Device.setMe_mem (e : Nat) (v : Me) : (d.setMe e v).mem = d.mem := rfl
@[simp] theorem Device.setMe_facet (e : Nat) (v : Me) : (d.setMe e v).facet = d.facet := rfl
@[simp] theorem Device.setMe_prism (e : Nat) (v : Me) : (d.setMe e v).prism = d.prism := rfl
@[simp] theorem Device.setMe_bg (e : Nat) (v : Me) : (d.setMe e v).bg = d.bg := rfl
@[simp] theorem Device.setMe_rsv (e : Nat) (v : Me) : (d.setMe e v).rsv = d.rsv := rfl
@[simp] theorem Device.setMe_model0 (e : Nat) (v : Me) : (d.setMe e v).model0 = d.model0 := rfl
@[simp] theorem Device.setMe_model1 (e : Nat) (v : Me) : (d.setMe e v).model1 = d.model1 := rfl
@[simp] theorem Device.setMe_load (e : Nat) (v : Me) : (d.setMe e v).load = d.load := rfl
@[simp] theorem Device.setMe_hif (e : Nat) (v : Me) : (d.setMe e v).hif = d.hif := rfl
@[simp] theorem Device.setMe_tim (e : Nat) (v : Me) : (d.setMe e v).tim = d.tim := rfl
@[simp] theorem Device.setMe_ctime (e : Nat) (v : Me) : (d.setMe e v).ctime = d.ctime := rfl
@[simp] theorem Device.setMe_lens (e : Nat) (v : Me) : (d.setMe e v).lens = d.lens := rfl
@[simp] theorem Device.setMe_eth (e : Nat) (v : Me) : (d.setMe e v).eth = d.eth := rfl
@[simp] theorem Device.setMe_rng (e : Nat) (v : Me) : (d.setMe e v).rng = d.rng := rfl
@[simp] theorem Device.setMe_apt (e : Nat) (v : Me) : (d.setMe e v).apt = d.apt := rfl
@[simp] theorem Device.setMe_stw (e : Nat) (v : Me) : (d.setMe e v).stw = d.stw := rfl
@[simp] theorem Device.setMe_core (e : Nat) (v : Me) : (d.setMe e v).core = d.core := rfl
@[simp] theorem Device.setMe_wdg (e : Nat) (v : Me) : (d.setMe e v).wdg = d.wdg := rfl
@[simp] theorem Device.setMe_ladder (e : Nat) (v : Me) : (d.setMe e v).ladder = d.ladder := rfl
@[simp] theorem Device.setMe_cvu (e : Nat) (v : Me) : (d.setMe e v).cvu = d.cvu := rfl
@[simp] theorem Device.setMe_flt (e : Nat) (v : Me) : (d.setMe e v).flt = d.flt := rfl
@[simp] theorem Device.setMe_sio (e : Nat) (v : Me) : (d.setMe e v).sio = d.sio := rfl
@[simp] theorem Device.setMe_prf (e : Nat) (v : Me) : (d.setMe e v).prf = d.prf := rfl
@[simp] theorem Device.setMe_nvm (e : Nat) (v : Me) : (d.setMe e v).nvm = d.nvm := rfl
@[simp] theorem Device.setMe_dsk (e : Nat) (v : Me) : (d.setMe e v).dsk = d.dsk := rfl
@[simp] theorem Device.setMe_raceAt (e : Nat) (v : Me) : (d.setMe e v).raceAt = d.raceAt := rfl
@[simp] theorem Device.setMe_races (e : Nat) (v : Me) : (d.setMe e v).races = d.races := rfl

/-! ## setFacet -/

@[simp] theorem Device.setFacet_q (f : Nat) (v : Facet) : (d.setFacet f v).q = d.q := rfl
@[simp] theorem Device.setFacet_free (f : Nat) (v : Facet) : (d.setFacet f v).free = d.free := rfl
@[simp] theorem Device.setFacet_regs (f : Nat) (v : Facet) : (d.setFacet f v).regs = d.regs := rfl
@[simp] theorem Device.setFacet_chk (f : Nat) (v : Facet) : (d.setFacet f v).chk = d.chk := rfl
@[simp] theorem Device.setFacet_boot (f : Nat) (v : Facet) : (d.setFacet f v).boot = d.boot := rfl
@[simp] theorem Device.setFacet_tck (f : Nat) (v : Facet) : (d.setFacet f v).tck = d.tck := rfl
@[simp] theorem Device.setFacet_eng (f : Nat) (v : Facet) : (d.setFacet f v).eng = d.eng := rfl
@[simp] theorem Device.setFacet_me (f : Nat) (v : Facet) : (d.setFacet f v).me = d.me := rfl
@[simp] theorem Device.setFacet_sigs (f : Nat) (v : Facet) : (d.setFacet f v).sigs = d.sigs := rfl
@[simp] theorem Device.setFacet_marks (f : Nat) (v : Facet) : (d.setFacet f v).marks = d.marks := rfl
@[simp] theorem Device.setFacet_mem (f : Nat) (v : Facet) : (d.setFacet f v).mem = d.mem := rfl
@[simp] theorem Device.setFacet_prism (f : Nat) (v : Facet) : (d.setFacet f v).prism = d.prism := rfl
@[simp] theorem Device.setFacet_bg (f : Nat) (v : Facet) : (d.setFacet f v).bg = d.bg := rfl
@[simp] theorem Device.setFacet_rsv (f : Nat) (v : Facet) : (d.setFacet f v).rsv = d.rsv := rfl
@[simp] theorem Device.setFacet_model0 (f : Nat) (v : Facet) : (d.setFacet f v).model0 = d.model0 := rfl
@[simp] theorem Device.setFacet_model1 (f : Nat) (v : Facet) : (d.setFacet f v).model1 = d.model1 := rfl
@[simp] theorem Device.setFacet_load (f : Nat) (v : Facet) : (d.setFacet f v).load = d.load := rfl
@[simp] theorem Device.setFacet_hif (f : Nat) (v : Facet) : (d.setFacet f v).hif = d.hif := rfl
@[simp] theorem Device.setFacet_tim (f : Nat) (v : Facet) : (d.setFacet f v).tim = d.tim := rfl
@[simp] theorem Device.setFacet_ctime (f : Nat) (v : Facet) : (d.setFacet f v).ctime = d.ctime := rfl
@[simp] theorem Device.setFacet_lens (f : Nat) (v : Facet) : (d.setFacet f v).lens = d.lens := rfl
@[simp] theorem Device.setFacet_eth (f : Nat) (v : Facet) : (d.setFacet f v).eth = d.eth := rfl
@[simp] theorem Device.setFacet_rng (f : Nat) (v : Facet) : (d.setFacet f v).rng = d.rng := rfl
@[simp] theorem Device.setFacet_apt (f : Nat) (v : Facet) : (d.setFacet f v).apt = d.apt := rfl
@[simp] theorem Device.setFacet_stw (f : Nat) (v : Facet) : (d.setFacet f v).stw = d.stw := rfl
@[simp] theorem Device.setFacet_core (f : Nat) (v : Facet) : (d.setFacet f v).core = d.core := rfl
@[simp] theorem Device.setFacet_wdg (f : Nat) (v : Facet) : (d.setFacet f v).wdg = d.wdg := rfl
@[simp] theorem Device.setFacet_ladder (f : Nat) (v : Facet) : (d.setFacet f v).ladder = d.ladder := rfl
@[simp] theorem Device.setFacet_cvu (f : Nat) (v : Facet) : (d.setFacet f v).cvu = d.cvu := rfl
@[simp] theorem Device.setFacet_flt (f : Nat) (v : Facet) : (d.setFacet f v).flt = d.flt := rfl
@[simp] theorem Device.setFacet_sio (f : Nat) (v : Facet) : (d.setFacet f v).sio = d.sio := rfl
@[simp] theorem Device.setFacet_prf (f : Nat) (v : Facet) : (d.setFacet f v).prf = d.prf := rfl
@[simp] theorem Device.setFacet_nvm (f : Nat) (v : Facet) : (d.setFacet f v).nvm = d.nvm := rfl
@[simp] theorem Device.setFacet_dsk (f : Nat) (v : Facet) : (d.setFacet f v).dsk = d.dsk := rfl
@[simp] theorem Device.setFacet_raceAt (f : Nat) (v : Facet) : (d.setFacet f v).raceAt = d.raceAt := rfl
@[simp] theorem Device.setFacet_races (f : Nat) (v : Facet) : (d.setFacet f v).races = d.races := rfl

/-! ## modFacet -/

@[simp] theorem Device.modFacet_q (f : Nat) (g : Facet → Facet) : (d.modFacet f g).q = d.q := rfl
@[simp] theorem Device.modFacet_free (f : Nat) (g : Facet → Facet) : (d.modFacet f g).free = d.free := rfl
@[simp] theorem Device.modFacet_regs (f : Nat) (g : Facet → Facet) : (d.modFacet f g).regs = d.regs := rfl
@[simp] theorem Device.modFacet_chk (f : Nat) (g : Facet → Facet) : (d.modFacet f g).chk = d.chk := rfl
@[simp] theorem Device.modFacet_boot (f : Nat) (g : Facet → Facet) : (d.modFacet f g).boot = d.boot := rfl
@[simp] theorem Device.modFacet_tck (f : Nat) (g : Facet → Facet) : (d.modFacet f g).tck = d.tck := rfl
@[simp] theorem Device.modFacet_eng (f : Nat) (g : Facet → Facet) : (d.modFacet f g).eng = d.eng := rfl
@[simp] theorem Device.modFacet_me (f : Nat) (g : Facet → Facet) : (d.modFacet f g).me = d.me := rfl
@[simp] theorem Device.modFacet_sigs (f : Nat) (g : Facet → Facet) : (d.modFacet f g).sigs = d.sigs := rfl
@[simp] theorem Device.modFacet_marks (f : Nat) (g : Facet → Facet) : (d.modFacet f g).marks = d.marks := rfl
@[simp] theorem Device.modFacet_mem (f : Nat) (g : Facet → Facet) : (d.modFacet f g).mem = d.mem := rfl
@[simp] theorem Device.modFacet_prism (f : Nat) (g : Facet → Facet) : (d.modFacet f g).prism = d.prism := rfl
@[simp] theorem Device.modFacet_bg (f : Nat) (g : Facet → Facet) : (d.modFacet f g).bg = d.bg := rfl
@[simp] theorem Device.modFacet_rsv (f : Nat) (g : Facet → Facet) : (d.modFacet f g).rsv = d.rsv := rfl
@[simp] theorem Device.modFacet_model0 (f : Nat) (g : Facet → Facet) : (d.modFacet f g).model0 = d.model0 := rfl
@[simp] theorem Device.modFacet_model1 (f : Nat) (g : Facet → Facet) : (d.modFacet f g).model1 = d.model1 := rfl
@[simp] theorem Device.modFacet_load (f : Nat) (g : Facet → Facet) : (d.modFacet f g).load = d.load := rfl
@[simp] theorem Device.modFacet_hif (f : Nat) (g : Facet → Facet) : (d.modFacet f g).hif = d.hif := rfl
@[simp] theorem Device.modFacet_tim (f : Nat) (g : Facet → Facet) : (d.modFacet f g).tim = d.tim := rfl
@[simp] theorem Device.modFacet_ctime (f : Nat) (g : Facet → Facet) : (d.modFacet f g).ctime = d.ctime := rfl
@[simp] theorem Device.modFacet_lens (f : Nat) (g : Facet → Facet) : (d.modFacet f g).lens = d.lens := rfl
@[simp] theorem Device.modFacet_eth (f : Nat) (g : Facet → Facet) : (d.modFacet f g).eth = d.eth := rfl
@[simp] theorem Device.modFacet_rng (f : Nat) (g : Facet → Facet) : (d.modFacet f g).rng = d.rng := rfl
@[simp] theorem Device.modFacet_apt (f : Nat) (g : Facet → Facet) : (d.modFacet f g).apt = d.apt := rfl
@[simp] theorem Device.modFacet_stw (f : Nat) (g : Facet → Facet) : (d.modFacet f g).stw = d.stw := rfl
@[simp] theorem Device.modFacet_core (f : Nat) (g : Facet → Facet) : (d.modFacet f g).core = d.core := rfl
@[simp] theorem Device.modFacet_wdg (f : Nat) (g : Facet → Facet) : (d.modFacet f g).wdg = d.wdg := rfl
@[simp] theorem Device.modFacet_ladder (f : Nat) (g : Facet → Facet) : (d.modFacet f g).ladder = d.ladder := rfl
@[simp] theorem Device.modFacet_cvu (f : Nat) (g : Facet → Facet) : (d.modFacet f g).cvu = d.cvu := rfl
@[simp] theorem Device.modFacet_flt (f : Nat) (g : Facet → Facet) : (d.modFacet f g).flt = d.flt := rfl
@[simp] theorem Device.modFacet_sio (f : Nat) (g : Facet → Facet) : (d.modFacet f g).sio = d.sio := rfl
@[simp] theorem Device.modFacet_prf (f : Nat) (g : Facet → Facet) : (d.modFacet f g).prf = d.prf := rfl
@[simp] theorem Device.modFacet_nvm (f : Nat) (g : Facet → Facet) : (d.modFacet f g).nvm = d.nvm := rfl
@[simp] theorem Device.modFacet_dsk (f : Nat) (g : Facet → Facet) : (d.modFacet f g).dsk = d.dsk := rfl
@[simp] theorem Device.modFacet_raceAt (f : Nat) (g : Facet → Facet) : (d.modFacet f g).raceAt = d.raceAt := rfl
@[simp] theorem Device.modFacet_races (f : Nat) (g : Facet → Facet) : (d.modFacet f g).races = d.races := rfl

/-! ## setPrism -/

@[simp] theorem Device.setPrism_q (p : Nat) (v : Prism) : (d.setPrism p v).q = d.q := rfl
@[simp] theorem Device.setPrism_free (p : Nat) (v : Prism) : (d.setPrism p v).free = d.free := rfl
@[simp] theorem Device.setPrism_regs (p : Nat) (v : Prism) : (d.setPrism p v).regs = d.regs := rfl
@[simp] theorem Device.setPrism_chk (p : Nat) (v : Prism) : (d.setPrism p v).chk = d.chk := rfl
@[simp] theorem Device.setPrism_boot (p : Nat) (v : Prism) : (d.setPrism p v).boot = d.boot := rfl
@[simp] theorem Device.setPrism_tck (p : Nat) (v : Prism) : (d.setPrism p v).tck = d.tck := rfl
@[simp] theorem Device.setPrism_eng (p : Nat) (v : Prism) : (d.setPrism p v).eng = d.eng := rfl
@[simp] theorem Device.setPrism_me (p : Nat) (v : Prism) : (d.setPrism p v).me = d.me := rfl
@[simp] theorem Device.setPrism_sigs (p : Nat) (v : Prism) : (d.setPrism p v).sigs = d.sigs := rfl
@[simp] theorem Device.setPrism_marks (p : Nat) (v : Prism) : (d.setPrism p v).marks = d.marks := rfl
@[simp] theorem Device.setPrism_mem (p : Nat) (v : Prism) : (d.setPrism p v).mem = d.mem := rfl
@[simp] theorem Device.setPrism_facet (p : Nat) (v : Prism) : (d.setPrism p v).facet = d.facet := rfl
@[simp] theorem Device.setPrism_bg (p : Nat) (v : Prism) : (d.setPrism p v).bg = d.bg := rfl
@[simp] theorem Device.setPrism_rsv (p : Nat) (v : Prism) : (d.setPrism p v).rsv = d.rsv := rfl
@[simp] theorem Device.setPrism_model0 (p : Nat) (v : Prism) : (d.setPrism p v).model0 = d.model0 := rfl
@[simp] theorem Device.setPrism_model1 (p : Nat) (v : Prism) : (d.setPrism p v).model1 = d.model1 := rfl
@[simp] theorem Device.setPrism_load (p : Nat) (v : Prism) : (d.setPrism p v).load = d.load := rfl
@[simp] theorem Device.setPrism_hif (p : Nat) (v : Prism) : (d.setPrism p v).hif = d.hif := rfl
@[simp] theorem Device.setPrism_tim (p : Nat) (v : Prism) : (d.setPrism p v).tim = d.tim := rfl
@[simp] theorem Device.setPrism_ctime (p : Nat) (v : Prism) : (d.setPrism p v).ctime = d.ctime := rfl
@[simp] theorem Device.setPrism_lens (p : Nat) (v : Prism) : (d.setPrism p v).lens = d.lens := rfl
@[simp] theorem Device.setPrism_eth (p : Nat) (v : Prism) : (d.setPrism p v).eth = d.eth := rfl
@[simp] theorem Device.setPrism_rng (p : Nat) (v : Prism) : (d.setPrism p v).rng = d.rng := rfl
@[simp] theorem Device.setPrism_apt (p : Nat) (v : Prism) : (d.setPrism p v).apt = d.apt := rfl
@[simp] theorem Device.setPrism_stw (p : Nat) (v : Prism) : (d.setPrism p v).stw = d.stw := rfl
@[simp] theorem Device.setPrism_core (p : Nat) (v : Prism) : (d.setPrism p v).core = d.core := rfl
@[simp] theorem Device.setPrism_wdg (p : Nat) (v : Prism) : (d.setPrism p v).wdg = d.wdg := rfl
@[simp] theorem Device.setPrism_ladder (p : Nat) (v : Prism) : (d.setPrism p v).ladder = d.ladder := rfl
@[simp] theorem Device.setPrism_cvu (p : Nat) (v : Prism) : (d.setPrism p v).cvu = d.cvu := rfl
@[simp] theorem Device.setPrism_flt (p : Nat) (v : Prism) : (d.setPrism p v).flt = d.flt := rfl
@[simp] theorem Device.setPrism_sio (p : Nat) (v : Prism) : (d.setPrism p v).sio = d.sio := rfl
@[simp] theorem Device.setPrism_prf (p : Nat) (v : Prism) : (d.setPrism p v).prf = d.prf := rfl
@[simp] theorem Device.setPrism_nvm (p : Nat) (v : Prism) : (d.setPrism p v).nvm = d.nvm := rfl
@[simp] theorem Device.setPrism_dsk (p : Nat) (v : Prism) : (d.setPrism p v).dsk = d.dsk := rfl
@[simp] theorem Device.setPrism_raceAt (p : Nat) (v : Prism) : (d.setPrism p v).raceAt = d.raceAt := rfl
@[simp] theorem Device.setPrism_races (p : Nat) (v : Prism) : (d.setPrism p v).races = d.races := rfl

/-! ## setPair -/

@[simp] theorem Device.setPair_q (n : Nat) (v : Pair) : (d.setPair n v).q = d.q := rfl
@[simp] theorem Device.setPair_free (n : Nat) (v : Pair) : (d.setPair n v).free = d.free := rfl
@[simp] theorem Device.setPair_regs (n : Nat) (v : Pair) : (d.setPair n v).regs = d.regs := rfl
@[simp] theorem Device.setPair_chk (n : Nat) (v : Pair) : (d.setPair n v).chk = d.chk := rfl
@[simp] theorem Device.setPair_boot (n : Nat) (v : Pair) : (d.setPair n v).boot = d.boot := rfl
@[simp] theorem Device.setPair_tck (n : Nat) (v : Pair) : (d.setPair n v).tck = d.tck := rfl
@[simp] theorem Device.setPair_eng (n : Nat) (v : Pair) : (d.setPair n v).eng = d.eng := rfl
@[simp] theorem Device.setPair_me (n : Nat) (v : Pair) : (d.setPair n v).me = d.me := rfl
@[simp] theorem Device.setPair_sigs (n : Nat) (v : Pair) : (d.setPair n v).sigs = d.sigs := rfl
@[simp] theorem Device.setPair_marks (n : Nat) (v : Pair) : (d.setPair n v).marks = d.marks := rfl
@[simp] theorem Device.setPair_mem (n : Nat) (v : Pair) : (d.setPair n v).mem = d.mem := rfl
@[simp] theorem Device.setPair_facet (n : Nat) (v : Pair) : (d.setPair n v).facet = d.facet := rfl
@[simp] theorem Device.setPair_prism (n : Nat) (v : Pair) : (d.setPair n v).prism = d.prism := rfl
@[simp] theorem Device.setPair_bg (n : Nat) (v : Pair) : (d.setPair n v).bg = d.bg := rfl
@[simp] theorem Device.setPair_rsv (n : Nat) (v : Pair) : (d.setPair n v).rsv = d.rsv := rfl
@[simp] theorem Device.setPair_model0 (n : Nat) (v : Pair) : (d.setPair n v).model0 = d.model0 := rfl
@[simp] theorem Device.setPair_model1 (n : Nat) (v : Pair) : (d.setPair n v).model1 = d.model1 := rfl
@[simp] theorem Device.setPair_load (n : Nat) (v : Pair) : (d.setPair n v).load = d.load := rfl
@[simp] theorem Device.setPair_hif (n : Nat) (v : Pair) : (d.setPair n v).hif = d.hif := rfl
@[simp] theorem Device.setPair_tim (n : Nat) (v : Pair) : (d.setPair n v).tim = d.tim := rfl
@[simp] theorem Device.setPair_ctime (n : Nat) (v : Pair) : (d.setPair n v).ctime = d.ctime := rfl
@[simp] theorem Device.setPair_lens (n : Nat) (v : Pair) : (d.setPair n v).lens = d.lens := rfl
@[simp] theorem Device.setPair_eth (n : Nat) (v : Pair) : (d.setPair n v).eth = d.eth := rfl
@[simp] theorem Device.setPair_rng (n : Nat) (v : Pair) : (d.setPair n v).rng = d.rng := rfl
@[simp] theorem Device.setPair_apt (n : Nat) (v : Pair) : (d.setPair n v).apt = d.apt := rfl
@[simp] theorem Device.setPair_stw (n : Nat) (v : Pair) : (d.setPair n v).stw = d.stw := rfl
@[simp] theorem Device.setPair_core (n : Nat) (v : Pair) : (d.setPair n v).core = d.core := rfl
@[simp] theorem Device.setPair_wdg (n : Nat) (v : Pair) : (d.setPair n v).wdg = d.wdg := rfl
@[simp] theorem Device.setPair_ladder (n : Nat) (v : Pair) : (d.setPair n v).ladder = d.ladder := rfl
@[simp] theorem Device.setPair_cvu (n : Nat) (v : Pair) : (d.setPair n v).cvu = d.cvu := rfl
@[simp] theorem Device.setPair_sio (n : Nat) (v : Pair) : (d.setPair n v).sio = d.sio := rfl
@[simp] theorem Device.setPair_prf (n : Nat) (v : Pair) : (d.setPair n v).prf = d.prf := rfl
@[simp] theorem Device.setPair_nvm (n : Nat) (v : Pair) : (d.setPair n v).nvm = d.nvm := rfl
@[simp] theorem Device.setPair_dsk (n : Nat) (v : Pair) : (d.setPair n v).dsk = d.dsk := rfl
@[simp] theorem Device.setPair_raceAt (n : Nat) (v : Pair) : (d.setPair n v).raceAt = d.raceAt := rfl
@[simp] theorem Device.setPair_races (n : Nat) (v : Pair) : (d.setPair n v).races = d.races := rfl

/-! ## setCnt -/

@[simp] theorem Device.setCnt_q (u i : Nat) (c : PrfCnt) : (d.setCnt u i c).q = d.q := rfl
@[simp] theorem Device.setCnt_free (u i : Nat) (c : PrfCnt) : (d.setCnt u i c).free = d.free := rfl
@[simp] theorem Device.setCnt_regs (u i : Nat) (c : PrfCnt) : (d.setCnt u i c).regs = d.regs := rfl
@[simp] theorem Device.setCnt_chk (u i : Nat) (c : PrfCnt) : (d.setCnt u i c).chk = d.chk := rfl
@[simp] theorem Device.setCnt_boot (u i : Nat) (c : PrfCnt) : (d.setCnt u i c).boot = d.boot := rfl
@[simp] theorem Device.setCnt_tck (u i : Nat) (c : PrfCnt) : (d.setCnt u i c).tck = d.tck := rfl
@[simp] theorem Device.setCnt_eng (u i : Nat) (c : PrfCnt) : (d.setCnt u i c).eng = d.eng := rfl
@[simp] theorem Device.setCnt_me (u i : Nat) (c : PrfCnt) : (d.setCnt u i c).me = d.me := rfl
@[simp] theorem Device.setCnt_sigs (u i : Nat) (c : PrfCnt) : (d.setCnt u i c).sigs = d.sigs := rfl
@[simp] theorem Device.setCnt_marks (u i : Nat) (c : PrfCnt) : (d.setCnt u i c).marks = d.marks := rfl
@[simp] theorem Device.setCnt_mem (u i : Nat) (c : PrfCnt) : (d.setCnt u i c).mem = d.mem := rfl
@[simp] theorem Device.setCnt_facet (u i : Nat) (c : PrfCnt) : (d.setCnt u i c).facet = d.facet := rfl
@[simp] theorem Device.setCnt_prism (u i : Nat) (c : PrfCnt) : (d.setCnt u i c).prism = d.prism := rfl
@[simp] theorem Device.setCnt_bg (u i : Nat) (c : PrfCnt) : (d.setCnt u i c).bg = d.bg := rfl
@[simp] theorem Device.setCnt_rsv (u i : Nat) (c : PrfCnt) : (d.setCnt u i c).rsv = d.rsv := rfl
@[simp] theorem Device.setCnt_model0 (u i : Nat) (c : PrfCnt) : (d.setCnt u i c).model0 = d.model0 := rfl
@[simp] theorem Device.setCnt_model1 (u i : Nat) (c : PrfCnt) : (d.setCnt u i c).model1 = d.model1 := rfl
@[simp] theorem Device.setCnt_load (u i : Nat) (c : PrfCnt) : (d.setCnt u i c).load = d.load := rfl
@[simp] theorem Device.setCnt_hif (u i : Nat) (c : PrfCnt) : (d.setCnt u i c).hif = d.hif := rfl
@[simp] theorem Device.setCnt_tim (u i : Nat) (c : PrfCnt) : (d.setCnt u i c).tim = d.tim := rfl
@[simp] theorem Device.setCnt_ctime (u i : Nat) (c : PrfCnt) : (d.setCnt u i c).ctime = d.ctime := rfl
@[simp] theorem Device.setCnt_lens (u i : Nat) (c : PrfCnt) : (d.setCnt u i c).lens = d.lens := rfl
@[simp] theorem Device.setCnt_eth (u i : Nat) (c : PrfCnt) : (d.setCnt u i c).eth = d.eth := rfl
@[simp] theorem Device.setCnt_rng (u i : Nat) (c : PrfCnt) : (d.setCnt u i c).rng = d.rng := rfl
@[simp] theorem Device.setCnt_apt (u i : Nat) (c : PrfCnt) : (d.setCnt u i c).apt = d.apt := rfl
@[simp] theorem Device.setCnt_stw (u i : Nat) (c : PrfCnt) : (d.setCnt u i c).stw = d.stw := rfl
@[simp] theorem Device.setCnt_core (u i : Nat) (c : PrfCnt) : (d.setCnt u i c).core = d.core := rfl
@[simp] theorem Device.setCnt_wdg (u i : Nat) (c : PrfCnt) : (d.setCnt u i c).wdg = d.wdg := rfl
@[simp] theorem Device.setCnt_ladder (u i : Nat) (c : PrfCnt) : (d.setCnt u i c).ladder = d.ladder := rfl
@[simp] theorem Device.setCnt_cvu (u i : Nat) (c : PrfCnt) : (d.setCnt u i c).cvu = d.cvu := rfl
@[simp] theorem Device.setCnt_flt (u i : Nat) (c : PrfCnt) : (d.setCnt u i c).flt = d.flt := rfl
@[simp] theorem Device.setCnt_sio (u i : Nat) (c : PrfCnt) : (d.setCnt u i c).sio = d.sio := rfl
@[simp] theorem Device.setCnt_nvm (u i : Nat) (c : PrfCnt) : (d.setCnt u i c).nvm = d.nvm := rfl
@[simp] theorem Device.setCnt_dsk (u i : Nat) (c : PrfCnt) : (d.setCnt u i c).dsk = d.dsk := rfl
@[simp] theorem Device.setCnt_raceAt (u i : Nat) (c : PrfCnt) : (d.setCnt u i c).raceAt = d.raceAt := rfl
@[simp] theorem Device.setCnt_races (u i : Nat) (c : PrfCnt) : (d.setCnt u i c).races = d.races := rfl

/-! ## setCtx -/

@[simp] theorem Device.setCtx_q (k : Nat) (c : Ctx) : (d.setCtx k c).q = d.q := rfl
@[simp] theorem Device.setCtx_free (k : Nat) (c : Ctx) : (d.setCtx k c).free = d.free := rfl
@[simp] theorem Device.setCtx_regs (k : Nat) (c : Ctx) : (d.setCtx k c).regs = d.regs := rfl
@[simp] theorem Device.setCtx_chk (k : Nat) (c : Ctx) : (d.setCtx k c).chk = d.chk := rfl
@[simp] theorem Device.setCtx_boot (k : Nat) (c : Ctx) : (d.setCtx k c).boot = d.boot := rfl
@[simp] theorem Device.setCtx_tck (k : Nat) (c : Ctx) : (d.setCtx k c).tck = d.tck := rfl
@[simp] theorem Device.setCtx_eng (k : Nat) (c : Ctx) : (d.setCtx k c).eng = d.eng := rfl
@[simp] theorem Device.setCtx_me (k : Nat) (c : Ctx) : (d.setCtx k c).me = d.me := rfl
@[simp] theorem Device.setCtx_sigs (k : Nat) (c : Ctx) : (d.setCtx k c).sigs = d.sigs := rfl
@[simp] theorem Device.setCtx_marks (k : Nat) (c : Ctx) : (d.setCtx k c).marks = d.marks := rfl
@[simp] theorem Device.setCtx_mem (k : Nat) (c : Ctx) : (d.setCtx k c).mem = d.mem := rfl
@[simp] theorem Device.setCtx_facet (k : Nat) (c : Ctx) : (d.setCtx k c).facet = d.facet := rfl
@[simp] theorem Device.setCtx_prism (k : Nat) (c : Ctx) : (d.setCtx k c).prism = d.prism := rfl
@[simp] theorem Device.setCtx_bg (k : Nat) (c : Ctx) : (d.setCtx k c).bg = d.bg := rfl
@[simp] theorem Device.setCtx_rsv (k : Nat) (c : Ctx) : (d.setCtx k c).rsv = d.rsv := rfl
@[simp] theorem Device.setCtx_model0 (k : Nat) (c : Ctx) : (d.setCtx k c).model0 = d.model0 := rfl
@[simp] theorem Device.setCtx_model1 (k : Nat) (c : Ctx) : (d.setCtx k c).model1 = d.model1 := rfl
@[simp] theorem Device.setCtx_load (k : Nat) (c : Ctx) : (d.setCtx k c).load = d.load := rfl
@[simp] theorem Device.setCtx_hif (k : Nat) (c : Ctx) : (d.setCtx k c).hif = d.hif := rfl
@[simp] theorem Device.setCtx_tim (k : Nat) (c : Ctx) : (d.setCtx k c).tim = d.tim := rfl
@[simp] theorem Device.setCtx_ctime (k : Nat) (c : Ctx) : (d.setCtx k c).ctime = d.ctime := rfl
@[simp] theorem Device.setCtx_lens (k : Nat) (c : Ctx) : (d.setCtx k c).lens = d.lens := rfl
@[simp] theorem Device.setCtx_eth (k : Nat) (c : Ctx) : (d.setCtx k c).eth = d.eth := rfl
@[simp] theorem Device.setCtx_rng (k : Nat) (c : Ctx) : (d.setCtx k c).rng = d.rng := rfl
@[simp] theorem Device.setCtx_apt (k : Nat) (c : Ctx) : (d.setCtx k c).apt = d.apt := rfl
@[simp] theorem Device.setCtx_stw (k : Nat) (c : Ctx) : (d.setCtx k c).stw = d.stw := rfl
@[simp] theorem Device.setCtx_core (k : Nat) (c : Ctx) : (d.setCtx k c).core = d.core := rfl
@[simp] theorem Device.setCtx_wdg (k : Nat) (c : Ctx) : (d.setCtx k c).wdg = d.wdg := rfl
@[simp] theorem Device.setCtx_ladder (k : Nat) (c : Ctx) : (d.setCtx k c).ladder = d.ladder := rfl
@[simp] theorem Device.setCtx_flt (k : Nat) (c : Ctx) : (d.setCtx k c).flt = d.flt := rfl
@[simp] theorem Device.setCtx_sio (k : Nat) (c : Ctx) : (d.setCtx k c).sio = d.sio := rfl
@[simp] theorem Device.setCtx_prf (k : Nat) (c : Ctx) : (d.setCtx k c).prf = d.prf := rfl
@[simp] theorem Device.setCtx_nvm (k : Nat) (c : Ctx) : (d.setCtx k c).nvm = d.nvm := rfl
@[simp] theorem Device.setCtx_dsk (k : Nat) (c : Ctx) : (d.setCtx k c).dsk = d.dsk := rfl
@[simp] theorem Device.setCtx_raceAt (k : Nat) (c : Ctx) : (d.setCtx k c).raceAt = d.raceAt := rfl
@[simp] theorem Device.setCtx_races (k : Nat) (c : Ctx) : (d.setCtx k c).races = d.races := rfl

/-! ## setBg -/

@[simp] theorem Device.setBg_q (c : BgClass) (b : Bg) : (d.setBg c b).q = d.q := rfl
@[simp] theorem Device.setBg_free (c : BgClass) (b : Bg) : (d.setBg c b).free = d.free := rfl
@[simp] theorem Device.setBg_regs (c : BgClass) (b : Bg) : (d.setBg c b).regs = d.regs := rfl
@[simp] theorem Device.setBg_chk (c : BgClass) (b : Bg) : (d.setBg c b).chk = d.chk := rfl
@[simp] theorem Device.setBg_boot (c : BgClass) (b : Bg) : (d.setBg c b).boot = d.boot := rfl
@[simp] theorem Device.setBg_tck (c : BgClass) (b : Bg) : (d.setBg c b).tck = d.tck := rfl
@[simp] theorem Device.setBg_eng (c : BgClass) (b : Bg) : (d.setBg c b).eng = d.eng := rfl
@[simp] theorem Device.setBg_me (c : BgClass) (b : Bg) : (d.setBg c b).me = d.me := rfl
@[simp] theorem Device.setBg_sigs (c : BgClass) (b : Bg) : (d.setBg c b).sigs = d.sigs := rfl
@[simp] theorem Device.setBg_marks (c : BgClass) (b : Bg) : (d.setBg c b).marks = d.marks := rfl
@[simp] theorem Device.setBg_mem (c : BgClass) (b : Bg) : (d.setBg c b).mem = d.mem := rfl
@[simp] theorem Device.setBg_facet (c : BgClass) (b : Bg) : (d.setBg c b).facet = d.facet := rfl
@[simp] theorem Device.setBg_prism (c : BgClass) (b : Bg) : (d.setBg c b).prism = d.prism := rfl
@[simp] theorem Device.setBg_rsv (c : BgClass) (b : Bg) : (d.setBg c b).rsv = d.rsv := rfl
@[simp] theorem Device.setBg_model0 (c : BgClass) (b : Bg) : (d.setBg c b).model0 = d.model0 := rfl
@[simp] theorem Device.setBg_model1 (c : BgClass) (b : Bg) : (d.setBg c b).model1 = d.model1 := rfl
@[simp] theorem Device.setBg_load (c : BgClass) (b : Bg) : (d.setBg c b).load = d.load := rfl
@[simp] theorem Device.setBg_hif (c : BgClass) (b : Bg) : (d.setBg c b).hif = d.hif := rfl
@[simp] theorem Device.setBg_tim (c : BgClass) (b : Bg) : (d.setBg c b).tim = d.tim := rfl
@[simp] theorem Device.setBg_ctime (c : BgClass) (b : Bg) : (d.setBg c b).ctime = d.ctime := rfl
@[simp] theorem Device.setBg_lens (c : BgClass) (b : Bg) : (d.setBg c b).lens = d.lens := rfl
@[simp] theorem Device.setBg_eth (c : BgClass) (b : Bg) : (d.setBg c b).eth = d.eth := rfl
@[simp] theorem Device.setBg_rng (c : BgClass) (b : Bg) : (d.setBg c b).rng = d.rng := rfl
@[simp] theorem Device.setBg_apt (c : BgClass) (b : Bg) : (d.setBg c b).apt = d.apt := rfl
@[simp] theorem Device.setBg_stw (c : BgClass) (b : Bg) : (d.setBg c b).stw = d.stw := rfl
@[simp] theorem Device.setBg_core (c : BgClass) (b : Bg) : (d.setBg c b).core = d.core := rfl
@[simp] theorem Device.setBg_wdg (c : BgClass) (b : Bg) : (d.setBg c b).wdg = d.wdg := rfl
@[simp] theorem Device.setBg_ladder (c : BgClass) (b : Bg) : (d.setBg c b).ladder = d.ladder := rfl
@[simp] theorem Device.setBg_cvu (c : BgClass) (b : Bg) : (d.setBg c b).cvu = d.cvu := rfl
@[simp] theorem Device.setBg_flt (c : BgClass) (b : Bg) : (d.setBg c b).flt = d.flt := rfl
@[simp] theorem Device.setBg_sio (c : BgClass) (b : Bg) : (d.setBg c b).sio = d.sio := rfl
@[simp] theorem Device.setBg_prf (c : BgClass) (b : Bg) : (d.setBg c b).prf = d.prf := rfl
@[simp] theorem Device.setBg_nvm (c : BgClass) (b : Bg) : (d.setBg c b).nvm = d.nvm := rfl
@[simp] theorem Device.setBg_dsk (c : BgClass) (b : Bg) : (d.setBg c b).dsk = d.dsk := rfl
@[simp] theorem Device.setBg_raceAt (c : BgClass) (b : Bg) : (d.setBg c b).raceAt = d.raceAt := rfl
@[simp] theorem Device.setBg_races (c : BgClass) (b : Bg) : (d.setBg c b).races = d.races := rfl

/-! ## draw -/

@[simp] theorem Device.draw_q : (d.draw).q = d.q := rfl
@[simp] theorem Device.draw_regs : (d.draw).regs = d.regs := rfl
@[simp] theorem Device.draw_chk : (d.draw).chk = d.chk := rfl
@[simp] theorem Device.draw_boot : (d.draw).boot = d.boot := rfl
@[simp] theorem Device.draw_tck : (d.draw).tck = d.tck := rfl
@[simp] theorem Device.draw_eng : (d.draw).eng = d.eng := rfl
@[simp] theorem Device.draw_me : (d.draw).me = d.me := rfl
@[simp] theorem Device.draw_sigs : (d.draw).sigs = d.sigs := rfl
@[simp] theorem Device.draw_marks : (d.draw).marks = d.marks := rfl
@[simp] theorem Device.draw_mem : (d.draw).mem = d.mem := rfl
@[simp] theorem Device.draw_facet : (d.draw).facet = d.facet := rfl
@[simp] theorem Device.draw_prism : (d.draw).prism = d.prism := rfl
@[simp] theorem Device.draw_bg : (d.draw).bg = d.bg := rfl
@[simp] theorem Device.draw_rsv : (d.draw).rsv = d.rsv := rfl
@[simp] theorem Device.draw_model0 : (d.draw).model0 = d.model0 := rfl
@[simp] theorem Device.draw_model1 : (d.draw).model1 = d.model1 := rfl
@[simp] theorem Device.draw_load : (d.draw).load = d.load := rfl
@[simp] theorem Device.draw_hif : (d.draw).hif = d.hif := rfl
@[simp] theorem Device.draw_tim : (d.draw).tim = d.tim := rfl
@[simp] theorem Device.draw_ctime : (d.draw).ctime = d.ctime := rfl
@[simp] theorem Device.draw_lens : (d.draw).lens = d.lens := rfl
@[simp] theorem Device.draw_eth : (d.draw).eth = d.eth := rfl
@[simp] theorem Device.draw_rng : (d.draw).rng = d.rng := rfl
@[simp] theorem Device.draw_apt : (d.draw).apt = d.apt := rfl
@[simp] theorem Device.draw_stw : (d.draw).stw = d.stw := rfl
@[simp] theorem Device.draw_core : (d.draw).core = d.core := rfl
@[simp] theorem Device.draw_wdg : (d.draw).wdg = d.wdg := rfl
@[simp] theorem Device.draw_ladder : (d.draw).ladder = d.ladder := rfl
@[simp] theorem Device.draw_cvu : (d.draw).cvu = d.cvu := rfl
@[simp] theorem Device.draw_flt : (d.draw).flt = d.flt := rfl
@[simp] theorem Device.draw_sio : (d.draw).sio = d.sio := rfl
@[simp] theorem Device.draw_prf : (d.draw).prf = d.prf := rfl
@[simp] theorem Device.draw_nvm : (d.draw).nvm = d.nvm := rfl
@[simp] theorem Device.draw_dsk : (d.draw).dsk = d.dsk := rfl
@[simp] theorem Device.draw_raceAt : (d.draw).raceAt = d.raceAt := rfl
@[simp] theorem Device.draw_races : (d.draw).races = d.races := rfl

end Sys2Proof.Machine
end

