-- ==== Sys2Proof/Laws/Registers.lean ====
section
/-! SUPPORT. Laws of bit fields and of register reads after register writes. -/

namespace Sys2Proof.Machine

/-! ## Bit fields -/

theorem getLsbD_maskOf (hi lo j : Nat) :
    (maskOf hi lo).getLsbD j = (decide (j < 32) && decide (lo ≤ j) && decide (j ≤ hi)) := by
  unfold maskOf
  rw [BitVec.getLsbD_ofNat, Nat.testBit_mul_two_pow, Nat.testBit_two_pow_sub_one]
  by_cases h1 : j < 32 <;> by_cases h2 : lo ≤ j <;> by_cases h3 : j ≤ hi <;> simp [h1, h2, h3] <;> omega

/-- Bit `j` of a register of which bits [hi:lo] are replaced. -/
theorem getLsbD_putBits (w : Word) (hi lo v j : Nat) :
    (putBits w hi lo v).getLsbD j =
      if j < 32 ∧ lo ≤ j ∧ j ≤ hi then v.testBit (j - lo) else w.getLsbD j := by
  unfold putBits
  rw [BitVec.getLsbD_or, BitVec.getLsbD_and, BitVec.getLsbD_and, BitVec.getLsbD_not, getLsbD_maskOf,
    BitVec.getLsbD_ofNat, Nat.testBit_mul_two_pow]
  by_cases h1 : j < 32
  · by_cases h2 : lo ≤ j <;> by_cases h3 : j ≤ hi <;> simp [h1, h2, h3]
  · have : w.getLsbD j = false := BitVec.getLsbD_of_ge w j (by omega)
    simp [h1, this]

/-- A bit that is set to `b` reads `b`, and every other bit stays. -/
theorem bit_putBit (w : Word) (i j : Nat) (b : Bool) (hi : i < 32) :
    bit (putBit w i b) j = if j = i then b else bit w j := by
  unfold bit putBit
  rw [getLsbD_putBits]
  by_cases h : j = i
  · subst h
    cases b <;> simp [hi]
  · have : ¬ (j < 32 ∧ i ≤ j ∧ j ≤ i) := by omega
    simp [h, this]

theorem testBit_natBits (n hi lo j : Nat) :
    (natBits n hi lo).testBit j = (decide (j < hi + 1 - lo) && n.testBit (lo + j)) := by
  unfold natBits
  rw [Nat.testBit_mod_two_pow, Nat.testBit_div_two_pow, Nat.add_comm lo j]

/-- A field that is written reads the low bits of what was written. -/
theorem bits_putBits_same (w : Word) (hi lo v : Nat) (h : hi < 32) :
    bits (putBits w hi lo v) hi lo = v % 2 ^ (hi + 1 - lo) := by
  apply Nat.eq_of_testBit_eq
  intro j
  unfold bits
  rw [testBit_natBits, Nat.testBit_mod_two_pow]
  by_cases hj : j < hi + 1 - lo
  · have := getLsbD_putBits w hi lo v (lo + j)
    have h2 : lo + j < 32 ∧ lo ≤ lo + j ∧ lo + j ≤ hi := by omega
    rw [if_pos h2, Nat.add_sub_cancel_left] at this
    simp [hj, ← this, BitVec.testBit_toNat]
  · simp [hj]

/-- A field apart from the one written stays. -/
theorem bits_putBits_other (w : Word) (hi lo v h l : Nat) (ha : h < lo ∨ hi < l) :
    bits (putBits w hi lo v) h l = bits w h l := by
  apply Nat.eq_of_testBit_eq
  intro j
  unfold bits
  rw [testBit_natBits, testBit_natBits]
  by_cases hj : j < h + 1 - l
  · have := getLsbD_putBits w hi lo v (l + j)
    have h2 : ¬ (l + j < 32 ∧ lo ≤ l + j ∧ l + j ≤ hi) := by omega
    rw [if_neg h2] at this
    simp [hj, BitVec.testBit_toNat, this]
  · simp [hj]

/-! ## Registers -/

variable (d : Device)

@[simp] theorem Device.reg_setReg_same (k : Nat) (v : Word) : (d.setReg k v).reg k = v :=
  tabGet_tabSet_same _ _ _ _

theorem Device.reg_setReg_ne {k j : Nat} (v : Word) (h : j ≠ k) : (d.setReg k v).reg j = d.reg j :=
  tabGet_tabSet_other _ _ _ _ h

/-- Reading a register after writing one. -/
theorem Device.reg_setReg (k j : Nat) (v : Word) : (d.setReg k v).reg j = if j = k then v else d.reg j := by
  by_cases h : j = k
  · simp [h]
  · simp [h, d.reg_setReg_ne v h]

/-- A register reads the same in two devices that hold the same registers. -/
theorem Device.reg_congr {d d' : Device} (h : d'.regs = d.regs) (k : Nat) : d'.reg k = d.reg k := by
  unfold Device.reg
  rw [h]

theorem Device.reg_setFld (k j hi lo v : Nat) :
    (d.setFld k hi lo v).reg j = if j = k then putBits (d.reg k) hi lo v else d.reg j := d.reg_setReg k j _

theorem Device.reg_setBit (k j i : Nat) (b : Bool) :
    (d.setBit k i b).reg j = if j = k then putBit (d.reg k) i b else d.reg j := d.reg_setReg k j _

theorem Device.reg_event (k j i : Nat) :
    (d.event k i).reg j = if j = k then putBit (d.reg k) i true else d.reg j := d.reg_setBit k j i true

/-- The field written reads the low bits of what was written. -/
theorem Device.fld_setFld_same (k hi lo v : Nat) (h : hi < 32) :
    (d.setFld k hi lo v).fld k hi lo = v % 2 ^ (hi + 1 - lo) := by
  unfold Device.fld
  rw [d.reg_setFld, if_pos rfl, bits_putBits_same _ _ _ _ h]

/-- Bit `j` of register `m` after bit `i` of register `k` is set to `b`. -/
theorem Device.bitAt_setBit (k i m j : Nat) (b : Bool) (hi : i < 32) :
    (d.setBit k i b).bitAt m j = if m = k ∧ j = i then b else d.bitAt m j := by
  unfold Device.bitAt
  rw [d.reg_setBit]
  by_cases h : m = k
  · subst h
    rw [if_pos rfl, bit_putBit _ _ _ _ hi]
    simp
  · simp [h]

/-- A saturating counter of `hi + 1 - lo` bits after `a` more. -/
theorem Device.fld_count_same (k hi lo a : Nat) (h : hi < 32) :
    (d.count k hi lo a).fld k hi lo = satAdd (hi + 1 - lo) (d.fld k hi lo) a := by
  unfold Device.count
  rw [d.fld_setFld_same _ _ _ _ h]
  apply Nat.mod_eq_of_lt
  unfold satAdd
  have : 0 < 2 ^ (hi + 1 - lo) := Nat.two_pow_pos _
  omega

end Sys2Proof.Machine
end

