-- ==== Sys2Proof/Laws/Frames.lean ====
section
/-! SUPPORT. What the shared operations leave alone: registers, interrupts, counting. -/

namespace Sys2Proof.Machine

/-! ## Composition -/

theorem OnlyRegs.refl (d : Device) (l : List Nat) : OnlyRegs d d l := ⟨rfl, fun _ _ _ => rfl⟩

theorem OnlyRegs.trans {a b c : Device} {l : List Nat} (h : OnlyRegs a b l) (g : OnlyRegs b c l) : OnlyRegs a c l :=
  ⟨g.1.trans h.1, fun k hk hi => (g.2 k hk hi).trans (h.2 k hk hi)⟩

theorem OnlyRegs.mono {a b : Device} {l m : List Nat} (h : OnlyRegs a b l) (s : ∀ k ∈ l, k ∈ m) : OnlyRegs a b m :=
  ⟨h.1, fun k hk hi => h.2 k (fun x => hk (s k x)) hi⟩

/-- A fold of operations that touch registers of `l` alone touches registers of `l` alone. -/
theorem OnlyRegs.foldl {α : Type} {l : List Nat} (f : Device → α → Device) (hf : ∀ d x, OnlyRegs d (f d x) l)
    (xs : List α) (d : Device) : OnlyRegs d (xs.foldl f d) l := by
  induction xs generalizing d with
  | nil => exact .refl d l
  | cons x xs ih => exact (hf d x).trans (ih (f d x))

theorem OnlyRegs.of_ite {a b c : Device} {l : List Nat} {p : Prop} [Decidable p] (h : OnlyRegs a b l)
    (g : OnlyRegs a c l) : OnlyRegs a (if p then b else c) l := by
  split <;> assumption

/-! ## Registers -/

theorem onlyRegs_setReg (d : Device) (k : Nat) (v : Word) : OnlyRegs d (d.setReg k v) [k] :=
  ⟨rfl, fun _ hj _ => d.reg_setReg_ne v (by simpa using hj)⟩

theorem onlyRegs_setFld (d : Device) (k hi lo v : Nat) : OnlyRegs d (d.setFld k hi lo v) [k] := onlyRegs_setReg d k _
theorem onlyRegs_setBit (d : Device) (k i : Nat) (b : Bool) : OnlyRegs d (d.setBit k i b) [k] := onlyRegs_setReg d k _
theorem onlyRegs_count (d : Device) (k hi lo a : Nat) : OnlyRegs d (d.count k hi lo a) [k] := onlyRegs_setReg d k _
theorem onlyRegs_incr (d : Device) (k : Nat) : OnlyRegs d (d.incr k) [k] := onlyRegs_setReg d k _

@[simp] theorem sansRegs_setReg (d : Device) (k : Nat) (v : Word) : (d.setReg k v).sansRegs = d.sansRegs := rfl
@[simp] theorem sansRegs_setFld (d : Device) (k hi lo v : Nat) : (d.setFld k hi lo v).sansRegs = d.sansRegs := rfl
@[simp] theorem sansRegs_setBit (d : Device) (k i : Nat) (b : Bool) : (d.setBit k i b).sansRegs = d.sansRegs := rfl
@[simp] theorem sansRegs_event (d : Device) (k i : Nat) : (d.event k i).sansRegs = d.sansRegs := rfl
@[simp] theorem sansRegs_count (d : Device) (k hi lo a : Nat) : (d.count k hi lo a).sansRegs = d.sansRegs := rfl
@[simp] theorem sansRegs_incr (d : Device) (k : Nat) : (d.incr k).sansRegs = d.sansRegs := rfl
@[simp] theorem sansRegs_setReg64 (d : Device) (k v : Nat) : (d.setReg64 k v).sansRegs = d.sansRegs := rfl
@[simp] theorem sansRegs_setCnt (d : Device) (u i : Nat) (c : PrfCnt) : (d.setCnt u i c).sansRegs = d.sansRegs := rfl

/-! ## Interrupts (R346, R347) -/

theorem vecReg_mem {v : Nat} (h : v < 64) : 0x4800 + 4 * (v / 32) ∈ irqRegs := by
  have : v / 32 = 0 ∨ v / 32 = 1 := by omega
  rcases this with h | h <;> simp [h, irqRegs]

/-- Firing a vector touches nothing but its pending bit and the messages sent. -/
theorem onlyRegs_fire (d : Device) {v : Nat} (h : v < 64) : OnlyRegs d (d.fire v) [] := by
  unfold Device.fire
  split
  · exact .refl d _
  · split
    · exact ⟨rfl, fun k _ hi => d.reg_setReg_ne _ fun e => hi (e ▸ vecReg_mem h)⟩
    · exact ⟨rfl, fun _ _ _ => rfl⟩

theorem engOfs_lt {k e o : Nat} (h : engOfs k = some (e, o)) : e < 168 := by
  unfold engOfs at h
  split at h
  · cases h
  · simp only [Option.ite_none_right_eq_some, Option.some.injEq, Prod.mk.injEq] at h
    obtain ⟨⟨h1, h2, h3⟩, h4, -⟩ := h
    omega

theorem vecOf_lt {k v : Nat} (h : vecOf k = some v) : v < 64 := by
  unfold vecOf at h
  split at h
  · rename_i e o he
    have := engOfs_lt he
    split at h
    · cases h; omega
    · cases h
  · repeat' (split at h)
    all_goals (cases h; try decide)

/-- Raising a status bit touches its register and what its vector touches. -/
theorem onlyRegs_raise (d : Device) (k i : Nat) : OnlyRegs d (d.raise k i) [k] := by
  unfold Device.raise
  simp only
  split
  · rename_i v hv
    split
    · exact (onlyRegs_setBit d k i true).trans ((onlyRegs_fire _ (vecOf_lt hv)).mono (by simp))
    · exact onlyRegs_setBit d k i true
  · exact onlyRegs_setBit d k i true

theorem onlyRegs_plainWrite (d : Device) (k : Nat) (v : Word) : OnlyRegs d (d.plainWrite k v) [k] := by
  unfold Device.plainWrite
  simp only
  split
  · rename_i x hx
    split
    · exact (onlyRegs_setReg d k _).trans ((onlyRegs_fire _ (vecOf_lt hx)).mono (by simp))
    · exact onlyRegs_setReg d k _
  · exact onlyRegs_setReg d k _

@[simp] theorem sansRegs_raise (d : Device) (k i : Nat) : (d.raise k i).sansRegs = d.sansRegs := (onlyRegs_raise d k i).1
@[simp] theorem sansRegs_plainWrite (d : Device) (k : Nat) (v : Word) : (d.plainWrite k v).sansRegs = d.sansRegs :=
  (onlyRegs_plainWrite d k v).1

/-- Firing a vector keeps a register that holds no pending bits. -/
theorem reg_fire (d : Device) {v : Nat} (h : v < 64) {k : Nat} (hk : k ≠ 0x4800) (hk' : k ≠ 0x4804) :
    (d.fire v).reg k = d.reg k := by
  unfold Device.fire
  split
  · rfl
  · split
    · refine d.reg_setReg_ne _ fun e => ?_
      have := vecReg_mem h
      rw [← e] at this
      simp only [irqRegs, List.mem_cons, List.not_mem_nil, or_false] at this
      rcases this with h | h | h
      · exact hk h
      · exact hk' h
      · subst h
        have : (0x4800 + 4 * (v / 32)) < 0x4808 := by omega
        rw [← e] at this
        exact absurd this (by decide)
    · rfl

/-- A raised bit reads 1, and every other bit of the register is unchanged. -/
theorem reg_raise_same (d : Device) (k i : Nat) (hk : k ≠ 0x4800) (hk' : k ≠ 0x4804) :
    (d.raise k i).reg k = putBit (d.reg k) i true := by
  unfold Device.raise
  simp only
  split
  · rename_i v hv
    split
    · rw [reg_fire _ (vecOf_lt hv) hk hk', d.reg_event, if_pos rfl]
    · rw [d.reg_event, if_pos rfl]
  · rw [d.reg_event, if_pos rfl]

/-- A raised bit reads 1. -/
theorem bitAt_raise_same (d : Device) (k i : Nat) (hi : i < 32) (hk : k ≠ 0x4800) (hk' : k ≠ 0x4804) :
    (d.raise k i).bitAt k i = true := by
  unfold Device.bitAt
  rw [reg_raise_same d k i hk hk', bit_putBit _ _ _ _ hi, if_pos rfl]

/-- Raising a status bit keeps every other register that holds no pending bits. -/
theorem reg_raise_ne (d : Device) {k j : Nat} (i : Nat) (h : j ≠ k) (hk : j ≠ 0x4800) (hk' : j ≠ 0x4804) :
    (d.raise k i).reg j = d.reg j := by
  unfold Device.raise
  simp only
  split
  · rename_i v hv
    split
    · rw [reg_fire _ (vecOf_lt hv) hk hk', d.reg_event, if_neg h]
    · rw [d.reg_event, if_neg h]
  · rw [d.reg_event, if_neg h]

/-! ## Counting (R359 to R361, R372 to R374) -/

theorem onlyRegs_cntAdd (d : Device) (u i n : Nat) : OnlyRegs d (d.cntAdd u i n) [] := by
  unfold Device.cntAdd
  simp only
  split
  · exact .refl d _
  split
  · exact ⟨rfl, fun _ _ _ => rfl⟩
  · have h := onlyRegs_raise (d.irqSeen.setCnt u i { d.cntAt u i with val := BitVec.ofNat 48 ((d.cntAt u i).val.toNat + n), ovf := true, irq := true }) Reg.prfStatus 1
    have e : d.irqSeen.sansRegs = d.sansRegs ∧ d.irqSeen.regs = d.regs := by unfold Device.irqSeen; split <;> exact ⟨rfl, rfl⟩
    refine ⟨h.1.trans ((sansRegs_setCnt ..).trans e.1), fun k _ hi => (h.2 k ?_ hi).trans (by simp only [Device.reg, Device.setCnt_regs, e.2])⟩
    intro hk
    exact hi (by simp only [List.mem_singleton] at hk; simp [hk, irqRegs])

/-- Counting events touches the performance collector alone, with its interrupt. -/
theorem onlyRegs_perf (d : Device) (u ev n : Nat) : OnlyRegs d (d.perf u ev n) [] := by
  unfold Device.perf
  refine .of_ite (.refl d _) (.foldl _ ?_ _ d)
  intro d i
  exact .of_ite (onlyRegs_cntAdd d u i n) (.refl d _)

theorem onlyRegs_cntClear (d : Device) (u : Nat) : OnlyRegs d (d.cntClear u) [] := by
  refine .foldl _ ?_ _ d
  intro d i
  exact ⟨rfl, fun _ _ _ => rfl⟩

theorem onlyRegs_prfRaise (d : Device) (i : Nat) : OnlyRegs d (d.raise Reg.prfStatus i) [] := by
  have h := onlyRegs_raise d Reg.prfStatus i
  refine ⟨h.1, fun k _ hi => h.2 k ?_ hi⟩
  intro hk
  exact hi (by simp only [List.mem_singleton] at hk; simp [hk, irqRegs])

theorem onlyRegs_prf (d : Device) (p : Prf) : OnlyRegs d { d with prf := p } [] := ⟨rfl, fun _ _ _ => rfl⟩

theorem onlyRegs_tagDone (d : Device) (r : TagRec) : OnlyRegs d (d.tagDone r) [] := by
  unfold Device.tagDone
  split
  · exact onlyRegs_prf d _
  · exact (onlyRegs_prf d _).trans (onlyRegs_prfRaise _ _)

/-- Stamping a tag touches the performance collector alone, with its interrupt. -/
theorem onlyRegs_stampWith (d : Device) (tag : Option Nat) (pt v : Nat) : OnlyRegs d (d.stampWith tag pt v) [] := by
  unfold Device.stampWith
  simp only
  split
  · exact .refl d _
  · split
    · exact (onlyRegs_prf d _).trans (onlyRegs_tagDone _ _)
    · exact onlyRegs_prf d _

theorem onlyRegs_stamp (d : Device) (tag : Option Nat) (pt : Nat) : OnlyRegs d (d.stamp tag pt) [] :=
  onlyRegs_stampWith d tag pt _

theorem onlyRegs_cmdDone (d : Device) (e : Nat) (tag : Option Nat) (w : CmdWord) : OnlyRegs d (d.cmdDone e tag w) [] := by
  unfold Device.cmdDone
  simp only
  exact .of_ite ((onlyRegs_perf d e 2 1).trans (onlyRegs_stampWith _ _ _ _))
    (((onlyRegs_perf d e 2 1).trans (onlyRegs_stampWith _ _ _ _)).trans (onlyRegs_stampWith _ _ _ _))

@[simp] theorem sansRegs_perf (d : Device) (u ev n : Nat) : (d.perf u ev n).sansRegs = d.sansRegs := (onlyRegs_perf d u ev n).1
@[simp] theorem sansRegs_stampWith (d : Device) (tag : Option Nat) (pt v : Nat) :
    (d.stampWith tag pt v).sansRegs = d.sansRegs := (onlyRegs_stampWith d tag pt v).1
@[simp] theorem sansRegs_stamp (d : Device) (tag : Option Nat) (pt : Nat) : (d.stamp tag pt).sansRegs = d.sansRegs :=
  (onlyRegs_stamp d tag pt).1
@[simp] theorem sansRegs_cmdDone (d : Device) (e : Nat) (tag : Option Nat) (w : CmdWord) :
    (d.cmdDone e tag w).sansRegs = d.sansRegs := (onlyRegs_cmdDone d e tag w).1
@[simp] theorem sansRegs_cntClear (d : Device) (u : Nat) : (d.cntClear u).sansRegs = d.sansRegs := (onlyRegs_cntClear d u).1

end Sys2Proof.Machine
end

