-- ==== Sys2Proof/Laws/Commands.lean ====
section
/-! SUPPORT. Starting and completing engine commands. -/

namespace Sys2Proof.Machine

/-! ## Engines -/

@[simp] theorem Device.engAt_setEng_same (d : Device) (e : Nat) (v : Eng) : (d.setEng e v).engAt e = v :=
  tabGet_tabSet_same _ _ _ _

theorem Device.engAt_setEng_ne (d : Device) {e x : Nat} (v : Eng) (h : x ≠ e) : (d.setEng e v).engAt x = d.engAt x :=
  tabGet_tabSet_ne _ _ _ h

@[simp] theorem Device.engAt_modEng_same (d : Device) (e : Nat) (f : Eng → Eng) :
    (d.modEng e f).engAt e = f (d.engAt e) := d.engAt_setEng_same e _

theorem OtherEngines.setEng (d : Device) (e : Nat) (v : Eng) : OtherEngines d (d.setEng e v) e :=
  fun _ h => d.engAt_setEng_ne v h

theorem OtherEngines.refl (d : Device) (e : Nat) : OtherEngines d d e := fun _ _ => rfl

theorem OtherEngines.trans {a b c : Device} {e : Nat} (h : OtherEngines a b e) (g : OtherEngines b c e) :
    OtherEngines a c e := fun x hx => (g x hx).trans (h x hx)

/-- The engines of two devices that agree but for registers agree. -/
theorem engAt_of_sansRegs {d d' : Device} (h : d'.sansRegs = d.sansRegs) (e : Nat) : d'.engAt e = d.engAt e := by
  show d'.sansRegs.engAt e = d.sansRegs.engAt e
  rw [h]

theorem OtherEngines.of_sansRegs {d d' : Device} (h : d'.sansRegs = d.sansRegs) (e : Nat) : OtherEngines d d' e :=
  fun x _ => engAt_of_sansRegs h x

theorem OnlyRegs.engAt {a b : Device} {l : List Nat} (h : OnlyRegs a b l) (e : Nat) : b.engAt e = a.engAt e :=
  engAt_of_sansRegs h.1 e

/-- Two devices that agree but for registers still agree when both get the engines of the second. -/
theorem sansRegs_engOf {a b c : Device} (h : b.sansRegs = { a with eng := b.eng }.sansRegs) (g : c.sansRegs = b.sansRegs) :
    c.sansRegs = { a with eng := c.eng }.sansRegs := by
  have : c.eng = b.eng := by
    show c.sansRegs.eng = b.sansRegs.eng
    rw [g]
  rw [g, h, this]

/-! ## Counters (R116) -/

theorem Device.ctr_setCtr (d : Device) (c : Ctr) (v : Nat) (h : v < 65536) : (d.setCtr c v).ctr c = v := by
  unfold Device.ctr Device.setCtr Device.fld
  rw [Device.reg_setReg_same, Nat.mod_eq_of_lt h]
  unfold bits natBits word
  rw [BitVec.toNat_ofNat]
  omega

theorem Device.ctr_lt (d : Device) (c : Ctr) : d.ctr c < 65536 := by
  unfold Device.ctr Device.fld bits natBits
  exact Nat.mod_lt _ (by decide)

theorem ctrReg_not_irq (c : Ctr) (hc : ∀ i, c = .dev i → i < 64) : ctrReg c ∉ irqRegs := by
  cases c <;> simp only [Ctr.dev.injEq, reduceCtorEq, false_imp_iff, forall_eq', implies_true] at hc <;> simp only [ctrReg, irqRegs, List.mem_cons, List.not_mem_nil, or_false, not_or] <;>
    refine ⟨?_, ?_, ?_⟩ <;> intro h <;> simp only [Reg.prmTok, Reg.fctTok, Reg.tckTok, Reg.prfStatus] at h <;> omega

theorem waitCtr_not_irq (e : Nat) (w : CmdWord) : ctrReg (waitCtr e w) ∉ irqRegs := by
  refine ctrReg_not_irq _ fun i hi => ?_
  unfold waitCtr ctrOf at hi
  split at hi
  · cases hi
  · split at hi
    · cases hi
    · cases hi
      unfold cmdFld
      exact Nat.mod_lt _ (by decide)

theorem SameRegs.waitCtr {a b : Device} (h : SameRegs a b []) (e : Nat) (w : CmdWord) :
    b.ctr (waitCtr e w) = a.ctr (Machine.waitCtr e w) := by
  unfold Device.ctr Device.fld
  rw [h _ (by simp) (waitCtr_not_irq e w)]

theorem Waited.trans {a b c : Device} {e : Nat} {w : CmdWord} (h : Waited a b e w []) (g : SameRegs b c []) :
    Waited a c e w [] :=
  ⟨fun x => (g.waitCtr e w).trans (h.1 x), fun k hk hi => (g k (by simp) hi).trans (h.2 k hk hi)⟩

/-! ## The head of a queue (R111, R115) -/

/-- A command that stands alone at the head of its engine is the one its row starts. -/
theorem Device.headOp_solo {d : Device} {e op : Nat} {h : FCmd} (hs : d.solo e op h) : d.headOp e op = some h := by
  obtain ⟨-, hr, hq, ha, -, hp, hpo, -, hop, hal⟩ := hs
  have hready : d.ready e = true := by
    unfold Device.ready
    rw [hr, hp, ha]
    simp
  unfold Device.headOp
  simp [hready, hq, hpo, hop, hal]

/-- A satisfied header WAIT lets its command start and subtracts its count (R111). -/
theorem Device.gate_met {d : Device} {e : Nat} {w : CmdWord} (hw : (d.engAt e).waitDone = false) (hm : d.waitMet e w) :
    ∃ d1, d.gate e w = (d1, true) ∧ d1.sansRegs = d.sansRegs ∧ Waited d d1 e w [] := by
  unfold Device.gate
  by_cases hen : waitEn w = true
  · have := hm hen
    refine ⟨d.setCtr (waitCtr e w) (d.ctr (waitCtr e w) - waitN w), ?_, rfl, ?_, ?_⟩
    · simp only [hen, hw, Bool.not_true, Bool.false_eq_true, or_self, if_false]
      exact if_pos this
    · intro _
      exact d.ctr_setCtr _ _ (Nat.lt_of_le_of_lt (Nat.sub_le _ _) (d.ctr_lt _))
    · intro k hk _
      simp only [hen, if_true, List.mem_singleton] at hk
      exact d.reg_setReg_ne _ hk
  · refine ⟨d, ?_, rfl, fun h => absurd h hen, fun _ _ _ => rfl⟩
    simp only [Bool.not_eq_true] at hen
    simp [hen]

/-- What starting a command that stands alone does before its effect: its WAIT is subtracted and it leaves the queue. -/
theorem Device.start_solo {d : Device} {e op : Nat} {h : FCmd} (hs : d.solo e op h)
    {causes : Device → CmdWord → List Nat} {body : Device → FCmd → CmdWord → Device} {w : CmdWord}
    (hw : stepWord h.word (d.engAt e).loops = w) (hl : hdrCauses h.word = []) (hc : causes d w = [])
    (hm : d.waitMet e w) :
    ∃ d1, d.start e op causes body = (body d1 h w).settle e ∧ d1.sansRegs = { d with eng := d1.eng }.sansRegs ∧
      d1.engAt e = { d.engAt e with queue := [] } ∧ OtherEngines d d1 e ∧ Waited d d1 e w [] := by
  obtain ⟨d0, hg, h0, hW⟩ := Device.gate_met hs.2.2.2.2.1 hm
  have htag := hs.2.2.2.2.2.2.2.1
  have hq := hs.2.2.1
  have hwd := hs.2.2.2.2.1
  have he0 := engAt_of_sansRegs h0
  refine ⟨((d0.popCmd e).stamp h.tag 1).stamp h.tag 3, ?_, ?_, ?_, ?_, ?_⟩
  · unfold Device.start
    rw [headOp_solo hs]
    simp only [hw, hl, hc, List.append_nil]
    rw [hg]
    rfl
  · rw [htag]
    show ({ d0 with eng := _ } : Device).sansRegs = _
    exact congrArg (fun x : Device => { x with eng := (d0.popCmd e).eng }) h0
  · rw [htag]
    show (d0.popCmd e).engAt e = _
    unfold Device.popCmd
    rw [Device.engAt_modEng_same, he0, hq, ← hwd]
    rfl
  · intro x hx
    rw [htag]
    show (d0.popCmd e).engAt x = _
    unfold Device.popCmd Device.modEng
    rw [Device.engAt_setEng_ne _ _ hx, he0]
  · rw [htag]
    exact hW

/-- An engine whose queue is empty has no head to judge. -/
theorem Device.settle_nil {d : Device} {e : Nat} (h : (d.engAt e).queue = []) : d.settle e = d := by
  unfold Device.settle
  rw [h]
  split <;> rfl

/-- A command without stepped fields is what was fetched (R124). -/
theorem stepWord_none {c : CmdWord} (ls : List LoopEnt) (h : stepSlots (opcode c) = []) : stepWord c ls = c := by
  unfold stepWord
  rw [h]
  rfl

/-! ## Completion in list order (R111, R112) -/

theorem retire_one {d : Device} {e : Nat} {a : Act} (h : (d.engAt e).acts = [a]) (hd : a.done = true) :
    d.retire e = (d.modEng e fun g => { g with acts := [] }).retireAct e a := by
  unfold Device.retire
  rw [h]
  simp only [List.length_singleton]
  unfold Device.retireN
  rw [h]
  simp only [hd, if_true]
  rfl

/-- A local header SIGNAL is sent (R118). -/
theorem signalOf_local {d : Device} {e : Nat} {w : CmdWord} (hab : d.tck.abandoning = false)
    (hl : opcode w = 3 → cmdFld w 8 7 1 ≠ 1) : d.signalOf e w = { d with sigs := d.signalled e w } := by
  unfold Device.signalOf Device.signalled
  by_cases hs : sigEn w = true
  · simp only [hs, hab]
    simp
    intro h g
    exact absurd g (hl h)
  · simp only [Bool.not_eq_true] at hs
    simp [hs]

theorem signalled_congr {a b : Device} (h : b.sansRegs = a.sansRegs) (e : Nat) (w : CmdWord) :
    b.signalled e w = a.signalled e w := by
  show b.sansRegs.signalled e w = a.sansRegs.signalled e w
  rw [h]

theorem engAt_push (d : Device) (e : Nat) (a : Act) :
    (d.push e a).engAt e = { d.engAt e with acts := (d.engAt e).acts ++ [a] } := by
  unfold Device.push
  rw [Device.engAt_modEng_same]

theorem OtherEngines.push (d : Device) (e : Nat) (a : Act) : OtherEngines d (d.push e a) e := OtherEngines.setEng d e _

theorem abandoning_of_solo {d : Device} {e op : Nat} {h : FCmd} (hs : d.solo e op h) : d.tck.abandoning = false := by
  have := hs.2.1
  unfold Device.running at this
  simp only [Bool.and_eq_true, Bool.not_eq_true'] at this
  exact this.2

/-- The tick unit of two devices that agree but for registers agrees. -/
theorem tck_of_sansRegs {d d' : Device} (h : d'.sansRegs = d.sansRegs) : d'.tck = d.tck := by
  show d'.sansRegs.tck = d.sansRegs.tck
  rw [h]

/-- A command that stands alone and completes as soon as it has acted: what it changes. -/
theorem pushDone_solo {d : Device} {e : Nat} {h : FCmd} {w : CmdWord} (ha : (d.engAt e).acts = []) (ht : h.tag = none)
    (hab : d.tck.abandoning = false) (hl : opcode w ≠ 3 ∧ opcode w ≠ 4) :
    ∃ d2, d.pushDone e h w = { d2 with sigs := d.signalled e w } ∧ d2.sansRegs = { d with eng := d2.eng }.sansRegs ∧
      d2.engAt e = d.engAt e ∧ OtherEngines d d2 e ∧ SameRegs d d2 [] := by
  have hc := onlyRegs_cmdDone d e h.tag w
  have hcd : ∀ x, (d.cmdDone e h.tag w).engAt x = d.engAt x := engAt_of_sansRegs hc.1
  unfold Device.pushDone
  generalize d.cmdDone e h.tag w = d1 at *
  have hacts : ((d1.push e ⟨h.addr, w, 0, 0, [], 0, true, h.tag, 0⟩).engAt e).acts =
      [⟨h.addr, w, 0, 0, [], 0, true, h.tag, 0⟩] := by
    rw [engAt_push, hcd, ha]
    rfl
  have hab1 : d1.tck.abandoning = false := by rw [tck_of_sansRegs hc.1]; exact hab
  rw [retire_one hacts rfl]
  refine ⟨(d1.push e ⟨h.addr, w, 0, 0, [], 0, true, h.tag, 0⟩).modEng e fun g => { g with acts := [] }, ?_, ?_, ?_, ?_, ?_⟩
  · unfold Device.retireAct
    simp only [hl.1, hl.2, or_self, if_false, ht]
    rw [signalOf_local (by exact hab1) fun x => absurd x hl.1]
    rw [← signalled_congr hc.1]
    split <;> rfl
  · show ({ d1 with eng := _ } : Device).sansRegs = _
    exact congrArg (fun x : Device => { x with
      eng := ((d1.push e ⟨h.addr, w, 0, 0, [], 0, true, h.tag, 0⟩).modEng e fun g => { g with acts := [] }).eng }) hc.1
  · rw [Device.engAt_modEng_same, engAt_push, hcd, ← ha]
  · intro x hx
    unfold Device.modEng Device.push Device.modEng
    rw [Device.engAt_setEng_ne _ _ hx, Device.engAt_setEng_ne _ _ hx, hcd]
  · exact hc.2

/-- A lone command without fields of its own that completes as soon as it has acted. -/
theorem start_pushDone {d : Device} {e op : Nat} {h : FCmd} {causes : Device → CmdWord → List Nat}
    (hs : d.solo e op h) (hl : hdrCauses h.word = []) (hc : causes d h.word = []) (hm : d.waitMet e h.word)
    (ho : op ≠ 3 ∧ op ≠ 4) (hst : stepSlots op = []) :
    ∃ d', (d.start e op causes fun d h w => d.pushDone e h w) = d' ∧ LoneDone d d' e h.word [] ∧
      d'.sansRegs = { d with eng := d'.eng, sigs := d.signalled e h.word }.sansRegs := by
  have hop : opcode h.word = op := hs.2.2.2.2.2.2.2.2.1
  obtain ⟨d1, hst, h1, h2, h3, h4⟩ := Device.start_solo hs (causes := causes)
    (body := fun d h w => d.pushDone e h w) (stepWord_none _ (by rw [hop]; exact hst)) hl hc hm
  have hab1 : d1.tck.abandoning = false := by
    show d1.sansRegs.tck.abandoning = false
    rw [h1]
    exact abandoning_of_solo (d := d) hs
  obtain ⟨d2, p1, p2, p3, p4, p5⟩ := pushDone_solo (d := d1) (e := e) (h := h) (w := h.word)
    (by rw [h2]; exact hs.2.2.2.1) hs.2.2.2.2.2.2.2.1 hab1 (by rw [hop]; exact ho)
  have hq : (d2.engAt e).queue = [] := by rw [p3, h2]
  have hset : ({ d2 with sigs := d1.signalled e h.word } : Device).settle e =
      { d2 with sigs := d1.signalled e h.word } := Device.settle_nil hq
  have hsig : d1.signalled e h.word = d.signalled e h.word := by
    show d1.sansRegs.signalled e h.word = _
    rw [h1]
    rfl
  refine ⟨_, rfl, ?_⟩
  rw [hst, p1, hset, hsig]
  refine ⟨⟨hq, ?_, fun x hx => (p4 x hx).trans (h3 x hx), h4.trans p5⟩, ?_⟩
  · show (d2.engAt e).acts = []
    rw [p3, h2]
    exact hs.2.2.2.1
  · have hd : d2.sansRegs = { d with eng := d2.eng }.sansRegs := by
      rw [p2]
      exact congrArg (fun x : Device => { x with eng := d2.eng }) h1
    exact congrArg (fun x : Device => { x with sigs := d.signalled e h.word }) hd

end Sys2Proof.Machine
end

