-- ==== Sys2Proof/Laws/Memory.lean ====
section
/-! SUPPORT. Memory operations keep the canonical form, and touch registers, memories and fault pairs alone. -/

namespace Sys2Proof.Machine

/-! ## The canonical form -/

theorem MemSys.wf_iff (m : MemSys) :
    m.wf = true ↔ tabWf 0 m.data = true ∧ tabWf 0 m.syn = true ∧ tabWf SpanErr.zero m.span = true := by
  simp [MemSys.wf, and_assoc]

theorem wf_foldl_tabSet {α β : Type} [DecidableEq α] (dflt : α) (k : β → Nat) (v : β → α) (l : List β) (t : Tab α)
    (h : tabWf dflt t = true) : tabWf dflt (l.foldl (fun t b => tabSet dflt t (k b) (v b)) t) = true := by
  induction l generalizing t with
  | nil => exact h
  | cons b l ih => exact ih _ (tabWf_tabSet dflt t _ _ h)

theorem MemSys.wf_putBytes {m : MemSys} (a n v : Nat) (h : m.wf = true) : (m.putBytes a n v).wf = true := by
  rw [wf_iff] at *
  exact ⟨wf_foldl_tabSet 0 (fun b : Byte × Nat => a + b.2) (fun b => b.1) _ _ h.1, h.2⟩

theorem MemSys.wf_setSyn {m : MemSys} (w s : Nat) (h : m.wf = true) : (m.setSyn w s).wf = true := by
  rw [wf_iff] at *
  exact ⟨h.1, tabWf_tabSet _ _ _ _ h.2.1, h.2.2⟩

theorem MemSys.wf_setSpan {m : MemSys} (b : Nat) (e : SpanErr) (h : m.wf = true) : (m.setSpan b e).wf = true := by
  rw [wf_iff] at *
  exact ⟨h.1, h.2.1, tabWf_tabSet _ _ _ _ h.2.2⟩

theorem MemSys.wf_residue {m : MemSys} (w x : Nat) (h : m.wf = true) : (m.residue w x).wf = true := by
  unfold MemSys.residue
  split
  · exact h
  · exact wf_setSpan _ _ h

theorem MemSys.wf_touch {m : MemSys} (w : Nat) (h : m.wf = true) : (m.touch w).wf = true := by
  unfold MemSys.touch
  split <;> exact h

/-! ## Steps of memory -/

/-- From `d` to `d'` only registers, memories and fault pairs change, and the canonical form is kept. -/
def MemStep (d d' : Device) : Prop := d'.sansMem = d.sansMem ∧ (d.mem.wf = true → d'.mem.wf = true)

theorem MemStep.refl (d : Device) : MemStep d d := ⟨rfl, id⟩

theorem MemStep.trans {a b c : Device} (h : MemStep a b) (g : MemStep b c) : MemStep a c :=
  ⟨g.1.trans h.1, g.2 ∘ h.2⟩

theorem MemStep.foldl {α : Type} (f : Device → α → Device) (hf : ∀ d x, MemStep d (f d x)) (xs : List α) (d : Device) :
    MemStep d (xs.foldl f d) := by
  induction xs generalizing d with
  | nil => exact .refl d
  | cons x xs ih => exact (hf d x).trans (ih (f d x))

theorem MemStep.of_onlyRegs {a b : Device} {l : List Nat} (h : OnlyRegs a b l) : MemStep a b := by
  refine ⟨congrArg (fun x : Device => { x with mem := MemSys.reset, flt := { x.flt with pair := [] }
                                               eng := x.eng.map fun g : Nat × Eng => (g.1, g.2.keepHeld fun _ => false) }) h.1, fun w => ?_⟩
  show b.sansRegs.mem.wf = true
  rw [h.1]
  exact w

theorem memStep_setMem (d : Device) (m : MemSys) (h : d.mem.wf = true → m.wf = true) : MemStep d (d.setMem m) := ⟨rfl, h⟩

theorem memStep_setReg (d : Device) (k : Nat) (v : Word) : MemStep d (d.setReg k v) := ⟨rfl, id⟩
theorem memStep_setFld (d : Device) (k hi lo v : Nat) : MemStep d (d.setFld k hi lo v) := ⟨rfl, id⟩
theorem memStep_count (d : Device) (k hi lo a : Nat) : MemStep d (d.count k hi lo a) := ⟨rfl, id⟩
theorem memStep_incr (d : Device) (k : Nat) : MemStep d (d.incr k) := ⟨rfl, id⟩
theorem memStep_raise (d : Device) (k i : Nat) : MemStep d (d.raise k i) := .of_onlyRegs (onlyRegs_raise d k i)
theorem memStep_perf (d : Device) (u ev n : Nat) : MemStep d (d.perf u ev n) := .of_onlyRegs (onlyRegs_perf d u ev n)

theorem memStep_pairRaise (d : Device) (s : Nat) : MemStep d (d.pairRaise s) := by
  unfold Device.pairRaise
  split
  · exact .refl d
  · exact ⟨rfl, id⟩

theorem memStep_memLog (d : Device) (kind ctrl a : Nat) : MemStep d (d.memLog kind ctrl a) := by
  unfold Device.memLog
  simp only
  exact (((((memStep_setReg d _ _).trans (memStep_setReg _ _ _)).trans (memStep_setReg _ _ _)).trans
    (memStep_setReg _ _ _)).trans (memStep_setFld _ _ _ _ _)).trans (memStep_count _ _ _ _ _)

theorem memStep_memEvent (d : Device) (ev a n : Nat) : MemStep d (d.memEvent ev a n) := by
  unfold Device.memEvent
  split
  · exact memStep_perf d _ _ _
  · exact .refl d

theorem memStep_dramEvent (d : Device) (ev a n : Nat) : MemStep d (d.dramEvent ev a n) := by
  unfold Device.dramEvent
  split
  · exact memStep_memEvent d _ _ _
  · exact .refl d

theorem memStep_memSrc (d : Device) (base a : Nat) : MemStep d (d.memSrc base a) := by
  unfold Device.memSrc
  split
  · exact memStep_pairRaise d _
  · exact .refl d

theorem memStep_noteCe (d : Device) (w : Nat) : MemStep d (d.noteCe w) := by
  unfold Device.noteCe
  simp only
  refine MemStep.trans ?_ (memStep_memSrc _ _ _)
  split
  · exact ((memStep_incr d _).trans (memStep_raise _ _ _)).trans (memStep_memLog _ _ _ _)
  · exact (memStep_incr d _).trans (memStep_raise _ _ _)

theorem memStep_noteFixed (d : Device) (kind a : Nat) : MemStep d (d.noteFixed kind a) := by
  unfold Device.noteFixed
  simp only
  refine MemStep.trans (MemStep.trans (MemStep.trans ?_ (memStep_raise _ _ _)) (memStep_memLog _ _ _ _)) (memStep_memSrc _ _ _)
  split
  · exact memStep_incr d _
  · exact .refl d

theorem memStep_poisonWord (d : Device) (w : Nat) : MemStep d (d.poisonWord w) := by
  unfold Device.poisonWord
  simp only
  exact ((((memStep_setMem d _ (MemSys.wf_setSyn _ _)).trans (memStep_incr _ _)).trans (memStep_raise _ _ _)).trans
    (memStep_memLog _ _ _ _)).trans (memStep_memSrc _ _ _)

/-- A word is rewritten with its page checks left behind. -/
theorem memStep_putWord (d : Device) (w n v x s : Nat) :
    MemStep d (d.setMem (((d.mem.putBytes w n v).residue w x).setSyn w s)) :=
  memStep_setMem d _ fun h => MemSys.wf_setSyn _ _ (MemSys.wf_residue _ _ (MemSys.wf_putBytes _ _ _ h))

theorem memStep_ceWord (d : Device) (w : Nat) : MemStep d (d.ceWord w) := by
  unfold Device.ceWord
  split
  · exact (memStep_putWord d _ _ _ _ _).trans (memStep_noteCe _ _)
  · exact .refl d

theorem memStep_setSpan (d : Device) (b : Nat) (e : SpanErr) : MemStep d (d.setMem (d.mem.setSpan b e)) :=
  memStep_setMem d _ (MemSys.wf_setSpan _ _)

theorem memStep_fixChecks (d : Device) (b : Nat) : MemStep d (d.fixChecks b) := by
  have h : ∀ (d : Device) (s : Byte) (f : Nat → SpanErr), MemStep d (match wordDec b s.toNat with
      | .fixed x => (d.setMem (d.mem.setSpan b (f x))).noteCe b
      | _ => d) := by
    intro d s f
    split
    · exact (memStep_setSpan d b _).trans (memStep_noteCe _ _)
    · exact .refl d
  unfold Device.fixChecks
  exact (h d _ _).trans (h _ _ _)

theorem memStep_fixWord (d : Device) (w : Nat) (e : DWord) : MemStep d (d.fixWord w e) := by
  unfold Device.fixWord
  exact (memStep_putWord d w _ _ _ _).trans (memStep_noteFixed _ _ _)

theorem memStep_giveUp (d : Device) (b : Nat) (es : List Nat) : MemStep d (d.giveUp b es) := by
  unfold Device.giveUp
  have h := MemStep.foldl _ memStep_poisonWord es d
  revert h
  generalize es.foldl (fun d w => d.poisonWord w) d = d1
  exact fun h => h.trans (memStep_setSpan d1 b _)

theorem memStep_pageDecode (d : Device) (b : Nat) : MemStep d (d.pageDecode b) := by
  unfold Device.pageDecode
  simp only
  have h := ((memStep_memEvent d 0xC3 b 1).trans (MemStep.foldl _ memStep_ceWord (d.mem.flagged b) _)).trans
    (memStep_fixChecks _ b)
  revert h
  generalize ((d.mem.flagged b).foldl (fun d w => d.ceWord w) (d.memEvent 0xC3 b 1)).fixChecks b = d1
  intro h
  refine h.trans ?_
  clear h
  split
  · split
    · exact (memStep_setSpan d1 b _).trans (memStep_noteFixed _ _ _)
    · exact .refl d1
  · split
    · split
      · exact memStep_fixWord d1 _ _
      · exact memStep_giveUp d1 _ _
    · split
      · exact memStep_fixWord d1 _ _
      · split
        · exact memStep_fixWord d1 _ _
        · exact memStep_giveUp d1 _ _
  · split
    · exact memStep_giveUp d1 _ _
    · exact (memStep_fixWord d1 _ _).trans (memStep_fixWord _ _ _)
  · exact memStep_giveUp d1 _ _

theorem Eng.keepHeld_keepHeld (g : Eng) (p q : Nat → Bool) :
    (g.keepHeld p).keepHeld q = g.keepHeld fun x => q x && p x := by
  simp [Eng.keepHeld, List.map_map, Function.comp_def, List.filter_filter]

/-- Requests that waited for a page decode are released. -/
theorem memStep_release (d : Device) (b : Nat) (l : List Nat) :
    MemStep d { d.setMem { d.mem with decode := l } with
      eng := d.eng.map fun g => (g.1, g.2.keepHeld fun x => decide (x ≠ b)) } := by
  refine ⟨?_, id⟩
  simp [Device.sansMem, Device.sansRegs, Device.setMem, List.map_map, Function.comp_def, Eng.keepHeld_keepHeld]

theorem memStep_pageEnd (d : Device) (b : Nat) : MemStep d (d.pageEnd b) :=
  (memStep_pageDecode d b).trans (memStep_release _ b _)

/-! ## Reads and writes. `dec` decodes a span. -/

section
variable {dec : Device → Nat → Device} (hdec : ∀ d b, MemStep d (dec d b))
include hdec

theorem memStep_iteDecode (d : Device) (p : Prop) [Decidable p] (b : Nat) : MemStep d (if p then dec d b else d) := by
  split
  · exact hdec d b
  · exact .refl d

theorem memStep_storeWith (d : Device) (w v : Nat) (poison : Bool) : MemStep d (d.storeWith dec w v poison) := by
  unfold Device.storeWith
  split
  · exact .refl d
  · simp only
    refine (memStep_iteDecode hdec d (d.needsDecode w = true) (spanBase w)).trans ?_
    exact memStep_setMem _ _ fun h =>
      MemSys.wf_touch _ (MemSys.wf_setSyn _ _ (MemSys.wf_putBytes _ _ _ (MemSys.wf_residue _ _ h)))

theorem memStep_loadWith (d : Device) (w : Nat) : MemStep d (d.loadWith dec w).1 := by
  unfold Device.loadWith
  split
  · exact .refl d
  · exact (memStep_iteDecode hdec d (d.needsDecode w = true) (spanBase w)).trans (memStep_ceWord _ w)

theorem memStep_drainEntryWith (d : Device) (t : MergeEnt) : MemStep d (d.drainEntryWith dec t) := by
  unfold Device.drainEntryWith
  refine (MemStep.foldl (fun d i => (d.loadWith dec (t.line + 8 * i)).1) (fun d i => memStep_loadWith hdec d _)
    (List.range 8) d).trans ?_
  refine MemStep.foldl _ ?_ (List.range 8) _
  intro d i
  simp only
  split
  · exact .refl d
  · split
    · exact memStep_storeWith hdec d _ _ _
    · refine MemStep.trans (memStep_loadWith hdec d (t.line + 8 * i)) ?_
      generalize d.loadWith dec (t.line + 8 * i) = r
      exact memStep_storeWith hdec _ _ _ _

theorem memStep_drainWith (d : Device) (t : MergeEnt) : MemStep d (d.drainWith dec t) := by
  unfold Device.drainWith
  split
  · exact .refl d
  · refine MemStep.trans ?_ (memStep_drainEntryWith hdec _ _)
    refine MemStep.trans ?_ (memStep_memEvent _ _ _ _)
    exact memStep_setMem d _ id

end

theorem memStep_spanDecode (n : Nat) (d : Device) (b : Nat) : MemStep d (spanDecode n d b) := by
  induction n generalizing d b with
  | zero => exact memStep_pageEnd d b
  | succ n ih =>
    unfold spanDecode
    exact ((memStep_setMem d { d.mem with decode := d.mem.decode.erase b } id).trans
      (MemStep.foldl _ (fun d t => memStep_drainWith ih d t) _ _)).trans (memStep_pageEnd _ b)

theorem memStep_decodeSpan (d : Device) (b : Nat) : MemStep d (d.decodeSpan b) := memStep_spanDecode _ d b

/-- Storing a word. -/
theorem memStep_storeWord (d : Device) (w v : Nat) (poison : Bool) : MemStep d (d.storeWord w v poison) :=
  memStep_storeWith memStep_decodeSpan d w v poison

/-- Loading a word, with what its decode corrects. -/
theorem memStep_loadWord (d : Device) (w : Nat) : MemStep d (d.loadWord w).1 := memStep_loadWith memStep_decodeSpan d w

theorem memStep_drain (d : Device) (t : MergeEnt) : MemStep d (d.drain t) := memStep_drainWith memStep_decodeSpan d t

theorem memStep_drainWhere (d : Device) (p : MergeEnt → Bool) : MemStep d (d.drainWhere p) :=
  .foldl _ memStep_drain _ d

theorem memStep_writeLine (d : Device) (a : Nat) (bs : List Byte) (poison : Bool) :
    MemStep d (d.writeLine a bs poison) := by
  unfold Device.writeLine
  simp only
  split
  · exact memStep_setMem d _ id
  · split
    · exact .foldl _ (fun d i => memStep_storeWord d _ _ _) _ d
    · refine MemStep.trans ?_ (memStep_setMem _ _ id)
      split
      · split
        · exact memStep_drain d _
        · exact .refl d
      · exact .refl d

/-- Writing bytes. -/
theorem memStep_writeMem (d : Device) (a : Nat) (bs : List Byte) (poison : Bool) : MemStep d (d.writeMem a bs poison) := by
  refine .foldl _ (fun d p => ?_) _ d
  simp only
  refine (memStep_iteDecode memStep_decodeSpan d (spanBase p.1 ∈ d.mem.decode) (spanBase p.1)).trans ?_
  generalize (if spanBase p.1 ∈ d.mem.decode then d.decodeSpan (spanBase p.1) else d) = d
  split
  · exact .refl d
  · split
    · refine .foldl _ (fun d t => ?_) _ d
      split
      · exact memStep_storeWord d _ _ _
      · exact (memStep_loadWord d _).trans (memStep_storeWord _ _ _ _)
    · exact (memStep_dramEvent d _ _ _).trans (memStep_writeLine _ _ _ _)

theorem memStep_seeAs (d : Device) (r : Reader) (w : Nat) : MemStep d (d.seeAs r w).1 := by
  unfold Device.seeAs
  simp only
  generalize (decide (r ≠ .any) && d.tck.abandoning && d.needsDecode w && !accHole w) = b
  have h : MemStep d (if b = true then (d.setMem { d.mem with decode := (d.mem.decode ++ [spanBase w]).dedup },
      d.mem.word w, true) else d.loadWord w).1 := by
    split
    · exact memStep_setMem d _ id
    · exact memStep_loadWord d w
  revert h
  generalize (if b = true then (d.setMem { d.mem with decode := (d.mem.decode ++ [spanBase w]).dedup },
      d.mem.word w, true) else d.loadWord w) = r
  intro h
  have key : ∀ (c p : Bool) (d1 : Device) (v : Nat), MemStep d d1 →
      MemStep d (if c = true then ((d1.incr Reg.memPoisonReadCnt).raise Reg.memStatus 4, v, p) else (d1, v, p)).1 := by
    intro c p d1 v h
    split
    · exact (h.trans (memStep_incr _ _)).trans (memStep_raise _ _ _)
    · exact h
  exact key _ _ _ _ h

/-- Reading bytes, with what their decode corrects. -/
theorem memStep_readAs (d : Device) (r : Reader) (a n : Nat) : MemStep d (d.readAs r a n).dev := by
  unfold Device.readAs
  have key : ∀ (l : List (Nat × Nat × Nat)) (s : ReadRes), MemStep d s.dev → MemStep d (l.foldl (fun s p =>
      let w := wordBase p.1
      let (d, v, bad) := s.dev.seeAs r w
      (⟨d, s.bytes ++ slice (toLe (wordSize w) v) (p.1 - w) p.2.2, s.poison || bad⟩ : ReadRes)) s).dev := by
    intro l
    induction l with
    | nil => exact fun s h => h
    | cons p l ih => exact fun s h => ih _ (h.trans (memStep_seeAs s.dev r _))
  exact key _ _ (memStep_dramEvent d _ _ _)

theorem memStep_readMem (d : Device) (a n : Nat) : MemStep d (d.readMem a n).dev := memStep_readAs d .any a n

theorem memStep_sense (d : Device) (a n : Nat) : MemStep d (d.sense a n) := memStep_readMem d a n

theorem memStep_memDrainAll (d : Device) : MemStep d d.memDrainAll :=
  (memStep_drainWhere d _).trans (memStep_setMem _ _ id)

theorem memStep_wipeFacet (d : Device) (f : Nat) : MemStep d (d.wipeFacet f) := by
  refine memStep_setMem d _ fun h => ?_
  rw [MemSys.wf_iff] at *
  exact ⟨tabWf_filter _ _ _ h.1, tabWf_filter _ _ _ h.2.1, tabWf_filter _ _ _ h.2.2⟩

theorem memStep_zeroMem (d : Device) (a n : Nat) : MemStep d (d.zeroMem a n) := by
  unfold Device.zeroMem
  simp only
  split
  · exact memStep_writeMem d _ _ _
  · refine (((memStep_writeMem d _ _ _).trans (memStep_writeMem _ _ _ _)).trans
      (MemStep.foldl _ (fun d l => memStep_writeMem d _ _ _) _ _)).trans (MemStep.foldl _ (fun d w => ?_) _ _)
    split
    · exact .refl d
    · exact memStep_storeWord d _ _ _

end Sys2Proof.Machine
end

