-- ==== Sys2Proof/Laws/PerInstr.lean ====
section
/-! SUPPORT. Statements made of every command. The opcode table gives no command any bits, so no word spells one: the
decoder never answers it. -/

namespace Sys2Proof.Laws.Unencoded

/-- No word of the table spells command `i`. -/
def Statement (i : Instr) : Prop := ∀ nbits w : Nat, decodeTableWord nbits w ≠ some i

/-- Nothing is spelled by a word. -/
theorem of_any (i : Instr) : Statement i := fun _ _ h => nomatch h

theorem checkerSupplyValid : Statement (.checkerSupplyValid) := of_any _
theorem checkerSupplyRemoved : Statement (.checkerSupplyRemoved) := of_any _
theorem checkerRailLow : Statement (.checkerRailLow) := of_any _
theorem computePowerEnable : Statement (.computePowerEnable) := of_any _
theorem computeResetRelease (a0) (a1) : Statement (.computeResetRelease a0 a1) := of_any _
theorem partitionTableRead : Statement (.partitionTableRead) := of_any _
theorem bootImageVerify (a0) (a1) : Statement (.bootImageVerify a0 a1) := of_any _
theorem structureImageVerify (a0) (a1) (a2) (a3) (a4) : Statement (.structureImageVerify a0 a1 a2 a3 a4) := of_any _
theorem repairRecordVerify : Statement (.repairRecordVerify) := of_any _
theorem computeConfigured : Statement (.computeConfigured) := of_any _
theorem startupTestComplete (a0) : Statement (.startupTestComplete a0) := of_any _
theorem warmResetBegin : Statement (.warmResetBegin) := of_any _
theorem perstN : Statement (.perstN) := of_any _
theorem functionLevelReset : Statement (.functionLevelReset) := of_any _
theorem hotReset : Statement (.hotReset) := of_any _
theorem pcieLinkLoss (a0) : Statement (.pcieLinkLoss a0) := of_any _
theorem tick : Statement (.tick) := of_any _
theorem abandonmentComplete : Statement (.abandonmentComplete) := of_any _
theorem frameSyncEdge : Statement (.frameSyncEdge) := of_any _
theorem syncWindowClose : Statement (.syncWindowClose) := of_any _
theorem syncAcq : Statement (.syncAcq) := of_any _
theorem testRun (a0) : Statement (.testRun a0) := of_any _
theorem testPlanVerified (a0) (a1) : Statement (.testPlanVerified a0 a1) := of_any _
theorem commandFetch (a0) : Statement (.commandFetch a0) := of_any _
theorem nop (a0) : Statement (.nop a0) := of_any _
theorem endCmd (a0) : Statement (.endCmd a0) := of_any _
theorem wait (a0) : Statement (.wait a0) := of_any _
theorem signal (a0) : Statement (.signal a0) := of_any _
theorem mark (a0) : Statement (.mark a0) := of_any _
theorem loop (a0) : Statement (.loop a0) := of_any _
theorem mm (a0) : Statement (.mm a0) := of_any _
theorem mmc (a0) : Statement (.mmc a0) := of_any _
theorem agd (a0) : Statement (.agd a0) := of_any _
theorem meStreamStart (a0) : Statement (.meStreamStart a0) := of_any _
theorem meRowWrite (a0) : Statement (.meRowWrite a0) := of_any _
theorem meCommandDone (a0) : Statement (.meCommandDone a0) := of_any _
theorem vew (a0) : Statement (.vew a0) := of_any _
theorem vact (a0) : Statement (.vact a0) := of_any _
theorem vnorm (a0) : Statement (.vnorm a0) := of_any _
theorem vsmax (a0) : Statement (.vsmax a0) := of_any _
theorem vpool (a0) : Statement (.vpool a0) := of_any _
theorem vresize (a0) : Statement (.vresize a0) := of_any _
theorem vred (a0) : Statement (.vred a0) := of_any _
theorem vargmax (a0) : Statement (.vargmax a0) := of_any _
theorem vtopk (a0) : Statement (.vtopk a0) := of_any _
theorem vcompact (a0) : Statement (.vcompact a0) := of_any _
theorem vqmx (a0) : Statement (.vqmx a0) := of_any _
theorem veCommandComplete (a0) : Statement (.veCommandComplete a0) := of_any _
theorem copy (a0) : Statement (.copy a0) := of_any _
theorem fetch2d (a0) : Statement (.fetch2d a0) := of_any _
theorem gather (a0) : Statement (.gather a0) := of_any _
theorem store (a0) : Statement (.store a0) := of_any _
theorem storeT (a0) : Statement (.storeT a0) := of_any _
theorem send (a0) : Statement (.send a0) := of_any _
theorem memoryRequestComplete (a0) (a1) : Statement (.memoryRequestComplete a0 a1) := of_any _
theorem pageDecodeComplete (a0) : Statement (.pageDecodeComplete a0) := of_any _
theorem tokenSignalArrival (a0) : Statement (.tokenSignalArrival a0) := of_any _
theorem engineBlockReset (a0) : Statement (.engineBlockReset a0) := of_any _
theorem abftInj (a0) : Statement (.abftInj a0) := of_any _
theorem mergeDrain (a0) : Statement (.mergeDrain a0) := of_any _
theorem facetZeroingComplete (a0) : Statement (.facetZeroingComplete a0) := of_any _
theorem scrubSpanVisit (a0) : Statement (.scrubSpanVisit a0) := of_any _
theorem memFence : Statement (.memFence) := of_any _
theorem fenceComplete : Statement (.fenceComplete) := of_any _
theorem memTestModeWrite (a0) : Statement (.memTestModeWrite a0) := of_any _
theorem hostMemoryWrite (a0) (a1) (a2) : Statement (.hostMemoryWrite a0 a1 a2) := of_any _
theorem hostMemoryRead (a0) (a1) : Statement (.hostMemoryRead a0 a1) := of_any _
theorem bgLevelUrgent (a0) : Statement (.bgLevelUrgent a0) := of_any _
theorem bgLevelForced (a0) : Statement (.bgLevelForced a0) := of_any _
theorem bgUnitComplete (a0) (a1) : Statement (.bgUnitComplete a0 a1) := of_any _
theorem selftestSegmentStart (a0) : Statement (.selftestSegmentStart a0) := of_any _
theorem selftestSegmentEnd (a0) (a1) : Statement (.selftestSegmentEnd a0 a1) := of_any _
theorem swap (a0) (a1) : Statement (.swap a0 a1) := of_any _
theorem planValidationDone : Statement (.planValidationDone) := of_any _
theorem planDigestCompareDone : Statement (.planDigestCompareDone) := of_any _
theorem load (a0) (a1) : Statement (.load a0 a1) := of_any _
theorem loadComplete (a0) : Statement (.loadComplete a0) := of_any _
theorem unload (a0) (a1) : Statement (.unload a0 a1) := of_any _
theorem unloadComplete : Statement (.unloadComplete) := of_any _
theorem replace (a0) (a1) : Statement (.replace a0 a1) := of_any _
theorem timeGrant (a0) (a1) : Statement (.timeGrant a0 a1) := of_any _
theorem timeGrantLapse : Statement (.timeGrantLapse) := of_any _
theorem chkRestart (a0) (a1) : Statement (.chkRestart a0 a1) := of_any _
theorem cvuMode (a0) (a1) : Statement (.cvuMode a0 a1) := of_any _
theorem maint (a0) (a1) : Statement (.maint a0 a1) := of_any _
theorem warmReset (a0) (a1) : Statement (.warmReset a0 a1) := of_any _
theorem facetReturn (a0) (a1) : Statement (.facetReturn a0 a1) := of_any _
theorem faultForce (a0) (a1) : Statement (.faultForce a0 a1) := of_any _
theorem faultClear (a0) (a1) : Statement (.faultClear a0 a1) := of_any _
theorem hifHostVerWrite (a0) : Statement (.hifHostVerWrite a0) := of_any _
theorem hifBar2BaseWrite (a0) (a1) : Statement (.hifBar2BaseWrite a0 a1) := of_any _
theorem registerWrite (a0) (a1) (a2) (a3) : Statement (.registerWrite a0 a1 a2 a3) := of_any _
theorem timNsRead : Statement (.timNsRead) := of_any _
theorem timCapNsRead (a0) : Statement (.timCapNsRead a0) := of_any _
theorem chkTimeNsRead : Statement (.chkTimeNsRead) := of_any _
theorem ethTsqPop (a0) : Statement (.ethTsqPop a0) := of_any _
theorem chkRngTsqPop (a0) : Statement (.chkRngTsqPop a0) := of_any _
theorem timIncrWrite (a0) : Statement (.timIncrWrite a0) := of_any _
theorem stepGo : Statement (.stepGo) := of_any _
theorem captureEvent (a0) : Statement (.captureEvent a0) := of_any _
theorem triggerPulseStart (a0) : Statement (.triggerPulseStart a0) := of_any _
theorem triggerPulseEnd (a0) : Statement (.triggerPulseEnd a0) := of_any _
theorem timeMessage (a0) (a1) : Statement (.timeMessage a0 a1) := of_any _
theorem timeCopyTimeout : Statement (.timeCopyTimeout) := of_any _
theorem csi2LongPacket (a0) (a1) (a2) (a3) : Statement (.csi2LongPacket a0 a1 a2 a3) := of_any _
theorem frameStart (a0) (a1) (a2) : Statement (.frameStart a0 a1 a2) := of_any _
theorem frameEnd (a0) (a1) : Statement (.frameEnd a0 a1) := of_any _
theorem lensFrameComplete (a0) : Statement (.lensFrameComplete a0) := of_any _
theorem ethFrameReceive (a0) (a1) (a2) : Statement (.ethFrameReceive a0 a1 a2) := of_any _
theorem ethTailWrite (a0) (a1) (a2) : Statement (.ethTailWrite a0 a1 a2) := of_any _
theorem ethTransmit (a0) : Statement (.ethTransmit a0) := of_any _
theorem ringFacetWrite (a0) : Statement (.ringFacetWrite a0) := of_any _
theorem rangeFrameReceive (a0) (a1) (a2) : Statement (.rangeFrameReceive a0 a1 a2) := of_any _
theorem rangeFrameForward (a0) : Statement (.rangeFrameForward a0) := of_any _
theorem rangeTransmit (a0) : Statement (.rangeTransmit a0) := of_any _
theorem wr (a0) (a1) : Statement (.wr a0 a1) := of_any _
theorem wrAck (a0) (a1) : Statement (.wrAck a0 a1) := of_any _
theorem rdReq (a0) (a1) : Statement (.rdReq a0 a1) := of_any _
theorem rdResp (a0) (a1) : Statement (.rdResp a0 a1) := of_any _
theorem sig (a0) (a1) : Statement (.sig a0 a1) := of_any _
theorem tickFlit (a0) (a1) : Statement (.tickFlit a0 a1) := of_any _
theorem tickFlitSend : Statement (.tickFlitSend) := of_any _
theorem tickFlitMissing : Statement (.tickFlitMissing) := of_any _
theorem timeFlit (a0) (a1) (a2) : Statement (.timeFlit a0 a1 a2) := of_any _
theorem timeFlitSend (a0) : Statement (.timeFlitSend a0) := of_any _
theorem statusFlit (a0) (a1) (a2) : Statement (.statusFlit a0 a1 a2) := of_any _
theorem masterElection : Statement (.masterElection) := of_any _
theorem train (a0) (a1) (a2) (a3) (a4) : Statement (.train a0 a1 a2 a3 a4) := of_any _
theorem nak (a0) (a1) : Statement (.nak a0 a1) := of_any _
theorem idle (a0) (a1) : Statement (.idle a0 a1) := of_any _
theorem dskPortRetrain (a0) : Statement (.dskPortRetrain a0) := of_any _
theorem markCheckin : Statement (.markCheckin) := of_any _
theorem stageWindowClose (a0) : Statement (.stageWindowClose a0) := of_any _
theorem allEndReport : Statement (.allEndReport) := of_any _
theorem aperturePacket (a0) : Statement (.aperturePacket a0) := of_any _
theorem packetAck (a0) : Statement (.packetAck a0) := of_any _
theorem comparisonComplete : Statement (.comparisonComplete) := of_any _
theorem challengeSplice (a0) : Statement (.challengeSplice a0) := of_any _
theorem challengeSlotDone : Statement (.challengeSlotDone) := of_any _
theorem verdict : Statement (.verdict) := of_any _
theorem resultRecordPublish : Statement (.resultRecordPublish) := of_any _
theorem eventStaging : Statement (.eventStaging) := of_any _
theorem eventLensAppend (a0) : Statement (.eventLensAppend a0) := of_any _
theorem eventFlashWrite (a0) : Statement (.eventFlashWrite a0) := of_any _
theorem speedClassChange (a0) : Statement (.speedClassChange a0) := of_any _
theorem faultPairRegistration (a0) : Statement (.faultPairRegistration a0) := of_any _
theorem brokenPair (a0) : Statement (.brokenPair a0) := of_any _
theorem checkerSourceRaise (a0) : Statement (.checkerSourceRaise a0) := of_any _
theorem fenceConfirm (a0) : Statement (.fenceConfirm a0) := of_any _
theorem fenceConfirmTimeout (a0) : Statement (.fenceConfirmTimeout a0) := of_any _
theorem fatalRecordAck : Statement (.fatalRecordAck) := of_any _
theorem fatalAckTimeout : Statement (.fatalAckTimeout) := of_any _
theorem errOutHoldExpiry : Statement (.errOutHoldExpiry) := of_any _
theorem vmonCmp : Statement (.vmonCmp) := of_any _
theorem fmonCmp : Statement (.fmonCmp) := of_any _
theorem chkSupply : Statement (.chkSupply) := of_any _
theorem fltForce (a0) : Statement (.fltForce a0) := of_any _
theorem facetTestComplete (a0) (a1) : Statement (.facetTestComplete a0 a1) := of_any _
theorem replacementComplete (a0) (a1) : Statement (.replacementComplete a0 a1) := of_any _
theorem repairRecordUpdate (a0) (a1) (a2) : Statement (.repairRecordUpdate a0 a1 a2) := of_any _
theorem checkpoint (a0) (a1) : Statement (.checkpoint a0 a1) := of_any _
theorem checkpointTimeout (a0) : Statement (.checkpointTimeout a0) := of_any _
theorem storeCompare (a0) (a1) : Statement (.storeCompare a0 a1) := of_any _
theorem channelARestart (a0) : Statement (.channelARestart a0) := of_any _
theorem corePairRelease (a0) (a1) : Statement (.corePairRelease a0 a1) := of_any _
theorem firmwareInitComplete : Statement (.firmwareInitComplete) := of_any _
theorem debugHalt (a0) : Statement (.debugHalt a0) := of_any _
theorem debugResume (a0) : Statement (.debugResume a0) := of_any _
theorem wdgService (a0) : Statement (.wdgService a0) := of_any _
theorem wdgPhaseOpen : Statement (.wdgPhaseOpen) := of_any _
theorem wdgMissed : Statement (.wdgMissed) := of_any _
theorem wdgEnable : Statement (.wdgEnable) := of_any _
theorem wdgPhaseConfig (a0) (a1) : Statement (.wdgPhaseConfig a0 a1) := of_any _
theorem ladderTimerExpiry : Statement (.ladderTimerExpiry) := of_any _
theorem expCntClear : Statement (.expCntClear) := of_any _
theorem cvuModeWrite (a0) : Statement (.cvuModeWrite a0) := of_any _
theorem cvuSnapshot (a0) (a1) : Statement (.cvuSnapshot a0 a1) := of_any _
theorem prfSelWrite (a0) (a1) (a2) (a3) : Statement (.prfSelWrite a0 a1 a2 a3) := of_any _
theorem snapshotRequest : Statement (.snapshotRequest) := of_any _
theorem snapshotWriteComplete : Statement (.snapshotWriteComplete) := of_any _
theorem read (a0) : Statement (.read a0) := of_any _
theorem program (a0) : Statement (.program a0) := of_any _
theorem erase (a0) : Statement (.erase a0) := of_any _
theorem nvmOpComplete (a0) : Statement (.nvmOpComplete a0) := of_any _
theorem encoderEdge (a0) (a1) (a2) (a3) : Statement (.encoderEdge a0 a1 a2 a3) := of_any _
theorem speedSampleB : Statement (.speedSampleB) := of_any _
theorem speedSampleA : Statement (.speedSampleA) := of_any _
theorem estopInput (a0) (a1) (a2) : Statement (.estopInput a0 a1 a2) := of_any _
theorem estopDiscrepancy (a0) : Statement (.estopDiscrepancy a0) := of_any _
theorem sresetInLevel (a0) (a1) : Statement (.sresetInLevel a0 a1) := of_any _
theorem resetHeld3s (a0) : Statement (.resetHeld3s a0) := of_any _
theorem armedResetLapse : Statement (.armedResetLapse) := of_any _
theorem sealRead (a0) : Statement (.sealRead a0) := of_any _
theorem testPulseStart (a0) : Statement (.testPulseStart a0) := of_any _
theorem testPulseEnd (a0) : Statement (.testPulseEnd a0) := of_any _
theorem readbackSample (a0) (a1) (a2) : Statement (.readbackSample a0 a1 a2) := of_any _
theorem enableRequestChange (a0) (a1) : Statement (.enableRequestChange a0 a1) := of_any _
theorem faultPairClear (a0) : Statement (.faultPairClear a0) := of_any _
theorem flitCrcError (a0) : Statement (.flitCrcError a0) := of_any _
theorem counterWrap (a0) (a1) : Statement (.counterWrap a0 a1) := of_any _
theorem ethLinkChange (a0) (a1) (a2) : Statement (.ethLinkChange a0 a1 a2) := of_any _

end Sys2Proof.Laws.Unencoded
end

