-- ==== Sys2Proof/Tests/Slice0.lean ====
section
/-! SUPPORT. Tests: ill-formed commands are refused, the worked examples of the spec hold, single commands do what their
rules say at the edges of ranges, and the hypotheses of every obligation are met by some state. Expected values come from
the spec's worked examples and tables. -/

set_option exponentiation.threshold 600
set_option maxRecDepth 8000

namespace Sys2Proof.Tests

open Sys2Proof Sys2Proof.Machine

/-! ## Small states -/

/-- A powered device of four healthy Facets in state `v`, one second old. -/
def live (v : DevState) : Device :=
  { Device.reset with
    q := 14000000000
    chk := { Checker.reset with dev := v, pwrEn := true, cmpReset := false, healthy := 4 }
    hif := { Hif.reset with linkUp := true }
    core := { Device.reset.core with held := false, sync := true, testPassed := true }
    facet := (List.range 4).map fun f => (f, { Facet.reset with powered := true })
    tck := { Tck.reset with running := true, period := 10000, map := [0, 1, 2, 3] } }

/-- A state with an empty queue. -/
def st (d : Device) : State := ⟨[], d⟩

/-- A command of fields: byte, bit, value. -/
def cw (l : List (Nat × Nat × Nat)) : CmdWord := BitVec.ofNat 512 (l.foldl (fun s x => s + x.2.2 * 2 ^ (8 * x.1 + x.2.1)) 0)

/-- A command as fetched from 0x2000. -/
def fc (l : List (Nat × Nat × Nat)) : FCmd := ⟨0x2000, cw l, false, none⟩

/-- A device with one command at the head of engine `e`. -/
def hold (d : Device) (e : Nat) (h : FCmd) (ls : List LoopEnt) : Device :=
  { d with eng := [(e, { Eng.reset with phase := .executing, queue := [h], atEnd := false, loops := ls })] }

/-- `live` with a minor version agreed. -/
def host (v : DevState) : Device := (live v).setBit Reg.hifVer 31 true

/-- No arguments. -/
def noA : ReqArgs := ⟨0, 0, 0, 0⟩

/-- A flit with nothing in it, in turn on a port that has received none. -/
def flit0 : Flit := ⟨0, 1, 1, 0, 0, 0, 0, 0, List.replicate 64 0, 0⟩

/-- A device of a ring of two whose port 0 is up. -/
def ring : Device :=
  { (live .run).setReg Reg.dskCfg 0x410 with
    boot := { Boot.reset with img := { emptyImage with pins := { emptyImage.pins with dskEn := 1 } } }
    dsk := { Device.reset.dsk with routes := [(1, 1)], port := [(0, { DskPort.reset with up := true })] } }

/-- Device `d` whose structure image enables every Lens and Ethernet port. -/
def ports (d : Device) : Device :=
  { d with boot := { Boot.reset with img := { emptyImage with pins := { emptyImage.pins with lensEn := 0xFF, ethEn := 0x3F } } } }

/-- A device whose port rings hold one descriptor at 0x1000: buffer 0, 64 bytes. -/
def ringed (d : Device) (lo hi tail : Nat) : Device :=
  { ((d.setReg lo 0x1000).setReg hi 0x40000).setReg tail 1 with
    mem := { MemSys.reset with data := [(0x1008, 64), (0x100C, 1)] } }

/-- A vector command with opcode `op` on one element in scratch memory. -/
def vecWord (op : Nat) (l : List (Nat × Nat × Nat)) : FCmd :=
  fc ([(0, 0, op), (12, 0, 1), (14, 0, 1), (16, 0, scrBase), (28, 0, scrBase)] ++ l)

/-- A row of 16 bytes from scratch memory with opcode `op`. -/
def rowWord (op : Nat) : FCmd := fc [(0, 0, op), (8, 0, scrBase), (14, 0, scrBase + 64), (20, 0, 16), (22, 0, 1)]

/-- A gather of one row of 16 bytes. -/
def gatherWord : FCmd :=
  fc [(0, 0, 0x32), (8, 0, scrBase), (14, 0, scrBase + 64), (20, 0, scrBase), (26, 0, 16), (28, 0, 1), (30, 0, 16), (38, 0, 1)]

/-- A copy of 16 bytes in scratch memory. -/
def copyWord : FCmd := fc [(0, 0, 0x30), (8, 0, scrBase), (14, 0, scrBase + 64), (20, 0, 16)]

/-- A matrix multiply of one row, one K and one column. -/
def mmWord : FCmd :=
  fc [(0, 0, 0x10), (12, 0, 1), (14, 0, 1), (20, 0, 1), (24, 0, scrBase + 23 * 0x400000), (34, 0, scrBase + 23 * 0x400000)]

/-- It in the pipeline of an ME. -/
def mmCmd (s : Option Nat) (rows : List RowRes) : MeCmd :=
  ⟨0x2000, mmWord.word, none, 0, some 0, s, [], rows, [], 0, false, false, none⟩

/-- An address-generation descriptor of one pixel. -/
def agdWord : FCmd :=
  fc [(0, 0, 0x12), (10, 0, 1), (11, 0, 1), (12, 0, 0x11), (13, 0, 0x11), (16, 0, 1), (18, 0, 1), (20, 0, 1), (22, 0, 1),
      (24, 0, 1), (26, 0, 1), (28, 0, scrBase + 23 * 0x400000), (38, 0, 16)]

/-- A stream of frames of two lines of 16 pixels on port 0. -/
def lrec : LensRec := { (default : LensRec) with en := true, w := 16, h := 2, ow := 16, oh := 2 }

/-- A device that takes `lrec` and whose stream 0 is `l`. -/
def cam (l : Lens) : Device :=
  { ports (live .run) with
    boot := { (ports (live .run)).boot with img := { (ports (live .run)).boot.img with lens := [lrec] } }, lens := [(0, l)] }

/-- A camera frame in buffer 0. -/
def frame0 : LensFrame := { (default : LensFrame) with buf := some 0 }

/-- A SEND of manifest entry 0. -/
def sendWord : FCmd := fc [(0, 0, 0x42), (8, 0, scrBase), (16, 0, 16)]

/-- A plan whose manifest has one entry of 16 bytes. -/
def plan1 (d : Device) : Device :=
  { d with tck := { d.tck with plan := { PlanVar.reset with man := ⟨[⟨0, 0, 0, false, 16, 0, 0, 0, 0⟩], [], [], []⟩ } } }

/-- Two entries of a replica pair that have come, under a plan in force with one challenge slot. -/
def pair1 : Device :=
  { live .run with
    tck := { (live .run).tck with
             active := some 0
             plan := { PlanVar.reset with
                       man := ⟨[⟨4, 0, 1, false, 16, 0, 0, 0, 0⟩, ⟨4, 0, 0, false, 16, 0, 0, 0, 0⟩], [⟨0, 0, 16, 0⟩], [], []⟩ } }
    model0 := { Model.reset with st := .resident, tiles := [⟨0, 16, 0, 1114675946, []⟩] }
    apt := { Apt.reset with
             splicing := true, draws := [0]
             recv := [(0, ⟨List.replicate 16 0, false, some 0, false⟩), (1, ⟨List.replicate 16 0, false, some 0, false⟩)] } }

/-- A frame whose verdict is due. -/
def judged (n : Bool) : Device :=
  { live .run with apt := { Apt.reset with issued := false, none_ := n, allEndAt := some 0 } }

/-! ## Ill-formed commands: one operand outside each check -/

theorem test_wf_refuses_engines :
    [Instr.commandFetch 168, .nop 168, .endCmd 168, .wait 168, .signal 168, .mark 168, .loop 168, .tokenSignalArrival (.prm 24 0),
      .engineBlockReset 168, .memoryRequestComplete 4 0, .memoryRequestComplete 173 0].all (fun i => !i.wf) = true := by decide

theorem test_wf_refuses_kinds :
    [Instr.mm 4, .mmc 5, .agd 6, .meStreamStart 4, .meRowWrite 5, .meCommandDone 168, .abftInj 6, .vew 3, .vact 5, .vnorm 6, .vsmax 0,
      .vpool 1, .vresize 2, .vred 3, .vargmax 5, .vtopk 6, .vcompact 172, .vqmx 0, .veCommandComplete 5, .copy 6, .fetch2d 4, .gather 0,
      .store 5, .storeT 4, .send 173, .packetAck 5].all (fun i => !i.wf) = true := by decide

theorem test_wf_refuses_memory :
    [Instr.pageDecodeComplete 0xF00000000, .tokenSignalArrival (.prm 0 64), .tokenSignalArrival (.fct 4 0),
      .tokenSignalArrival (.fct 0 32), .tokenSignalArrival (.dev 16), .mergeDrain 60, .facetZeroingComplete 4, .scrubSpanVisit 160,
      .hostMemoryWrite 0 [] false, .hostMemoryRead ⟨.bar2, 0⟩ 0, .registerWrite .host .bar0 0 []].all (fun i => !i.wf) = true := by decide

theorem test_wf_refuses_background :
    [Instr.bgLevelUrgent ⟨.refresh 4, false⟩, .bgLevelForced ⟨.selftest 24, false⟩, .bgUnitComplete (.refresh 4) ⟨⟨0, false, false⟩, [], [], false⟩,
      .selftestSegmentStart 24, .selftestSegmentEnd 24 .pass, .startupTestComplete ⟨none, false, none, false, [168], []⟩,
      .startupTestComplete ⟨none, false, none, false, [], [4]⟩, .facetTestComplete 4 ⟨[], true⟩,
      .replacementComplete 4 0, .repairRecordUpdate 96 ⟨none, none⟩ true].all (fun i => !i.wf) = true := by decide

theorem test_wf_refuses_times :
    [Instr.timCapNsRead 32, .ethTsqPop 2, .chkRngTsqPop 2, .captureEvent 32, .triggerPulseStart 16, .triggerPulseEnd 16,
      .prfSelWrite 202 0 0 false, .prfSelWrite 0 8 0 false, .counterWrap 202 0,
      .counterWrap 0 8].all (fun i => !i.wf) = true := by decide

theorem test_wf_refuses_ports :
    [Instr.csi2LongPacket 8 ⟨true, false, 0, 0⟩ true [], .csi2LongPacket 0 ⟨true, false, 16, 0⟩ true [],
      .csi2LongPacket 0 ⟨true, false, 0, 64⟩ true [], .frameStart ⟨8, true, false⟩ 0 0, .frameStart ⟨0, true, false⟩ 16 0, .frameEnd ⟨8, true, false⟩ 0,
      .frameEnd ⟨0, true, false⟩ 16,
      .lensFrameComplete 16, .ethFrameReceive 8 true [], .ethTailWrite 8 false 0, .ethTransmit 8, .ethLinkChange 8 true 0,
      .rangeFrameReceive 2 true ⟨[], 0⟩, .rangeFrameForward 2, .rangeTransmit 2, .encoderEdge ⟨.a, 2, 25⟩ false false false].all
        (fun i => !i.wf) = true := by decide

theorem test_wf_refuses_links :
    [Instr.wr 4 flit0, .wrAck 4 flit0, .rdReq 4 flit0, .rdResp 4 flit0, .sig 4 flit0, .tickFlit 4 flit0, .timeFlit 4 flit0 0,
      .timeFlitSend 4, .statusFlit 4 flit0 (flitReport flit0), .train 4 flit0 0 0 0, .nak 4 flit0, .idle 4 flit0, .dskPortRetrain 4,
      .flitCrcError 4, .wr 0 { flit0 with dst := 16 }, .wr 0 { flit0 with src := 16 }, .wr 0 { flit0 with seq := 4096 },
      .wr 0 { flit0 with ack := 4096 }, .wr 0 { flit0 with len := 65 }, .wr 0 { flit0 with addr := 2 ^ 36 },
      .wr 0 { flit0 with payload := [] }].all (fun i => !i.wf) = true := by decide

theorem test_wf_refuses_checker :
    [Instr.stageWindowClose 64, .challengeSplice (List.replicate 9 0), .faultPairRegistration 0x180, .faultPairRegistration 0x17F,
      .brokenPair 0x180, .faultPairClear 0x180, .checkerSourceRaise 0x17F, .checkerSourceRaise 0x1FF].all
        (fun i => !i.wf) = true := by decide

/-! ## The worked examples of the spec -/

/-- The weights of the INT8 example of spec/03. -/
def wInt : Weights := ⟨3, 10, false, 7, [[12, 249, 100], [128, 5, 33], [64, 255, 166]], [], false⟩

/-- spec/03, worked example (INT8): rows 0 and 1. -/
theorem test_int8_rows :
    (rowInt wInt 10 [3, 254, 10] false).y.take 3 = [932, -41, -666] ∧ (rowInt wInt 10 [3, 254, 10] false).z = 225 ∧
    (rowInt wInt 10 [206, 127, 8] false).y.take 3 = [-16344, 977, -1529] ∧ (rowInt wInt 10 [206, 127, 8] false).z = -16896 := by
  decide

/-- spec/03: the fault in y_2 of row 1 mismatches. -/
theorem test_int8_mismatch :
    compareRow true 7 0 false ⟨[-16344, 977, -1529], -16896, false⟩ = some false ∧
    compareRow true 7 0 false ⟨[-16344, 977, -1545], -16896, false⟩ = some true := by decide

/-- spec/03, worked example (FP8 E4M3): y_0 = 3.25, y_1 = 9.0, z = 12.25. -/
theorem test_fp8_row :
    rowFl ⟨4, 3, false, 3, [[0x3C, 0x28], [0xB4, 0x44], [0x40, 0xB8], [0x30, 0x3A]], [], false⟩ 3 [0x40, 0x38, 0xB0, 0x48] []
      false = ⟨[0x40500000, 0x41100000] ++ List.replicate 30 0, 0x41440000, false⟩ := by decide

/-- spec/03: with REL 2^-12 and ABS 2^-16, a flip of bit 5 of y_1 passes and one of bit 20 mismatches. -/
theorem test_fp8_tolerance :
    compareRow false 3 0x39803780 false ⟨[0x40500000, 0x41100020], 0x41440000, false⟩ = some false ∧
    compareRow false 3 0x39803780 false ⟨[0x40500000, 0x41000000], 0x41440000, false⟩ = some true := by decide

/-- spec/04, worked example: an E4M3 block with scale code 0x7C. -/
theorem test_mx_block :
    vqmxBlock 3 [0x42700000, 0x42160000, 0xC0A00000, 0x3DCCCCCD, 0x3B83126F] = (0x7C, [0x7E, 0x79, 0xE2, 0x35, 0x10]) := by decide

/-- spec/04, worked example: group sums 2^24, 1 and 1 in one command give 2^24. -/
theorem test_group_sums :
    toFp32 (fill ([.fin false 1 24] ++ List.replicate 15 .zero ++ [.fin false 1 0] ++ List.replicate 15 .zero ++ [.fin false 1 0])) =
      0x4B800000 := by decide

/-- spec/04: in two commands they give 2^24 + 2. -/
theorem test_group_sums_accumulated : accAdd false 0x40000000 0x4B800000 = 0x4B800001 := by decide

/-- The descriptor of the worked example of spec/05. -/
def agd5 : Agd :=
  ⟨3, 3, 2, 2, 1, 1, 1, 1, 1, 1, 64, 96, 32, 32, 48, 1, 0x900000000, 3072, 32, 196608⟩

/-- spec/05, worked example: row 49, element 100 reads 0x9_0000_1824, and row 0, element 0 is padding. -/
theorem test_agd_address :
    agd5.ok = true ∧ agd5.elem 8 0 0 49 100 = some (0x900001824, 4) ∧ agd5.elem 8 0 0 0 0 = none := by decide

/-- spec/06, worked example: S0 = 0x1234 and S1 = 0x91A0 point to word 3. -/
theorem test_lane_points : lanePoint 256 0x1234 0x91A0 = some 3 := by decide

/-- The sensor and the grid of the worked example of spec/09. -/
def sens9 : SensorRec :=
  { (default : SensorRec) with unitUm := 2000, rot := [0, -16384, 0, 16384, 0, 0, 0, 0, 16384], trans := [1200, 0, 800] }

/-- spec/09, worked example: the point falls into cell 12,039. -/
theorem test_range_cell :
    [1500, 250, 65386].map (coordMm sens9) = [some 3000, some 500, some (-300)] ∧
    (List.range 3).map (machineAt sens9 [3000, 500, -300]) = [700, 3000, 500] ∧
    cellOf { (default : RangeRec) with cellMm := 100, gy0 := -6400, zmin := 100, zmax := 2500, thr := 3 } sens9 [3000, 500, -300] =
      some 12039 := by decide

/-- spec/10, worked example: the token of SEQ 0x0137 and Q 0xB4, and the next question. -/
theorem test_watchdog_token : wdgToken 0x137 0xB4 = 0xA4F4782D ∧ wdgNextQ 0xB4 = 0x69 := by decide

/-- The context of the worked example of spec/11 after ALIVE `a`. -/
def ctx11 (a gap : Nat) : Ctx := { Ctx.reset with maxGap := 2, lastValid := true, last := BitVec.ofNat 16 a, gap := gap }

/-- spec/11, worked example: two lost packets pass, a duplicate is a REPEAT, fifteen lost are a LOSS. -/
theorem test_alive_counter :
    seqJudge (ctx11 1011 0) 1014 0 = (ctx11 1014 2, .pass) ∧ seqJudge (ctx11 1014 2) 1014 0 = (ctx11 1014 2, .rep) ∧
    seqJudge (ctx11 1014 2) 1015 0 = (ctx11 1015 2, .pass) ∧ seqJudge (ctx11 1015 2) 1030 0 = (ctx11 1030 2, .loss) ∧
    seqJudge (ctx11 1030 2) 1031 0 = (ctx11 1031 2, .pass) := by decide

/-! ## One command on a small state -/

/-- The device after a command. -/
def after (c : Instr) (d : Device) : Device := match exec c (st d) with | .next t => t.dev | _ => d

/-- A device that follows FRAME_SYNC with a period of 20,000 µs, at compute time `t` µs. -/
def sync2 (t ref : Nat) : Device :=
  { (live .run).setReg Reg.tckCtrl 1 with
    tim := { Tim.reset with ns := t * 1000 }
    tck := { (live .run).tck with sync := .locked, period := 20000, phaseRef := ref * 1000, expected := (ref + 20000) * 1000 } }

/-- Table 2.1: a late edge inside the window moves the next tick. -/
theorem test_late_edge_moves_tick :
    (after .frameSyncEdge (sync2 39900 39850)).tck.expected = 59900000 ∧
    (after .frameSyncEdge (sync2 39900 39850)).reg Reg.tckSyncOfs = 50000 := by decide

/-- Table 2.1: an edge outside the window sets OOW and moves nothing. -/
theorem test_edge_outside_window :
    (after .frameSyncEdge (sync2 60400 59900)).tck.expected = 79900000 ∧
    (after .frameSyncEdge (sync2 60400 59900)).tck.oowRun = 1 ∧
    (after .frameSyncEdge (sync2 60400 59900)).bitAt Reg.tckStatus 1 = true := by decide

/-- R209: the accepted range of TIM_INCR and the increment of its worked example. -/
theorem test_time_increment_range :
    [0x01FF7CEE, 0x01FFFE5D, 0x02008312].all (fun v => decide ((after (.timIncrWrite v) (live .run)).reg Reg.timIncr = v)) = true ∧
    [0x01FF7CED, 0x02008313].all (fun v => (after (.timIncrWrite v) (live .run)).bitAt Reg.timStatus 4 &&
      decide ((after (.timIncrWrite v) (live .run)).reg Reg.timIncr = 0x02000000)) = true := by decide

/-- R260: the accepted range of a phase length. -/
theorem test_phase_length_range :
    [100, 1000000].all (fun v => decide ((after (.wdgPhaseConfig true v) (live .run)).reg Reg.wdgOpen = v)) = true ∧
    [99, 1000001].all (fun v => (after (.wdgPhaseConfig true v) (live .run)).bitAt Reg.wdgStatus 0) = true := by decide

/-- R117: amounts beyond 0xFFFF leave the counter at 0xFFFF. -/
theorem test_counter_saturates :
    (after (.tokenSignalArrival (.prm 0 0)) { live .run with sigs := [⟨.prm 0 0, 0xFFFF, 5, 0⟩, ⟨.prm 0 0, 1, 5, 0⟩] }).ctr (.prm 0 0) =
      0xFFFF := by decide

/-- A NOP leaves the queue and completes at once. -/
theorem test_nop_completes : ((after (.nop 5) (hold (live .run) 5 (fc []) [])).engAt 5).queue = [] := by decide

/-- A command that names nothing changes nothing. -/
theorem test_outside_command_changes_nothing : after (.nop 168) (live .run) = live .run := by decide

/-- An empty queue only passes time. -/
theorem test_empty_queue_idles : ∃ t, step State.reset = .next t ∧ t.pending = [] := ⟨_, rfl, rfl⟩

/-- No word spells a command: the table gives no bits. -/
theorem test_no_words : decodeTableWord 512 0 = none ∧ State.reset.withFetchWord 512 0 = State.reset := by decide

/-- FIPS 180-4: the SHA-384 digest of "abc". -/
theorem test_sha384 :
    sha384 [0x61, 0x62, 0x63] =
      0xCB00753F45A35E8BB5A03D699AC65007272C32AB0EDED1631A8B605A43FF5BED8086072BA1E7CC2358BAECA134C825A7 := by decide

/-- R182: a flit whose CRC is that of its 80 bytes is in turn, one bit of its payload apart it is not. -/
theorem test_flit_crc :
    (Flit.seal FT.wr flit0).crc = flitCrc FT.wr flit0 ∧
    (Flit.seal FT.wr flit0).crc ≠ flitCrc FT.wr { flit0 with payload := 1 :: List.replicate 63 0 } := by decide

/-! ## Hypotheses of the obligations -/

/-- States that meet the hypotheses of each clause of MemoryFormKept. -/
theorem test_hyps_MemoryFormKept :
    (∃ (s : State) (t : State), step s = .next t ∧ Memory.wf s.dev = true) :=
  ⟨State.reset, _, rfl, (by decide)⟩

/-- States that meet the hypotheses of each clause of StepRunsFrontCommand. -/
theorem test_hyps_StepRunsFrontCommand :
    (∃ (s : State), s.pending = []) :=
  ⟨st (live .run), by decide⟩

/-- States that meet the hypotheses of each clause of OrderingCommandsComplete. -/
theorem test_hyps_OrderingCommandsComplete :
    (∃ (s : State) (e : Nat) (h : FCmd), s.dev.solo e 0 h ∧ hdrCauses h.word = [] ∧ plainCauses s.dev h.word = [] ∧ s.dev.waitMet e h.word) ∧
    (∃ (s : State) (e : Nat) (h : FCmd), s.dev.solo e 2 h ∧ hdrCauses h.word = [] ∧ waitCauses s.dev h.word = [] ∧ s.dev.waitMet e h.word) ∧
    (∃ (s : State) (e : Nat) (h : FCmd), s.dev.solo e 3 h ∧ hdrCauses h.word = [] ∧ signalCauses s.dev h.word = [] ∧ cmdFld h.word 8 7 1 = 0 ∧ s.dev.waitMet e h.word) ∧
    (∃ (s : State) (e : Nat) (p : Nat) (h : FCmd), s.dev.solo e 3 h ∧ hdrCauses h.word = [] ∧ signalCauses s.dev h.word = [] ∧ cmdFld h.word 8 7 1 = 1 ∧ s.dev.route (cmdFld h.word 8 0 4) = some p ∧ s.dev.linkFree p ∧ s.dev.waitMet e h.word) ∧
    (∃ (s : State) (e : Nat) (h : FCmd), s.dev.solo e 4 h ∧ hdrCauses h.word = [] ∧ markCauses s.dev h.word = [] ∧ s.dev.waitMet e h.word) :=
  ⟨⟨st (hold (live .run) 5 (fc [(0, 0, 0)]) []), 5, (fc [(0, 0, 0)]), (by unfold Device.solo; decide), (by decide), (by decide), (by unfold Device.waitMet; decide)⟩,
    ⟨st ((hold (live .run) 5 (fc [(0, 0, 2), (1, 0, 1), (4, 0, 1)]) []).setCtr (.prm 0 0) 1), 5, (fc [(0, 0, 2), (1, 0, 1), (4, 0, 1)]), (by unfold Device.solo; decide), (by decide), (by decide), (by unfold Device.waitMet; decide)⟩,
    ⟨st (hold (live .run) 167 (fc [(0, 0, 3), (1, 1, 1), (6, 0, 0xFFFF)]) []), 167, (fc [(0, 0, 3), (1, 1, 1), (6, 0, 0xFFFF)]), (by unfold Device.solo; decide), (by decide), (by decide), (by decide), (by unfold Device.waitMet; decide)⟩,
    ⟨st (hold { ((live .run).setReg Reg.dskCfg 0x410) with dsk := { Device.reset.dsk with routes := [(1, 1)], port := [(0, { DskPort.reset with up := true })] } } 5 (fc [(0, 0, 3), (1, 1, 1), (3, 6, 2), (6, 0, 1), (8, 0, 1), (8, 7, 1)]) []), 5, 0, (fc [(0, 0, 3), (1, 1, 1), (3, 6, 2), (6, 0, 1), (8, 0, 1), (8, 7, 1)]), (by unfold Device.solo; decide), (by decide), (by decide), (by decide), (by decide), (by unfold Device.linkFree; decide), (by unfold Device.waitMet; decide)⟩,
    ⟨st (hold (live .run) 4 (fc [(0, 0, 4), (8, 0, 63)]) []), 4, (fc [(0, 0, 4), (8, 0, 63)]), (by unfold Device.solo; decide), (by decide), (by decide), (by unfold Device.waitMet; decide)⟩⟩

/-- States that meet the hypotheses of each clause of OrderingCommandsComplete (EndIdlesAndWaitBlocks). -/
theorem test_hyps_EndIdlesAndWaitBlocks :
    (∃ (s : State) (e : Nat) (h : FCmd), s.dev.solo e 1 h ∧ hdrCauses h.word = [] ∧ plainCauses s.dev h.word = [] ∧ s.dev.waitMet e h.word) ∧
    (∃ (s : State) (e : Nat) (h : FCmd), s.dev.solo e 2 h ∧ hdrCauses h.word = [] ∧ waitCauses s.dev h.word = [] ∧ s.dev.ctr (waitCtr e h.word) < waitN h.word) :=
  ⟨⟨st (hold (live .run) 0 (fc [(0, 0, 1)]) []), 0, (fc [(0, 0, 1)]), (by unfold Device.solo; decide), (by decide), (by decide), (by unfold Device.waitMet; decide)⟩,
    ⟨st (hold (live .run) 5 (fc [(0, 0, 2), (1, 0, 1), (4, 0, 1)]) []), 5, (fc [(0, 0, 2), (1, 0, 1), (4, 0, 1)]), (by unfold Device.solo; decide), (by decide), (by decide), (by decide)⟩⟩

/-- States that meet the hypotheses of each clause of LoopRepeatsItsBody. -/
theorem test_hyps_LoopRepeatsItsBody :
    (∃ (s : State) (e : Nat) (h : FCmd) (ls : List LoopEnt) (t : LoopEnt), s.dev.solo e 5 h ∧ hdrCauses h.word = [] ∧ loopCauses e h.addr s.dev h.word = [] ∧ (s.dev.engAt e).loops = ls ++ [t] ∧ t.addr = h.addr ∧ t.iter + 1 < loopCount h.word) ∧
    (∃ (s : State) (e : Nat) (h : FCmd) (ls : List LoopEnt) (t : LoopEnt), s.dev.solo e 5 h ∧ hdrCauses h.word = [] ∧ loopCauses e h.addr s.dev h.word = [] ∧ (s.dev.engAt e).loops = ls ++ [t] ∧ t.addr = h.addr ∧ loopCount h.word ≤ t.iter + 1) ∧
    (∃ (s : State) (e : Nat) (h : FCmd), s.dev.solo e 5 h ∧ hdrCauses h.word = [] ∧ loopCauses e h.addr s.dev h.word = [] ∧ ((∀ t, (s.dev.engAt e).loops.getLast? = some t → t.addr ≠ h.addr)) ∧ loopCount h.word = 1) ∧
    (∃ (s : State) (e : Nat) (h : FCmd), s.dev.solo e 5 h ∧ hdrCauses h.word = [] ∧ loopCauses e h.addr s.dev h.word = [] ∧ ((∀ t, (s.dev.engAt e).loops.getLast? = some t → t.addr ≠ h.addr)) ∧ 1 < loopCount h.word) :=
  ⟨⟨st (hold (live .run) 5 (fc [(0, 0, 5), (8, 0, 2), (10, 0, 1)]) [⟨0x2000, 0x1FC0, 0, 0, 0, 0, 0⟩]), 5, (fc [(0, 0, 5), (8, 0, 2), (10, 0, 1)]), [], ⟨0x2000, 0x1FC0, 0, 0, 0, 0, 0⟩, (by unfold Device.solo; decide), (by decide), (by decide), (by decide), (by decide), (by decide)⟩,
    ⟨st (hold (live .run) 5 (fc [(0, 0, 5), (8, 0, 2), (10, 0, 1)]) [⟨0x2000, 0x1FC0, 1, 0, 0, 0, 0⟩]), 5, (fc [(0, 0, 5), (8, 0, 2), (10, 0, 1)]), [], ⟨0x2000, 0x1FC0, 1, 0, 0, 0, 0⟩, (by unfold Device.solo; decide), (by decide), (by decide), (by decide), (by decide), (by decide)⟩,
    ⟨st (hold (live .run) 5 (fc [(0, 0, 5), (8, 0, 1), (10, 0, 1)]) []), 5, (fc [(0, 0, 5), (8, 0, 1), (10, 0, 1)]), (by unfold Device.solo; decide), (by decide), (by decide), (fun _ h => nomatch h), (by decide)⟩,
    ⟨st (hold (live .run) 5 (fc [(0, 0, 5), (8, 0, 2), (10, 0, 1)]) []), 5, (fc [(0, 0, 5), (8, 0, 2), (10, 0, 1)]), (by unfold Device.solo; decide), (by decide), (by decide), (fun _ h => nomatch h), (by decide)⟩⟩

/-- States that meet the hypotheses of each clause of IllegalCommandHaltsEngine. -/
theorem test_hyps_IllegalCommandHaltsEngine :
    (∃ (s : State) (e : Nat) (h : FCmd) (x : Instr × Nat × (Device → CmdWord → List Nat)), x ∈ [(.nop e, 0, plainCauses), (.wait e, 2, waitCauses), (.signal e, 3, signalCauses), (.mark e, 4, markCauses), (.loop e, 5, loopCauses e h.addr)] ∧ e < 168 ∧ s.dev.headOp e x.2.1 = some h ∧ hdrCauses h.word ++ x.2.2 s.dev (stepWord h.word (s.dev.engAt e).loops) ≠ []) :=
  ⟨st (hold (live .run) 5 (fc [(0, 0, 0), (8, 0, 1)]) []), 5, (fc [(0, 0, 0), (8, 0, 1)]), (.nop 5, 0, plainCauses), (.head _), (by decide), (by decide), (by decide)⟩

/-- States that meet the hypotheses of each clause of CommandFetchQueuesCommand. -/
theorem test_hyps_CommandFetchQueuesCommand :
    (∃ (s : State) (e : Nat) (a : Nat), e < 168 ∧ s.dev.mayFetch e = true ∧ (s.dev.engAt e).fetch = some a ∧ s.dev.bitAt Reg.prfTagCfg 31 = false) :=
  ⟨st { live .run with eng := [(5, { Eng.reset with start := 0x40, fetch := some 0x40, phase := .executing })] }, 5, 0x40, by decide⟩

/-- States that meet the hypotheses of each clause of SignalArrivalCounts. -/
theorem test_hyps_SignalArrivalCounts :
    (∃ (s : State) (c : Ctr), s.dev.ctrHeld c = true) ∧
    (∃ (s : State) (c : Ctr), okCtr c = true ∧ s.dev.ctrHeld c = false ∧ ((∀ e, e < 168 → ∀ n, (s.dev.engAt e).blocked ≠ some (c, n))) ∧ s.dev.ctr c + sumBy SigMsg.amount (s.dev.sigsDue c) ≤ 0xFFFF) ∧
    (∃ (s : State) (c : Ctr) (e : Nat), okCtr c = true ∧ s.dev.ctrHeld c = false ∧ ((∀ e, e < 168 → ∀ n, (s.dev.engAt e).blocked ≠ some (c, n))) ∧ 0xFFFF < s.dev.ctr c + sumBy SigMsg.amount (s.dev.sigsDue c) ∧ e < 168 ∧ e ∈ (s.dev.sigsDue c).map SigMsg.eng) ∧
    (∃ (s : State) (c : Ctr) (e : Nat) (n : Nat) (h : FCmd), okCtr c = true ∧ s.dev.ctrHeld c = false ∧ s.dev.ctrHeld (.prm (e / 7) 0) = false ∧ e < 168 ∧ (s.dev.engAt e).blocked = some (c, n) ∧ ((∀ x, x < 168 → x ≠ e → ∀ n, (s.dev.engAt x).blocked ≠ some (c, n))) ∧ s.dev.ctr c + sumBy SigMsg.amount (s.dev.sigsDue c) ≤ 0xFFFF ∧ n ≤ s.dev.ctr c + sumBy SigMsg.amount (s.dev.sigsDue c) ∧ (s.dev.meAt e).pipe = [] ∧ (s.dev.engAt e).queue = [h] ∧ opcode h.word ≠ 2) :=
  ⟨⟨st { live .run with prism := [(0, { (live .run).prismAt 0 with seg := some (0, 0) })] }, (.prm 0 0), by decide⟩,
    ⟨st { live .run with sigs := [⟨.prm 0 0, 0xFFFF, 5, 0⟩] }, (.prm 0 0), (by decide), (by decide), (fun _ _ _ h => nomatch (show (none : Option (Ctr × Nat)) = some _ from h)), (by decide)⟩,
    ⟨st { live .run with sigs := [⟨.prm 0 0, 0xFFFF, 5, 0⟩, ⟨.prm 0 0, 1, 5, 0⟩] }, (.prm 0 0), 5, (by decide), (by decide), (fun _ _ _ h => nomatch (show (none : Option (Ctr × Nat)) = some _ from h)), (by decide), (by decide), (by decide)⟩,
    ⟨st { hold (live .run) 5 (fc [(0, 0, 0)]) [] with sigs := [⟨.prm 0 0, 2, 5, 0⟩], eng := [(5, { Eng.reset with phase := .waiting, queue := [(fc [(0, 0, 0)])], blocked := some (.prm 0 0, 2), atEnd := false })] }, (.prm 0 0), 5, 2, (fc [(0, 0, 0)]), (by decide), (by decide), (by decide), (by decide), (by decide), (fun x _ hx n h => by simp [st, hold, live, Device.engAt, tabGet, hx, Eng.reset] at h), (by decide), (by decide), (by decide), (by decide), (by decide)⟩⟩

/-- States that meet the hypotheses of each clause of BlockResetIsLocal. -/
theorem test_hyps_BlockResetIsLocal :
    (∃ (s : State) (e : Nat), e < 168 ∧ s.dev.cmpAlive = true) :=
  ⟨st (live .run), 167, by decide⟩

/-- States that meet the hypotheses of each clause of TicksRestartOrAbandon (TickRestartsEngines). -/
theorem test_hyps_TickRestartsEngines :
    (∃ (s : State), s.dev.ticking = true ∧ s.dev.overrun = false) ∧
    (∃ (s : State), s.dev.abandonReady = true) :=
  ⟨⟨st (live .run), by decide⟩,
    ⟨st { live .run with tck := { (live .run).tck with abandoning := true } }, by decide⟩⟩

/-- States that meet the hypotheses of each clause of TicksRestartOrAbandon (OverrunTickAbandons). -/
theorem test_hyps_OverrunTickAbandons :
    (∃ (s : State), s.dev.ticking = true ∧ s.dev.overrun = true) :=
  ⟨st { hold (live .run) 5 (fc [(0, 0, 0)]) [] with tck := { (live .run).tck with frameOpen := true } }, by decide⟩

/-- States that meet the hypotheses of each clause of SyncEdgesAreJudged (FrameSyncEdges). -/
theorem test_hyps_FrameSyncEdges :
    (∃ (s : State), s.dev.syncUsed = true ∧ s.dev.tck.sync = .acquiring ∧ s.dev.chk.dev = .maint) ∧
    (∃ (s : State), s.dev.syncUsed = true ∧ (s.dev.tck.sync = .locked ∨ s.dev.tck.sync = .freeRun) ∧ (s.dev.tck.edgeUsed = true ∨ s.dev.tck.period * 1000 < 64 * (s.dev.syncOffset s.dev.timNs).natAbs)) ∧
    (∃ (s : State), s.dev.syncUsed = true ∧ (s.dev.tck.sync = .locked ∨ (s.dev.tck.sync = .freeRun ∧ 3 ≤ s.dev.tck.inRun)) ∧ s.dev.tck.edgeUsed = false ∧ 64 * (s.dev.syncOffset s.dev.timNs).natAbs ≤ s.dev.tck.period * 1000 ∧ (0 ≤ s.dev.syncOffset s.dev.timNs ∨ s.dev.inTest = true)) ∧
    (∃ (s : State), s.dev.syncUsed = true ∧ (s.dev.tck.sync = .locked ∨ (s.dev.tck.sync = .freeRun ∧ 3 ≤ s.dev.tck.inRun)) ∧ s.dev.tck.edgeUsed = false ∧ 64 * (s.dev.syncOffset s.dev.timNs).natAbs ≤ s.dev.tck.period * 1000 ∧ s.dev.syncOffset s.dev.timNs < 0 ∧ s.dev.inTest = false) ∧
    (∃ (s : State), s.dev.syncUsed = true ∧ s.dev.tck.sync = .freeRun ∧ s.dev.tck.inRun < 3 ∧ s.dev.tck.edgeUsed = false ∧ 64 * (s.dev.syncOffset s.dev.timNs).natAbs ≤ s.dev.tck.period * 1000) :=
  ⟨⟨st { (live .maint).setReg Reg.tckCtrl 1 with tck := { (live .maint).tck with sync := .acquiring, period := 10000 } }, by decide⟩,
    ⟨st { (live .run).setReg Reg.tckCtrl 1 with tck := { (live .run).tck with sync := .locked, period := 10000, edgeUsed := true, oowRun := 3 } }, by decide⟩,
    ⟨st { (live .run).setReg Reg.tckCtrl 1 with tck := { (live .run).tck with sync := .freeRun, period := 10000, inRun := 3 } }, by decide⟩,
    ⟨st { (live .run).setReg Reg.tckCtrl 1 with tck := { (live .run).tck with sync := .locked, period := 10000 }, tim := { Tim.reset with ns := 9843750 } }, by decide⟩,
    ⟨st { (live .run).setReg Reg.tckCtrl 1 with tck := { (live .run).tck with sync := .freeRun, period := 10000, inRun := 2 } }, by decide⟩⟩

/-- States that meet the hypotheses of each clause of SyncEdgesAreJudged (SyncAndTestControl). -/
theorem test_hyps_SyncAndTestControl :
    (∃ (s : State), s.dev.syncUsed = true ∧ (s.dev.tck.sync = .locked ∨ s.dev.tck.sync = .freeRun)) ∧
    (∃ (s : State), s.dev.hostUp = true) ∧
    (∃ (s : State), s.dev.hostUp = true ∧ s.dev.bitAt Reg.tckCtrl 2 = false) ∧
    (∃ (s : State), s.dev.hostUp = true ∧ s.dev.chk.dev = .maint) ∧
    (∃ (s : State), s.dev.cmpAlive = true ∧ s.dev.tck.testWait = true ∧ s.dev.inTest = true) :=
  ⟨⟨st { (live .run).setReg Reg.tckCtrl 1 with tck := { (live .run).tck with sync := .locked, period := 10000 } }, by decide⟩,
    ⟨st (live .run), by decide⟩,
    ⟨st (live .maint), by decide⟩,
    ⟨st (live .maint), by decide⟩,
    ⟨st { live .maint with tck := { (live .maint).tck with testWait := true } }, by decide⟩⟩

/-- States that meet the hypotheses of each clause of SupplyEndsEveryState. -/
theorem test_hyps_SupplyEndsEveryState :
    (∃ (s : State), s.dev.chk.power = false) ∧
    (∃ (s : State), s.dev.chk.power = true) ∧
    (∃ (s : State), s.dev.chk.power = true) :=
  ⟨⟨st { Device.reset with chk := { Checker.reset with power := false } }, by decide⟩,
    ⟨st { live .fatal with q := 0 }, by decide⟩,
    ⟨st { live .fatal with q := 0 }, by decide⟩⟩

/-- States that meet the hypotheses of each clause of BootSequence (ComputePowerSequence). -/
theorem test_hyps_ComputePowerSequence :
    (∃ (s : State), s.dev.chk.power = true ∧ s.dev.chk.dev = .boot) ∧
    (∃ (s : State), s.dev.chk.power = true ∧ s.dev.chk.pwrEn = true ∧ s.dev.chk.cmpReset = true ∧ s.dev.chk.dev = .boot) ∧
    (∃ (s : State), s.dev.chk.power = true ∧ s.dev.chk.pwrEn = true ∧ s.dev.chk.cmpReset = true ∧ s.dev.chk.dev = .boot) :=
  ⟨⟨State.reset, by decide⟩,
    ⟨st { Device.reset with chk := { Checker.reset with pwrEn := true } }, by decide⟩,
    ⟨st { Device.reset with chk := { Checker.reset with pwrEn := true } }, by decide⟩⟩

/-- States that meet the hypotheses of each clause of ImageVerification. -/
theorem test_hyps_ImageVerification :
    (∃ (s : State) (a : ImageSlot) (b : ImageSlot) (pa : BootParts) (pb : BootParts) (x : List Byte) (p : BootParts), s.dev.booting = true ∧ s.dev.boot.bootOk = false ∧ (x, p) = (if slotVersion a.bytes < slotVersion b.bytes then (b.bytes, pb) else (a.bytes, pa))) ∧
    (∃ (s : State) (a : ImageSlot) (b : ImageSlot) (oa : OpenSecs) (ob : OpenSecs) (x : List Byte) (g : StructImg), s.dev.booting = true ∧ s.dev.boot.bootOk = true ∧ s.dev.boot.imgOk = false ∧ x = (if slotVersion a.bytes < slotVersion b.bytes then b else a).bytes ∧ g = (if slotVersion a.bytes < slotVersion b.bytes then structOf b.bytes ob else structOf a.bytes oa)) :=
  ⟨⟨st (live .boot), ⟨⟨0, false, false⟩, []⟩, ⟨⟨0, false, false⟩, []⟩, ⟨0, 0, []⟩, ⟨0, 0, []⟩, [], ⟨0, 0, []⟩, by decide⟩,
    ⟨st { live .boot with boot := { Boot.reset with bootOk := true } }, ⟨⟨0, false, false⟩, []⟩, ⟨⟨0, false, false⟩, []⟩, ⟨emptyImage.device, emptyImage.pins, emptyImage.diesk⟩, ⟨emptyImage.device, emptyImage.pins, emptyImage.diesk⟩, _, _, (by decide), (by decide), (by decide), rfl, rfl⟩⟩

/-- States that meet the hypotheses of each clause of BootSequence (ConfigureAndStartupTests). -/
theorem test_hyps_ConfigureAndStartupTests :
    (∃ (s : State), s.dev.booting = true ∧ s.dev.boot.imgOk = true ∧ s.dev.boot.sealOk = true) ∧
    (∃ (s : State) (r : StartupResult), s.dev.cmpAlive = true ∧ s.dev.chk.dev = .startupTest ∧ r.cmpTrial = none ∧ r.checkerFail = false ∧ s.dev.wdg.running = true ∧ s.dev.computeFail r = false ∧ r.failedEngines = [] ∧ r.failedFacets = []) ∧
    (∃ (s : State) (r : StartupResult), s.dev.cmpAlive = true ∧ s.dev.chk.dev = .startupTest ∧ r.cmpTrial = none ∧ r.checkerFail = false ∧ s.dev.wdg.running = true ∧ s.dev.computeFail r = true) ∧
    (∃ (s : State) (r : StartupResult), s.dev.cmpAlive = true ∧ s.dev.chk.dev = .startupTest ∧ r.cmpTrial = none ∧ r.checkerFail = true) :=
  ⟨⟨st { live .boot with boot := { Boot.reset with bootOk := true, imgOk := true, sealOk := true } }, by decide⟩,
    ⟨st { live .startupTest with wdg := { Device.reset.wdg with running := true } }, ⟨none, false, none, false, [], []⟩, by decide⟩,
    ⟨st { live .startupTest with wdg := { Device.reset.wdg with running := true } }, ⟨none, false, none, true, [], []⟩, by decide⟩,
    ⟨st (live .startupTest), ⟨none, true, none, false, [], []⟩, by decide⟩⟩

/-- States that meet the hypotheses of each clause of ResetsKeepTheirDomains (WarmResetKeepsAlwaysOn). -/
theorem test_hyps_WarmResetKeepsAlwaysOn :
    (∃ (s : State), s.dev.chk.power = true ∧ s.dev.chk.warm.isSome = true ∧ s.dev.chk.dev ≠ .fatal) :=
  ⟨st { live .run with chk := { (live .run).chk with warm := some 0x4A } }, by decide⟩

/-- States that meet the hypotheses of each clause of ResetsKeepTheirDomains (PcieResetsAreLocal). -/
theorem test_hyps_PcieResetsAreLocal :
    (∃ (s : State), s.dev.cmpAlive = true) ∧
    (∃ (s : State), s.dev.linkOk = true) ∧
    (∃ (s : State), s.dev.linkOk = true) ∧
    (∃ (s : State) (aer : Bool), s.dev.linkOk = true ∧ (aer = true ∨ s.dev.hif.d3 = false)) ∧
    (∃ (s : State), s.dev.linkOk = true ∧ s.dev.hif.d3 = true) :=
  ⟨⟨st (live .run), by decide⟩,
    ⟨st (live .run), by decide⟩,
    ⟨st (live .run), by decide⟩,
    ⟨st (live .run), false, (by decide), (.inr (by decide))⟩,
    ⟨st { live .run with hif := { (live .run).hif with cfg := [(Cfg.pmcsr, 3)] } }, by decide⟩⟩

/-- States that meet the hypotheses of each clause of BackgroundAndSelfTest (BackgroundLevels). -/
theorem test_hyps_BackgroundLevels :
    (∃ (s : State) (c : BgClass) (hot : Bool), s.dev.bgRuns c = true ∧ (s.dev.bgAt c).level = .normal ∧ 3 * bgDeadline hot c ≤ 4 * s.dev.bgAge c) ∧
    (∃ (s : State) (c : BgClass) (hot : Bool), 4 * s.dev.bgAge c < 3 * bgDeadline hot c) ∧
    (∃ (s : State) (c : BgClass) (hot : Bool), s.dev.bgAge c < bgDeadline hot c) ∧
    (∃ (s : State) (c : BgClass) (hot : Bool), s.dev.bgRuns c = true ∧ (s.dev.bgAt c).level ≠ .forced ∧ bgDeadline hot c ≤ s.dev.bgAge c) ∧
    (∃ (s : State) (c : BgClass), s.dev.bgRuns c = true) :=
  ⟨⟨st (live .run), .calib, true, by decide⟩,
    ⟨st (live .run), .scrub, false, by decide⟩,
    ⟨st (live .run), .scrub, true, by decide⟩,
    ⟨st (live .run), .refresh 3, true, by decide⟩,
    ⟨st (live .run), .selftest 23, by decide⟩⟩

/-- States that meet the hypotheses of each clause of BackgroundAndSelfTest (SelfTestSegments). -/
theorem test_hyps_SelfTestSegments :
    (∃ (s : State) (q : Nat), q < 24 ∧ s.dev.segTurn q = true ∧ s.dev.segFits (segUs (s.dev.prismAt q).nextSeg) = false) ∧
    (∃ (s : State) (q : Nat), q < 24 ∧ s.dev.segTurn q = true ∧ s.dev.segFits (segUs (s.dev.prismAt q).nextSeg) = true ∧ (s.dev.bgAt (.selftest q)).level ≠ .forced ∧ s.dev.prismIdle q = true) ∧
    (∃ (s : State) (q : Nat) (n : Nat) (t : Nat), q < 24 ∧ (s.dev.prismAt q).seg = some (n, t) ∧ ((∀ i, i < 7 → (s.dev.engAt (7 * q + i)).blocked = none ∧ (s.dev.engAt (7 * q + i)).acts = [] ∧ (s.dev.engAt (7 * q + i)).queue = []))) ∧
    (∃ (s : State) (q : Nat) (n : Nat) (t : Nat), q < 24 ∧ n < 4 ∧ s.dev.cmpAlive = true ∧ (s.dev.prismAt q).seg = some (n, t) ∧ ((∀ i, i < 7 → (s.dev.engAt (7 * q + i)).blocked = none ∧ (s.dev.engAt (7 * q + i)).acts = [] ∧ (s.dev.engAt (7 * q + i)).queue = []))) :=
  ⟨⟨st { live .run with tck := { (live .run).tck with expected := 0 } }, 0, by decide⟩,
    ⟨st { live .run with tck := { (live .run).tck with expected := 10000000 } }, 0, by decide⟩,
    ⟨st { live .run with prism := [(3, { (live .run).prismAt 3 with seg := some (9, 0) })] }, 3, 9, 0, by decide⟩,
    ⟨st { live .run with prism := [(23, { (live .run).prismAt 23 with seg := some (3, 0) })] }, 23, 3, 0, by decide⟩⟩

/-- States that meet the hypotheses of each clause of MemoryMaintenance (DrainsAndFences). -/
theorem test_hyps_DrainsAndFences :
    (∃ (s : State) (c : Nat) (t : MergeEnt), s.dev.cmpAlive = true ∧ s.dev.mem.merge.find? (fun t => decide (t.ctrl = c)) = some t) ∧
    (∃ (s : State), s.dev.cmpAlive = true) ∧
    (∃ (s : State), s.dev.cmpAlive = true ∧ s.dev.bitAt Reg.memStatus 8 = true) :=
  ⟨⟨st { live .run with mem := { MemSys.reset with merge := [⟨59, 0, 1, [], 0, 0⟩] } }, 59, ⟨59, 0, 1, [], 0, 0⟩, by decide⟩,
    ⟨st (live .run), by decide⟩,
    ⟨st ((live .run).setReg Reg.memStatus 0x100), by decide⟩⟩

/-- States that meet the hypotheses of each clause of MemoryMaintenance (ZeroingScrubbingTestMode). -/
theorem test_hyps_ZeroingScrubbingTestMode :
    (∃ (s : State) (f : Nat), f < 4 ∧ s.dev.cmpAlive = true ∧ (s.dev.facetAt f).powered = true ∧ (s.dev.facetAt f).zeroing = true) ∧
    (∃ (s : State) (c : Nat), okCtrl c = true ∧ s.dev.facetUp (ctrlFacet c) = true ∧ s.dev.bgRuns .scrub = true ∧ tabGet 0 s.dev.mem.scrubPos c + 1 < ctrlSpans c ∧ c ∉ s.dev.mem.scrubDone) ∧
    (∃ (s : State), s.dev.cmpAlive = true) :=
  ⟨⟨st { live .run with facet := [(3, { Facet.reset with powered := true, zeroing := true })] }, 3, by decide⟩,
    ⟨st (live .run), 0, by decide⟩,
    ⟨st (live .run), by decide⟩⟩

/-- States that meet the hypotheses of each clause of HostAccessesMemory (HostWritesMemory). -/
theorem test_hyps_HostWritesMemory :
    (∃ (s : State) (y : Nat) (bs : List Byte), s.dev.bar2Ok y bs.length = true ∧ s.dev.allMapped (s.dev.hostAddr y) bs.length = false) ∧
    (∃ (s : State) (y : Nat) (bs : List Byte), s.dev.bar2Ok y bs.length = true ∧ s.dev.allMapped (s.dev.hostAddr y) bs.length = true ∧ ((∃ i, i ∈ s.dev.heldSlots ∧ overlaps (s.dev.hostAddr y) bs.length (s.dev.slotArea i) = true))) ∧
    (∃ (s : State) (y : Nat) (bs : List Byte), s.dev.bar2Ok y bs.length = true ∧ s.dev.allMapped (s.dev.hostAddr y) bs.length = true ∧ ((∀ i, i ∈ s.dev.heldSlots → overlaps (s.dev.hostAddr y) bs.length (s.dev.slotArea i) = false)) ∧ s.dev.hostAddr y < 0x400000000 ∧ ((∃ r, r ∈ s.dev.protRanges ∧ overlaps (s.dev.hostAddr y % 2 ^ 32) bs.length r = true))) ∧
    (∃ (s : State) (y : Nat) (bs : List Byte), bs.length = 8 ∧ s.dev.bar2Ok y 8 = true ∧ s.dev.hostAddr y % 8 = 0 ∧ s.dev.allMapped (s.dev.hostAddr y) 8 = true ∧ s.dev.hostAddr y < 0x400000000 ∧ ((∀ i, i ∈ s.dev.heldSlots → overlaps (s.dev.hostAddr y) 8 (s.dev.slotArea i) = false)) ∧ ((∀ r, r ∈ s.dev.protRanges ++ s.dev.viewRanges → overlaps (s.dev.hostAddr y % 2 ^ 32) 8 r = false)) ∧ s.dev.fld Reg.memTest 1 0 ≠ 1 ∧ s.dev.mem.synAt (s.dev.hostAddr y) = 0 ∧ spanBase (s.dev.hostAddr y) ∉ s.dev.mem.decode ∧ ((∀ t, t ∈ s.dev.mem.merge → t.line ≠ s.dev.hostAddr y / 64 * 64))) :=
  ⟨⟨st { live .run with facet := [] }, 0, [1], by decide⟩,
    ⟨st { live .run with tck := { (live .run).tck with active := some 0 }, boot := { Boot.reset with img := { emptyImage with device := { emptyImage.device with slotA := 0 } } } }, 0, [1], (by decide), (by decide), ⟨0, by decide, by decide⟩⟩,
    ⟨st { live .run with model0 := { Model.reset with st := .resident, sections := [⟨2, 0, 0, 0, 64, 0, 0⟩] } }, 63, [1], (by decide), (by decide), (by decide), (by decide), ⟨(0, 64), by decide, by decide⟩⟩,
    ⟨st (live .run), 8, [1, 2, 3, 4, 5, 6, 7, 8], by decide⟩⟩

/-- States that meet the hypotheses of each clause of HostAccessesMemory (HostReadsMemory). -/
theorem test_hyps_HostReadsMemory :
    (∃ (s : State) (y : Nat) (n : Nat), s.dev.bar2Ok y n = true ∧ s.dev.allMapped (s.dev.hostAddr y) n = false) ∧
    (∃ (s : State) (y : Nat), s.dev.bar2Ok y 8 = true ∧ s.dev.hostAddr y % 8 = 0 ∧ s.dev.allMapped (s.dev.hostAddr y) 8 = true ∧ s.dev.hostAddr y < 0x400000000 ∧ s.dev.fld Reg.memTest 1 0 ≠ 1 ∧ s.dev.viewOf (s.dev.hostAddr y) = none ∧ s.dev.oldAt (s.dev.hostAddr y) = none ∧ s.dev.mem.synAt (s.dev.hostAddr y) = 0 ∧ spanBase (s.dev.hostAddr y) ∉ s.dev.mem.decode ∧ ((∀ t, t ∈ s.dev.mem.merge → t.line ≠ s.dev.hostAddr y / 64 * 64))) :=
  ⟨⟨st { live .run with facet := [] }, 0, 4, by decide⟩,
    ⟨st (live .run), 0x3FFFFFF8, by decide⟩⟩

/-- States that meet the hypotheses of each clause of VersionGatesRequests (RequestsTurnedAway). -/
theorem test_hyps_RequestsTurnedAway :
    (∃ (s : State) (tag : Byte) (a : ReqArgs) (x : Instr × Nat), x ∈ requests tag a ∧ s.dev.hostUp = true ∧ s.dev.reqBusy = false ∧ s.dev.agreed = false) ∧
    (∃ (s : State) (tag : Byte) (a : ReqArgs) (x : Instr × Nat), x ∈ [(Instr.timeGrant tag a, 5), (.chkRestart tag a, 6), (.maint tag a, 8), (.warmReset tag a, 9)] ∧ s.dev.hostUp = true ∧ s.dev.reqBusy = false ∧ s.dev.agreed = true ∧ noArgs a = true ∧ s.dev.chk.dev = .run) ∧
    (∃ (s : State) (tag : Byte) (a : ReqArgs) (x : Instr × Nat), x ∈ requests tag a ∧ s.dev.hostUp = true ∧ s.dev.reqBusy = true) ∧
    (∃ (s : State) (i : Nat) (bs : List Byte), i < 4 ∧ bs.length = 4 ∧ s.dev.hostUp = true) :=
  ⟨⟨st { host .run with hif := { (host .run).hif with linkUp := true }, regs := [] }, 7, noA, (.swap 7 noA, 1), (.head _), (by decide), (by decide), (by decide)⟩,
    ⟨st (host .run), 7, noA, (.timeGrant 7 noA, 5), (.head _), (by decide), (by decide), (by decide), (by decide), (by decide)⟩,
    ⟨st { host .run with hif := { (host .run).hif with busyTill := (host .run).q + 28 } }, 7, noA, (.swap 7 noA, 1), (.head _), (by decide), (by decide)⟩,
    ⟨st { host .run with hif := { (host .run).hif with busyTill := (host .run).q + 28 } }, 3, [0, 0, 0, 0], by decide⟩⟩

/-- States that meet the hypotheses of each clause of PlanAndModelRequestsRun. -/
theorem test_hyps_PlanAndModelRequestsRun :
    (∃ (s : State) (a : ReqArgs), s.dev.asks ∧ bits a.a0 31 1 = 0 ∧ args0 a = true ∧ s.dev.swapOk (bits a.a0 0 0) = true) ∧
    (∃ (s : State) (a : ReqArgs), s.dev.asks ∧ loadArgs a = true ∧ (s.dev.inService = true ∨ s.dev.chk.dev = .maint) ∧ s.dev.residents < 2 ∧ s.dev.load = none) ∧
    (∃ (s : State) (a : ReqArgs), s.dev.asks ∧ bits a.a0 31 1 = 0 ∧ args0 a = true ∧ (s.dev.modelAt (bits a.a0 0 0)).st ≠ .empty ∧ (s.dev.inService = true ∨ s.dev.chk.dev = .maint) ∧ s.dev.load = none ∧ s.dev.entryHeld (bits a.a0 0 0) = false) ∧
    (∃ (s : State) (a : ReqArgs), s.dev.asks ∧ loadArgs a = true ∧ s.dev.inService = true ∧ s.dev.load = none) :=
  ⟨⟨st (host .run), noA, (by unfold Device.asks; decide), (by decide), (by decide), (by decide)⟩,
    ⟨st (host .maint), ⟨3, 0, 0, 0⟩, (by unfold Device.asks; decide), (by decide), (by decide), (by decide), (by decide)⟩,
    ⟨st { host .run with model1 := { Model.reset with st := .resident } }, ⟨1, 0, 0, 0⟩, (by unfold Device.asks; decide), (by decide), (by decide), (by decide), (by decide), (by decide), (by decide)⟩,
    ⟨st (host .safe), ⟨15, 0x1000, 0xFFFF, 0⟩, (by unfold Device.asks; decide), (by decide), (by decide), (by decide)⟩⟩

/-- States that meet the hypotheses of each clause of ControlRequestsRun. -/
theorem test_hyps_ControlRequestsRun :
    (∃ (s : State) (a : ReqArgs), s.dev.asks ∧ noArgs a = true ∧ s.dev.inStandby = true) ∧
    (∃ (s : State) (a : ReqArgs), s.dev.asks ∧ noArgs a = true ∧ s.dev.inStandby = true) ∧
    (∃ (s : State) (a : ReqArgs), s.dev.asks ∧ bits a.a0 31 17 = 0 ∧ args0 a = true ∧ s.dev.modeOk (bits a.a0 15 0) (bit a.a0 16) = true ∧ s.dev.modeState = true) ∧
    (∃ (s : State) (a : ReqArgs), s.dev.hostUp = true ∧ s.dev.reqBusy = false ∧ s.dev.agreed = true ∧ noArgs a = true ∧ (s.dev.chk.dev = .configured ∨ s.dev.chk.dev = .safe) ∧ s.dev.tck.running = true) ∧
    (∃ (s : State) (a : ReqArgs), s.dev.hostUp = true ∧ s.dev.reqBusy = false ∧ s.dev.agreed = true ∧ noArgs a = true ∧ (s.dev.chk.dev = .configured ∨ s.dev.chk.dev = .safe) ∧ s.dev.tck.running = false) ∧
    (∃ (s : State) (a : ReqArgs), s.dev.hostUp = true ∧ s.dev.reqBusy = false ∧ s.dev.agreed = true ∧ noArgs a = true ∧ s.dev.chk.dev = .maint ∧ s.dev.chk.warm = none) ∧
    (∃ (s : State) (a : ReqArgs), s.dev.asks ∧ bits a.a0 31 2 = 0 ∧ args0 a = true ∧ s.dev.inService = true ∧ (s.dev.facetAt (bits a.a0 1 0)).st = .ready) :=
  ⟨⟨st (host .configured), noA, (by unfold Device.asks; decide), (by decide), (by decide)⟩,
    ⟨st (host .safe), noA, (by unfold Device.asks; decide), (by decide), (by decide)⟩,
    ⟨st ((host .maint).setCtx 0xFFFF { Ctx.reset with en := true, seqCap := true }), ⟨0x1FFFF, 0, 0, 0⟩, (by unfold Device.asks; decide), (by decide), (by decide), (by decide), (by decide)⟩,
    ⟨st (host .safe), noA, by decide⟩,
    ⟨st { host .configured with tck := .reset }, noA, by decide⟩,
    ⟨st (host .maint), noA, by decide⟩,
    ⟨st { host .run with facet := [(3, { Facet.reset with powered := true, st := .ready })] }, ⟨3, 0, 0, 0⟩, (by unfold Device.asks; decide), (by decide), (by decide), (by decide), (by decide)⟩⟩

/-- States that meet the hypotheses of each clause of ForcesAndClears. -/
theorem test_hyps_ForcesAndClears :
    (∃ (s : State) (a : ReqArgs), s.dev.asks ∧ bits a.a0 31 13 = 0 ∧ bits a.a0 11 9 = 0 ∧ args0 a = true ∧ forceNames (bits a.a0 8 0) (bits a.a0 12 12) = true ∧ s.dev.forceState = true) ∧
    (∃ (s : State) (a : ReqArgs) (r : SrcRow), s.dev.asks ∧ bits a.a0 31 9 = 0 ∧ args0 a = true ∧ srcRow (bits a.a0 8 0) = some r ∧ r.cls ≠ 3 ∧ s.dev.chk.dev ≠ .boot ∧ s.dev.chk.dev ≠ .fatal) ∧
    (∃ (s : State), s.dev.chanA = true) :=
  ⟨⟨st (host .maint), ⟨0x1000, 0, 0, 0⟩, (by unfold Device.asks; decide), (by decide), (by decide), (by decide), (by decide), (by decide)⟩,
    ⟨st (host .run), noA, _, (by unfold Device.asks; decide), (by decide), (by decide), rfl, (by decide), (by decide), (by decide)⟩,
    ⟨st (live .maint), by decide⟩⟩

/-- States that meet the hypotheses of each clause of SwapsAndLoadsAreVerified (SwapStages). -/
theorem test_hyps_SwapStages :
    (∃ (s : State) (w : Swap), s.dev.cmpAlive = true ∧ s.dev.tck.swap = some w ∧ w.stage = .validating ∧ (s.dev.bgAt .telemetry).level ≠ .forced) ∧
    (∃ (s : State) (w : Swap), s.dev.cmpAlive = true ∧ s.dev.tck.swap = some w ∧ w.stage = .digest) :=
  ⟨⟨st { host .run with tck := { (live .run).tck with swap := some ⟨7, 1, .validating, 0⟩ } }, ⟨7, 1, .validating, 0⟩, by decide⟩,
    ⟨st { host .run with tck := { (live .run).tck with swap := some ⟨7, 1, .digest, 0⟩ } }, ⟨7, 1, .digest, 0⟩, by decide⟩⟩

/-- States that meet the hypotheses of each clause of SwapsAndLoadsAreVerified (LoadsAreVerified). -/
theorem test_hyps_LoadsAreVerified :
    (∃ (s : State) (l : LoadOp), s.dev.cmpAlive = true ∧ s.dev.load = some l ∧ l.op ≠ 3 ∧ l.waitTick = false) ∧
    (∃ (s : State) (l : LoadOp), s.dev.cmpAlive = true ∧ s.dev.load = some l ∧ l.op = 3) :=
  ⟨⟨st { host .run with load := some ⟨2, 7, noA, 0, false⟩ }, ⟨2, 7, noA, 0, false⟩, by decide⟩,
    ⟨st { host .run with load := some ⟨3, 7, noA, 0, false⟩ }, ⟨3, 7, noA, 0, false⟩, by decide⟩⟩

/-- States that meet the hypotheses of each clause of VersionGatesRequests (VersionAndWindow). -/
theorem test_hyps_VersionAndWindow :
    (∃ (s : State), s.dev.hostUp = true) ∧
    (∃ (s : State), s.dev.hostUp = true) ∧
    (∃ (s : State), s.dev.hostUp = true) ∧
    (∃ (s : State), s.dev.hostUp = true) ∧
    (∃ (s : State), s.dev.chk.power = true ∧ s.dev.chk.warm.isSome = true ∧ s.dev.chk.dev ≠ .fatal) :=
  ⟨⟨st (live .run), by decide⟩,
    ⟨st (live .run), by decide⟩,
    ⟨st (live .run), by decide⟩,
    ⟨st (live .run), by decide⟩,
    ⟨st { live .run with chk := { (live .run).chk with warm := some 0x4A } }, by decide⟩⟩

/-- States that meet the hypotheses of each clause of SourcesRegister (PairsRegister). -/
theorem test_hyps_PairsRegister :
    (∃ (s : State) (x : Nat), s.dev.sampled x = true ∧ (s.dev.pairAt x).seen = false ∧ (s.dev.pairAt x).level ≠ 2) ∧
    (∃ (s : State) (x : Nat), s.dev.sampled x = true ∧ (s.dev.pairAt x).broken = false) ∧
    (∃ (x : Nat), x < 0x180) :=
  ⟨⟨st (live .run), 0, by decide⟩,
    ⟨st (live .run), 0, by decide⟩,
    ⟨0x17F, by decide⟩⟩

/-- States that meet the hypotheses of each clause of SourcesRegister (CheckerSourcesRegister). -/
theorem test_hyps_CheckerSourcesRegister :
    (∃ (s : State) (x : Nat), x ∈ [Src.tickInterval, Src.aptUntrusted, Src.aptWitness, Src.stwFault, Src.cvuFail, Src.timeCopy] ∧ s.dev.chk.power = true ∧ s.dev.reactions x = 0) ∧
    (∃ (s : State), s.dev.chk.power = true ∧ s.dev.chk.dev ≠ .fatal) ∧
    (∃ (s : State), s.dev.chk.power = true ∧ s.dev.chk.pwrEn = true ∧ s.dev.chk.warm = none ∧ s.dev.chk.dev ∉ [DevState.boot, .startupTest, .fatal]) ∧
    (∃ (s : State), s.dev.chk.power = true ∧ s.dev.chk.pwrEn = true ∧ s.dev.chk.dev ∈ [DevState.boot, .startupTest]) :=
  ⟨⟨st { live .run with boot := { Boot.reset with img := emptyImage } }, Src.tickInterval, (.head _), (by decide), (by decide)⟩,
    ⟨st (live .run), by decide⟩,
    ⟨st (live .run), by decide⟩,
    ⟨st (live .boot), by decide⟩⟩

/-- States that meet the hypotheses of each clause of FencesAndFacetReturn (FenceConfirmations). -/
theorem test_hyps_FenceConfirmations :
    (∃ (s : State), s.dev.chk.power = true) ∧
    (∃ (s : State) (n : Nat), s.dev.chk.power = true ∧ n < s.dev.flt.fences.length ∧ s.dev.chk.dev ≠ .fatal ∧ s.dev.chk.warm = none) ∧
    (∃ (s : State), s.dev.chk.power = true) :=
  ⟨⟨st (live .run), by decide⟩,
    ⟨st { live .run with flt := { Device.reset.flt with fences := [⟨.engine 167, 0⟩] } }, 0, by decide⟩,
    ⟨st (live .run), by decide⟩⟩

/-- States that meet the hypotheses of each clause of FatalIsFinal. -/
theorem test_hyps_FatalIsFinal :
    (∃ (s : State) (c : Instr), c ∉ [Instr.checkerSupplyValid, .checkerSupplyRemoved, .checkerRailLow] ∧ s.dev.chk.dev = .fatal ∧ s.dev.outputsIdle) ∧
    (∃ (s : State) (x : Nat), x ∈ [Src.tickInterval, Src.aptUntrusted, Src.aptWitness, Src.stwFault, Src.cvuFail, Src.timeCopy] ∧ s.dev.chk.power = true ∧ s.dev.chk.dev = .fatal) ∧
    (∃ (s : State) (tag : Byte) (a : ReqArgs) (x : Instr × Nat), x ∈ requests tag a ∧ s.dev.hostUp = true ∧ s.dev.chk.dev = .fatal) ∧
    (∃ (s : State), s.dev.chk.power = true ∧ s.dev.chk.dev = .fatal ∧ s.dev.chk.recordAt.isSome = true ∧ s.dev.cmpAlive = true) :=
  ⟨⟨st (live .fatal), .tick, (by decide), (by decide), (by unfold Device.outputsIdle Output.idle; decide)⟩,
    ⟨st (live .fatal), Src.tickInterval, (.head _), (by decide), (by decide)⟩,
    ⟨st (live .fatal), 7, noA, (.swap 7 noA, 1), (.head _), (by decide), (by decide)⟩,
    ⟨st { live .fatal with chk := { (live .fatal).chk with recordAt := some 0 } }, by decide⟩⟩

/-- States that meet the hypotheses of each clause of FencesAndFacetReturn (FacetReturn). -/
theorem test_hyps_FacetReturn :
    (∃ (s : State) (f : Nat), f < 4 ∧ s.dev.cmpAlive = true ∧ (s.dev.facetAt f).st = .testing ∧ (s.dev.facetAt f).powered = true ∧ (s.dev.facetAt f).zeroing = false ∧ s.dev.faultFenced f = false ∧ s.dev.usedOk f = true) ∧
    (∃ (s : State) (f : Nat) (fails : List (Nat × Nat)) (march : Bool), f < 4 ∧ s.dev.cmpAlive = true ∧ (s.dev.facetAt f).st = .testing ∧ (s.dev.facetAt f).powered = true ∧ (s.dev.facetAt f).zeroing = false ∧ (march = false ∨ s.dev.faultFenced f = true ∨ (∃ p n, p < 6 ∧ n < 10 ∧ (p, n) ∈ fails ∧ (s.dev.prismAt (6 * f + p)).disabled = false))) :=
  ⟨⟨st { live .run with facet := [(0, { Facet.reset with powered := true }), (3, { Facet.reset with powered := true, st := .testing })] }, 3, by decide⟩,
    ⟨st { live .run with facet := [(0, { Facet.reset with powered := true }), (3, { Facet.reset with powered := true, st := .testing })] }, 3, [], false, (by decide), (by decide), (by decide), (by decide), (by decide), (.inl rfl)⟩⟩

/-- States that meet the hypotheses of each clause of FencesAndFacetReturn (FacetReplacement). -/
theorem test_hyps_FacetReplacement :
    (∃ (s : State) (f : Nat) (k : Nat) (g : Nat) (x : Section), f < 4 ∧ s.dev.cmpAlive = true ∧ (s.dev.facetAt f).st = .replacing ∧ s.dev.healthyFacets[k % s.dev.healthyFacets.length]? = some g ∧ s.dev.placedSections = [x] ∧ (s.dev.copySection f g x).copyOk f x = true) ∧
    (∃ (s : State) (f : Nat), f < 4 ∧ s.dev.cmpAlive = true ∧ (s.dev.facetAt f).st = .replacing ∧ s.dev.placedSections = []) ∧
    (∃ (s : State) (f : Nat), f < 4 ∧ s.dev.cmpAlive = true ∧ (s.dev.facetAt f).st = .replacing ∧ s.dev.healthyFacets = [] ∧ s.dev.placedSections ≠ []) ∧
    (∃ (s : State) (f : Nat), f < 4 ∧ s.dev.cmpAlive = true ∧ (s.dev.facetAt f).st = .replacing) :=
  ⟨⟨st { live .run with facet := [(0, { Facet.reset with powered := true }), (3, { Facet.reset with powered := true, st := .replacing })], model0 := { Model.reset with st := .resident, sections := [⟨1, 0, 0, 0, 64, 0, sha384 (List.replicate 64 0)⟩] } }, 3, 5, 0, ⟨1, 0, 0, 0, 64, 0, sha384 (List.replicate 64 0)⟩, by decide⟩,
    ⟨st { live .run with facet := [(0, { Facet.reset with powered := true }), (3, { Facet.reset with powered := true, st := .replacing })], model0 := { Model.reset with st := .resident, sections := [] } }, 3, by decide⟩,
    ⟨st { live .run with facet := [(3, { Facet.reset with powered := true, st := .replacing })], model0 := { Model.reset with st := .resident, sections := [⟨1, 0, 0, 0, 64, 0, 0⟩] } }, 3, by decide⟩,
    ⟨st { live .run with facet := [(0, { Facet.reset with powered := true }), (3, { Facet.reset with powered := true, st := .replacing })], model0 := { Model.reset with st := .resident, sections := [⟨1, 0, 0, 0, 64, 0, 0⟩] } }, 3, by decide⟩⟩

/-- States that meet the hypotheses of each clause of FlashRecords. -/
theorem test_hyps_FlashRecords :
    (∃ (s : State), s.dev.booting = true) ∧
    (∃ (s : State), s.dev.booting = true) ∧
    (∃ (s : State) (j : Nat), s.dev.cmpAlive = true ∧ j < 96 ∧ s.dev.chk.dev ≠ .fatal) ∧
    (∃ (s : State) (j : Nat), s.dev.cmpAlive = true ∧ j < 96) :=
  ⟨⟨st (live .boot), by decide⟩,
    ⟨st (live .boot), by decide⟩,
    ⟨st (live .run), 95, by decide⟩,
    ⟨st (live .run), 95, by decide⟩⟩

/-- States that meet the hypotheses of each clause of FlashOperations (FlashOperationsStart). -/
theorem test_hyps_FlashOperationsStart :
    (∃ (s : State), s.dev.hostUp = true) ∧
    (∃ (s : State), s.dev.hostUp = true) ∧
    (∃ (s : State), s.dev.hostUp = true) :=
  ⟨⟨st (host .maint), by decide⟩,
    ⟨st (host .maint), by decide⟩,
    ⟨st (host .maint), by decide⟩⟩

/-- States that meet the hypotheses of each clause of FlashOperations (FlashOperationsEnd). -/
theorem test_hyps_FlashOperationsEnd :
    (∃ (s : State), s.dev.chk.dev ≠ .fatal ∧ (s.dev.bgAt .flash).level = .forced) ∧
    (∃ (s : State) (o : NvmOp) (r : FlashRead), s.dev.cmpAlive = true ∧ s.dev.chk.dev ≠ .fatal ∧ (s.dev.bgAt .flash).level ≠ .forced ∧ s.dev.nvm.op = some o ∧ o.op = 1 ∧ r.bad = false) ∧
    (∃ (s : State) (o : NvmOp), s.dev.cmpAlive = true ∧ s.dev.chk.dev ≠ .fatal ∧ (s.dev.bgAt .flash).level ≠ .forced ∧ s.dev.nvm.op = some o ∧ o.op = 2 ∧ s.dev.flashLow = false ∧ 0x20000 ≤ (s.dev.partAt o.part).start ∧ o.part < s.dev.boot.parts.length ∧ (s.dev.readMem o.addr o.len).bytes.length = o.len) ∧
    (∃ (s : State) (o : NvmOp), s.dev.cmpAlive = true ∧ s.dev.chk.dev ≠ .fatal ∧ (s.dev.bgAt .flash).level ≠ .forced ∧ s.dev.nvm.op = some o ∧ o.op = 3) ∧
    (∃ (s : State) (o : NvmOp) (r : FlashRead), s.dev.cmpAlive = true ∧ s.dev.chk.dev ≠ .fatal ∧ (s.dev.bgAt .flash).level ≠ .forced ∧ s.dev.nvm.op = some o ∧ o.op = 1 ∧ r.bad = true) ∧
    (∃ (s : State) (o : NvmOp), s.dev.cmpAlive = true ∧ s.dev.chk.dev ≠ .fatal ∧ (s.dev.bgAt .flash).level ≠ .forced ∧ s.dev.nvm.op = some o ∧ o.op = 2 ∧ s.dev.flashLow = true) ∧
    (∃ (s : State) (o : NvmOp), s.dev.cmpAlive = true ∧ s.dev.chk.dev = .fatal ∧ s.dev.nvm.op = some o ∧ o.op = 2) :=
  ⟨⟨st ((live .maint).setBg .flash ⟨.forced, 0⟩), by decide⟩,
    ⟨st { live .maint with nvm := { Device.reset.nvm with op := some ⟨1, 7, 0, 0x2000, 0, 16⟩ }, boot := { Boot.reset with parts := [⟨0x20000, 0x20000, true, 0⟩] } }, ⟨1, 7, 0, 0x2000, 0, 16⟩, ⟨0, false, false⟩, by decide⟩,
    ⟨st { live .maint with nvm := { Device.reset.nvm with op := some ⟨2, 7, 0, 0x2000, 0, 16⟩ }, boot := { Boot.reset with parts := [⟨0x20000, 0x20000, true, 0⟩] } }, ⟨2, 7, 0, 0x2000, 0, 16⟩, by decide⟩,
    ⟨st { live .maint with nvm := { Device.reset.nvm with op := some ⟨3, 7, 0, 0x2000, 0, 16⟩ }, boot := { Boot.reset with parts := [⟨0x20000, 0x20000, true, 0⟩] } }, ⟨3, 7, 0, 0x2000, 0, 16⟩, by decide⟩,
    ⟨st { live .maint with nvm := { Device.reset.nvm with op := some ⟨1, 7, 0, 0x2000, 0, 16⟩ }, boot := { Boot.reset with parts := [⟨0x20000, 0x20000, true, 0⟩] } }, ⟨1, 7, 0, 0x2000, 0, 16⟩, ⟨0, false, true⟩, by decide⟩,
    ⟨st { live .maint with nvm := { Device.reset.nvm with blocks := 1, blk := [(0, { Blk.fresh with holds := some 0 })], op := some ⟨2, 7, 0, 0x2000, 0, 16⟩ }, boot := { Boot.reset with parts := [⟨0x20000, 0x20000, true, 0⟩] } }, ⟨2, 7, 0, 0x2000, 0, 16⟩, by decide⟩,
    ⟨st { live .fatal with nvm := { Device.reset.nvm with op := some ⟨2, 7, 0, 0x2000, 0, 16⟩ }, boot := { Boot.reset with parts := [⟨0x20000, 0x20000, true, 0⟩] } }, ⟨2, 7, 0, 0x2000, 0, 16⟩, by decide⟩⟩

/-- States that meet the hypotheses of each clause of EventsAreRecorded. -/
theorem test_hyps_EventsAreRecorded :
    (∃ (s : State) (r : EventRec) (l : List EventRec), s.dev.cmpAlive = true ∧ s.dev.nvm.due = r :: l) ∧
    (∃ (s : State) (k : Nat), s.dev.cmpAlive = true ∧ s.dev.nvm.staging.findIdx? (fun r => !r.lensDone) = some k) ∧
    (∃ (s : State) (r : EventRec) (l : List EventRec) (failed : List Nat), s.dev.cmpAlive = true ∧ s.dev.nvm.staging = r :: l ∧ s.dev.chk.dev ≠ .fatal ∧ r.lensDone = true ∧ (s.dev.retireBlks failed).flashLow = false ∧ (s.dev.partAt 9).length ≠ 0) ∧
    (∃ (s : State) (r : EventRec) (l : List EventRec) (failed : List Nat), s.dev.cmpAlive = true ∧ s.dev.nvm.staging = r :: l ∧ s.dev.chk.dev ≠ .fatal ∧ r.lensDone = true ∧ (s.dev.retireBlks failed).flashLow = true) :=
  ⟨⟨st { live .run with nvm := { Device.reset.nvm with due := [⟨1, 0, [], 0, [], false⟩] }, boot := { Boot.reset with parts := List.replicate 10 ⟨0x20000, 0x20000, true, 0⟩ } }, ⟨1, 0, [], 0, [], false⟩, [], by decide⟩,
    ⟨st { live .run with nvm := { Device.reset.nvm with staging := [⟨1, 0, [], 0, [], false⟩] }, boot := { Boot.reset with parts := List.replicate 10 ⟨0x20000, 0x20000, true, 0⟩ } }, 0, by decide⟩,
    ⟨st { live .run with nvm := { Device.reset.nvm with staging := [⟨1, 0, [], 0, [], true⟩] }, boot := { Boot.reset with parts := List.replicate 10 ⟨0x20000, 0x20000, true, 0⟩ } }, ⟨1, 0, [], 0, [], true⟩, [], [], by decide⟩,
    ⟨st { live .run with nvm := { Device.reset.nvm with blocks := 1, blk := [(0, { Blk.fresh with holds := some 0 })], staging := [⟨1, 0, [], 0, [], true⟩] }, boot := { Boot.reset with parts := List.replicate 10 ⟨0x20000, 0x20000, true, 0⟩ } }, ⟨1, 0, [], 0, [], true⟩, [], [], by decide⟩⟩

/-- States that meet the hypotheses of each clause of PairIsCompared (LockstepComparisons). -/
theorem test_hyps_LockstepComparisons :
    (∃ (s : State) (m : Checkpoint) (x : Checkpoint) (a : Word) (b : Word), s.dev.comparing = true ∧ a = foldWrites s.dev.core.sigM m.writes ∧ b = foldWrites s.dev.core.sigX x.writes) ∧
    (∃ (s : State), s.dev.comparing = true) ∧
    (∃ (s : State) (l : List StoreEntry) (rest : List StoreEntry) (m : StoreEntry), s.dev.comparing = true ∧ (s.dev.core.stores ++ l).take 8 = m :: rest) ∧
    (∃ (s : State), s.dev.comparing = true ∧ s.dev.core.stores = []) :=
  ⟨⟨st (live .run), ⟨[.x 5 7], 0⟩, ⟨[.x 5 8], 0⟩, _, _, (by decide), rfl, rfl⟩,
    ⟨st (live .run), by decide⟩,
    ⟨st (live .run), [⟨0, 0, 0, none⟩], [], ⟨0, 0, 0, none⟩, by decide⟩,
    ⟨st (live .run), by decide⟩⟩

/-- States that meet the hypotheses of each clause of PairIsCompared (DelayQueueAndTcm). -/
theorem test_hyps_DelayQueueAndTcm :
    (∃ (s : State), s.dev.comparing = true) ∧
    (∃ (s : State) (t0 : Nat) (i : CoreInput) (l : List (Nat × CoreInput)), s.dev.comparing = true ∧ s.dev.core.delay = (t0, i) :: l) ∧
    (∃ (s : State) (e : BitVec 39) (syn : Nat), s.dev.comparing = true ∧ s.dev.core.delay.length < 32 ∧ syn = checkBits cols32 (e.toNat % 2 ^ 32) ^^^ e.toNat / 2 ^ 32) :=
  ⟨⟨st (live .run), by decide⟩,
    ⟨st { live .run with core := { (live .run).core with delay := [(3, .load 7)] } }, 3, .load 7, [], by decide⟩,
    ⟨st (live .run), 1, _, (by decide), (by decide), rfl⟩⟩

/-- States that meet the hypotheses of each clause of ChannelARestarts. -/
theorem test_hyps_ChannelARestarts :
    (∃ (s : State), s.dev.chk.power = true ∧ s.dev.core.due = true ∧ s.dev.chk.dev ≠ .fatal) ∧
    (∃ (s : State), s.dev.chk.power = true ∧ s.dev.core.due = true ∧ s.dev.chk.dev ≠ .fatal) ∧
    (∃ (s : State) (re : List Byte), s.dev.core.held = true ∧ s.dev.core.due = false ∧ s.dev.chk.power = true ∧ s.dev.chk.dev ≠ .fatal ∧ (s.dev.fwCheck re).2 = true) ∧
    (∃ (s : State) (re : List Byte), s.dev.core.held = true ∧ s.dev.core.due = false ∧ s.dev.chk.power = true ∧ s.dev.chk.dev ≠ .fatal ∧ (s.dev.fwCheck re).2 = false) ∧
    (∃ (s : State), s.dev.core.held = false ∧ s.dev.chk.power = true ∧ s.dev.chk.dev ≠ .fatal) :=
  ⟨⟨st { live .run with core := { (live .run).core with due := true } }, by decide⟩,
    ⟨st { live .run with core := { (live .run).core with due := true } }, by decide⟩,
    ⟨st { live .run with core := { (live .run).core with held := true }, boot := { Boot.reset with bootOk := false } }, [], by decide⟩,
    ⟨st { live .run with core := { (live .run).core with held := true }, boot := { Boot.reset with bootOk := true } }, [], by decide⟩,
    ⟨st (live .run), by decide⟩⟩

/-- States that meet the hypotheses of each clause of PairIsCompared (DebugSplitsThePair). -/
theorem test_hyps_DebugSplitsThePair :
    (∃ (s : State), s.dev.chk.power = true ∧ s.dev.chk.dev ≠ .fatal ∧ s.dev.core.held = false) :=
  ⟨st (live .run), by decide⟩

/-- States that meet the hypotheses of each clause of WatchdogAndLadder (WatchdogService). -/
theorem test_hyps_WatchdogService :
    (∃ (s : State), s.dev.chanA = true ∧ s.dev.wdg.running = true ∧ s.dev.wdg.frozenAt = none) ∧
    (∃ (s : State), s.dev.wdgCounts = true ∧ s.dev.wdg.openPhase = false ∧ s.dev.wdgBounds.1 ≤ s.dev.wdgNow) ∧
    (∃ (s : State), s.dev.wdgCounts = true ∧ s.dev.wdgBounds.2 ≤ s.dev.wdgNow) ∧
    (∃ (s : State), s.dev.chanA = true ∧ s.dev.boot.otp.wdgHwstart = false ∧ s.dev.wdg.running = false) ∧
    (∃ (s : State), s.dev.chanA = true) :=
  ⟨⟨st { live .run with wdg := { Device.reset.wdg with running := true, openPhase := true } }, by decide⟩,
    ⟨st { live .run with wdg := { Device.reset.wdg with running := true, openPhase := false } }, by decide⟩,
    ⟨st { live .run with wdg := { Device.reset.wdg with running := true, openPhase := true } }, by decide⟩,
    ⟨st { live .run with boot := { Boot.reset with otp := { Otp.reset with wdgHwstart := false } } }, by decide⟩,
    ⟨st (live .run), by decide⟩⟩

/-- States that meet the hypotheses of each clause of WatchdogAndLadder (EscalationLadder). -/
theorem test_hyps_EscalationLadder :
    (∃ (s : State), s.dev.wdgCounts = true ∧ s.dev.wdgBounds.2 ≤ s.dev.wdgNow) ∧
    (∃ (s : State), s.dev.chk.power = true) ∧
    (∃ (s : State), s.dev.chk.power = true ∧ s.dev.ladder.runFrom.isSome = true) :=
  ⟨⟨st { live .run with wdg := { Device.reset.wdg with running := true, openPhase := true } }, by decide⟩,
    ⟨st (live .run), by decide⟩,
    ⟨st { live .run with ladder := { Device.reset.ladder with runFrom := some 0 } }, by decide⟩⟩

/-- States that meet the hypotheses of each clause of ContextModesAndSnapshots. -/
theorem test_hyps_ContextModesAndSnapshots :
    (∃ (s : State), s.dev.chanA = true) ∧
    (∃ (s : State) (x : Master × Nat), x ∈ [(Master.channelA, 0), (.host, 1)] ∧ s.dev.hostUp = true ∧ s.dev.chanA = true) :=
  ⟨⟨st (live .maint), by decide⟩,
    ⟨st (live .run), (.channelA, 0), (.head _), (by decide), (by decide)⟩⟩

/-- States that meet the hypotheses of each clause of CountersAndSnapshots (PerformanceCounters). -/
theorem test_hyps_PerformanceCounters :
    (∃ (s : State) (u : Nat) (i : Nat), s.dev.cmpAlive = true ∧ u < 202 ∧ i < 8 ∧ ((u < 168 → i < 4))) ∧
    (∃ (s : State) (u : Nat) (i : Nat), u < 202 ∧ i < 8 ∧ s.dev.unitOn u = true ∧ (s.dev.cntAt u i).val = 0xFFFFFFFFFFFF ∧ (s.dev.cntAt u i).selAt ≠ s.dev.q / aQ + 1) :=
  ⟨⟨st (live .run), 201, 7, (by decide), (by decide), (by decide), (fun h => absurd h (by decide))⟩,
    ⟨st ((live .run).setCnt 201 7 ⟨0xFFFFFFFFFFFF, false, false, false, 0⟩), 201, 7, by decide⟩⟩

/-- States that meet the hypotheses of each clause of CountersAndSnapshots (Snapshots). -/
theorem test_hyps_Snapshots :
    (∃ (s : State), s.dev.cmpAlive = true) ∧
    (∃ (s : State) (t : Nat) (b : List Byte), s.dev.prf.busy = some (t, b)) :=
  ⟨⟨st (live .run), by decide⟩,
    ⟨st { live .run with prf := { Device.reset.prf with busy := some (0, []) } }, 0, [], by decide⟩⟩

/-- States that meet the hypotheses of each clause of RegisterWrites. -/
theorem test_hyps_RegisterWrites :
    (∃ (s : State) (k : Nat) (bs : List Byte), k ∈ [Reg.timStepLo, Reg.timStepHi, Reg.nvmOfs, Reg.nvmLen] ∧ bs.length = 4 ∧ s.dev.hostUp = true ∧ s.dev.keptBits k = 0) ∧
    (∃ (s : State) (x : Nat × Word) (bs : List Byte), x ∈ [(Reg.tckIntEn, 0x7FF), (Reg.memIntEn, 0xFF), (Reg.dskIntEn, 0xFF), (Reg.lnsIntEn, 0x1F), (Reg.ethIntEn, 0xF), (Reg.timIntEn, 0xFF), (Reg.prfIntEn, 0x7F), (Reg.nvmIntEn, 0x7F), (Reg.hifIntEn, 0x3F)] ∧ bs.length = 4 ∧ s.dev.hostUp = true ∧ s.dev.keptBits x.1 = 0) ∧
    (∃ (s : State) (x : Nat × Word) (bs : List Byte), x ∈ [(Reg.tckStatus, 0x7FE), (Reg.memStatus, 0xDF), (Reg.dskStatus, 0xFF), (Reg.lnsStatus, 0x1F), (Reg.ethStatus, 0xF), (Reg.timStatus, 0xFE), (Reg.nvmStatus, 0x7F), (Reg.hifStatus, 0x3F)] ∧ bs.length = 4 ∧ s.dev.hostUp = true) ∧
    (∃ (s : State) (k : Nat) (bs : List Byte), k ∈ [Reg.lnsCtrl, Reg.ethCtrl, Reg.nvmCtrl, Reg.dskCfg] ∧ bs.length = 4 ∧ s.dev.hostUp = true) ∧
    (∃ (s : State) (bs : List Byte), bs.length = 4 ∧ s.dev.hostUp = true ∧ s.dev.keptBits Reg.timStepMax = 0) ∧
    (∃ (s : State) (sp : Space) (k : Nat) (bs : List Byte), (sp = .bar0 ∨ sp = .bar4) ∧ s.dev.hostUp = true ∧ inBar (decide (sp = .bar4)) k bs.length = true ∧ bs.length ≤ 8 ∧ (k % 4 ≠ 0 ∨ (bs.length ≠ 4 ∧ bs.length ≠ 8))) ∧
    (∃ (s : State) (k : Nat) (bs : List Byte), bs.length = 4 ∧ s.dev.hostUp = true ∧ k % 4 = 0 ∧ chkBase ≤ k ∧ k < chkBase + 0x100000) ∧
    (∃ (s : State) (i : Nat) (bs : List Byte), i < 4 ∧ bs.length = 4 ∧ s.dev.hostUp = true) ∧
    (∃ (s : State) (i : Nat) (bs : List Byte), i < 16 ∧ bs.length = 4 ∧ s.dev.chanA = true) :=
  ⟨⟨st (live .run), Reg.timStepLo, [1, 2, 3, 4], (.head _), (by decide), (by decide), (by decide)⟩,
    ⟨st (live .run), (Reg.tckIntEn, 0x7FF), [1, 2, 3, 4], (.head _), (by decide), (by decide), (by decide)⟩,
    ⟨st (live .run), (Reg.tckStatus, 0x7FE), [1, 2, 3, 4], (.head _), (by decide), (by decide)⟩,
    ⟨st (live .run), Reg.lnsCtrl, [1, 2, 3, 4], (.head _), (by decide), (by decide)⟩,
    ⟨st (live .run), [1, 2, 3, 4], by decide⟩,
    ⟨st (live .run), .bar0, 0x11, [1], (.inl rfl), (by decide), (by decide), (by decide), (by decide)⟩,
    ⟨st (live .run), chkBase + 0xFFFFC, [1, 2, 3, 4], by decide⟩,
    ⟨st (live .run), 3, [1, 2, 3, 4], by decide⟩,
    ⟨st (live .run), 15, [1, 2, 3, 4], by decide⟩⟩

/-- States that meet the hypotheses of each clause of RegisterWrites (ConfigurationAndRegisterReads). -/
theorem test_hyps_ConfigurationAndRegisterReads :
    (∃ (s : State) (bs : List Byte), bs.length = 4 ∧ s.dev.linkOk = true) ∧
    (∃ (s : State) (bs : List Byte), bs.length = 4 ∧ s.dev.linkOk = true) ∧
    (∃ (s : State) (bs : List Byte), bs.length = 4 ∧ s.dev.linkOk = true ∧ 10 ≤ bits (wordAt bs 0) 13 8 ∧ bits (wordAt bs 0) 13 8 ≤ 15) ∧
    (∃ (s : State) (bs : List Byte), bs.length = 4 ∧ s.dev.linkOk = true ∧ bit (wordAt bs 0) 15 = true) ∧
    (∃ (s : State) (o : Nat), o % 4 = 0 ∧ o < 4096 ∧ s.dev.linkOk = true) ∧
    (∃ (s : State) (k : Nat), k % 4 = 0 ∧ k < chkBase ∧ s.dev.hostUp = true ∧ k ≠ Reg.timNs ∧ isIdx k (Reg.timCapNs 0) 16 32 = false) ∧
    (∃ (s : State) (sp : Space) (k : Nat) (n : Nat), (sp = .bar0 ∨ sp = .bar4) ∧ inBar (decide (sp = .bar4)) k n = true ∧ s.dev.hostUp = true ∧ 8 < n) :=
  ⟨⟨st (live .run), [1, 2, 3, 4], by decide⟩,
    ⟨st (live .run), [1, 2, 3, 4], by decide⟩,
    ⟨st (live .run), [0, 10, 0, 0], by decide⟩,
    ⟨st (live .run), [0, 0x80, 0, 0], by decide⟩,
    ⟨st (live .run), 4092, by decide⟩,
    ⟨st (live .run), 0, by decide⟩,
    ⟨st (live .run), .bar4, 0, 16, (.inr rfl), (by decide), (by decide), (by decide)⟩⟩

/-- States that meet the hypotheses of each clause of TimeReadsCapturesTriggers (TimeReadsLatch). -/
theorem test_hyps_TimeReadsLatch :
    (∃ (s : State), s.dev.hostUp = true) ∧
    (∃ (s : State) (n : Nat), s.dev.hostUp = true ∧ n < 32) ∧
    (∃ (s : State), s.dev.chk.power = true) ∧
    (∃ (s : State) (m : Nat) (t : TxStamp) (l : List TxStamp), s.dev.hostUp = true ∧ m < 2 ∧ tabGet [] s.dev.eth.tsq m = t :: l) ∧
    (∃ (s : State) (m : Nat), s.dev.hostUp = true ∧ m < 2 ∧ tabGet [] s.dev.eth.tsq m = []) ∧
    (∃ (s : State) (n : Nat) (t : TxStamp) (l : List TxStamp), s.dev.chk.power = true ∧ n < 2 ∧ tabGet [] s.dev.rng.tsq n = t :: l) ∧
    (∃ (s : State) (n : Nat), s.dev.chk.power = true ∧ n < 2 ∧ tabGet [] s.dev.rng.tsq n = []) :=
  ⟨⟨st (live .run), by decide⟩,
    ⟨st (live .run), 31, by decide⟩,
    ⟨st (live .run), by decide⟩,
    ⟨st { live .run with eth := { Device.reset.eth with tsq := [(1, [⟨1, 0, 0⟩])] } }, 1, ⟨1, 0, 0⟩, [], by decide⟩,
    ⟨st (live .run), 1, by decide⟩,
    ⟨st { live .run with rng := { Device.reset.rng with tsq := [(1, [⟨1, 0, 0⟩])] } }, 1, ⟨1, 0, 0⟩, [], by decide⟩,
    ⟨st (live .run), 1, by decide⟩⟩

/-- States that meet the hypotheses of each clause of TimeStepsAndCopy (TimeSteps). -/
theorem test_hyps_TimeSteps :
    (∃ (s : State), s.dev.hostUp = true) ∧
    (∃ (s : State) (o : Int), s.dev.hostUp = true ∧ o = sext 64 ((s.dev.reg Reg.timStepHi).toNat * 2 ^ 32 + (s.dev.reg Reg.timStepLo).toNat)) ∧
    (∃ (s : State), s.dev.chk.power = true) :=
  ⟨⟨st (live .run), by decide⟩,
    ⟨st (live .run), _, (by decide), rfl⟩,
    ⟨st (live .run), by decide⟩⟩

/-- States that meet the hypotheses of each clause of TimeReadsCapturesTriggers (CaptureAndTriggers). -/
theorem test_hyps_CaptureAndTriggers :
    (∃ (s : State) (n : Nat), s.dev.cmpAlive = true ∧ n < 32) ∧
    (∃ (s : State) (n : Nat), s.dev.cmpAlive = true ∧ n < 16) ∧
    (∃ (s : State) (n : Nat), s.dev.cmpAlive = true ∧ n < 16) :=
  ⟨⟨st (live .run), 31, by decide⟩,
    ⟨st (live .run), 15, by decide⟩,
    ⟨st (live .run), 15, by decide⟩⟩

/-- States that meet the hypotheses of each clause of TimeStepsAndCopy (TimeCopyFollows). -/
theorem test_hyps_TimeCopyFollows :
    (∃ (s : State) (sec : Nat) (ns : Nat) (c : Nat) (th : Int), s.dev.cmpAlive = true ∧ ns < secNs ∧ c = sec * secNs + ns ∧ s.dev.tim.msg = some c ∧ th = (c : Int) + Config.linkDelayNs - s.dev.chkNs) ∧
    (∃ (s : State) (sec : Nat) (ns : Nat), s.dev.tim.msg ≠ some (sec * secNs + ns)) ∧
    (∃ (s : State), s.dev.chk.power = true ∧ s.dev.ctime.st = .disciplined) :=
  ⟨⟨st { live .run with tim := { Tim.reset with msg := some 999999999 } }, 0, 999999999, 999999999, _, (by decide), (by decide), (by decide), (by decide), rfl⟩,
    ⟨st (live .run), 0, 0, by decide⟩,
    ⟨st { live .run with ctime := { CTime.reset with st := .disciplined } }, by decide⟩⟩

/-- States that meet the hypotheses of each clause of MatrixCommandsStart. -/
theorem test_hyps_MatrixCommandsStart :
    (∃ (s : State) (e : Nat) (h : FCmd) (w : CmdWord), isMe e = true ∧ w = stepWord h.word (s.dev.engAt e).loops ∧ hdrCauses h.word ++ mmCauses e h.word s.dev w = [] ∧ s.dev.solo e 0x10 h) ∧
    (∃ (s : State) (e : Nat) (h : FCmd) (w : CmdWord), isMe e = true ∧ w = stepWord h.word (s.dev.engAt e).loops ∧ hdrCauses h.word ++ mmCauses e h.word s.dev w = [] ∧ s.dev.solo e 0x11 h) ∧
    (∃ (s : State) (e : Nat) (h : FCmd) (w : CmdWord), isMe e = true ∧ s.dev.solo e 0x12 h ∧ w = stepWord h.word (s.dev.engAt e).loops ∧ hdrCauses h.word = [] ∧ agdCauses e s.dev w = [] ∧ s.dev.waitMet e w) ∧
    (∃ (s : State) (e : Nat), isMe e = true ∧ s.dev.cmpAlive = true) :=
  ⟨⟨st (hold (live .run) 164 mmWord []), 164, mmWord, _, (by decide), rfl, (by decide), (by unfold Device.solo; decide)⟩,
    ⟨st (hold (live .run) 0 (fc [(0, 0, 0x11)]) []), 0, (fc [(0, 0, 0x11)]), _, (by decide), rfl, (by decide), (by unfold Device.solo; decide)⟩,
    ⟨st (hold (live .run) 164 agdWord []), 164, agdWord, _, (by decide), (by unfold Device.solo; decide), rfl, (by decide), (by decide), (by unfold Device.waitMet; decide)⟩,
    ⟨st (live .run), 164, by decide⟩⟩

/-- States that meet the hypotheses of each clause of MatrixCommandsStart (StreamsStart). -/
theorem test_hyps_StreamsStart :
    (∃ (s : State) (e : Nat) (i : Nat) (x : MeCmd), isMe e = true ∧ (s.dev.meAt e).pipe.findIdx? (fun x => x.s.isNone) = some i ∧ (s.dev.meAt e).pipe[i]? = some x ∧ mmStreams x.word = true ∧ x.v.isSome = true ∧ s.dev.running e = true ∧ ((∀ h, h ∈ (s.dev.engAt e).queue.head? → h.poisoned = false ∧ opAllowed (engKind e) (opcode h.word) = true))) :=
  ⟨st { hold (live .run) 164 mmWord [] with me := [(164, { Me.reset with pipe := [mmCmd none []] })] }, 164, 0, mmCmd none [], (by decide), (by decide), (by decide), (by decide), (by decide), (by decide), (fun h hh => by cases hh; decide)⟩

/-- States that meet the hypotheses of each clause of RowsAreWritten. -/
theorem test_hyps_RowsAreWritten :
    (∃ (s : State) (e : Nat) (i : Nat) (x : MeCmd) (y : RowRes), isMe e = true ∧ s.dev.meUp e = true ∧ (s.dev.meAt e).pipe.findIdx? (fun x => decide (x.next < x.rows.length)) = some i ∧ (s.dev.meAt e).pipe[i]? = some x ∧ x.rows[x.next]? = some y ∧ mmRow x.word + x.next < 2048 ∧ s.dev.mem.syn = [] ∧ s.dev.mem.decode = [] ∧ s.dev.raceAt ≠ s.dev.q / aQ) :=
  ⟨st { live .run with me := [(164, { Me.reset with pipe := [mmCmd (some 0) [⟨[], 0, false⟩]] })], raceAt := 0 }, 164, 0, mmCmd (some 0) [⟨[], 0, false⟩], ⟨[], 0, false⟩, by decide⟩

/-- States that meet the hypotheses of each clause of EngineCommandsComplete. -/
theorem test_hyps_EngineCommandsComplete :
    (∃ (s : State) (e : Nat) (i : Nat) (x : MeCmd) (a : Act), isMe e = true ∧ s.dev.meUp e = true ∧ s.dev.tck.abandoning = false ∧ (s.dev.meAt e).pipe.zipIdx.find? (fun x => meDone x.2 x.1) = some (x, i) ∧ mmStreams x.word = true ∧ (opcode x.word = 0x10 ∨ opcode x.word = 0x11) ∧ x.tag = none ∧ a.tag = none ∧ a.done = false ∧ a.addr = x.addr ∧ a.word = x.word ∧ (s.dev.engAt e).acts = [a] ∧ (s.dev.engAt e).queue = []) ∧
    (∃ (s : State) (e : Nat) (a : Act), isVe e = true ∧ s.dev.tck.abandoning = false ∧ (s.dev.engAt e).fenced = false ∧ (s.dev.engAt e).stopped = false ∧ (s.dev.engAt e).acts = [a] ∧ (s.dev.engAt e).queue = [] ∧ a.done = false ∧ a.tag = none ∧ opcode a.word ≠ 3 ∧ opcode a.word ≠ 4) :=
  ⟨⟨st { live .run with eng := [(164, { Eng.reset with phase := .executing, acts := [⟨0x2000, mmWord.word, 0, 0, [], 0, false, none, 0⟩] })], me := [(164, { Me.reset with pipe := [mmCmd (some 0) []] })] }, 164, 0, mmCmd (some 0) [], ⟨0x2000, mmWord.word, 0, 0, [], 0, false, none, 0⟩, by decide⟩,
    ⟨st { live .run with eng := [(165, { Eng.reset with phase := .executing, acts := [⟨0x2000, (vecWord opVew []).word, 0, 0, [], 0, false, none, 0⟩] })] }, 165, ⟨0x2000, (vecWord opVew []).word, 0, 0, [], 0, false, none, 0⟩, by decide⟩⟩

/-- States that meet the hypotheses of each clause of VectorsAndTransfersStart (VectorCommandsStart). -/
theorem test_hyps_VectorCommandsStart :
    (∃ (s : State) (e : Nat) (h : FCmd) (w : CmdWord), isVe e = true ∧ w = stepWord h.word (s.dev.engAt e).loops ∧ hdrCauses h.word = [] ∧ vCauses e s.dev w = [] ∧ s.dev.waitMet e w ∧ s.dev.solo e opVew h) ∧
    (∃ (s : State) (e : Nat) (h : FCmd) (w : CmdWord), isVe e = true ∧ w = stepWord h.word (s.dev.engAt e).loops ∧ hdrCauses h.word = [] ∧ vCauses e s.dev w = [] ∧ s.dev.waitMet e w ∧ s.dev.solo e opVact h) ∧
    (∃ (s : State) (e : Nat) (h : FCmd) (w : CmdWord), isVe e = true ∧ w = stepWord h.word (s.dev.engAt e).loops ∧ hdrCauses h.word = [] ∧ vCauses e s.dev w = [] ∧ s.dev.waitMet e w ∧ s.dev.solo e opVnorm h) ∧
    (∃ (s : State) (e : Nat) (h : FCmd) (w : CmdWord), isVe e = true ∧ w = stepWord h.word (s.dev.engAt e).loops ∧ hdrCauses h.word = [] ∧ vCauses e s.dev w = [] ∧ s.dev.waitMet e w ∧ s.dev.solo e opVsmax h) ∧
    (∃ (s : State) (e : Nat) (h : FCmd) (w : CmdWord), isVe e = true ∧ w = stepWord h.word (s.dev.engAt e).loops ∧ hdrCauses h.word = [] ∧ vCauses e s.dev w = [] ∧ s.dev.waitMet e w ∧ s.dev.solo e opVpool h) ∧
    (∃ (s : State) (e : Nat) (h : FCmd) (w : CmdWord), isVe e = true ∧ w = stepWord h.word (s.dev.engAt e).loops ∧ hdrCauses h.word = [] ∧ vCauses e s.dev w = [] ∧ s.dev.waitMet e w ∧ s.dev.solo e opVresize h) ∧
    (∃ (s : State) (e : Nat) (h : FCmd) (w : CmdWord), isVe e = true ∧ w = stepWord h.word (s.dev.engAt e).loops ∧ hdrCauses h.word = [] ∧ vCauses e s.dev w = [] ∧ s.dev.waitMet e w ∧ s.dev.solo e opVred h) ∧
    (∃ (s : State) (e : Nat) (h : FCmd) (w : CmdWord), isVe e = true ∧ w = stepWord h.word (s.dev.engAt e).loops ∧ hdrCauses h.word = [] ∧ vCauses e s.dev w = [] ∧ s.dev.waitMet e w ∧ s.dev.solo e opVargmax h) ∧
    (∃ (s : State) (e : Nat) (h : FCmd) (w : CmdWord), isVe e = true ∧ w = stepWord h.word (s.dev.engAt e).loops ∧ hdrCauses h.word = [] ∧ vCauses e s.dev w = [] ∧ s.dev.waitMet e w ∧ s.dev.solo e opVtopk h) ∧
    (∃ (s : State) (e : Nat) (h : FCmd) (w : CmdWord), isVe e = true ∧ w = stepWord h.word (s.dev.engAt e).loops ∧ hdrCauses h.word = [] ∧ vCauses e s.dev w = [] ∧ s.dev.waitMet e w ∧ s.dev.solo e opVcompact h) ∧
    (∃ (s : State) (e : Nat) (h : FCmd) (w : CmdWord), isVe e = true ∧ w = stepWord h.word (s.dev.engAt e).loops ∧ hdrCauses h.word = [] ∧ vCauses e s.dev w = [] ∧ s.dev.waitMet e w ∧ s.dev.solo e opVqmx h) :=
  ⟨⟨st (hold (live .run) 4 (vecWord opVew [(22, 0, scrBase)]) []), 4, (vecWord opVew [(22, 0, scrBase)]), _, (by decide), rfl, (by decide), (by decide), (by unfold Device.waitMet; decide), (by unfold Device.solo; decide)⟩,
    ⟨st (hold (live .run) 4 (vecWord opVact []) []), 4, (vecWord opVact []), _, (by decide), rfl, (by decide), (by decide), (by unfold Device.waitMet; decide), (by unfold Device.solo; decide)⟩,
    ⟨st (hold (live .run) 4 (vecWord opVnorm [(22, 0, scrBase), (46, 0, scrBase)]) []), 4, (vecWord opVnorm [(22, 0, scrBase), (46, 0, scrBase)]), _, (by decide), rfl, (by decide), (by decide), (by unfold Device.waitMet; decide), (by unfold Device.solo; decide)⟩,
    ⟨st (hold (live .run) 4 (vecWord opVsmax []) []), 4, (vecWord opVsmax []), _, (by decide), rfl, (by decide), (by decide), (by unfold Device.waitMet; decide), (by unfold Device.solo; decide)⟩,
    ⟨st (hold (live .run) 4 (vecWord opVpool [(52, 0, 0x01010101), (60, 0, 0x00010001)]) []), 4, (vecWord opVpool [(52, 0, 0x01010101), (60, 0, 0x00010001)]), _, (by decide), rfl, (by decide), (by decide), (by unfold Device.waitMet; decide), (by unfold Device.solo; decide)⟩,
    ⟨st (hold (live .run) 4 (vecWord opVresize [(52, 0, 0x00010001), (56, 0, 1)]) []), 4, (vecWord opVresize [(52, 0, 0x00010001), (56, 0, 1)]), _, (by decide), rfl, (by decide), (by decide), (by unfold Device.waitMet; decide), (by unfold Device.solo; decide)⟩,
    ⟨st (hold (live .run) 4 (vecWord opVred []) []), 4, (vecWord opVred []), _, (by decide), rfl, (by decide), (by decide), (by unfold Device.waitMet; decide), (by unfold Device.solo; decide)⟩,
    ⟨st (hold (live .run) 4 (vecWord opVargmax []) []), 4, (vecWord opVargmax []), _, (by decide), rfl, (by decide), (by decide), (by unfold Device.waitMet; decide), (by unfold Device.solo; decide)⟩,
    ⟨st (hold (live .run) 4 (vecWord opVtopk [(52, 0, 1), (46, 0, scrBase)]) []), 4, (vecWord opVtopk [(52, 0, 1), (46, 0, scrBase)]), _, (by decide), rfl, (by decide), (by decide), (by unfold Device.waitMet; decide), (by unfold Device.solo; decide)⟩,
    ⟨st (hold (live .run) 4 (vecWord opVcompact [(22, 0, scrBase), (46, 0, scrBase)]) []), 4, (vecWord opVcompact [(22, 0, scrBase), (46, 0, scrBase)]), _, (by decide), rfl, (by decide), (by decide), (by unfold Device.waitMet; decide), (by unfold Device.solo; decide)⟩,
    ⟨st (hold (live .run) 4 (vecWord opVqmx [(12, 0, 31), (9, 4, 3), (46, 0, scrBase)]) []), 4, (vecWord opVqmx [(12, 0, 31), (9, 4, 3), (46, 0, scrBase)]), _, (by decide), rfl, (by decide), (by decide), (by unfold Device.waitMet; decide), (by unfold Device.solo; decide)⟩⟩

/-- States that meet the hypotheses of each clause of VectorsAndTransfersStart (TransfersStart). -/
theorem test_hyps_TransfersStart :
    (∃ (s : State) (e : Nat) (h : FCmd) (w : CmdWord), w = stepWord h.word (s.dev.engAt e).loops ∧ hdrCauses h.word = [] ∧ s.dev.waitMet e w ∧ ((∀ i, i < reqTotal w → s.dev.reqRemote w i = none)) ∧ engKind e = 2 ∧ s.dev.solo e 0x30 h ∧ copyCauses e s.dev w = []) ∧
    (∃ (s : State) (e : Nat) (h : FCmd) (w : CmdWord), w = stepWord h.word (s.dev.engAt e).loops ∧ hdrCauses h.word = [] ∧ s.dev.waitMet e w ∧ ((∀ i, i < reqTotal w → s.dev.reqRemote w i = none)) ∧ engKind e = 2 ∧ s.dev.solo e 0x31 h ∧ fetch2dCauses e s.dev w = []) ∧
    (∃ (s : State) (e : Nat) (h : FCmd) (w : CmdWord), w = stepWord h.word (s.dev.engAt e).loops ∧ hdrCauses h.word = [] ∧ s.dev.waitMet e w ∧ ((∀ i, i < reqTotal w → s.dev.reqRemote w i = none)) ∧ engKind e = 2 ∧ s.dev.solo e 0x32 h ∧ gatherCauses e s.dev w = []) ∧
    (∃ (s : State) (e : Nat) (h : FCmd) (w : CmdWord), w = stepWord h.word (s.dev.engAt e).loops ∧ hdrCauses h.word = [] ∧ s.dev.waitMet e w ∧ ((∀ i, i < reqTotal w → s.dev.reqRemote w i = none)) ∧ engKind e = 3 ∧ s.dev.solo e 0x40 h ∧ storeCauses e s.dev w = []) ∧
    (∃ (s : State) (e : Nat) (h : FCmd) (w : CmdWord), w = stepWord h.word (s.dev.engAt e).loops ∧ hdrCauses h.word = [] ∧ s.dev.waitMet e w ∧ ((∀ i, i < reqTotal w → s.dev.reqRemote w i = none)) ∧ engKind e = 3 ∧ s.dev.solo e 0x41 h ∧ storeCauses e s.dev w = []) :=
  ⟨⟨st (hold (live .run) 5 copyWord []), 5, copyWord, _, rfl, (by decide), (by unfold Device.waitMet; decide), (by decide), (by decide), (by unfold Device.solo; decide), (by decide)⟩,
    ⟨st (hold (live .run) 5 (rowWord 0x31) []), 5, (rowWord 0x31), _, rfl, (by decide), (by unfold Device.waitMet; decide), (by decide), (by decide), (by unfold Device.solo; decide), (by decide)⟩,
    ⟨st (hold (live .run) 5 gatherWord []), 5, gatherWord, _, rfl, (by decide), (by unfold Device.waitMet; decide), (by decide), (by decide), (by unfold Device.solo; decide), (by decide)⟩,
    ⟨st (hold (live .run) 6 (rowWord 0x40) []), 6, (rowWord 0x40), _, rfl, (by decide), (by unfold Device.waitMet; decide), (by decide), (by decide), (by unfold Device.solo; decide), (by decide)⟩,
    ⟨st (hold (live .run) 6 (rowWord 0x41) []), 6, (rowWord 0x41), _, rfl, (by decide), (by unfold Device.waitMet; decide), (by decide), (by decide), (by unfold Device.solo; decide), (by decide)⟩⟩

/-- States that meet the hypotheses of each clause of RequestsComplete. -/
theorem test_hyps_RequestsComplete :
    (∃ (s : State) (e : Nat) (a : Act) (r : Request), e < 168 ∧ (s.dev.engAt e).acts = [a] ∧ (s.dev.engAt e).queue = [] ∧ a.out = [r] ∧ a.next = a.total ∧ r.held = [] ∧ r.remote = false ∧ s.dev.spanBusy a.word r.idx = false ∧ s.dev.refreshHolds a.word r.idx = false ∧ s.dev.badSpans a.word r.idx = []) ∧
    (∃ (d : Device) (e : Nat) (a : Act), d.tck.abandoning = false ∧ (d.engAt e).acts = [a] ∧ (d.engAt e).queue = [] ∧ a.out = [] ∧ a.next = a.total ∧ 0 < a.total ∧ a.done = false ∧ a.tag = none ∧ opcode a.word ≠ 3 ∧ opcode a.word ≠ 4) ∧
    (∃ (s : State) (e : Nat) (a : Act) (r : Request), e < 168 ∧ (s.dev.engAt e).acts = [a] ∧ a.out = [r] ∧ r.held = [] ∧ r.remote = false ∧ s.dev.spanBusy a.word r.idx = false ∧ s.dev.refreshHolds a.word r.idx = false ∧ s.dev.badSpans a.word r.idx ≠ []) ∧
    (∃ (s : State) (e : Nat) (a : Act) (r : Request), e < 168 ∧ (s.dev.engAt e).acts = [a] ∧ a.out = [r] ∧ (r.held ≠ [] ∨ r.remote = true ∨ s.dev.spanBusy a.word r.idx = true ∨ s.dev.refreshHolds a.word r.idx = true)) ∧
    (∃ (s : State) (b : Nat), b ∈ s.dev.mem.decode) :=
  ⟨⟨st { live .run with eng := [(5, { Eng.reset with phase := .executing, acts := [⟨0x2000, copyWord.word, 1, 1, [⟨0, 0, [], false, none⟩], 0, false, none, 0⟩] })] }, 5, ⟨0x2000, copyWord.word, 1, 1, [⟨0, 0, [], false, none⟩], 0, false, none, 0⟩, ⟨0, 0, [], false, none⟩, by decide⟩,
    ⟨{ live .run with eng := [(5, { Eng.reset with phase := .executing, acts := [⟨0x2000, copyWord.word, 1, 1, [], 0, false, none, 0⟩] })] }, 5, ⟨0x2000, copyWord.word, 1, 1, [], 0, false, none, 0⟩, by decide⟩,
    ⟨st { live .run with eng := [(5, { Eng.reset with phase := .executing, acts := [⟨0x2000, copyWord.word, 1, 1, [⟨0, 0, [], false, none⟩], 0, false, none, 0⟩] })], mem := { MemSys.reset with syn := [(scrBase, 3)] } }, 5, ⟨0x2000, copyWord.word, 1, 1, [⟨0, 0, [], false, none⟩], 0, false, none, 0⟩, ⟨0, 0, [], false, none⟩, by decide⟩,
    ⟨st { live .run with eng := [(5, { Eng.reset with phase := .executing, acts := [⟨0x2000, copyWord.word, 1, 1, [⟨0, 0, [0x100], false, none⟩], 0, false, none, 0⟩] })] }, 5, ⟨0x2000, copyWord.word, 1, 1, [⟨0, 0, [0x100], false, none⟩], 0, false, none, 0⟩, ⟨0, 0, [0x100], false, none⟩, by decide⟩,
    ⟨st { live .run with mem := { MemSys.reset with decode := [0x100] } }, 0x100, by decide⟩⟩

/-- States that meet the hypotheses of each clause of CamerasAreReceived (CameraLines). -/
theorem test_hyps_CameraLines :
    (∃ (s : State) (p : Nat) (h : Csi2Header), s.dev.lensPort p = true ∧ h.eccOk = false) ∧
    (∃ (s : State) (p : Nat) (h : Csi2Header), s.dev.lensPort p = true ∧ h.eccOk = true ∧ s.dev.streams.find? (fun r => decide (r.1.port = p) && decide (r.1.vc = h.vc) && decide (r.1.dt = h.dt)) = none) ∧
    (∃ (s : State) (p : Nat) (n : Nat) (h : Csi2Header) (ok : Bool) (pl : List Byte) (r : LensRec) (l : Lens) (x : LensFrame) (t : LensLine), s.dev.lensPort p = true ∧ h.eccOk = true ∧ n < 16 ∧ s.dev.streams.find? (fun r => decide (r.1.port = p) && decide (r.1.vc = h.vc) && decide (r.1.dt = h.dt)) = some (r, n) ∧ l = (s.dev.lensAt n).assign ∧ l.cur = some x ∧ r.y0 ≤ l.lineNo ∧ l.lineNo < r.y0 + r.h ∧ t = LensLine.mk (l.lineNo - r.y0) (((pixelsOf r.dt pl).drop (chansOf r.dt * r.x0)).take (chansOf r.dt * r.w)) (!ok || decide ((pixelsOf r.dt pl).length < chansOf r.dt * (r.x0 + r.w)))) :=
  ⟨⟨st (ports (live .run)), 7, ⟨false, false, 0, 0⟩, by decide⟩,
    ⟨st (ports (live .run)), 7, ⟨true, false, 0, 0⟩, by decide⟩,
    ⟨st (cam { Lens.reset with frames := [frame0], lineNo := 1 }), 0, 0, ⟨true, false, 0, 0⟩, true, [], lrec, _, frame0, _, (by decide), (by decide), (by decide), (by decide), rfl, (by decide), (by decide), (by decide), rfl⟩⟩

/-- States that meet the hypotheses of each clause of CamerasAreReceived (CameraFrames). -/
theorem test_hyps_CameraFrames :
    (∃ (s : State) (p : Nat), s.dev.lensPort p = true) ∧
    (∃ (s : State) (p : Nat), s.dev.lensPort p = true ∧ s.dev.boot.img.lens.length ≤ 16) ∧
    (∃ (s : State) (p : Nat), s.dev.lensPort p = true) ∧
    (∃ (s : State) (p : Nat), s.dev.lensPort p = true ∧ s.dev.boot.img.lens.length ≤ 16) ∧
    (∃ (s : State) (n : Nat) (i : Nat) (r : LensRec) (x : LensFrame) (rest : List LensFrame), s.dev.cmpAlive = true ∧ n < 16 ∧ s.dev.streams.find? (fun r => decide (r.2 = n)) = some (r, n) ∧ (s.dev.lensAt n).assign.frames = x :: rest ∧ x.ended = true ∧ x.buf = some i) :=
  ⟨⟨st (ports (live .run)), 7, by decide⟩,
    ⟨st (ports (live .run)), 7, by decide⟩,
    ⟨st (ports (live .run)), 7, by decide⟩,
    ⟨st (ports (live .run)), 7, by decide⟩,
    ⟨st (cam { Lens.reset with frames := [{ frame0 with ended := true }], lineNo := 1 }), 0, 0, lrec, { frame0 with ended := true }, [], by decide⟩⟩

/-- States that meet the hypotheses of each clause of EthernetReceives. -/
theorem test_hyps_EthernetReceives :
    (∃ (s : State) (p : Nat), s.dev.ethPort p = true) ∧
    (∃ (s : State) (p : Nat) (bs : List Byte), s.dev.ethPort p = true ∧ bs.length ≤ 9216 ∧ (isPause bs = true ∨ (∃ f i, s.dev.filterOf p bs = some (f, i) ∧ f.action = 1))) ∧
    (∃ (s : State) (p : Nat) (bs : List Byte), s.dev.ethPort p = true ∧ bs.length ≤ 9216 ∧ isPause bs = false ∧ s.dev.filterOf p bs = none ∧ s.dev.descAt p false 0 = none) ∧
    (∃ (s : State) (p : Nat) (v : Nat) (i : Nat) (bs : List Byte) (rec : List Byte) (f : EthFilter) (x : EthViewRec), s.dev.ethPort p = true ∧ bs.length ≤ 9216 ∧ isPause bs = false ∧ s.dev.filterOf p bs = some (f, i) ∧ f.action = 0x80 + v ∧ (s.dev.viewAt v).next = none ∧ x = nth s.dev.boot.img.views v ⟨0, 0, 0⟩ ∧ rec = viewRecord p i false (s.dev.portTime p false).1 (s.dev.portTime p false).2 bs) ∧
    (∃ (s : State) (p : Nat) (a : Nat) (bs : List Byte), s.dev.ethPort p = true ∧ bs.length ≤ 9216 ∧ isPause bs = false ∧ s.dev.filterOf p bs = none ∧ s.dev.descAt p false 0 = some a ∧ s.dev.inRingFacet (leAt (s.dev.peek a 32) 0 6) (min (leAt (s.dev.peek a 32) 8 2) bs.length) = true) :=
  ⟨⟨st (ports (live .run)), 5, by decide⟩,
    ⟨st (ports (live .run)), 5, List.replicate 12 0 ++ [0x88, 0x08, 0, 1], (by decide), (by decide), (.inl (by decide))⟩,
    ⟨st (ports (live .run)), 5, List.replicate 60 0, by decide⟩,
    ⟨st { ports (live .run) with boot := { (ports (live .run)).boot with img := { (ports (live .run)).boot.img with filters := [[⟨0, false, false, 0x80, 0⟩]] } } }, 0, 0, 0, List.replicate 60 0, _, ⟨0, false, false, 0x80, 0⟩, _, (by decide), (by decide), (by decide), (by decide), (by decide), (by decide), rfl, rfl⟩,
    ⟨st (ringed (ports (live .run)) (Reg.ethPortRxrLo 5) (Reg.ethPortRxrHi 5) (Reg.ethPortRxTail 5)), 5, 0x1000, List.replicate 60 0, by decide⟩⟩

/-- States that meet the hypotheses of each clause of EthernetSends. -/
theorem test_hyps_EthernetSends :
    (∃ (s : State) (p : Nat), s.dev.hostUp = true ∧ p < 8) ∧
    (∃ (s : State), s.dev.hostUp = true) ∧
    (∃ (s : State) (p : Nat) (v : Nat), s.dev.ethPort p = true ∧ v ≤ 5) ∧
    (∃ (s : State) (p : Nat) (a : Nat) (old : List Byte) (bs : List Byte), s.dev.ethPort p = true ∧ s.dev.descAt p true 0 = some a ∧ old = s.dev.peek a 32 ∧ bs = (s.dev.descRead p true 0).peek (leAt old 0 6) (leAt old 8 2) ∧ 1 ≤ leAt old 8 2 ∧ leAt old 8 2 ≤ 9216 ∧ s.dev.inRingFacet (leAt old 0 6) (leAt old 8 2) = true) ∧
    (∃ (s : State) (p : Nat) (a : Nat) (old : List Byte), s.dev.cmpAlive = true ∧ 6 ≤ p ∧ p < 8 ∧ s.dev.descAt p true (tabGet [] s.dev.rng.tx (p - 6)).length = some a ∧ old = s.dev.peek a 32 ∧ 1 ≤ leAt old 8 2 ∧ leAt old 8 2 ≤ 9216 ∧ s.dev.inRingFacet (leAt old 0 6) (leAt old 8 2) = true) :=
  ⟨⟨st (live .run), 7, by decide⟩,
    ⟨st (live .run), by decide⟩,
    ⟨st (ports (live .run)), 5, 5, by decide⟩,
    ⟨st (ringed (ports (live .run)) (Reg.ethPortTxrLo 5) (Reg.ethPortTxrHi 5) (Reg.ethPortTxTail 5)), 5, 0x1000, _, _, (by decide), (by decide), rfl, rfl, (by decide), (by decide), (by decide)⟩,
    ⟨st (ringed (ports (live .run)) (Reg.ethPortTxrLo 7) (Reg.ethPortTxrHi 7) (Reg.ethPortTxTail 7)), 7, 0x1000, _, (by decide), (by decide), (by decide), (by decide), rfl, (by decide), (by decide), (by decide)⟩⟩

/-- States that meet the hypotheses of each clause of RangeFrames. -/
theorem test_hyps_RangeFrames :
    (∃ (s : State) (n : Nat), s.dev.chk.power = true ∧ n < 2) ∧
    (∃ (s : State) (n : Nat) (bs : List Byte) (t : Nat × Nat) (late : Bool), s.dev.chk.power = true ∧ n < 2 ∧ t = s.dev.rngTime n false ∧ late = decide (((t.1 * 1000000000 + t.2 : Nat) : Int) < s.dev.tck.lastTickChk + s.dev.tck.copySteps) ∧ ((∀ r i pl, s.dev.sensorOf n bs = some (r, i, pl) → r.prot = false))) ∧
    (∃ (s : State) (n : Nat) (m : Nat) (f : FwdFrame) (q : List (Nat × FwdFrame)), s.dev.chk.power = true ∧ n < 2 ∧ s.dev.rng.fwd = (m, f) :: q) ∧
    (∃ (s : State) (n : Nat) (x : RngTx) (q : List RngTx), s.dev.chk.power = true ∧ s.dev.cmpAlive = true ∧ n < 2 ∧ tabGet [] s.dev.rng.tx n = x :: q ∧ x.bytes ≠ []) :=
  ⟨⟨st (live .run), 1, by decide⟩,
    ⟨st (live .run), 1, [], _, _, (by decide), (by decide), rfl, rfl, (fun _ _ _ h => nomatch (show (none : Option (SensorRec × Nat × List Byte)) = some _ from h))⟩,
    ⟨st { live .run with rng := { Device.reset.rng with fwd := [(1, ⟨[1], 0, 0⟩)] } }, 0, 1, ⟨[1], 0, 0⟩, [], by decide⟩,
    ⟨st { live .run with rng := { Device.reset.rng with tx := [(1, [⟨[1], 0, false, 0⟩])] } }, 1, ⟨[1], 0, false, 0⟩, [], by decide⟩⟩

/-- States that meet the hypotheses of each clause of FlitsInTurn. -/
theorem test_hyps_FlitsInTurn :
    (∃ (s : State) (p : Nat) (t : Nat) (f : Flit) (w : Nat) (c : Instr), (c, t) ∈ (.idle p f, FT.idle) :: (.nak p f, FT.nak) :: (.timeFlit p f w, FT.time) :: flits p f ∧ f.wf = true ∧ s.dev.linkOn p = true ∧ f.crc ≠ flitCrc t f) ∧
    (∃ (s : State) (p : Nat) (t : Nat) (f : Flit) (w : Nat) (c : Instr), (c, t) ∈ (.timeFlit p f w, FT.time) :: flits p f ∧ f.wf = true ∧ s.dev.linkOn p = true ∧ f.crc = flitCrc t f ∧ f.seq ≠ ((s.dev.portAt p).rxSeq + 1) % 4096) ∧
    (∃ (s : State) (p : Nat) (t : Nat) (o : Nat) (f : Flit) (c : Instr) (u : Device), (c, t) ∈ flits p f ∧ s.dev.inTurn p t f ∧ f.dst ≠ s.dev.devId ∧ s.dev.route f.dst = some o ∧ u = s.dev.took p f) ∧
    (∃ (s : State) (p : Nat), s.dev.linkOn p = true) ∧
    (∃ (s : State) (p : Nat) (f : Flit) (u : Device) (l : List TxFlit), s.dev.linkOn p = true ∧ f.wf = true ∧ f.crc = flitCrc FT.nak f ∧ u = s.dev.takeAck p f.ack ∧ l = (u.portAt p).replay.map (fun x => { x with replays := x.replays + 1 })) ∧
    (∃ (s : State) (p : Nat) (f : Flit), s.dev.linkOn p = true ∧ f.wf = true ∧ f.crc = flitCrc FT.idle f) :=
  ⟨⟨st ring, 0, FT.idle, { flit0 with crc := 1 }, 0, .idle 0 { flit0 with crc := 1 }, (.head _), (by decide), (by decide), (by decide)⟩,
    ⟨st ring, 0, FT.time, (Flit.seal FT.time { flit0 with seq := 4095 }), 0, .timeFlit 0 (Flit.seal FT.time { flit0 with seq := 4095 }) 0, (.head _), (by decide), (by decide), (by decide), (by decide)⟩,
    ⟨st { ring with dsk := { ring.dsk with routes := [(1, 1), (5, 2)], port := [(0, { DskPort.reset with up := true }), (1, { DskPort.reset with up := true })] } }, 0, FT.wr, 1, (Flit.seal FT.wr { flit0 with dst := 5 }), .wr 0 (Flit.seal FT.wr { flit0 with dst := 5 }), _, (.head _), (by unfold Device.inTurn; decide), (by decide), (by decide), rfl⟩,
    ⟨st ring, 0, by decide⟩,
    ⟨st ring, 0, (Flit.seal FT.nak flit0), _, _, (by decide), (by decide), (by decide), rfl, rfl⟩,
    ⟨st ring, 0, (Flit.seal FT.idle flit0), by decide⟩⟩

/-- States that meet the hypotheses of each clause of PortsTrain. -/
theorem test_hyps_PortsTrain :
    (∃ (s : State) (p : Nat), s.dev.portOn p = true ∧ (s.dev.portAt p).up = false) ∧
    (∃ (s : State) (p : Nat) (lanes : Nat) (f : Flit), s.dev.portOn p = true ∧ f.wf = true ∧ f.crc = flitCrc FT.train f ∧ (s.dev.portAt p).up = false ∧ (lanes = 8 ∨ lanes = 4)) ∧
    (∃ (s : State) (p : Nat) (major : Nat) (lanes : Nat) (f : Flit), s.dev.portOn p = true ∧ f.wf = true ∧ f.crc = flitCrc FT.train f ∧ (s.dev.portAt p).up = false ∧ (major ≠ 1 ∨ (lanes ≠ 8 ∧ lanes ≠ 4))) :=
  ⟨⟨st { ring with dsk := Device.reset.dsk }, 0, by decide⟩,
    ⟨st { ring with dsk := Device.reset.dsk }, 0, 4, (Flit.seal FT.train flit0), (by decide), (by decide), (by decide), (by decide), (.inr rfl)⟩,
    ⟨st { ring with dsk := Device.reset.dsk }, 0, 2, 8, (Flit.seal FT.train flit0), (by decide), (by decide), (by decide), (by decide), (.inl (by decide))⟩⟩

/-- States that meet the hypotheses of each clause of InboundFlitsAreJudged (InboundRequests). -/
theorem test_hyps_InboundRequests :
    (∃ (s : State) (p : Nat) (f : Flit), s.dev.inTurn p FT.wr f ∧ f.dst = s.dev.devId ∧ s.dev.isStale f = true) ∧
    (∃ (s : State) (p : Nat) (f : Flit), s.dev.inTurn p FT.wr f ∧ f.dst = s.dev.devId ∧ s.dev.isStale f = false) ∧
    (∃ (s : State) (p : Nat) (f : Flit) (l : Marked), s.dev.inTurn p FT.rdReq f ∧ f.dst = s.dev.devId ∧ l = (s.dev.readTag (s.dev.phys f.addr) f.len).2) :=
  ⟨⟨st ring, 0, (Flit.seal FT.wr { flit0 with frame := 9 }), (by unfold Device.inTurn; decide), (by decide), (by decide)⟩,
    ⟨st ring, 0, (Flit.seal FT.wr flit0), (by unfold Device.inTurn; decide), (by decide), (by decide)⟩,
    ⟨st ring, 0, (Flit.seal FT.rdReq flit0), _, (by unfold Device.inTurn; decide), (by decide), rfl⟩⟩

/-- States that meet the hypotheses of each clause of InboundFlitsAreJudged (AnswersAndSignals). -/
theorem test_hyps_AnswersAndSignals :
    (∃ (s : State) (p : Nat) (f : Flit), f.dst = s.dev.devId ∧ s.dev.inTurn p FT.wrAck f ∧ s.dev.dsk.rem.find? (fun r => decide (r.dev = f.src) && decide (r.addr = f.addr) && decide (r.read = false)) = none) ∧
    (∃ (s : State) (p : Nat) (f : Flit), f.dst = s.dev.devId ∧ s.dev.inTurn p FT.rdResp f ∧ s.dev.dsk.rem.find? (fun r => decide (r.dev = f.src) && decide (r.addr = f.addr) && decide (r.read = true)) = none) ∧
    (∃ (s : State) (p : Nat) (y : Nat) (f : Flit) (rd : Bool) (r : RemReq) (a : Act) (q : Request) (z : Bool × Nat), f.dst = s.dev.devId ∧ s.dev.dsk.rem.find? (fun r => decide (r.dev = f.src) && decide (r.addr = f.addr) && decide (r.read = rd)) = some r ∧ (s.dev.engAt r.eng).acts = [a] ∧ (s.dev.engAt r.eng).queue = [] ∧ a.out = [q] ∧ a.next = a.total ∧ q.remote = true ∧ q.held = [] ∧ q.idx = r.idx ∧ s.dev.reqRemote a.word r.idx = some (z.1, y, z.2) ∧ remDev y = r.dev ∧ remAddr y = r.addr ∧ rd = false ∧ s.dev.inTurn p FT.wrAck f) ∧
    (∃ (s : State) (p : Nat) (y : Nat) (f : Flit) (rd : Bool) (r : RemReq) (a : Act) (q : Request) (z : Bool × Nat), f.dst = s.dev.devId ∧ s.dev.dsk.rem.find? (fun r => decide (r.dev = f.src) && decide (r.addr = f.addr) && decide (r.read = rd)) = some r ∧ (s.dev.engAt r.eng).acts = [a] ∧ (s.dev.engAt r.eng).queue = [] ∧ a.out = [q] ∧ a.next = a.total ∧ q.remote = true ∧ q.held = [] ∧ q.idx = r.idx ∧ s.dev.reqRemote a.word r.idx = some (z.1, y, z.2) ∧ remDev y = r.dev ∧ remAddr y = r.addr ∧ rd = true ∧ s.dev.inTurn p FT.rdResp f) ∧
    (∃ (s : State) (p : Nat) (i : Nat) (f : Flit), s.dev.inTurn p FT.sig f ∧ f.dst = s.dev.devId ∧ s.dev.isStale f = false ∧ i = leAt f.payload 0 1 % 16 ∧ ((∀ e, e < 168 → ∀ n, (s.dev.engAt e).blocked ≠ some (Ctr.dev i, n))) ∧ s.dev.ctr (.dev i) + leAt f.payload 2 2 ≤ 0xFFFF) ∧
    (∃ (s : State) (p : Nat) (f : Flit), s.dev.inTurn p FT.sig f ∧ f.dst = s.dev.devId ∧ s.dev.isStale f = true) :=
  ⟨⟨st ring, 0, (Flit.seal FT.wrAck flit0), (by decide), (by unfold Device.inTurn; decide), (by decide)⟩,
    ⟨st ring, 0, (Flit.seal FT.rdResp flit0), (by decide), (by unfold Device.inTurn; decide), (by decide)⟩,
    ⟨st { ring with dsk := { ring.dsk with rem := [⟨6, 0, 1, 0, false⟩] }, eng := [(6, { Eng.reset with phase := .executing, acts := [⟨0x2000, (cw [(0, 0, 0x40), (8, 0, scrBase), (14, 0, 2 ^ 47 + 2 ^ 43), (20, 0, 16), (22, 0, 1)]), 1, 1, [⟨0, 0, [], true, none⟩], 0, false, none, 0⟩] })] }, 0, 2 ^ 47 + 2 ^ 43, (Flit.seal FT.wrAck flit0), false, ⟨6, 0, 1, 0, false⟩, ⟨0x2000, (cw [(0, 0, 0x40), (8, 0, scrBase), (14, 0, 2 ^ 47 + 2 ^ 43), (20, 0, 16), (22, 0, 1)]), 1, 1, [⟨0, 0, [], true, none⟩], 0, false, none, 0⟩, ⟨0, 0, [], true, none⟩, (false, 64), (by decide), (by decide), (by decide), (by decide), (by decide), (by decide), (by decide), (by decide), (by decide), (by decide), (by decide), (by decide), (by decide), (by unfold Device.inTurn; decide)⟩,
    ⟨st { ring with dsk := { ring.dsk with rem := [⟨5, 0, 1, 0, true⟩] }, eng := [(5, { Eng.reset with phase := .executing, acts := [⟨0x2000, (cw [(0, 0, 0x30), (8, 0, 2 ^ 47 + 2 ^ 43), (14, 0, scrBase), (20, 0, 16)]), 1, 1, [⟨0, 0, [], true, none⟩], 0, false, none, 0⟩] })] }, 0, 2 ^ 47 + 2 ^ 43, (Flit.seal FT.rdResp flit0), true, ⟨5, 0, 1, 0, true⟩, ⟨0x2000, (cw [(0, 0, 0x30), (8, 0, 2 ^ 47 + 2 ^ 43), (14, 0, scrBase), (20, 0, 16)]), 1, 1, [⟨0, 0, [], true, none⟩], 0, false, none, 0⟩, ⟨0, 0, [], true, none⟩, (true, 16), (by decide), (by decide), (by decide), (by decide), (by decide), (by decide), (by decide), (by decide), (by decide), (by decide), (by decide), (by decide), (by decide), (by unfold Device.inTurn; decide)⟩,
    ⟨st ring, 0, 0, (Flit.seal FT.sig flit0), (by unfold Device.inTurn; decide), (by decide), (by decide), (by decide), (fun _ _ _ h => nomatch (show (none : Option (Ctr × Nat)) = some _ from h)), (by decide)⟩,
    ⟨st ring, 0, (Flit.seal FT.sig { flit0 with frame := 9 }), (by unfold Device.inTurn; decide), (by decide), (by decide)⟩⟩

/-- States that meet the hypotheses of each clause of TickMasterAndElection (TicksOfTheMaster). -/
theorem test_hyps_TicksOfTheMaster :
    (∃ (s : State) (b : List Byte), s.dev.cmpAlive = true ∧ s.dev.topo ≠ 0 ∧ s.dev.isMaster = true ∧ b = toLe 6 (s.dev.tck.expected / 1000000000) ++ toLe 4 (s.dev.tck.expected % 1000000000) ++ toLe 4 (s.dev.frame + 1).toNat ++ toLe 4 s.dev.tck.period ++ toLe 1 (s.dev.dsk.annSv.getD 0 + 128 * b2n s.dev.dsk.annSafe)) ∧
    (∃ (s : State) (p : Nat) (f : Flit), s.dev.inTurn p FT.tick f ∧ f.dst = s.dev.devId) ∧
    (∃ (s : State), s.dev.cmpAlive = true ∧ s.dev.follower = true ∧ s.dev.dsk.nextTick = none) ∧
    (∃ (s : State) (p : Nat) (w : Nat) (f : Flit) (ofs : Int), s.dev.inTurn p FT.time f ∧ ofs = ((leAt f.payload 0 6 * 1000000000 + leAt f.payload 6 4 + w : Nat) : Int) - s.dev.timNs) ∧
    (∃ (s : State) (p : Nat), s.dev.linkOn p = true) :=
  ⟨⟨st (ring.setBit Reg.dskStatus 27 true), _, (by decide), (by decide), (by decide), rfl⟩,
    ⟨st ring, 0, (Flit.seal FT.tick flit0), (by unfold Device.inTurn; decide), (by decide)⟩,
    ⟨st { ring with dsk := { ring.dsk with hasMaster := true } }, by decide⟩,
    ⟨st ring, 0, 7, (Flit.seal FT.time flit0), _, (by unfold Device.inTurn; decide), rfl⟩,
    ⟨st ring, 0, by decide⟩⟩

/-- States that meet the hypotheses of each clause of TickMasterAndElection (SystemMembership). -/
theorem test_hyps_SystemMembership :
    (∃ (s : State) (p : Nat) (f : Flit) (v : SysDev) (yield : Bool), s.dev.inTurn p FT.status f ∧ f.dst = s.dev.devId ∧ v = s.dev.sysAt f.src ∧ yield = (decide (s.dev.topo ≠ 0) && s.dev.isMaster && flitClaim f && decide (f.src < s.dev.devId))) ∧
    (∃ (s : State) (l : List Nat), s.dev.cmpAlive = true ∧ s.dev.topo ≠ 0 ∧ s.dev.dsk.claimAt.isSome = true ∧ l = (List.range 16).filter (fun n => if n = s.dev.devId then s.dev.mayClaim else (s.dev.route n).isSome && (s.dev.sysAt n).claim)) :=
  ⟨⟨st ring, 0, (Flit.seal FT.status flit0), _, _, (by unfold Device.inTurn; decide), (by decide), rfl, rfl⟩,
    ⟨st { ring with dsk := { ring.dsk with claimAt := some 0 } }, _, (by decide), (by decide), (by decide), rfl⟩⟩

/-- States that meet the hypotheses of each clause of SendsLeaveAndComplete. -/
theorem test_hyps_SendsLeaveAndComplete :
    (∃ (s : State) (e : Nat) (h : FCmd) (w : CmdWord), engKind e = 3 ∧ s.dev.solo e 0x42 h ∧ w = stepWord h.word (s.dev.engAt e).loops ∧ hdrCauses h.word = [] ∧ sendCauses e s.dev w = [] ∧ s.dev.waitMet e w) ∧
    (∃ (s : State) (e : Nat), e < 168 ∧ engKind e = 3 ∧ s.dev.apt.acks.head? ≠ some e) ∧
    (∃ (s : State) (e : Nat) (l : List Nat) (a : Act), e < 168 ∧ engKind e = 3 ∧ s.dev.apt.acks = e :: l ∧ (s.dev.engAt e).acts = [a] ∧ (s.dev.engAt e).queue = [] ∧ opcode a.word = 0x42 ∧ a.done = false ∧ a.tag = none ∧ s.dev.tck.abandoning = false) :=
  ⟨⟨st (hold (plan1 (live .run)) 6 sendWord []), 6, sendWord, _, (by decide), (by unfold Device.solo; decide), rfl, (by decide), (by decide), (by unfold Device.waitMet; decide)⟩,
    ⟨st (live .run), 6, by decide⟩,
    ⟨st { live .run with eng := [(6, { Eng.reset with phase := .executing, acts := [⟨0x2000, sendWord.word, 0, 0, [], 1, false, none, 0⟩] })], apt := { Apt.reset with acks := [6] } }, 6, [], ⟨0x2000, sendWord.word, 0, 0, [], 1, false, none, 0⟩, by decide⟩⟩

/-- States that meet the hypotheses of each clause of StageWindows (CheckInsAreJudged). -/
theorem test_hyps_CheckInsAreJudged :
    (∃ (s : State) (m : MarkMsg) (l : List MarkMsg), s.dev.cmpAlive = true ∧ s.dev.marks = m :: l ∧ s.dev.stw.armed = false) ∧
    (∃ (s : State) (m : MarkMsg) (l : List MarkMsg) (w : StwWin), s.dev.cmpAlive = true ∧ s.dev.marks = m :: l ∧ s.dev.stw.armed = true ∧ m.frame = s.dev.stw.frame ∧ s.dev.winAt m.stage = some w) ∧
    (∃ (s : State) (m : MarkMsg) (l : List MarkMsg), s.dev.cmpAlive = true ∧ s.dev.marks = m :: l ∧ s.dev.stw.armed = true ∧ ((m.frame = s.dev.stw.frame ∧ s.dev.winAt m.stage = none ∧ s.dev.tck.active.isSome = true) ∨ (m.frame ≠ s.dev.stw.frame ∧ m.frame + 1 ≠ s.dev.stw.frame))) ∧
    (∃ (s : State) (m : MarkMsg) (l : List MarkMsg), s.dev.cmpAlive = true ∧ s.dev.marks = m :: l ∧ s.dev.stw.armed = true ∧ m.frame ≠ s.dev.stw.frame ∧ m.frame + 1 = s.dev.stw.frame) :=
  ⟨⟨st { live .run with marks := [⟨4, 63, 0, 0⟩], stw := { Device.reset.stw with armed := false, wins := [⟨63, 1, false, true, 0, 100, 0, false, false, false, false⟩] } }, ⟨4, 63, 0, 0⟩, [], by decide⟩,
    ⟨st { live .run with marks := [⟨4, 63, 0, 0⟩], stw := { Device.reset.stw with armed := true, wins := [⟨63, 1, false, true, 0, 100, 0, false, false, false, false⟩] } }, ⟨4, 63, 0, 0⟩, [], ⟨63, 1, false, true, 0, 100, 0, false, false, false, false⟩, by decide⟩,
    ⟨st { live .run with marks := [⟨4, 63, 2, 0⟩], stw := { Device.reset.stw with armed := true, wins := [⟨63, 1, false, true, 0, 100, 0, false, false, false, false⟩] } }, ⟨4, 63, 2, 0⟩, [], (by decide), (by decide), (by decide), (.inr (by decide))⟩,
    ⟨st { live .run with marks := [⟨4, 63, 0xFFFF, 0⟩], stw := { Device.reset.stw with armed := true, wins := [⟨63, 1, false, true, 0, 100, 0, false, false, false, false⟩] } }, ⟨4, 63, 0xFFFF, 0⟩, [], by decide⟩⟩

/-- States that meet the hypotheses of each clause of StageWindows (WindowsClose). -/
theorem test_hyps_WindowsClose :
    (∃ (s : State) (n : Nat) (w : StwWin), s.dev.chk.power = true ∧ s.dev.winAt n = some w ∧ s.dev.stw.armed = true ∧ (w.closeUs * 1000 : Nat) ≤ s.dev.sinceTickNs ∧ w.closed = false) :=
  ⟨st { live .run with stw := { Device.reset.stw with armed := true, wins := [⟨63, 1, false, true, 0, 100, 0, false, false, false, false⟩] }, ctime := { CTime.reset with ns := 100000 } }, 63, ⟨63, 1, false, true, 0, 100, 0, false, false, false, false⟩, by decide⟩

/-- States that meet the hypotheses of each clause of EntriesArriveAndCompare (EntriesArrive). -/
theorem test_hyps_EntriesArrive :
    (∃ (s : State), s.dev.cmpAlive = true) ∧
    (∃ (s : State) (lead : Nat), s.dev.cmpAlive = true ∧ (s.dev.apt.next = none ∨ s.dev.apertureBusy (s.dev.q - lead * cQ) = true)) ∧
    (∃ (s : State) (lead : Nat) (p : Packet) (m : ManEntry), s.dev.cmpAlive = true ∧ s.dev.apertureBusy (s.dev.q - lead * cQ) = false ∧ s.dev.apt.next = some p ∧ s.dev.manEntry p.entry = some m) :=
  ⟨⟨st (live .run), by decide⟩,
    ⟨st (live .run), 0, (by decide), (.inl rfl)⟩,
    ⟨st { plan1 (live .run) with apt := { Apt.reset with packets := [⟨6, 0, 0, [], [], true⟩] } }, 0, ⟨6, 0, 0, [], [], true⟩, ⟨0, 0, 0, false, 16, 0, 0, 0, 0⟩, by decide⟩⟩

/-- States that meet the hypotheses of each clause of EntriesArriveAndCompare (ComparisonsEnd). -/
theorem test_hyps_ComparisonsEnd :
    (∃ (s : State) (i : Nat) (m : ManEntry), s.dev.chk.power = true ∧ (List.range s.dev.tck.plan.man.entries.length).find? (fun i => s.dev.cmpReady i) = some i ∧ s.dev.manEntry i = some m) :=
  ⟨st pair1, 0, ⟨4, 0, 1, false, 16, 0, 0, 0, 0⟩, by decide⟩

/-- States that meet the hypotheses of each clause of ChallengesAreSpliced. -/
theorem test_hyps_ChallengesAreSpliced :
    (∃ (s : State), s.dev.cmpAlive = true) ∧
    (∃ (s : State) (x : ManSlot) (t : Tile) (r : ReadRes), s.dev.cmpAlive = true ∧ s.dev.apt.splicing = true ∧ s.dev.tck.plan.man.slots[s.dev.apt.slotNext]? = some x ∧ s.dev.tileAt s.dev.apt.slotNext = some t ∧ r = s.dev.readMem (s.dev.tileAddr (s.dev.phi (slotFacet x)) t) t.inLen ∧ r.poison = false ∧ crc32c 0xFFFFFFFF r.bytes = t.inCrc.toNat ∧ ((∀ e, e < 168 → (s.dev.engAt e).blocked = none))) :=
  ⟨⟨st (live .run), by decide⟩,
    ⟨st pair1, ⟨0, 0, 16, 0⟩, _, _, (by decide), (by decide), (by decide), rfl, rfl, (by decide), (by decide), (by decide)⟩⟩

/-- States that meet the hypotheses of each clause of VerdictsAndRecords (VerdictsFollowTheCauses). -/
theorem test_hyps_VerdictsFollowTheCauses :
    (∃ (s : State), (s.dev.apt.issued = true ∨ s.dev.verdictReady = false) ∧ s.dev.chk.power = true ∧ s.dev.chk.dev ≠ .fatal) ∧
    (∃ (s : State), s.dev.apt.issued = false ∧ s.dev.verdictReady = true ∧ s.dev.apt.none_ = true ∧ s.dev.chk.power = true ∧ s.dev.chk.dev ≠ .fatal) ∧
    (∃ (s : State), s.dev.apt.issued = false ∧ s.dev.verdictReady = true ∧ s.dev.apt.none_ = false ∧ s.dev.chk.power = true ∧ s.dev.chk.dev ≠ .fatal) :=
  ⟨⟨st (live .run), (.inl rfl), (by decide), (by decide)⟩,
    ⟨st (judged true), by decide⟩,
    ⟨st (judged false), by decide⟩⟩

/-- States that meet the hypotheses of each clause of VerdictsAndRecords (RecordsArePublished). -/
theorem test_hyps_RecordsArePublished :
    (∃ (s : State) (p : Pub) (l : List Pub), s.dev.apt.pub = p :: l ∧ s.dev.chk.power = true ∧ s.dev.chk.dev ≠ .fatal) :=
  ⟨st { live .run with apt := { Apt.reset with pub := [⟨0, [], [], [], []⟩] } }, ⟨0, [], [], [], []⟩, [], by decide⟩

/-- States that meet the hypotheses of each clause of EncodersAndSpeed (EncodersCount). -/
theorem test_hyps_EncodersCount :
    (∃ (s : State) (c : Chan) (n : Nat) (h : Nat) (a : Bool) (b : Bool) (e : Encoder), s.dev.chk.power = true ∧ n < 2 ∧ 25 ≤ h ∧ e = s.dev.encAt c n ∧ ((a = e.a ∧ b ≠ e.b) ∨ (a ≠ e.a ∧ b = e.b))) ∧
    (∃ (s : State) (c : Chan) (n : Nat) (h : Nat) (e : Encoder) (l : List Nat), s.dev.chk.power = true ∧ n < 2 ∧ 25 ≤ h ∧ e = s.dev.encAt c n ∧ l = e.bad.filter (fun t => decide (s.dev.q < t + 10 * msQ))) ∧
    (∃ (s : State) (n : Nat) (h : Nat), s.dev.chk.power = true ∧ n < 2 ∧ h < 25) ∧
    (∃ (s : State) (c : Chan) (h : Nat) (e : Encoder), s.dev.chk.power = true ∧ s.dev.safetySet.slpEn = true ∧ 25 ≤ h ∧ e = (s.dev.chanAt c).enc0 ∧ (s.dev.chanAt c).referenced = false ∧ e.z = false) :=
  ⟨⟨st (live .run), .b, 1, 25, true, false, _, (by decide), (by decide), (by decide), rfl, (.inr ⟨by decide, by decide⟩)⟩,
    ⟨st (live .run), .a, 1, 25, _, _, (by decide), (by decide), (by decide), rfl, rfl⟩,
    ⟨st (live .run), 1, 24, by decide⟩,
    ⟨st { live .run with boot := { Boot.reset with img := { emptyImage with safety := [{ (default : SafetySet) with slpEn := true }] } } }, .a, 25, _, (by decide), (by decide), (by decide), rfl, (by decide), (by decide)⟩⟩

/-- States that meet the hypotheses of each clause of EncodersAndSpeed (SpeedIsLimited). -/
theorem test_hyps_SpeedIsLimited :
    (∃ (s : State), s.dev.chk.power = true) ∧
    (∃ (s : State), s.dev.chk.power = true) :=
  ⟨⟨st (live .run), by decide⟩,
    ⟨st (live .run), by decide⟩⟩

/-- States that meet the hypotheses of each clause of StopAndSeal (EmergencyStop). -/
theorem test_hyps_EmergencyStop :
    (∃ (s : State), s.dev.chk.power = true ∧ s.dev.sio.demand = false) ∧
    (∃ (s : State), s.dev.chk.power = true ∧ s.dev.sio.demand = true) ∧
    (∃ (s : State), s.dev.chk.power = true) ∧
    (∃ (s : State), s.dev.chk.power = true) :=
  ⟨⟨st (live .run), by decide⟩,
    ⟨st { live .run with sio := { Sio.reset with demand := true } }, by decide⟩,
    ⟨st (live .run), by decide⟩,
    ⟨st (live .run), by decide⟩⟩

/-- States that meet the hypotheses of each clause of ResetButton. -/
theorem test_hyps_ResetButton :
    (∃ (s : State) (c : Chan), s.dev.chk.power = true ∧ (s.dev.chanAt c).resetIn = false) ∧
    (∃ (s : State) (c : Chan) (h : Channel) (o : Channel), s.dev.chk.power = true ∧ h = s.dev.chanAt c ∧ o = s.dev.chanAt (otherChan c) ∧ h.resetIn = true ∧ h.pressOk = true ∧ h.stuck = false ∧ h.resetAt + 100 * msQ ≤ s.dev.q ∧ s.dev.q < h.resetAt + 3000 * msQ) ∧
    (∃ (s : State) (c : Chan) (h : Channel), s.dev.chk.power = true ∧ h = s.dev.chanAt c ∧ h.resetIn = true ∧ h.pressOk = true ∧ h.stuck = false ∧ s.dev.q < h.resetAt + 100 * msQ) ∧
    (∃ (s : State) (c : Chan), s.dev.chk.power = true ∧ (s.dev.chanAt c).resetIn = true ∧ (s.dev.chanAt c).pressOk = true ∧ (s.dev.chanAt c).stuck = false) ∧
    (∃ (s : State), s.dev.chk.power = true) :=
  ⟨⟨st (live .run), .a, by decide⟩,
    ⟨st { live .run with q := 100 * msQ, sio := { Sio.reset with chA := { Channel.reset with resetIn := true, pressOk := true } } }, .a, _, _, (by decide), rfl, rfl, (by decide), (by decide), (by decide), (by decide), (by decide)⟩,
    ⟨st { live .run with q := 99 * msQ, sio := { Sio.reset with chA := { Channel.reset with resetIn := true, pressOk := true } } }, .a, _, (by decide), rfl, (by decide), (by decide), (by decide), (by decide)⟩,
    ⟨st { live .run with q := 3000 * msQ, sio := { Sio.reset with chA := { Channel.reset with resetIn := true, pressOk := true } } }, .a, by decide⟩,
    ⟨st (live .run), by decide⟩⟩

/-- States that meet the hypotheses of each clause of StopAndSeal (SealIsWatched). -/
theorem test_hyps_SealIsWatched :
    (∃ (s : State), s.dev.chk.power = true ∧ s.dev.chk.dev ≠ .boot) :=
  ⟨st (live .run), by decide⟩

/-- States that meet the hypotheses of each clause of OutputsFollowRequests. -/
theorem test_hyps_OutputsFollowRequests :
    (∃ (s : State) (c : Chan) (o : Chan) (x : Output), s.dev.chk.power = true ∧ s.dev.mayEnable c = true ∧ x = s.dev.outAt o) ∧
    (∃ (s : State) (c : Chan), s.dev.chk.power = true ∧ s.dev.mayEnable c = false) ∧
    (∃ (s : State), s.dev.chk.power = true) ∧
    (∃ (s : State) (o : Chan) (x : Output), s.dev.chk.power = true ∧ x = s.dev.outAt o) ∧
    (∃ (s : State) (c : Chan) (o : Chan) (level : Bool) (bad : Bool), s.dev.chk.power = true ∧ bad = ((s.dev.outAt o).judge (s.dev.outAt (otherChan o)) c level s.dev.q).1) :=
  ⟨⟨st { live .run with sio := { Sio.reset with chA := { Channel.reset with estopA := true, estopB := true }, chB := { Channel.reset with estopA := true, estopB := true } } }, .a, .b, _, (by decide), (by decide), rfl⟩,
    ⟨st (live .safe), .a, by decide⟩,
    ⟨st { live .run with sio := { Sio.reset with outB := { Output.reset with onAt := some 0 } } }, by decide⟩,
    ⟨st { live .run with sio := { Sio.reset with outB := { Output.reset with pulseAt := some 0 } } }, .b, _, (by decide), rfl⟩,
    ⟨st (live .run), .a, .b, true, _, (by decide), rfl⟩⟩

end Sys2Proof.Tests
end

section
/-! What reset leaves: an empty register table, a checker in BOOT with compute power off, and empty memories. -/

namespace Sys2Proof.Machine

variable {d : Device}

/-- A device that stores no register reads reset values (R13). -/
theorem Device.reg_of_regs_nil (h : d.regs = []) (k : Nat) : d.reg k = Reg.resetVal k := by
  rw [Device.reg, h, tabGet]

/-- A powered checker asserts ERR_OUT in BOOT, whatever sources are pending (R301). -/
theorem Device.errOut_of_boot (hp : d.chk.power = true) (hb : d.chk.dev = .boot) : d.errOut = true := by
  simp [Device.errOut, hp, hb]

/-- Without PWR_EN_CMP the compute die is not alive (R405). -/
theorem Device.not_cmpAlive_of_pwrEn (h : d.chk.pwrEn = false) : d.cmpAlive = false := by
  simp [Device.cmpAlive, h]

/-- The safety outputs are off when the first switch of each is open (R28). -/
theorem Device.outputsOpen_of_swA (ha : d.sio.outA.swA = false) (hb : d.sio.outB.swA = false) : d.outputsOpen := by
  simp [Device.outputsOpen, ha, hb]

/-- Memories that hold nothing but their defaults are in canonical form. -/
theorem Memory.wf_of_nil (hdata : d.mem.data = []) (hsyn : d.mem.syn = []) (hspan : d.mem.span = [])
    (hflash : d.nvm.flash = []) : Memory.wf d = true := by
  simp [Memory.wf, MemSys.wf, hdata, hsyn, hspan, hflash, tabWf]

/-- Settles O3: the fields of the reset state are read off, and the lemmas above give what they mean. -/
theorem resetState : Obligations.ResetState := by
  have hpwr : State.reset.dev.chk.pwrEn = false := rfl
  have hboot : State.reset.dev.chk.dev = .boot := rfl
  have hopen : State.reset.dev.outputsOpen := Device.outputsOpen_of_swA rfl rfl
  have herr : State.reset.dev.errOut = true := Device.errOut_of_boot rfl hboot
  have hdead : State.reset.dev.cmpAlive = false := Device.not_cmpAlive_of_pwrEn hpwr
  have hregs : ∀ k, State.reset.dev.reg k = Reg.resetVal k := Device.reg_of_regs_nil rfl
  have hmem : Memory.wf State.reset.dev = true := Memory.wf_of_nil rfl rfl rfl rfl
  exact ⟨rfl, hboot, hopen, herr, hpwr, rfl, hdead, hregs, rfl, rfl, hmem⟩

end Sys2Proof.Machine
end

section
/-! The ordering commands (R111, R118, R120, R121): NOP, WAIT, SIGNAL, MARK and END that stand alone at the head of their
engine, and a WAIT that is not met. -/

namespace Sys2Proof.Machine

/-! ## Completion of a command's meaning -/

/-- A command whose precondition holds completes with what its effect gives. -/
theorem Completes.of_act {c : Instr} {s : State} {ok : Bool} {f : Device → Device} {P : Device → Prop}
    (hc : exec c s = act ok f s) (hok : ok = true) (hP : P (f s.dev)) : Completes c s P := by
  refine ⟨{ s with dev := f s.dev }, ?_, rfl, hP⟩
  rw [hc, act, if_pos hok]

/-- A command whose precondition fails completes with nothing changed. -/
theorem Completes.of_act_false {c : Instr} {s : State} {ok : Bool} {f : Device → Device} {P : Device → Prop}
    (hc : exec c s = act ok f s) (hok : ok = false) (hP : P s.dev) : Completes c s P := by
  refine ⟨s, ?_, rfl, hP⟩
  rw [hc, act, hok]
  rfl

theorem Completes.mono {c : Instr} {s : State} {P Q : Device → Prop} (h : Completes c s P) (hPQ : ∀ d, P d → Q d) :
    Completes c s Q := by
  obtain ⟨t, he, hp, hd⟩ := h
  exact ⟨t, he, hp, hPQ _ hd⟩

/-! ## Conditions of single commands -/

theorem cause_eq_nil {p : Bool} {c : Nat} : cause p c = [] ↔ p = false := by
  cases p <;> simp [cause]

theorem waitEn_of_waitCauses {d : Device} {w : CmdWord} (h : waitCauses d w = []) : waitEn w = true := by
  simp only [waitCauses, List.append_eq_nil_iff, cause_eq_nil] at h
  simpa using h.2

theorem sigEn_of_signalCauses {d : Device} {w : CmdWord} (h : signalCauses d w = []) : sigEn w = true := by
  simp only [signalCauses, List.append_eq_nil_iff, cause_eq_nil] at h
  simpa using h.1.2

theorem signalled_of_sigEn {d : Device} {e : Nat} {w : CmdWord} (h : sigEn w = true) :
    d.signalled e w = d.sigs ++ [⟨sigCtr e w, sigN w, e, d.q / aQ + scopeLat (cmdFld w 3 6 2)⟩] := by
  rw [Device.signalled, if_pos h]

/-! ## A lone command starts -/

/-- From `d` to `d'` nothing but engine `e` and registers changes. -/
def EngineStep (d d' : Device) (e : Nat) : Prop := d'.sansRegs = { d with eng := d'.eng }.sansRegs ∧ OtherEngines d d' e

theorem EngineStep.trans {a b c : Device} {e : Nat} (h : EngineStep a b e) (g : EngineStep b c e) : EngineStep a c e := by
  refine ⟨?_, h.2.trans g.2⟩
  rw [g.1]
  exact congrArg (fun x : Device => { x with eng := c.eng }) h.1

/-- The SIGNALs on their way are those of the device before a step of one engine. -/
theorem EngineStep.signalled {d d' : Device} {e : Nat} (h : EngineStep d d' e) (e' : Nat) (w : CmdWord) :
    d'.signalled e' w = d.signalled e' w := by
  show d'.sansRegs.signalled e' w = _
  rw [h.1]
  rfl

theorem EngineStep.tck {d d' : Device} {e : Nat} (h : EngineStep d d' e) : d'.tck = d.tck := by
  show d'.sansRegs.tck = _
  rw [h.1]
  rfl

/-! ## SIGNAL and MARK (R118, R120) -/

theorem opcode_of_solo {d : Device} {e op : Nat} {h : FCmd} (hs : d.solo e op h) : opcode h.word = op := by
  obtain ⟨-, -, -, -, -, -, -, -, hop, -⟩ := hs
  exact hop

theorem tag_of_solo {d : Device} {e op : Nat} {h : FCmd} (hs : d.solo e op h) : h.tag = none := by
  obtain ⟨-, -, -, -, -, -, -, ht, -, -⟩ := hs
  exact ht

/-- A command without a tag is not stamped (R373). -/
theorem stampWith_none (d : Device) (pt v : Nat) : d.stampWith none pt v = d := rfl

/-- A SIGNAL or MARK with nothing before it acts at once: it is counted, its MARK leaves, its SIGNAL is sent. -/
theorem pushOrdered_lone {d : Device} {e : Nat} {h : FCmd} {w : CmdWord} (ha : (d.engAt e).acts = []) (ht : h.tag = none)
    (hop : opcode w = 3 ∨ opcode w = 4) :
    ∃ d2, d.pushOrdered e h w = (if opcode w = 4 then d2.markLeaves e w else d2).signalOf e w ∧ EngineStep d d2 e ∧
      d2.engAt e = d.engAt e ∧ SameRegs d d2 [] := by
  let a : Act := ⟨h.addr, w, 0, 0, [], 0, true, none, 0⟩
  have hacts : ((d.push e a).engAt e).acts = [a] := by
    rw [engAt_push, ha]
    rfl
  let d0 := (d.push e a).modEng e fun g => { g with acts := [] }
  have hcnt := onlyRegs_cmdDone d0 e none w
  refine ⟨d0.cmdDone e none w, ?_, ⟨?_, ?_⟩, ?_, hcnt.2⟩
  · rw [Device.pushOrdered, ht, retire_one hacts rfl, Device.retireAct]
    simp only [a, if_pos hop, stampWith_none, ite_self]
    rfl
  · have he : (d0.cmdDone e none w).eng = d0.eng := congrArg (·.eng) hcnt.1
    rw [hcnt.1, he]
    rfl
  · exact ((OtherEngines.push d e _).trans (OtherEngines.setEng _ _ _)).trans (.of_sansRegs hcnt.1 e)
  · rw [hcnt.engAt, Device.engAt_modEng_same, engAt_push, ← ha]

/-- A flit that the replay buffer of port `p` takes leaves at once (R183). -/
theorem Device.sendOn_free {d : Device} {p type dst addr len : Nat} {bs : List Byte} (hf : d.linkFree p)
    (ht : FT.control type = false) :
    ∃ (x : TxFlit) (t : DskPort), x.type = type ∧ x.flit.dst = dst ∧ x.flit.frame = BitVec.ofNat 16 d.frame.toNat ∧
      x.flit.payload = padFlit bs ∧ d.sendOn p type dst addr len 0 bs =
        ({ d with dsk := { d.dsk with port := tabSet DskPort.reset d.dsk.port p t, out := d.dsk.out ++ [(p, x)] } } :
          Device).perf 197 0x101 1 := by
  have hroom : (d.portAt p).replay.length < 512 ∧ (d.portAt p).wait = [] := hf
  refine ⟨?x, ?t, ?type, ?dst, ?frame, ?payload, ?sent⟩
  case sent =>
    simp only [Device.sendOn, Device.pushFlit, ht, Bool.false_eq_true, if_false, if_pos hroom]
    rfl
  all_goals rfl

/-- A remote SIGNAL to a device whose link takes it leaves in a SIG flit (R118, R182). -/
theorem Device.signalOf_remote {d : Device} {e p : Nat} {w : CmdWord} (hs : sigEn w = true) (hab : d.tck.abandoning = false)
    (hop : opcode w = 3) (hrem : cmdFld w 8 7 1 = 1) (hr : d.route (cmdFld w 8 0 4) = some p) (hf : d.linkFree p) :
    ∃ (x : TxFlit) (d' : Device), d.signalOf e w = d' ∧ d'.dsk.out = d.dsk.out ++ [(p, x)] ∧ x.type = FT.sig ∧
      x.flit.dst = cmdFld w 8 0 4 ∧ x.flit.frame = BitVec.ofNat 16 d.frame.toNat ∧
      x.flit.payload = padFlit (toLe 1 (cmdFld w 3 0 6) ++ toLe 1 0 ++ toLe 2 (sigN w)) ∧
      d'.sansRegs = { d with dsk := d'.dsk }.sansRegs ∧ SameRegs d d' [] := by
  obtain ⟨x, t, hx1, hx2, hx3, hx4, hx⟩ := Device.sendOn_free (d := d) (p := p) (type := FT.sig) (dst := cmdFld w 8 0 4) (addr := 0)
    (len := 4) (bs := toLe 1 (cmdFld w 3 0 6) ++ toLe 1 0 ++ toLe 2 (sigN w)) hf rfl
  have hp := onlyRegs_perf
    { d with dsk := { d.dsk with port := tabSet DskPort.reset d.dsk.port p t, out := d.dsk.out ++ [(p, x)] } } 197 0x101 1
  have hdsk : (d.sendOn p FT.sig (cmdFld w 8 0 4) 0 4 0 (toLe 1 (cmdFld w 3 0 6) ++ toLe 1 0 ++ toLe 2 (sigN w))).dsk =
      { d.dsk with port := tabSet DskPort.reset d.dsk.port p t, out := d.dsk.out ++ [(p, x)] } := by
    rw [hx]
    exact congrArg (·.dsk) hp.1
  refine ⟨x, _, ?_, congrArg (·.out) hdsk, hx1, hx2, hx3, hx4, ?_, ?_⟩
  · rw [Device.signalOf, if_neg (by simp [hs, hab]), if_pos ⟨hop, hrem⟩, Device.remoteSignal, if_pos (by rw [hr]; rfl),
      Device.sendTo, hr]
  · rw [hdsk, hx]
    exact hp.1
  · rw [hx]
    exact hp.2

/-! ## END (R53, R121) -/

/-- The all-END report is sent where the frame is open and every engine that counts has reached END (R53). -/
theorem Device.reportEnd_eq {d : Device} (hab : d.tck.abandoning = false) :
    d.reportEnd = { d with tck := { d.tck with allEndSent := d.tck.allEndSent || (d.tck.frameOpen && d.allEnd) } } := by
  have hv : (d.tck.allEndSent || (d.tck.frameOpen && d.allEnd)) =
      if (d.tck.frameOpen && !d.tck.abandoning && !d.tck.allEndSent && d.allEnd) = true then true else d.tck.allEndSent := by
    rw [hab]
    cases d.tck.allEndSent <;> cases d.tck.frameOpen <;> cases d.allEnd <;> rfl
  rw [hv, Device.reportEnd]
  split <;> rfl

/-- END with nothing before it retires: its SIGNAL is sent, its engine idles, and the all-END report follows (R121). -/
theorem endBody_lone {d : Device} {e : Nat} {h : FCmd} {w : CmdWord} (ht : h.tag = none) (hop : opcode w = 1)
    (hab : d.tck.abandoning = false) :
    ∃ d2, d.endBody e h w = d2.reportEnd ∧
      d2.sansRegs = { d with eng := d2.eng, sigs := d.signalled e w }.sansRegs ∧ OtherEngines d d2 e ∧
      d2.engAt e = { d.engAt e with atEnd := true, phase := .idle, queue := [], fetch := none, loops := [] } ∧
      SameRegs d d2 [] := by
  have hcnt := onlyRegs_cmdDone d e none w
  have hsig : (d.cmdDone e none w).signalOf e w = { d.cmdDone e none w with sigs := d.signalled e w } := by
    rw [signalOf_local (by rw [tck_of_sansRegs hcnt.1]; exact hab) (by rw [hop]; simp), signalled_congr hcnt.1]
  let d1 := ({ d.cmdDone e none w with sigs := d.signalled e w } : Device).modEng e fun g =>
    { g with atEnd := true, phase := .idle, queue := [], fetch := none, loops := [] }
  have hperf := onlyRegs_perf d1 e 5 1
  have heng : (d1.perf e 5 1).eng = d1.eng := congrArg (·.eng) hperf.1
  refine ⟨d1.perf e 5 1, ?_, ?_, ?_, ?_, ?_⟩
  · simp only [Device.endBody, Device.retireAct, ht, hop, hsig, stampWith_none, ite_self, OfNat.one_ne_ofNat, or_self, if_false]
    rfl
  · rw [hperf.1, heng]
    exact congrArg (fun x : Device => { x with eng := d1.eng, sigs := d.signalled e w }) hcnt.1
  · exact ((OtherEngines.of_sansRegs hcnt.1 e).trans (OtherEngines.setEng _ _ _)).trans (.of_sansRegs hperf.1 e)
  · rw [hperf.engAt, Device.engAt_modEng_same, ← hcnt.engAt e]
    rfl
  · exact fun k hk hi => (hperf.2 k hk hi).trans (hcnt.2 k hk hi)

/-! ## The commands -/

theorem exec_nop (e : Nat) (s : State) : exec (.nop e) s = execNop e s := rfl
theorem exec_wait (e : Nat) (s : State) : exec (.wait e) s = execWait e s := rfl
theorem exec_signal (e : Nat) (s : State) : exec (.signal e) s = execSignal e s := rfl
theorem exec_mark (e : Nat) (s : State) : exec (.mark e) s = execMark e s := rfl
theorem exec_endCmd (e : Nat) (s : State) : exec (.endCmd e) s = execEndCmd e s := rfl

/-- A lone SIGNAL or MARK: what it does once its header WAIT has counted down and it has been counted. -/
theorem ordered_start {d : Device} {e op : Nat} {h : FCmd} {causes : Device → CmdWord → List Nat} (hs : d.solo e op h)
    (hop : op = 3 ∨ op = 4) (hl : hdrCauses h.word = []) (hc : causes d h.word = []) (hm : d.waitMet e h.word) :
    ∃ d2, EngineStep d d2 e ∧ (d2.engAt e).queue = [] ∧ (d2.engAt e).acts = [] ∧ Waited d d2 e h.word [] ∧
      ∀ d3, (if op = 4 then d2.markLeaves e h.word else d2).signalOf e h.word = d3 → d3.eng = d2.eng →
        d.start e op causes (fun d h w => d.pushOrdered e h w) = d3 := by
  have hst : stepSlots op = [] := by rcases hop with rfl | rfl <;> rfl
  obtain ⟨d1, hstart, h1, h2, h3, h4⟩ := Device.start_solo hs (causes := causes)
    (body := fun d h w => d.pushOrdered e h w) (stepWord_none _ (by rw [opcode_of_solo hs]; exact hst)) hl hc hm
  obtain ⟨-, -, -, ha, -, -, -, -, -, -⟩ := id hs
  have ha1 : (d1.engAt e).acts = [] := by rw [h2]; exact ha
  obtain ⟨d2, hpush, hE, he, hregs⟩ := pushOrdered_lone ha1 (tag_of_solo hs) (by rw [opcode_of_solo hs]; exact hop)
  have hq : (d2.engAt e).queue = [] := by rw [he, h2]
  refine ⟨d2, EngineStep.trans ⟨h1, h3⟩ hE, hq, by rw [he]; exact ha1, h4.trans hregs, ?_⟩
  intro d3 h5 h6
  rw [opcode_of_solo hs, h5] at hpush
  rw [hstart, hpush]
  exact Device.settle_nil (by rw [Device.engAt, h6]; exact hq)

/-- A device that differs from another in parts other than engines and registers has the same lone command done. -/
theorem LoneDone.of_engineStep {d d2 d3 : Device} {e : Nat} {w : CmdWord} (hE : EngineStep d d2 e)
    (hq : (d2.engAt e).queue = []) (ha : (d2.engAt e).acts = []) (hw : Waited d d2 e w []) (heng : d3.eng = d2.eng)
    (hregs : SameRegs d2 d3 []) : LoneDone d d3 e w [] := by
  have h : ∀ x, d3.engAt x = d2.engAt x := fun x => by rw [Device.engAt, heng]; rfl
  exact ⟨by rw [h]; exact hq, by rw [h]; exact ha, fun x hx => (h x).trans (hE.2 x hx), hw.trans hregs⟩

theorem ctrReg_ge (c : Ctr) : 0x10100 ≤ ctrReg c := by
  cases c <;> simp only [ctrReg, Reg.prmTok, Reg.fctTok, Reg.tckTok] <;> omega

/-- A header WAIT leaves the frame number alone. -/
theorem Waited.frame {d d' : Device} {e : Nat} {w : CmdWord} (h : Waited d d' e w []) : d'.frame = d.frame := by
  refine h.2 Reg.tckFrame ?_ (by decide)
  have := ctrReg_ge (waitCtr e w)
  split
  · simp only [List.mem_singleton, Reg.tckFrame]
    omega
  · exact List.not_mem_nil

theorem portAt_congr {d d' : Device} (h : d'.dsk = d.dsk) (p : Nat) : d'.portAt p = d.portAt p := by
  rw [Device.portAt, h]
  rfl

/-- Routes are part of the Diesk state. -/
theorem route_congr {d d' : Device} (h : d'.dsk = d.dsk) (dst : Nat) : d'.route dst = d.route dst := by
  simp only [Device.route, portAt_congr h, h]

/-- NOP that stands alone (R121). -/
theorem nop_completes {s : State} {e : Nat} {h : FCmd} (hs : s.dev.solo e 0 h) (hl : hdrCauses h.word = [])
    (hc : plainCauses s.dev h.word = []) (hm : s.dev.waitMet e h.word) :
    Completes (.nop e) s fun d => LoneDone s.dev d e h.word [] ∧
      d.sansRegs = { s.dev with eng := d.eng, sigs := s.dev.signalled e h.word }.sansRegs := by
  obtain ⟨d', rfl, hdone, hrest⟩ := start_pushDone hs hl hc hm (by decide) rfl
  exact .of_act (exec_nop e s) (decide_eq_true hs.1) ⟨hdone, hrest⟩

/-- WAIT that stands alone and is met (R118). -/
theorem wait_completes {s : State} {e : Nat} {h : FCmd} (hs : s.dev.solo e 2 h) (hl : hdrCauses h.word = [])
    (hc : waitCauses s.dev h.word = []) (hm : s.dev.waitMet e h.word) :
    Completes (.wait e) s fun d => LoneDone s.dev d e h.word [] ∧
      d.ctr (waitCtr e h.word) = s.dev.ctr (waitCtr e h.word) - waitN h.word ∧
      d.sansRegs = { s.dev with eng := d.eng, sigs := s.dev.signalled e h.word }.sansRegs := by
  obtain ⟨d', rfl, hdone, hrest⟩ := start_pushDone hs hl hc hm (by decide) rfl
  obtain ⟨-, -, -, hwait, -⟩ := id hdone
  exact .of_act (exec_wait e s) (decide_eq_true hs.1) ⟨hdone, hwait (waitEn_of_waitCauses hc), hrest⟩

/-- WAIT that is not met blocks its engine (R111). -/
theorem wait_blocks {s : State} {e : Nat} {h : FCmd} (hs : s.dev.solo e 2 h) (hl : hdrCauses h.word = [])
    (hc : waitCauses s.dev h.word = []) (hn : s.dev.ctr (waitCtr e h.word) < waitN h.word) :
    Completes (.wait e) s fun d => OtherEngines s.dev d e ∧ SameRegs s.dev d [] ∧
      d.engAt e = { s.dev.engAt e with phase := .waiting, blocked := some (waitCtr e h.word, waitN h.word) } ∧
      d.sansRegs = { s.dev with eng := d.eng }.sansRegs := by
  obtain ⟨-, -, -, -, hw, -, -, -, -, -⟩ := id hs
  have hgate : s.dev.gate e h.word = (s.dev.modEng e fun g =>
      { g with phase := .waiting, blocked := some (waitCtr e h.word, waitN h.word) }, false) := by
    rw [Device.gate, if_neg (by simp [waitEn_of_waitCauses hc, hw])]
    exact if_neg (Nat.not_le.mpr hn)
  have hrun : s.dev.runWait e = s.dev.modEng e fun g =>
      { g with phase := .waiting, blocked := some (waitCtr e h.word, waitN h.word) } := by
    rw [Device.runWait, Device.start, Device.headOp_solo hs]
    simp only [stepWord_none _ (show stepSlots (opcode h.word) = [] by rw [opcode_of_solo hs]; rfl), hl, hc,
      List.append_nil, hgate]
    rfl
  refine .of_act (exec_wait e s) (decide_eq_true hs.1) ?_
  rw [hrun]
  exact ⟨OtherEngines.setEng _ _ _, fun _ _ _ => rfl, Device.engAt_modEng_same _ _ _, rfl⟩

/-- A SIGNAL to a counter of its own device that stands alone (R118). -/
theorem signal_completes {s : State} {e : Nat} {h : FCmd} (hs : s.dev.solo e 3 h) (hl : hdrCauses h.word = [])
    (hc : signalCauses s.dev h.word = []) (hloc : cmdFld h.word 8 7 1 = 0) (hm : s.dev.waitMet e h.word) :
    Completes (.signal e) s fun d => LoneDone s.dev d e h.word [] ∧
      d.sigs = s.dev.sigs ++ [SigMsg.mk (sigCtr e h.word) (sigN h.word) e (s.dev.q / aQ + scopeLat (cmdFld h.word 3 6 2))] ∧
      d.sansRegs = { s.dev with eng := d.eng, sigs := d.sigs }.sansRegs := by
  obtain ⟨d2, hE, hq, ha, hw, hrun⟩ := ordered_start hs (.inl rfl) hl hc hm
  have hsig := signalOf_local (d := d2) (e := e) (w := h.word) (by rw [hE.tck]; exact abandoning_of_solo hs) fun _ => by omega
  rw [hE.signalled] at hsig
  refine .of_act (exec_signal e s) (decide_eq_true hs.1) ?_
  rw [hrun _ hsig rfl]
  exact ⟨.of_engineStep hE hq ha hw rfl fun _ _ _ => rfl, signalled_of_sigEn (sigEn_of_signalCauses hc),
    congrArg (fun x : Device => { x with sigs := s.dev.signalled e h.word }) hE.1⟩

/-- A remote SIGNAL that stands alone, whose link takes its flit (R118, R182). -/
theorem signal_remote_completes {s : State} {e p : Nat} {h : FCmd} (hs : s.dev.solo e 3 h) (hl : hdrCauses h.word = [])
    (hc : signalCauses s.dev h.word = []) (hrem : cmdFld h.word 8 7 1 = 1)
    (hr : s.dev.route (cmdFld h.word 8 0 4) = some p) (hf : s.dev.linkFree p) (hm : s.dev.waitMet e h.word) :
    Completes (.signal e) s fun d => LoneDone s.dev d e h.word [] ∧
      (∃ x : TxFlit, d.dsk.out = s.dev.dsk.out ++ [(p, x)] ∧ x.type = FT.sig ∧ x.flit.dst = cmdFld h.word 8 0 4 ∧
        x.flit.frame = BitVec.ofNat 16 s.dev.frame.toNat ∧
        x.flit.payload = padFlit (toLe 1 (cmdFld h.word 3 0 6) ++ toLe 1 0 ++ toLe 2 (sigN h.word))) ∧
      d.sansRegs = { s.dev with eng := d.eng, dsk := d.dsk }.sansRegs := by
  obtain ⟨d2, hE, hq, ha, hw, hrun⟩ := ordered_start hs (.inl rfl) hl hc hm
  have hdsk : d2.dsk = s.dev.dsk := congrArg (·.dsk) hE.1
  have hframe := hw.frame
  obtain ⟨x, d3, h3, hout, hx1, hx2, hx3, hx4, hrest, hregs⟩ := Device.signalOf_remote (d := d2) (e := e) (p := p) (w := h.word)
    (sigEn_of_signalCauses hc) (by rw [hE.tck]; exact abandoning_of_solo hs) (opcode_of_solo hs) hrem
    (by rw [← hr]; exact route_congr hdsk _) (by rw [Device.linkFree, portAt_congr hdsk]; exact hf)
  have heng : d3.eng = d2.eng := congrArg (·.eng) hrest
  refine .of_act (exec_signal e s) (decide_eq_true hs.1) ?_
  rw [hrun d3 h3 heng]
  refine ⟨.of_engineStep hE hq ha hw heng hregs, ⟨x, hdsk ▸ hout, hx1, hx2, hframe ▸ hx3, hx4⟩, ?_⟩
  rw [hrest, heng]
  exact congrArg (fun x : Device => { x with dsk := d3.dsk }) hE.1

/-- MARK that stands alone (R120). -/
theorem mark_completes {s : State} {e : Nat} {h : FCmd} (hs : s.dev.solo e 4 h) (hl : hdrCauses h.word = [])
    (hc : markCauses s.dev h.word = []) (hm : s.dev.waitMet e h.word) :
    Completes (.mark e) s fun d => LoneDone s.dev d e h.word [] ∧
      d.marks = addMark s.dev.marks ⟨e, cmdFld h.word 8 0 6, BitVec.ofNat 16 s.dev.frame.toNat, s.dev.q / aQ⟩ ∧
      d.sansRegs = { s.dev with eng := d.eng, sigs := s.dev.signalled e h.word, marks := d.marks }.sansRegs := by
  obtain ⟨d2, hE, hq, ha, hw, hrun⟩ := ordered_start hs (.inr rfl) hl hc hm
  have hab : d2.tck.abandoning = false := by rw [hE.tck]; exact abandoning_of_solo hs
  have hq2 : d2.q = s.dev.q := congrArg (·.q) hE.1
  have hmarks : d2.marks = s.dev.marks := congrArg (·.marks) hE.1
  let l := addMark s.dev.marks ⟨e, cmdFld h.word 8 0 6, BitVec.ofNat 16 s.dev.frame.toNat, s.dev.q / aQ⟩
  have hleave : d2.markLeaves e h.word = { d2 with marks := l } := by
    rw [Device.markLeaves, if_neg (by simp [hab]), hq2, hmarks, hw.frame]
  have hsig : ({ d2 with marks := l } : Device).signalOf e h.word =
      { d2 with marks := l, sigs := s.dev.signalled e h.word } := by
    rw [signalOf_local (d := { d2 with marks := l }) hab (by rw [opcode_of_solo hs]; simp), ← hE.signalled]
    rfl
  refine .of_act (exec_mark e s) (decide_eq_true hs.1) ?_
  rw [hrun { d2 with marks := l, sigs := s.dev.signalled e h.word } (by rw [if_pos rfl, hleave, hsig]) rfl]
  exact ⟨.of_engineStep hE hq ha hw rfl fun _ _ _ => rfl, rfl,
    congrArg (fun x : Device => { x with marks := l, sigs := s.dev.signalled e h.word }) hE.1⟩

/-- END that stands alone (R53, R121). -/
theorem end_completes {s : State} {e : Nat} {h : FCmd} (hs : s.dev.solo e 1 h) (hl : hdrCauses h.word = [])
    (hc : plainCauses s.dev h.word = []) (hm : s.dev.waitMet e h.word) :
    Completes (.endCmd e) s fun d => LoneDone s.dev d e h.word [] ∧ (d.engAt e).atEnd = true ∧
      (d.engAt e).phase = .idle ∧ (d.engAt e).loops = [] ∧ (d.engAt e).fetch = none ∧
      d.tck.allEndSent = (s.dev.tck.allEndSent || (s.dev.tck.frameOpen && d.allEnd)) ∧
      d.sansRegs = { s.dev with eng := d.eng, sigs := s.dev.signalled e h.word, tck := { s.dev.tck with
        allEndSent := d.tck.allEndSent } }.sansRegs := by
  obtain ⟨-, -, -, ha, -, -, -, -, -, -⟩ := id hs
  obtain ⟨d1, hstart, h1, h2, h3, h4⟩ := Device.start_solo hs (causes := plainCauses)
    (body := fun d h w => d.endBody e h w) (stepWord_none _ (by rw [opcode_of_solo hs]; rfl)) hl hc hm
  have hE : EngineStep s.dev d1 e := ⟨h1, h3⟩
  obtain ⟨d2, hbody, hrest, hoth, heng, hregs⟩ := endBody_lone (d := d1) (e := e) (w := h.word) (tag_of_solo hs)
    (opcode_of_solo hs) (by rw [hE.tck]; exact abandoning_of_solo hs)
  have htck : d2.tck = s.dev.tck := (congrArg (·.tck) hrest).trans hE.tck
  have hend : d2.reportEnd = { d2 with tck := { s.dev.tck with
      allEndSent := s.dev.tck.allEndSent || (s.dev.tck.frameOpen && d2.allEnd) } } := by
    rw [Device.reportEnd_eq (by rw [htck]; exact abandoning_of_solo hs), htck]
  have heng' : d2.engAt e = { s.dev.engAt e with atEnd := true, phase := .idle, queue := [], fetch := none, loops := [] } := by
    rw [heng, h2]
  have hsettle : d2.reportEnd.settle e = d2.reportEnd := Device.settle_nil (by
    rw [hend]
    exact congrArg (·.queue) heng')
  have hrun : s.dev.runEnd e = d2.reportEnd := by
    rw [Device.runEnd, ha, List.isEmpty_nil, if_pos rfl, hstart, hbody, hsettle]
  refine .of_act (exec_endCmd e s) (decide_eq_true hs.1) ?_
  rw [hrun, hend]
  refine ⟨⟨congrArg (·.queue) heng', (congrArg (·.acts) heng').trans ha, fun x hx => (hoth x hx).trans (hE.2 x hx),
      h4.trans hregs⟩, congrArg (·.atEnd) heng', congrArg (·.phase) heng', congrArg (·.loops) heng',
    congrArg (·.fetch) heng', rfl, ?_⟩
  have h5 : d2.sansRegs = { s.dev with eng := d2.eng, sigs := s.dev.signalled e h.word }.sansRegs := by
    rw [hrest, hE.signalled]
    exact congrArg (fun x : Device => { x with eng := d2.eng, sigs := s.dev.signalled e h.word }) h1
  exact congrArg (fun x : Device => { x with tck := { s.dev.tck with
    allEndSent := s.dev.tck.allEndSent || (s.dev.tck.frameOpen && d2.allEnd) } }) h5

/-- Settles O6: each clause starts its command at the head of its engine; the lemmas above say what it then does. -/
theorem orderingCommandsComplete : Obligations.OrderingCommandsComplete := by
  refine ⟨⟨?_, ?_, ?_, ?_, ?_⟩, ?_, ?_⟩
  · exact fun s e h hs hl hc hm => nop_completes hs hl hc hm
  · exact fun s e h hs hl hc hm => wait_completes hs hl hc hm
  · exact fun s e h hs hl hc hloc hm => signal_completes hs hl hc hloc hm
  · exact fun s e p h hs hl hc hrem hr hf hm => signal_remote_completes hs hl hc hrem hr hf hm
  · exact fun s e h hs hl hc hm => mark_completes hs hl hc hm
  · exact fun s e h hs hl hc hm => end_completes hs hl hc hm
  · exact fun s e h hs hl hc hn => wait_blocks hs hl hc hn

end Sys2Proof.Machine
end

section
/-! What registering a checker source leaves alone (R285, R292 to R294): everything but registers, interrupts, the fault
collector, the checker's device-state logic and the safety outputs. -/

namespace Sys2Proof.Machine

/-- The device without its registers, the host interface, the fault collector, the checker's state logic and safety I/O. -/
def Device.sansRaise (d : Device) : Device :=
  { d.sansRegs with hif := .reset, flt := Device.reset.flt, chk := .reset, sio := .reset }

/-- From `d` to `d'` only registers, interrupts, the fault collector, the checker and safety I/O change. -/
def RaiseStep (d d' : Device) : Prop := d'.sansRaise = d.sansRaise

theorem RaiseStep.refl (d : Device) : RaiseStep d d := rfl

theorem RaiseStep.trans {a b c : Device} (h : RaiseStep a b) (g : RaiseStep b c) : RaiseStep a c := Eq.trans g h

theorem RaiseStep.of_onlyRegs {a b : Device} {l : List Nat} (h : OnlyRegs a b l) : RaiseStep a b := by
  unfold RaiseStep Device.sansRaise
  rw [h.1]

theorem RaiseStep.of_ite {a b c : Device} {p : Prop} [Decidable p] (h : RaiseStep a b) (g : RaiseStep a c) :
    RaiseStep a (if p then b else c) := by
  split <;> assumption

theorem raiseStep_setReg (d : Device) (k : Nat) (v : Word) : RaiseStep d (d.setReg k v) := rfl
theorem raiseStep_setFld (d : Device) (k hi lo v : Nat) : RaiseStep d (d.setFld k hi lo v) := rfl
theorem raiseStep_count (d : Device) (k hi lo a : Nat) : RaiseStep d (d.count k hi lo a) := rfl
theorem raiseStep_incr (d : Device) (k : Nat) : RaiseStep d (d.incr k) := rfl
theorem raiseStep_event (d : Device) (k i : Nat) : RaiseStep d (d.event k i) := rfl

theorem raiseStep_fire (d : Device) (v : Nat) : RaiseStep d (d.fire v) := by
  unfold Device.fire
  split
  · exact .refl d
  · exact .of_ite (raiseStep_setReg d _ _) rfl

theorem raiseStep_logSink (d : Device) (i n : Nat) : RaiseStep d (d.logSink i n) := by
  induction n generalizing d i with
  | zero => exact .refl d
  | succ n ih =>
    have hswap : RaiseStep d (d.logSwap i) := by
      unfold Device.logSwap
      exact .of_ite ((raiseStep_setReg d _ _).trans (raiseStep_setReg _ _ _)) (.refl d)
    exact hswap.trans (ih _ _)

theorem raiseStep_logCycle (d : Device) : RaiseStep d d.logCycle.1 := rfl

/-- Writing the collector log touches registers and the count of this c-cycle's entries (R294). -/
theorem raiseStep_fltLog (d : Device) (s cls taken : Nat) (forced wire : Bool) :
    RaiseStep d (d.fltLog s cls taken forced wire) := by
  unfold Device.fltLog
  simp only
  refine RaiseStep.trans ?_ (raiseStep_setFld _ _ _ _ _)
  refine RaiseStep.trans ?_ (raiseStep_logSink _ _ _)
  refine RaiseStep.trans ?_ (raiseStep_logCycle _)
  exact ((raiseStep_setReg d _ _).trans (raiseStep_setReg _ _ _)).trans (raiseStep_setReg _ _ _)

theorem raiseStep_noteSource (d : Device) (s cls cause : Nat) : RaiseStep d (d.noteSource s cls cause) := by
  unfold Device.noteSource
  simp only
  have h1 : RaiseStep d (if s % 2 = 0 then d.count (Reg.fltCnt (s / 2)) 15 0 1 else d.count (Reg.fltCnt (s / 2)) 31 16 1) :=
    .of_ite (raiseStep_count _ _ _ _ _) (raiseStep_count _ _ _ _ _)
  generalize (if s % 2 = 0 then d.count (Reg.fltCnt (s / 2)) 15 0 1 else d.count (Reg.fltCnt (s / 2)) 31 16 1) = d1 at *
  have h2 := (h1.trans (raiseStep_setReg _ Reg.fltLast (word (cause * 2 ^ 24 + cls * 2 ^ 22 + s)))).trans
    (raiseStep_event _ (Reg.fltPend (s / 32)) (s % 32))
  exact .of_ite (h2.trans (raiseStep_event _ _ _)) (.of_ite (h2.trans (raiseStep_event _ _ _)) h2)

theorem raiseStep_intNmi (d : Device) (r : Nat) : RaiseStep d (d.intNmi r) := by
  unfold Device.intNmi
  simp only
  have h1 : RaiseStep d (if r % 2 = 1 then ({ d with flt := { d.flt with irq := d.flt.irq + 1 } } : Device).fire 1 else d) :=
    .of_ite (RaiseStep.trans rfl (raiseStep_fire { d with flt := { d.flt with irq := d.flt.irq + 1 } } 1)) (.refl d)
  generalize (if r % 2 = 1 then ({ d with flt := { d.flt with irq := d.flt.irq + 1 } } : Device).fire 1 else d) = d1 at *
  exact .of_ite h1 h1

theorem raiseStep_askWarm (d : Device) (cause : Nat) : RaiseStep d (d.askWarm cause) := .of_ite (.refl d) rfl

/-- The reaction CHIP of a source that is no monitor asks for a warm reset (R292, R296). -/
theorem raiseStep_chip (d : Device) {s : Nat} (cause : Nat) (hs : s ≠ Src.vmonCmp ∧ s ≠ Src.fmonCmp) :
    RaiseStep d (d.chip s cause) := by
  rw [Device.chip, if_neg (by simp [hs])]
  exact raiseStep_askWarm d cause

/-- A source without a Facet fences nothing (R291). -/
theorem blkFence_of_noFacet (d : Device) {s : Nat} (h : srcFacet s = none) : d.blkFence s = d := by
  unfold Device.blkFence
  rw [h]
  split
  · contradiction
  · rfl

/-- Registering a source of the checker that is neither of class F nor a monitor. -/
theorem raiseStep_register (d : Device) {s : Nat} {r : SrcRow} (forced wire : Bool) (hr : srcRow s = some r) (hc : r.cls ≠ 3)
    (hf : srcFacet s = none) (hm : s ≠ Src.vmonCmp ∧ s ≠ Src.fmonCmp) : RaiseStep d (d.register s forced wire) := by
  unfold Device.register
  rw [hr]
  simp only [hc, if_false]
  refine .of_ite (.refl d) ?_
  generalize (if d.chk.dev = .fatal then 0 else if forced = true then d.reactions s &&& 1 else d.reactions s) = act
  have h1 := raiseStep_noteSource d s r.cls r.cause
  generalize d.noteSource s r.cls r.cause = d1 at *
  have h2 : RaiseStep d (if d.pend s = true then d1 else d1.fltLog s r.cls act forced wire) :=
    .of_ite h1 (h1.trans (raiseStep_fltLog _ _ _ _ _ _))
  generalize (if d.pend s = true then d1 else d1.fltLog s r.cls act forced wire) = d2 at *
  have h3 : RaiseStep d (if d.pend s = true then d2 else d2.intNmi act) := .of_ite h2 (h2.trans (raiseStep_intNmi _ _))
  generalize (if d.pend s = true then d2 else d2.intNmi act) = d3 at *
  refine .of_ite h3 ?_
  have h4 : RaiseStep d (if 16 ≤ act then { d3 with chk := { d3.chk with pinAt := some d3.q } } else d3) :=
    .of_ite h3 h3
  generalize (if 16 ≤ act then ({ d3 with chk := { d3.chk with pinAt := some d3.q } } : Device) else d3) = d4 at *
  refine .of_ite (h4.trans (raiseStep_chip _ _ hm)) (.of_ite ?_ h4)
  rw [blkFence_of_noFacet _ hf]
  exact h4

/-- CVU_FAIL registers without touching anything but the checker's own state. -/
theorem raiseStep_cvuFail (d : Device) : RaiseStep d (d.chkRaise Src.cvuFail) :=
  raiseStep_register d (r := ⟨0x184, 0x184, 1, 0x44, .checker, false, 0⟩) false false (by decide) (by decide) (by decide)
    (by decide)

end Sys2Proof.Machine
end

section
/-! Aperture packets and comparisons (R53, R223, R224, R234 to R238). -/

namespace Sys2Proof.Machine

/-! ## Causes (R225, R242) -/

/-- A cause is charged to the frame, or to the next one as LATE. -/
theorem addCause_caused (d : Device) (b : Nat) : Caused d (d.addCause b) b := by
  unfold Device.addCause
  cases h : d.apt.issued with
  | true => exact ⟨fun x => absurd (h.symm.trans x) (by decide), fun _ => rfl⟩
  | false => exact ⟨fun _ => rfl, fun x => absurd (h.symm.trans x) (by decide)⟩

/-- Charging a cause changes the causes and nothing else. -/
theorem addCause_frame (d : Device) (b : Nat) :
    d.addCause b = { d with apt := { d.apt with causes := (d.addCause b).apt.causes, carry := (d.addCause b).apt.carry } } := by
  unfold Device.addCause
  split <;> rfl

@[simp] theorem addCause_recvAt (d : Device) (b i : Nat) : (d.addCause b).recvAt i = d.recvAt i := by
  rw [addCause_frame]
  rfl

/-- Before the verdict a charged cause stands among the frame's. -/
theorem getLsbD_addCause {d : Device} {b : Nat} (hb : b < 32) (h : d.apt.issued = false) :
    (d.addCause b).apt.causes.getLsbD b = true := by
  rw [(addCause_caused d b).1 h, BitVec.getLsbD_or, BitVec.getLsbD_ofNat]
  simp [hb]

/-- Charging a cause keeps those that stand. -/
theorem getLsbD_addCause_of {d : Device} {b i : Nat} (h : d.apt.causes.getLsbD i = true) :
    (d.addCause b).apt.causes.getLsbD i = true := by
  unfold Device.addCause
  split
  · exact h
  · simp [h]

/-! ## What judging a packet leaves alone (R277) -/

/-- The device without what registering a checker source changes, the check-value unit and the causes of the verdict. -/
def Device.sansJudge (d : Device) : Device :=
  { d.sansRaise with cvu := Device.reset.cvu, apt := { d.apt with causes := 0, carry := 0 } }

/-- From `d` to `d'` a packet has been judged: only the check-value unit, causes, and what a registration touches change. -/
def JudgeStep (d d' : Device) : Prop := d'.sansJudge = d.sansJudge

theorem JudgeStep.trans {a b c : Device} (h : JudgeStep a b) (g : JudgeStep b c) : JudgeStep a c := Eq.trans g h

theorem JudgeStep.of_raiseStep {a b : Device} (h : RaiseStep a b) : JudgeStep a b := by
  have ha : b.apt = a.apt := congrArg (·.apt) h
  unfold JudgeStep Device.sansJudge
  rw [h, ha]

theorem JudgeStep.of_onlyRegs {a b : Device} {l : List Nat} (h : OnlyRegs a b l) : JudgeStep a b :=
  .of_raiseStep (.of_onlyRegs h)

theorem JudgeStep.of_ite {a b c : Device} {p : Prop} [Decidable p] (h : JudgeStep a b) (g : JudgeStep a c) :
    JudgeStep a (if p then b else c) := by
  split <;> assumption

theorem judgeStep_addCause (d : Device) (b : Nat) : JudgeStep d (d.addCause b) := by
  rw [addCause_frame]
  rfl

theorem judgeStep_setCtx (d : Device) (k : Nat) (c : Ctx) : JudgeStep d (d.setCtx k c) := rfl

theorem judgeStep_cvuFailLog (d : Device) (ctx alive : Nat) (o : PktOut) (f : Word) :
    JudgeStep d (d.cvuFailLog ctx alive o f) := by
  refine .of_raiseStep ?_
  unfold Device.cvuFailLog
  simp only
  refine RaiseStep.trans ?_ (raiseStep_event _ _ _)
  refine RaiseStep.trans ?_ (raiseStep_setFld _ _ _ _ _)
  exact ((raiseStep_count d _ _ _ _).trans (raiseStep_setReg _ _ _)).trans (raiseStep_setReg _ _ _)

theorem judgeStep_cvuCharge (d : Device) (next : Bool) : JudgeStep d (d.cvuCharge next) := by
  have hfail : ∀ d1, JudgeStep d d1 → JudgeStep d (d1.chkRaise Src.cvuFail) :=
    fun d1 h => h.trans (.of_raiseStep (raiseStep_cvuFail d1))
  unfold Device.cvuCharge
  simp only
  refine .of_ite ?_ ?_
  · have h1 : JudgeStep d { d with apt := { d.apt with carry := d.apt.carry ||| 8 }
                                   cvu := { d.cvu with nextFail := d.cvu.nextFail + 1 } } := rfl
    exact .of_ite (hfail _ h1) h1
  · have h1 : JudgeStep d { d.addCause 3 with cvu := { d.cvu with frameFail := d.cvu.frameFail + 1, raised := true } } :=
      judgeStep_addCause d 3
    exact .of_ite (hfail _ h1) h1

/-- Judging a packet. -/
theorem judgeStep_judge (d : Device) (ctx : Nat) (bs : List Byte) (max : Nat) (dest : Word) (next : Bool) (lead : Nat) :
    JudgeStep d (d.judge ctx bs max dest next lead).1 := by
  unfold Device.judge
  extract_lets d0 named alive d1 c now c'
  have h0 : JudgeStep d d0 := rfl
  have h1 : JudgeStep d d1 :=
    .of_ite h0 (h0.trans (.of_raiseStep ((raiseStep_incr d0 _).trans (raiseStep_event _ _ _))))
  split
  next c2 o _ =>
    have h2 : JudgeStep d (d1.setCtx ctx { c2.note o with seqMode := now }) := h1.trans (judgeStep_setCtx d1 _ _)
    extract_lets noted d2
    split
    · exact h2.trans (.of_raiseStep (raiseStep_incr d2 _))
    · exact (h2.trans (judgeStep_cvuFailLog d2 _ _ _ _)).trans (judgeStep_cvuCharge _ _)

/-! ## Storing a packet toward its entry (R224) -/

@[simp] theorem Device.recvAt_setRecv_same (d : Device) (i : Nat) (r : Recv) : (d.setRecv i r).recvAt i = r :=
  tabGet_tabSet_same _ _ _ _

theorem Device.recvAt_setRecv_ne (d : Device) {i j : Nat} (r : Recv) (h : j ≠ i) : (d.setRecv i r).recvAt j = d.recvAt j :=
  tabGet_tabSet_ne _ _ _ h

/-- A packet that is the next of its entry. -/
def Device.packetNext (d : Device) (p : Packet) : Prop :=
  (d.recvAt p.entry).arrival = none ∧ p.ofs = (d.recvAt p.entry).data.length

/-- A packet out of turn is an entry error and is not stored. -/
theorem storePacket_outOfTurn {d : Device} {m : ManEntry} {p : Packet}
    (h : (d.recvAt p.entry).arrival.isSome = true ∨ p.ofs ≠ (d.recvAt p.entry).data.length) :
    d.storePacket m p = d.addCause 2 := if_pos h

/-- What an entry holds once its next packet has joined it. -/
def Recv.join (r : Recv) (m : ManEntry) (p : Packet) (now : Nat) : Recv :=
  let full := decide (m.len ≤ p.ofs + p.bytes.length)
  ⟨r.data ++ p.bytes, r.poison || p.marks.any id, if full then some now else none, (r.poison || p.marks.any id) && full⟩

theorem Recv.join_arrival (r : Recv) (m : ManEntry) (p : Packet) (now : Nat) :
    (r.join m p now).arrival.isSome = true ↔ m.len ≤ p.ofs + p.bytes.length := by
  unfold Recv.join
  by_cases h : m.len ≤ p.ofs + p.bytes.length <;> simp [h]

/-- The next packet of an entry joins it: its mark charges POISON, and a late end of the entry ENTRY_LATE. -/
theorem storePacket_next {d : Device} {m : ManEntry} {p : Packet} (h : d.packetNext p) :
    d.storePacket m p =
      (let d1 := d.setRecv p.entry ((d.recvAt p.entry).join m p d.chkNs)
       let d2 := if p.marks.any id then d1.addCause 4 else d1
       if decide (m.len ≤ p.ofs + p.bytes.length) && d2.lateEntry m then d2.addCause 12 else d2) :=
  if_neg (by simp [h.1, h.2])

theorem JudgeStep.recvAt {d d' : Device} (h : JudgeStep d d') (i : Nat) : d'.recvAt i = d.recvAt i :=
  congrArg (·.recvAt i) (show d'.sansJudge = d.sansJudge from h)

theorem JudgeStep.issued {d d' : Device} (h : JudgeStep d d') : d'.apt.issued = d.apt.issued :=
  congrArg (·.apt.issued) (show d'.sansJudge = d.sansJudge from h)

/-- The device without what judging a packet changes and what has been received of the entries. -/
def Device.sansEntry (d : Device) : Device := { d.sansJudge with apt := { d.sansJudge.apt with recv := [] } }

/-- From `d` to `d'` a packet has been judged and stored. -/
def EntryStep (d d' : Device) : Prop := d'.sansEntry = d.sansEntry

theorem EntryStep.of_judgeStep {a b : Device} (h : JudgeStep a b) : EntryStep a b := by
  unfold EntryStep Device.sansEntry
  rw [show b.sansJudge = a.sansJudge from h]

theorem EntryStep.trans {a b c : Device} (h : EntryStep a b) (g : EntryStep b c) : EntryStep a c := Eq.trans g h

theorem EntryStep.of_ite {a b c : Device} {p : Prop} [Decidable p] (h : EntryStep a b) (g : EntryStep a c) :
    EntryStep a (if p then b else c) := by
  split <;> assumption

theorem entryStep_addCause (d : Device) (b : Nat) : EntryStep d (d.addCause b) := .of_judgeStep (judgeStep_addCause d b)

theorem entryStep_storePacket (d : Device) (m : ManEntry) (p : Packet) : EntryStep d (d.storePacket m p) := by
  unfold Device.storePacket
  extract_lets r full bad d1 d2
  have h1 : EntryStep d d1 := rfl
  have h2 : EntryStep d d2 := .of_ite (h1.trans (entryStep_addCause d1 4)) h1
  exact .of_ite (entryStep_addCause d 2) (.of_ite (h2.trans (entryStep_addCause d2 12)) h2)

/-- Storing a packet touches no other entry. -/
theorem recvAt_storePacket_ne (d : Device) (m : ManEntry) (p : Packet) {i : Nat} (hi : i ≠ p.entry) :
    (d.storePacket m p).recvAt i = d.recvAt i := by
  by_cases h : d.packetNext p
  · rw [storePacket_next h]
    simp only [apply_ite (Device.recvAt · i), addCause_recvAt, Device.recvAt_setRecv_ne d _ hi, ite_self]
  · rw [storePacket_outOfTurn, addCause_recvAt]
    rw [Device.packetNext, not_and_or] at h
    exact h.imp_left Option.isSome_iff_ne_none.2

/-- The next packet of an entry: what has been received of it. -/
theorem recvAt_storePacket_next {d : Device} {m : ManEntry} {p : Packet} (h : d.packetNext p) :
    (d.storePacket m p).recvAt p.entry = (d.recvAt p.entry).join m p d.chkNs := by
  rw [storePacket_next h]
  simp only [apply_ite (Device.recvAt · p.entry), addCause_recvAt, Device.recvAt_setRecv_same, ite_self]

/-- A marked packet of an entry charges POISON (R224). -/
theorem poison_storePacket {d : Device} {m : ManEntry} {p : Packet} (h : d.packetNext p) (hp : p.marks.any id = true)
    (hi : d.apt.issued = false) : (d.storePacket m p).apt.causes.getLsbD 4 = true := by
  rw [storePacket_next h]
  simp only [hp, if_true]
  have h4 : ((d.setRecv p.entry ((d.recvAt p.entry).join m p d.chkNs)).addCause 4).apt.causes.getLsbD 4 = true :=
    getLsbD_addCause (by decide) hi
  split
  · exact getLsbD_addCause_of h4
  · exact h4

/-! ## Taking a packet (R223) -/

/-- Taking packet `p` from the sender: its SE is owed an acknowledgement. -/
def Device.takePacket (d : Device) (p : Packet) : Device :=
  { d with apt := { d.apt with packets := d.apt.packets.erase p, turn := p.eng, acks := d.apt.acks ++ [p.eng] } }

/-- A packet that the link takes now is judged and stored toward its entry. -/
theorem packetIn_eq {d : Device} {p : Packet} {m : ManEntry} (bs : Option (List Byte)) (lead : Nat)
    (hb : d.apertureBusy (d.q - lead * cQ) = false) (hn : d.apt.next = some p) (hm : d.manEntry p.entry = some m) :
    ∃ d1, JudgeStep (d.takePacket p) d1 ∧ d.packetIn bs lead = d1.storePacket m p := by
  let d2 := ((d.takePacket p).perf 201 0x101 (ceilDiv p.bytes.length 64)).perf 201 0x102 1
  have h2 : JudgeStep (d.takePacket p) d2 := .of_onlyRegs ((onlyRegs_perf _ _ _ _).trans (onlyRegs_perf _ _ _ _))
  have hman : d2.manEntry p.entry = some m := by
    rw [← hm]
    exact congrArg (·.manEntry p.entry) (show d2.sansJudge = _ from h2)
  let d3 := d2.setCtx m.ctx ((d2.ctxAt m.ctx).sent (d.q - lead * cQ))
  refine ⟨_, (h2.trans (judgeStep_setCtx _ _ _)).trans (judgeStep_judge d3 m.ctx
    (bs.getD ((d2.ctxAt m.ctx).packet m.ctx (d.q - lead * cQ) p)) 1024 (word (p.entry * 2 ^ 24 + p.ofs)) false lead), ?_⟩
  unfold Device.packetIn
  extract_lets t
  rw [if_neg (by rw [hb]; decide), hn]
  show (match d2.manEntry p.entry with | none => d2 | some m => _) = _
  rw [hman]
  rfl

/-! ## Comparing an entry (R234, R236) -/

/-- The device without the state of the checker's aperture. -/
def Device.sansApt (d : Device) : Device := { d with apt := Device.reset.apt }

theorem eq_of_sansApt {d d' : Device} (h : d'.sansApt = d.sansApt) : d' = { d with apt := d'.apt } :=
  congrArg (fun x : Device => { x with apt := d'.apt }) h

theorem addCause_sansApt (d : Device) (b : Nat) : (d.addCause b).sansApt = d.sansApt := by
  rw [addCause_frame]
  rfl

theorem addCause_parFail (d : Device) (b : Nat) : (d.addCause b).apt.parFail = d.apt.parFail := by rw [addCause_frame]

theorem addCause_chalFail (d : Device) (b : Nat) : (d.addCause b).apt.chalFail = d.apt.chalFail := by rw [addCause_frame]

/-- The entries of a replica pair, compared. -/
def Device.pairCompared (d : Device) (i : Nat) (m : ManEntry) : Device :=
  (d.setRecv i { d.recvAt i with cmpDone := true }).setRecv m.partner { d.recvAt m.partner with cmpDone := true }

theorem pairCompared_cmpDone {d : Device} {i : Nat} {m : ManEntry} :
    ((d.pairCompared i m).recvAt i).cmpDone = true ∧ ((d.pairCompared i m).recvAt m.partner).cmpDone = true := by
  refine ⟨?_, congrArg (·.cmpDone) (Device.recvAt_setRecv_same _ _ _)⟩
  by_cases h : i = m.partner
  · subst h
    exact congrArg (·.cmpDone) (Device.recvAt_setRecv_same _ _ _)
  · rw [Device.pairCompared, Device.recvAt_setRecv_ne _ _ h, Device.recvAt_setRecv_same]

/-- The outcome of a comparison with cause `b`: `d1` is the device with its entries marked as compared, `f` and `f0` the
first failure that the record names, after and before. -/
structure Compared (d d1 d' : Device) (b : Nat) (pass : Prop) (fails : Apt → Option Nat) (n : Nat) : Prop where
  frame : d' = { d with apt := d'.apt }
  recv : ∀ i, d'.recvAt i = d1.recvAt i
  passes : pass → d'.apt.causes = d.apt.causes ∧ fails d'.apt = fails d.apt
  charges : ¬ pass → Caused d d' b ∧ fails d'.apt = some ((fails d.apt).getD n)

/-- A replica pair is compared: where it fails, PARALLAX and its lower entry (R236). -/
theorem compareEntry_pair {d : Device} {i : Nat} {m : ManEntry} (hm : d.manEntry i = some m) (hk : m.kind = 4) :
    Compared d (d.pairCompared i m) (d.compareEntry i) 10
      ((d.recvAt m.partner).poison = true ∨ tensorPasses m (d.recvAt i).data (d.recvAt m.partner).data true = true)
      (·.parFail) (min i m.partner) := by
  unfold Device.compareEntry
  rw [hm]
  simp only [hk, if_true]
  split
  next hp => exact ⟨rfl, fun _ => rfl, fun _ => ⟨rfl, rfl⟩, fun h => absurd hp h⟩
  next hp =>
    have ha := addCause_parFail (d.pairCompared i m) 10
    have hc := addCause_caused (d.pairCompared i m) 10
    refine ⟨?_, fun _ => ?_, fun h => absurd h hp, fun _ => ⟨hc, ?_⟩⟩
    · exact eq_of_sansApt (addCause_sansApt (d.pairCompared i m) 10)
    · exact addCause_recvAt (d.pairCompared i m) 10 _
    · exact congrArg (fun x => some (x.getD (min i m.partner))) ha

/-- The device with entry `i` marked as compared. -/
def Device.entryCompared (d : Device) (i : Nat) : Device := d.setRecv i { d.recvAt i with cmpDone := true }

/-- An answer to a challenge is compared: where it fails, CHALLENGE and its slot (R234). -/
theorem compareEntry_answer {d : Device} {i : Nat} {m : ManEntry} {t : Tile} (hm : d.manEntry i = some m) (hk : m.kind ≠ 4)
    (ht : d.tileAt m.partner = some t) :
    Compared d (d.entryCompared i) (d.compareEntry i) 8 (tensorPasses m (d.recvAt i).data t.answer false = true)
      (·.chalFail) m.partner := by
  have ht' : (d.entryCompared i).tileAt m.partner = some t := ht
  unfold Device.compareEntry
  rw [hm]
  simp only [hk, if_false]
  show Compared d _ (match (d.entryCompared i).tileAt m.partner with | some t => _ | none => _) _ _ _ _
  rw [ht']
  dsimp only
  split
  next hp => exact ⟨rfl, fun _ => rfl, fun _ => ⟨rfl, rfl⟩, fun h => absurd hp h⟩
  next hp =>
    refine ⟨?_, fun _ => ?_, fun h => absurd h hp, fun _ => ⟨addCause_caused (d.entryCompared i) 8, ?_⟩⟩
    · exact eq_of_sansApt (addCause_sansApt (d.entryCompared i) 8)
    · exact addCause_recvAt (d.entryCompared i) 8 _
    · exact congrArg (fun x => some (x.getD m.partner)) (addCause_chalFail (d.entryCompared i) 8)

/-- An entry that can be compared and is of no replica pair has its tile. -/
theorem tileAt_of_cmpReady {d : Device} {i : Nat} {m : ManEntry} (hr : d.cmpReady i = true) (hm : d.manEntry i = some m)
    (hk : m.kind ≠ 4) : ∃ t, d.tileAt m.partner = some t := by
  unfold Device.cmpReady at hr
  rw [hm] at hr
  simp only [hk, if_false, Bool.and_eq_true] at hr
  exact Option.isSome_iff_exists.1 hr.2

/-- The entry compared is the lowest one whose comparison can end. -/
theorem compareNext_eq {d : Device} {i : Nat}
    (h : (List.range d.tck.plan.man.entries.length).find? (fun i => d.cmpReady i) = some i) :
    d.compareNext = d.compareEntry i ∧ d.cmpReady i = true := by
  refine ⟨?_, List.find?_some h⟩
  unfold Device.compareNext
  rw [h]

/-! ## The obligation -/

theorem exec_allEndReport (s : State) : exec .allEndReport s = act s.dev.cmpAlive Device.endReport s := rfl

theorem exec_aperturePacket (s : State) (bs : Option (List Byte)) (lead : Nat) :
    exec (.aperturePacket ⟨bs, lead⟩) s = act s.dev.cmpAlive (fun d => d.packetIn bs lead) s := rfl

theorem exec_comparisonComplete (s : State) :
    exec .comparisonComplete s = act s.dev.chk.power Device.compareNext s := rfl

theorem endReport_eq (d : Device) : d.endReport = { d with
    apt := { d.apt with
      allEndAt := if d.tck.allEndSent = true ∧ d.apt.allEndAt = none then some d.q else d.apt.allEndAt } } := by
  unfold Device.endReport
  split <;> rfl

/-- No packet is taken where none is there or a message of a higher class waits (R223). -/
theorem packetIn_idle {d : Device} (bs : Option (List Byte)) (lead : Nat)
    (h : d.apt.next = none ∨ d.apertureBusy (d.q - lead * cQ) = true) : d.packetIn bs lead = d := by
  unfold Device.packetIn
  extract_lets t
  split
  next => rfl
  next hb =>
    rw [h.resolve_right hb]

/-- Settles O54: the report by its condition, a packet by what judging and storing it leave alone, a comparison by the kind
of its entry. -/
theorem entriesArriveAndCompare : Obligations.EntriesArriveAndCompare := by
  unfold Obligations.EntriesArriveAndCompare
  refine ⟨⟨fun s hs => ?_, fun s bs lead hs h => ?_, fun s bs lead p m hs hb hn hm => ?_⟩, fun s i m hs hf hm => ?_⟩
  · refine .of_act (exec_allEndReport s) hs ?_
    rw [endReport_eq]
    exact ⟨rfl, rfl⟩
  · exact .of_act (exec_aperturePacket s bs lead) hs (packetIn_idle bs lead h)
  · refine .of_act (exec_aperturePacket s bs lead) hs ?_
    obtain ⟨d1, hj, he⟩ := packetIn_eq bs lead hb hn hm
    have hS : (s.dev.packetIn bs lead).sansEntry = (s.dev.takePacket p).sansEntry :=
      he ▸ (EntryStep.of_judgeStep hj).trans (entryStep_storePacket d1 m p)
    have hrecv : ∀ i, d1.recvAt i = s.dev.recvAt i := hj.recvAt
    have hiss : d1.apt.issued = s.dev.apt.issued := hj.issued
    refine ⟨congrArg (·.apt.packets) hS, congrArg (·.apt.turn) hS, congrArg (·.apt.acks) hS, fun ha ho => ?_, fun h => ?_,
      fun i hi => ?_, congrArg (·.mem) hS, congrArg (·.eng) hS, congrArg (·.stw) hS⟩
    · have hnext : d1.packetNext p := ⟨by rw [hrecv, ha], by rw [hrecv, ho]⟩
      rw [he, recvAt_storePacket_next hnext, hrecv]
      exact ⟨rfl, rfl, Recv.join_arrival _ _ _ _, fun hp hi => poison_storePacket hnext hp (hiss.trans hi)⟩
    · rw [he, storePacket_outOfTurn (by rwa [hrecv]), addCause_recvAt, hrecv]
      exact ⟨rfl, fun hi => getLsbD_addCause (by decide) (hiss.trans hi)⟩
    · rw [he, recvAt_storePacket_ne d1 m p hi, hrecv]
  · obtain ⟨hc, hr⟩ := compareNext_eq hf
    refine .of_act (exec_comparisonComplete s) hs ?_
    rw [hc]
    by_cases hk : m.kind = 4
    · obtain ⟨hfr, hrc, hp, hch⟩ := compareEntry_pair hm hk
      have hd := pairCompared_cmpDone (d := s.dev) (i := i) (m := m)
      rw [← hrc, ← hrc] at hd
      refine ⟨hd.1, fun _ _ => ⟨hd.2, hp, fun h1 h2 => hch (by simp [h1, h2])⟩, fun h => absurd hk h, hfr⟩
    · obtain ⟨t, ht⟩ := tileAt_of_cmpReady hr hm hk
      obtain ⟨hfr, hrc, hp, hch⟩ := compareEntry_answer hm hk ht
      refine ⟨?_, fun h => absurd h hk, fun _ t' ht' => ?_, hfr⟩
      · rw [hrc]
        exact congrArg (·.cmpDone) (Device.recvAt_setRecv_same _ _ _)
      · obtain rfl : t = t' := Option.some.inj (ht.symm.trans ht')
        exact ⟨hp, fun h => hch (by simp [h])⟩

end Sys2Proof.Machine
end

section
/-! SWAP, LOAD, UNLOAD and REPLACE that are accepted (R49, R174, R179, R180). -/

namespace Sys2Proof.Machine

/-- Registers that read the same do so in a device with the same register file. -/
theorem SameRegs.of_regs_eq {a b c : Device} {l : List Nat} (h : SameRegs a b l) (hr : c.regs = b.regs) : SameRegs a c l :=
  fun k hk hi => (Device.reg_congr hr k).trans (h k hk hi)

/-- A device that differs from `s` in registers, sent messages and counting alone, written out. -/
theorem exists_regs_of_sansRegs {s d : Device} (h : d.sansRegs = s.sansRegs) :
    ∃ r e p n b, d = { s with regs := r, evts := e, prf := p, hif := { s.hif with sent := n, busyTill := b } } :=
  ⟨d.regs, d.evts, d.prf, d.hif.sent, d.hif.busyTill, congrArg (fun x : Device =>
    { x with
      regs := d.regs, evts := d.evts, prf := d.prf
      hif := { x.hif with sent := d.hif.sent, busyTill := d.hif.busyTill } }) h⟩

/-- Memory operations leave the running requests alone. -/
theorem MemStep.running {d d' : Device} (h : MemStep d d') : d'.hif.running = d.hif.running :=
  congrArg (a₁ := d'.sansMem) (a₂ := d.sansMem) (fun x => x.hif.running) h.1

/-! ## An accepted submission (R312, R352) -/

/-- A submission with arguments `a` has been taken: OVERLAP is cleared, its check has begun, and the arguments stand in the
registers. -/
def Device.submitted (d : Device) (a : ReqArgs) : Device :=
  let d := d.setBit Reg.hifReqStatus 30 false
  { d with hif := { d.hif with busyTill := d.q + cQ * (1 + Config.checkTime d.q % 8000) } }.setArgs a

theorem onlyRegs_busyTill (d : Device) (t : Nat) (l : List Nat) :
    OnlyRegs d { d with hif := { d.hif with busyTill := t } } l := ⟨rfl, fun _ _ _ => rfl⟩

theorem onlyRegs_setArgs (d : Device) (a : ReqArgs) : OnlyRegs d (d.setArgs a) argRegs := by
  have h : ∀ (d : Device) (i : Nat) (v : Word), i < 4 → OnlyRegs d (d.setReg (Reg.hifReqArg i) v) argRegs := by
    intro d i v hi
    refine (onlyRegs_setReg d _ v).mono fun k hk => ?_
    rw [List.mem_singleton.1 hk]
    match i, hi with
    | 0, _ | 1, _ | 2, _ | 3, _ => decide
  exact (((h d 0 a.a0 (by decide)).trans (h _ 1 a.a1 (by decide))).trans (h _ 2 a.a2 (by decide))).trans
    (h _ 3 a.a3 (by decide))

/-- A submission writes HIF_REQ_STATUS.OVERLAP and the arguments. -/
theorem onlyRegs_submitted (d : Device) (a : ReqArgs) : OnlyRegs d (d.submitted a) argRegs := by
  have h1 := (onlyRegs_setBit d Reg.hifReqStatus 30 false).mono (m := argRegs) (by decide)
  exact (h1.trans (onlyRegs_busyTill _ _ _)).trans (onlyRegs_setArgs _ a)

/-- A submission does not touch the version register. -/
theorem agreed_submitted (d : Device) (a : ReqArgs) : (d.submitted a).agreed = d.agreed :=
  congrArg (fun v : Word => v.getLsbD 31) ((onlyRegs_submitted d a).2 Reg.hifVer (by decide) (by decide))

/-- A request that passes both checks of R312 does its body. -/
theorem request_accepted {d : Device} {op : Nat} {a : ReqArgs} {argsOk stateOk : Bool} (tag : Byte) (body : Device → Device)
    (hd : d.asks) (ha : argsOk = true) (hs : stateOk = true) :
    d.request op tag a argsOk stateOk body = body (d.submitted a) := by
  obtain ⟨-, hb, hg, hr⟩ := hd
  have hg' : (d.submitted a).agreed = true := (agreed_submitted d a).trans hg
  have hr' : (d.submitted a).chk.romOnly = false := hr
  unfold Device.request Device.submission
  rw [hb, ha, hs]
  show (if !(d.submitted a).agreed || !true then _ else if (d.submitted a).chk.romOnly && _ && _ || !true then _ else _) = _
  rw [hg', hr']
  rfl

/-- A request that `hostUp` lets in and that passes its checks completes with what its body gives. -/
theorem Completes.of_request {c : Instr} {s : State} {f body : Device → Device} {op : Nat} {tag : Byte} {a : ReqArgs}
    {argsOk stateOk : Bool} {P : Device → Prop} (hc : exec c s = act s.dev.hostUp f s) (hd : s.dev.asks)
    (hf : f s.dev = s.dev.request op tag a argsOk stateOk body) (ha : argsOk = true) (hs : stateOk = true)
    (hP : P (body (s.dev.submitted a))) : Completes c s P :=
  .of_act hc hd.1 (by rw [hf, request_accepted tag body hd ha hs]; exact hP)

/-! ## The requests -/

theorem exec_swap (s : State) (tag : Byte) (a : ReqArgs) :
    exec (.swap tag a) s = act s.dev.hostUp (fun d => d.reqSwap tag a) s := rfl
theorem exec_load (s : State) (tag : Byte) (a : ReqArgs) :
    exec (.load tag a) s = act s.dev.hostUp (fun d => d.reqLoad tag a) s := rfl
theorem exec_unload (s : State) (tag : Byte) (a : ReqArgs) :
    exec (.unload tag a) s = act s.dev.hostUp (fun d => d.reqUnload tag a) s := rfl
theorem exec_replace (s : State) (tag : Byte) (a : ReqArgs) :
    exec (.replace tag a) s = act s.dev.hostUp (fun d => d.reqReplace tag a) s := rfl

theorem reqSwap_eq (d : Device) (tag : Byte) (a : ReqArgs) : d.reqSwap tag a =
    d.request 1 tag a (decide (bits a.a0 31 1 = 0) && args0 a) (d.swapOk (bits a.a0 0 0)) fun d =>
      { d.startReq 1 tag a.a0 with tck := { d.tck with swap := some ⟨tag, bits a.a0 0 0, .validating, 0⟩ } } := rfl

theorem reqUnload_eq (d : Device) (tag : Byte) (a : ReqArgs) : d.reqUnload tag a =
    d.request 3 tag a
      (decide (bits a.a0 31 1 = 0) && args0 a && decide ((d.modelAt (bits a.a0 0 0)).st ≠ .empty))
      ((d.inService || decide (d.chk.dev = .maint)) && d.load.isNone && !d.entryHeld (bits a.a0 0 0)) fun d =>
      { d.heldRead.startReq 3 tag a.a0 with load := some ⟨3, tag, a, bits a.a0 0 0, false⟩ } := rfl

/-- The state check of LOAD and UNLOAD. -/
theorem inService_or_maint {d : Device} (h : d.inService = true ∨ d.chk.dev = .maint) :
    (d.inService || decide (d.chk.dev = .maint)) = true := by
  simpa using h

/-- The tag that a swap names is read without touching anything but memory (R149). -/
theorem memStep_heldRead (d : Device) : MemStep d d.heldRead := by
  unfold Device.heldRead
  split
  · exact memStep_sense _ _ _
  · exact .refl d

theorem heldRead_of_none {d : Device} (h : d.tck.swap = none) : d.heldRead = d := by
  unfold Device.heldRead
  rw [h]

theorem modelAt_setModel_same (d : Device) (n : Nat) (m : Model) : (d.setModel n m).modelAt n = m := by
  by_cases h : n = 0 <;> simp [Device.setModel, Device.modelAt, h]

/-- Settles O22: each request passes its checks, and what remains is its body on the submitted device. -/
theorem planAndModelRequestsRun : Obligations.PlanAndModelRequestsRun := by
  unfold Obligations.PlanAndModelRequestsRun
  refine ⟨fun s tag a hd h1 h2 h3 => ?_, fun s tag a hd h1 h2 h3 h4 => ?_, fun s tag a hd h1 h2 h3 h4 h5 h6 => ?_,
    fun s tag a hd h1 h2 h3 => ?_⟩
  all_goals
    obtain ⟨hS, hR⟩ := onlyRegs_submitted s.dev a
    obtain ⟨r, e, p, n, b, hd'⟩ := exists_regs_of_sansRegs hS
  · refine .of_request (exec_swap s tag a) hd (reqSwap_eq _ _ _) (by simp [h1, h2]) h3 ?_
    rw [hd'] at hR ⊢
    exact ⟨rfl, rfl, hR.of_regs_eq rfl, rfl⟩
  · refine .of_request (exec_load s tag a) hd rfl h1 (by simp [inService_or_maint h2, h3, h4]) ?_
    rw [hd'] at hR ⊢
    unfold Device.loadInto
    refine ⟨?_, modelAt_setModel_same _ _ _, ?_⟩ <;> unfold Device.setModel <;> split
    · rfl
    · rfl
    · exact ⟨rfl, hR.of_regs_eq rfl, rfl⟩
    · exact ⟨rfl, hR.of_regs_eq rfl, rfl⟩
  · refine .of_request (exec_unload s tag a) hd (reqUnload_eq _ _ _) (by simp [h1, h2, h3])
      (by simp [inService_or_maint h4, h5, h6]) ?_
    have hM := memStep_heldRead (s.dev.submitted a)
    rw [hd'] at hM hR ⊢
    refine ⟨rfl, congrArg (· ++ [RunReq.mk 3 tag a.a0]) hM.running, ?_, fun hsw => ?_⟩
    · generalize Device.heldRead _ = h at hM ⊢
      exact congrArg (fun x : Device =>
        { x with
          load := some (LoadOp.mk 3 tag a (bits a.a0 0 0) false)
          hif := { h.hif with running := h.hif.running ++ [RunReq.mk 3 tag a.a0], sent := [], busyTill := 0 } }) hM.1
    · rw [heldRead_of_none (by exact hsw)]
      exact ⟨hR.of_regs_eq rfl, rfl⟩
  · refine .of_request (exec_replace s tag a) hd rfl h1 (by simp [h2, h3]) ?_
    rw [hd'] at hR ⊢
    exact ⟨rfl, rfl, rfl, hR.of_regs_eq rfl, rfl⟩

end Sys2Proof.Machine
end

section
/-! Background classes and the Prism self-test (R55 to R57, R164, R307 to R309). -/

namespace Sys2Proof.Machine

/-! ## Registers and fault pairs -/

theorem Device.fld_congr {d d' : Device} {k : Nat} (h : d'.reg k = d.reg k) (hi lo : Nat) : d'.fld k hi lo = d.fld k hi lo :=
  congrArg (fun v : Word => bits v hi lo) h

theorem Device.bitAt_congr {d d' : Device} {k : Nat} (h : d'.reg k = d.reg k) (i : Nat) : d'.bitAt k i = d.bitAt k i :=
  congrArg (fun v : Word => v.getLsbD i) h

theorem Device.fld_incr_same (d : Device) (k : Nat) : (d.incr k).fld k 31 0 = satAdd 32 (d.fld k 31 0) 1 :=
  Device.fld_count_same d k 31 0 1 (by decide)

theorem Device.pairRaise_alive {d : Device} (h : d.cmpAlive = true) (s : Nat) :
    d.pairRaise s = (d.setPair s { d.pairAt s with level := 1 }).setBit (Reg.fltCdPair (s / 32)) (s % 32) true := by
  rw [Device.pairRaise, h]
  rfl

/-- A raised pair stands at 10 (R285). -/
theorem Device.level_pairRaise {d : Device} (h : d.cmpAlive = true) (s : Nat) : ((d.pairRaise s).pairAt s).level = 1 := by
  rw [Device.pairRaise_alive h]
  exact congrArg (·.level) (tabGet_tabSet_same Pair.reset d.flt.pair s { d.pairAt s with level := 1 })

theorem Device.reg_pairRaise_ne (d : Device) {s j : Nat} (h : j ≠ Reg.fltCdPair (s / 32)) :
    (d.pairRaise s).reg j = d.reg j := by
  unfold Device.pairRaise
  split
  · rfl
  · exact Device.reg_setReg_ne _ _ h

/-- A raise of a pair touches registers and the pairs alone. -/
theorem sansRegs_pairRaise (d : Device) (s : Nat) :
    (d.pairRaise s).sansRegs = { d with flt := (d.pairRaise s).flt }.sansRegs := by
  unfold Device.pairRaise
  split <;> rfl

theorem cmpAlive_of_onlyRegs {d d' : Device} {l : List Nat} (h : OnlyRegs d d' l) : d'.cmpAlive = d.cmpAlive :=
  congrArg (a₁ := d'.sansRegs) (a₂ := d.sansRegs) Device.cmpAlive h.1

/-! ## Levels (R56) -/

@[simp] theorem Device.bgAt_setBg_same (d : Device) (c : BgClass) (b : Bg) : (d.setBg c b).bgAt c = b :=
  tabGet_tabSet_same _ _ _ _

theorem bgAt_of_onlyRegs {d d' : Device} {l : List Nat} (h : OnlyRegs d d' l) (c : BgClass) : d'.bgAt c = d.bgAt c :=
  congrArg (a₁ := d'.sansRegs) (a₂ := d.sansRegs) (·.bgAt c) h.1

theorem exec_bgLevelUrgent (s : State) (c : BgClass) (hot : Bool) :
    exec (.bgLevelUrgent ⟨c, hot⟩) s = act (s.dev.bgRuns c) (fun d => d.bgUrgent c hot) s := rfl
theorem exec_bgLevelForced (s : State) (c : BgClass) (hot : Bool) :
    exec (.bgLevelForced ⟨c, hot⟩) s = act (s.dev.bgRuns c) (fun d => d.bgForce c hot) s := rfl

/-- A step that changes nothing where its condition holds completes with nothing changed, whatever its precondition. -/
theorem Completes.of_act_id {c : Instr} {s : State} {ok : Bool} {f : Device → Device} (hc : exec c s = act ok f s)
    (hf : f s.dev = s.dev) : Completes c s fun d => d = s.dev := by
  cases ok with
  | true => exact .of_act hc rfl hf
  | false => exact .of_act_false hc rfl rfl

theorem cmpAlive_of_bgRuns {d : Device} {c : BgClass} (h : d.bgRuns c = true) : d.cmpAlive = true := by
  simp only [Device.bgRuns, Bool.and_eq_true] at h
  exact h.1.1.1

/-- A class that reaches 75 % of its deadline (R56). -/
theorem bgUrgent_due {d : Device} {c : BgClass} {hot : Bool} (hn : (d.bgAt c).level = .normal)
    (ha : 3 * bgDeadline hot c ≤ 4 * d.bgAge c) :
    d.bgUrgent c hot = (d.setBg c { d.bgAt c with level := .urgent }).raise Reg.tckStatus 5 :=
  if_neg (by simp [hn, ha])

/-- A class that reaches its deadline (R56). -/
theorem bgForce_due {d : Device} {c : BgClass} {hot : Bool} (hn : (d.bgAt c).level ≠ .forced)
    (ha : bgDeadline hot c ≤ d.bgAge c) :
    d.bgForce c hot = (((d.setBg c { d.bgAt c with level := .forced }).raise Reg.tckStatus 6).incr
      Reg.tckBgForcedCnt).pairRaise Src.bgForced :=
  if_neg (by simp [hn, ha])

/-- What becoming Urgent leaves. -/
theorem bgUrgent_spec {d : Device} {c : BgClass} {hot : Bool} (hn : (d.bgAt c).level = .normal)
    (ha : 3 * bgDeadline hot c ≤ 4 * d.bgAge c) :
    (d.bgUrgent c hot).bgAt c = { d.bgAt c with level := .urgent } ∧ (d.bgUrgent c hot).bitAt Reg.tckStatus 5 = true ∧
      SameRegs d (d.bgUrgent c hot) [Reg.tckStatus] ∧
      (d.bgUrgent c hot).sansRegs = { d with bg := (d.bgUrgent c hot).bg }.sansRegs := by
  rw [bgUrgent_due hn ha]
  have hR := onlyRegs_raise (d.setBg c { d.bgAt c with level := .urgent }) Reg.tckStatus 5
  have hbg : ((d.setBg c { d.bgAt c with level := .urgent }).raise Reg.tckStatus 5).bg = _ := congrArg (·.bg) hR.1
  refine ⟨(bgAt_of_onlyRegs hR c).trans (Device.bgAt_setBg_same _ _ _), bitAt_raise_same _ _ _ (by decide) (by decide)
    (by decide), hR.2, ?_⟩
  rw [hR.1, hbg]
  rfl

/-- What becoming Forced leaves. -/
theorem bgForce_spec {d : Device} {c : BgClass} {hot : Bool} (hc : d.cmpAlive = true) (hn : (d.bgAt c).level ≠ .forced)
    (ha : bgDeadline hot c ≤ d.bgAge c) :
    (d.bgForce c hot).bgAt c = { d.bgAt c with level := .forced } ∧ (d.bgForce c hot).bitAt Reg.tckStatus 6 = true ∧
      (d.bgForce c hot).fld Reg.tckBgForcedCnt 31 0 = satAdd 32 (d.fld Reg.tckBgForcedCnt 31 0) 1 ∧
      ((d.bgForce c hot).pairAt Src.bgForced).level = 1 ∧
      (d.bgForce c hot).sansRegs = { d with bg := (d.bgForce c hot).bg, flt := (d.bgForce c hot).flt }.sansRegs := by
  rw [bgForce_due hn ha]
  let d1 := d.setBg c { d.bgAt c with level := .forced }
  let d2 := d1.raise Reg.tckStatus 6
  let d3 := d2.incr Reg.tckBgForcedCnt
  have h2 := onlyRegs_raise d1 Reg.tckStatus 6
  have h3 : d3.sansRegs = d1.sansRegs := (sansRegs_incr d2 _).trans h2.1
  have hbg : (d3.pairRaise Src.bgForced).bg = d1.bg :=
    (congrArg (a₁ := (d3.pairRaise Src.bgForced).sansRegs) (·.bg) (sansRegs_pairRaise d3 _)).trans (congrArg (·.bg) h3)
  have hd3 : d3.cmpAlive = true := (congrArg (a₁ := d3.sansRegs) Device.cmpAlive h3).trans hc
  refine ⟨?_, ?_, ?_, Device.level_pairRaise hd3 _, ?_⟩
  · exact (congrArg (fun t => tabGet Bg.reset t (bgKey c)) hbg).trans (Device.bgAt_setBg_same d c _)
  · rw [Device.bitAt_congr (Device.reg_pairRaise_ne d3 (by decide)),
      Device.bitAt_congr (d := d2) (d' := d3) (Device.reg_setReg_ne _ _ (by decide))]
    exact bitAt_raise_same _ _ _ (by decide) (by decide) (by decide)
  · rw [Device.fld_congr (Device.reg_pairRaise_ne d3 (by decide)), 
      Device.fld_incr_same, Device.fld_congr (reg_raise_ne d1 6 (by decide) (by decide) (by decide))]
    rfl
  · rw [sansRegs_pairRaise]
    show _ = { d with bg := (d3.pairRaise Src.bgForced).bg, flt := _ }.sansRegs
    rw [hbg]
    exact congrArg (fun x : Device => { x with flt := (d3.pairRaise Src.bgForced).flt }) h3

end Sys2Proof.Machine
end

section
/-! Units of the background classes (R56, R164, R385 to R388). -/

namespace Sys2Proof.Machine

/-! ## The retention scan of the flash (R385 to R388) -/

/-- The device without its registers, the state of the flash and the fault collector. -/
def Device.sansFlash (d : Device) : Device := { d.sansRegs with nvm := Device.reset.nvm, flt := Device.reset.flt }

/-- From `d` to `d'` only registers but NVM_LDPC_CNT, the flash and fault pairs change. -/
def FlashStep (d d' : Device) : Prop := d'.sansFlash = d.sansFlash ∧ d'.reg Reg.nvmLdpcCnt = d.reg Reg.nvmLdpcCnt

theorem FlashStep.refl (d : Device) : FlashStep d d := ⟨rfl, rfl⟩

theorem FlashStep.trans {a b c : Device} (h : FlashStep a b) (g : FlashStep b c) : FlashStep a c :=
  ⟨g.1.trans h.1, g.2.trans h.2⟩

theorem FlashStep.q {a b : Device} (h : FlashStep a b) : b.q = a.q :=
  congrArg (a₁ := b.sansFlash) (a₂ := a.sansFlash) (·.q) h.1

theorem FlashStep.chk {a b : Device} (h : FlashStep a b) : b.chk = a.chk :=
  congrArg (a₁ := b.sansFlash) (a₂ := a.sansFlash) (·.chk) h.1

theorem FlashStep.mem {a b : Device} (h : FlashStep a b) : b.mem = a.mem :=
  congrArg (a₁ := b.sansFlash) (a₂ := a.sansFlash) (·.mem) h.1

theorem FlashStep.of_ite {a b c : Device} {p : Prop} [Decidable p] (h : FlashStep a b) (g : FlashStep a c) :
    FlashStep a (if p then b else c) := by
  split <;> assumption

theorem FlashStep.foldl {α : Type} (f : Device → α → Device) (hf : ∀ d x, FlashStep d (f d x)) (xs : List α) (d : Device) :
    FlashStep d (xs.foldl f d) := by
  induction xs generalizing d with
  | nil => exact .refl d
  | cons x xs ih => exact (hf d x).trans (ih _)

theorem FlashStep.of_onlyRegs {a b : Device} {l : List Nat} (h : OnlyRegs a b l) (hl : Reg.nvmLdpcCnt ∉ l) :
    FlashStep a b := by
  refine ⟨?_, h.2 _ hl (by decide)⟩
  unfold Device.sansFlash
  rw [h.1]

theorem flashStep_setBlk (d : Device) (p : Nat) (b : Blk) : FlashStep d (d.setBlk p b) := ⟨rfl, rfl⟩

theorem flashStep_pairRaise (d : Device) {s : Nat} (h : Reg.nvmLdpcCnt ≠ Reg.fltCdPair (s / 32)) :
    FlashStep d (d.pairRaise s) := by
  refine ⟨?_, Device.reg_pairRaise_ne d h⟩
  unfold Device.sansFlash
  rw [sansRegs_pairRaise]
  rfl

theorem flashStep_putBlk (d : Device) (n : Nat) : FlashStep d (d.putBlk n) := by
  unfold Device.putBlk
  split
  · exact .refl d
  · refine FlashStep.trans ?_ (flashStep_setBlk _ _ _)
    split
    · exact flashStep_setBlk d _ _
    · exact .refl d

theorem flashStep_levelWear (d : Device) : FlashStep d d.levelWear := by
  unfold Device.levelWear
  split
  · exact .refl d
  · split
    · exact .of_ite (flashStep_putBlk d _) (.refl d)
    · exact .refl d

theorem flashStep_retireBlk (d : Device) (p : Nat) : FlashStep d (d.retireBlk p) := by
  unfold Device.retireBlk
  refine .of_ite (.refl d) ?_
  refine FlashStep.trans ?_ (.of_onlyRegs (onlyRegs_raise _ _ _) (by decide))
  refine FlashStep.trans ?_ (.of_onlyRegs (onlyRegs_count _ _ _ _ _) (by decide))
  split
  · exact (flashStep_setBlk d p _).trans (flashStep_putBlk _ _)
  · exact flashStep_setBlk d p _

theorem flashStep_nvmUe (d : Device) : FlashStep d d.nvmUe :=
  ((FlashStep.of_onlyRegs (onlyRegs_incr d _) (by decide)).trans (.of_onlyRegs (onlyRegs_raise _ _ _) (by decide))).trans
    (flashStep_pairRaise _ (by decide))

/-- What a read of the flash met, once its corrected codewords have been counted. -/
theorem flashStep_flashMet (d : Device) (r : FlashRead) : FlashStep (d.count Reg.nvmLdpcCnt 31 0 r.corrected) (d.flashMet r) := by
  unfold Device.flashMet
  extract_lets d1 d2
  have h1 : FlashStep (d.count Reg.nvmLdpcCnt 31 0 r.corrected) d1 := .of_onlyRegs (onlyRegs_perf _ _ _ _) (by decide)
  have h2 : FlashStep (d.count Reg.nvmLdpcCnt 31 0 r.corrected) d2 :=
    .of_ite (h1.trans (.of_onlyRegs (onlyRegs_raise _ _ _) (by decide))) h1
  exact .of_ite (h2.trans (flashStep_nvmUe _)) h2

/-- What the retention scan found, once its corrected codewords have been counted. -/
theorem flashStep_flashReport (d : Device) (r : BgReport) :
    FlashStep (d.count Reg.nvmLdpcCnt 31 0 r.read.corrected) (d.flashReport r) := by
  unfold Device.flashReport
  extract_lets d1 d2
  have h1 : FlashStep (d.count Reg.nvmLdpcCnt 31 0 r.read.corrected) d1 :=
    (flashStep_flashMet d r.read).trans (.foldl _ flashStep_retireBlk _ _)
  have h2 : FlashStep (d.count Reg.nvmLdpcCnt 31 0 r.read.corrected) d2 := by
    refine .of_ite h1 (h1.trans (FlashStep.trans ?_ (.of_onlyRegs (onlyRegs_raise _ _ _) (by decide))))
    exact .foldl _ (fun d n => (flashStep_putBlk d n).trans (flashStep_levelWear _)) _ _
  refine .of_ite (h2.trans ?_) h2
  exact ⟨rfl, Device.reg_setReg_ne d2 _ (by decide)⟩

/-! ## A unit completes -/

theorem exec_bgUnitComplete (s : State) (c : BgClass) (r : BgReport) :
    exec (.bgUnitComplete c r) s = act (s.dev.bgRuns c) (fun d => d.unitDone c r) s := rfl

@[simp] theorem Device.prismAt_setPrism_same (d : Device) (q : Nat) (p : Prism) : (d.setPrism q p).prismAt q = p :=
  tabGet_tabSet_same _ _ _ _

/-- A class that has completed a unit is Normal, and its age restarts (R56). -/
theorem bgAt_bgDone (d : Device) (c : BgClass) : (d.bgDone c).bgAt c = ⟨.normal, d.q⟩ := d.bgAt_setBg_same c _

/-- A unit of the scan of the flash. -/
theorem flashDone_spec (d : Device) (r : BgReport) :
    ((d.flashReport r).bgDone .flash).bgAt .flash = ⟨.normal, d.q⟩ ∧ ((d.flashReport r).bgDone .flash).chk = d.chk ∧
      ((d.flashReport r).bgDone .flash).mem.data = d.mem.data ∧
      ((d.flashReport r).bgDone .flash).fld Reg.nvmLdpcCnt 31 0 = satAdd 32 (d.fld Reg.nvmLdpcCnt 31 0) r.read.corrected := by
  have h := flashStep_flashReport d r
  exact ⟨(bgAt_bgDone _ _).trans (congrArg (Bg.mk .normal) h.q), h.chk, congrArg (·.data) h.mem,
    (Device.fld_congr h.2 31 0).trans (Device.fld_count_same d Reg.nvmLdpcCnt 31 0 _ (by decide))⟩

/-- A pass of the self-test over Prism `q` (R307). -/
theorem passDone_spec (d : Device) (q : Nat) :
    (d.passDone q).prismAt q = { d.prismAt q with nextSeg := 0 } ∧ (d.passDone q).bgAt (.selftest q) = ⟨.normal, d.q⟩ ∧
      (d.passDone q).fld Reg.fltStPassCnt 31 0 = satAdd 32 (d.fld Reg.fltStPassCnt 31 0) 1 :=
  ⟨Device.prismAt_setPrism_same d q _, bgAt_bgDone _ _, Device.fld_incr_same (d.setPrism q _) _⟩

/-- What a completed unit of class `c` leaves (R56). -/
structure UnitDone (d : Device) (c : BgClass) (r : BgReport) (d' : Device) : Prop where
  done : c ≠ .scrub ∨ d.lapFull = true → d'.bgAt c = ⟨.normal, d.q⟩
  lap : c = .scrub → d.lapFull = false → d' = d
  chk : d'.chk = d.chk
  data : d'.mem.data = d.mem.data
  plain : (∃ f, c = .refresh f) ∨ c = .calib ∨ c = .telemetry → d' = { d with bg := d'.bg }
  pass : ∀ q, c = .selftest q → (d'.prismAt q).nextSeg = 0 ∧
    d'.fld Reg.fltStPassCnt 31 0 = satAdd 32 (d.fld Reg.fltStPassCnt 31 0) 1
  scan : c = .flash → d'.fld Reg.nvmLdpcCnt 31 0 = satAdd 32 (d.fld Reg.nvmLdpcCnt 31 0) r.read.corrected

/-- A unit of a class that only restarts its age. -/
theorem unitDone_plain (d : Device) {c : BgClass} (r : BgReport) (h : (∃ f, c = .refresh f) ∨ c = .calib ∨ c = .telemetry) :
    UnitDone d c r (d.bgDone c) where
  done _ := bgAt_bgDone d c
  lap hc := by rcases h with ⟨f, rfl⟩ | rfl | rfl <;> cases hc
  chk := rfl
  data := rfl
  plain _ := rfl
  pass q hc := by rcases h with ⟨f, rfl⟩ | rfl | rfl <;> cases hc
  scan hc := by rcases h with ⟨f, rfl⟩ | rfl | rfl <;> cases hc

/-- A unit completes, for each class. -/
theorem unitDone_spec (d : Device) (c : BgClass) (r : BgReport) : UnitDone d c r (d.unitDone c r) := by
  cases c with
  | refresh f => exact unitDone_plain d r (.inl ⟨f, rfl⟩)
  | calib => exact unitDone_plain d r (.inr (.inl rfl))
  | telemetry => exact unitDone_plain d r (.inr (.inr rfl))
  | scrub =>
    cases h : d.lapFull with
    | true =>
      have he : d.unitDone .scrub r = d.lapDone := if_pos h
      rw [he]
      exact ⟨fun _ => bgAt_bgDone _ _, fun _ hf => absurd (h.symm.trans hf) (by decide), rfl, rfl, by simp, by simp, by simp⟩
    | false =>
      have he : d.unitDone .scrub r = d := if_neg (by simp [h])
      rw [he]
      exact ⟨by simp [h], fun _ _ => rfl, rfl, rfl, fun _ => rfl, by simp, by simp⟩
  | flash =>
    obtain ⟨hb, hc, hm, hk⟩ := flashDone_spec d r
    exact ⟨fun _ => hb, by simp, hc, hm, by simp, by simp, fun _ => hk⟩
  | selftest q =>
    obtain ⟨hp, hb, hk⟩ := passDone_spec d q
    refine ⟨fun _ => hb, by simp, rfl, rfl, by simp, fun q' hq => ?_, by simp⟩
    obtain rfl := BgClass.selftest.inj hq
    exact ⟨congrArg (·.nextSeg) hp, hk⟩

end Sys2Proof.Machine
end

section
/-! Segments of the Prism self-test (R57, R307 to R309), and the obligation on background work. -/

namespace Sys2Proof.Machine

/-! ## Engines without work -/

/-- Engine `e` waits for no counter, holds no command and has nothing to issue. -/
def Device.engRest (d : Device) (e : Nat) : Prop :=
  (d.engAt e).blocked = none ∧ (d.engAt e).acts = [] ∧ (d.engAt e).queue = []

/-- The end of a segment wakes an engine without work to nothing. -/
theorem retry_issue_of_engRest {d : Device} {e : Nat} (h : d.engRest e) : (d.retry e).issue e = d := by
  obtain ⟨hb, ha, hq⟩ := h
  have hr : d.retry e = d := by
    unfold Device.retry
    rw [hb]
  have hi : d.issueN e (sumBy (fun a => a.total - a.next) (d.engAt e).acts) = d := by
    rw [ha]
    rfl
  rw [hr, Device.issue, hi, ite_self, Device.finishDue, ha]
  exact Device.settle_nil hq

/-- The engines of a Prism without work are woken to nothing. -/
theorem foldl_retry_issue {d : Device} {q : Nat} (l : List Nat) (h : ∀ i ∈ l, d.engRest (7 * q + i)) :
    l.foldl (fun d i => (d.retry (7 * q + i)).issue (7 * q + i)) d = d := by
  induction l with
  | nil => rfl
  | cons i l ih =>
    rw [List.foldl_cons, retry_issue_of_engRest (h i (.head _))]
    exact ih fun j hj => h j (.tail _ hj)

/-! ## The start of a segment -/

theorem exec_selftestSegmentStart (s : State) (q : Nat) :
    exec (.selftestSegmentStart q) s = act (decide (q < 24)) (fun d => d.segStart q) s := rfl
theorem exec_selftestSegmentEnd (s : State) (q : Nat) (r : SegResult) :
    exec (.selftestSegmentEnd q r) s = act (decide (q < 24)) (fun d => d.segEnd q r) s := rfl

/-- A segment that does not fit is deferred (R308). -/
theorem segStart_defer {d : Device} {q : Nat} (ht : d.segTurn q = true) (hf : d.segFits (segUs (d.prismAt q).nextSeg) = false) :
    d.segStart q = d.incr Reg.fltStDeferCnt := by
  unfold Device.segStart
  extract_lets l
  rw [ht, show d.segFits l = false from hf]
  rfl

/-- A segment that fits begins on an idle Prism (R57). -/
theorem segStart_begin {d : Device} {q : Nat} (ht : d.segTurn q = true)
    (hf : d.segFits (segUs (d.prismAt q).nextSeg) = true) (hn : (d.bgAt (.selftest q)).level ≠ .forced)
    (hi : d.prismIdle q = true) : d.segStart q = d.segBegin q := by
  unfold Device.segStart
  extract_lets l
  rw [ht, show d.segFits l = true from hf, hi]
  cases hl : (d.bgAt (.selftest q)).level with
  | normal => rfl
  | urgent => rfl
  | forced => exact absurd hl hn

theorem Device.prismAt_setPrism_ne (d : Device) {q p : Nat} (v : Prism) (h : p ≠ q) :
    (d.setPrism q v).prismAt p = d.prismAt p := tabGet_tabSet_ne _ _ _ h

/-! ## The end of a segment -/

/-- The Prism is released from its segment. -/
def Device.segRelease (d : Device) (q : Nat) : Device := d.setPrism q { d.prismAt q with seg := none }

/-- What a passing segment `n` leaves, before the engines go on. -/
def Device.segPassed (d : Device) (q n : Nat) : Device :=
  if 9 ≤ n then d.passDone q else d.setPrism q { d.prismAt q with nextSeg := n + 1 }

/-- What a failing segment `n` of an ME leaves, before the engines go on (R309). -/
def Device.segFailed (d : Device) (q n : Nat) : Device :=
  ((d.setPrism q { d.prismAt q with nextSeg := 0, failSeg := n }).segFence q n).reportEnd

theorem segEnd_pass {d : Device} {q n t : Nat} (hs : (d.prismAt q).seg = some (n, t))
    (he : ∀ i, i < 7 → ((d.segRelease q).segPassed q n).engRest (7 * q + i)) :
    d.segEnd q .pass = (d.segRelease q).segPassed q n := by
  unfold Device.segEnd
  rw [hs]
  exact foldl_retry_issue _ fun i hi => he i (List.mem_range.1 hi)

theorem segEnd_fail {d : Device} {q n t : Nat} (hs : (d.prismAt q).seg = some (n, t))
    (he : ∀ i, i < 7 → ((d.segRelease q).segFailed q n).engRest (7 * q + i)) :
    d.segEnd q .fail = (d.segRelease q).segFailed q n := by
  unfold Device.segEnd
  rw [hs]
  exact foldl_retry_issue _ fun i hi => he i (List.mem_range.1 hi)

/-! ## Fencing an engine -/

theorem engAt_fenceEngine_same (d : Device) (e : Nat) :
    (d.fenceEngine e).engAt e = { (d.engAt e).stop with fenced := true, faulted := true } :=
  Device.engAt_modEng_same _ _ _

theorem OtherEngines.fenceEngine (d : Device) (e : Nat) : OtherEngines d (d.fenceEngine e) e :=
  OtherEngines.setEng ((d.setMe e (d.meAt e).stop).dropSigs e) e _

/-- An engine without work has none once it is fenced. -/
theorem stop_rest {g : Eng} (h : g.acts = []) : g.stop.blocked = none ∧ g.stop.acts = [] ∧ g.stop.queue = [] := by
  simp [Eng.stop, h]

/-- The all-END report changes nothing of engines, registers, Prisms, pairs and memory. -/
theorem reportEnd_keeps (d : Device) : d.reportEnd.regs = d.regs ∧ d.reportEnd.prism = d.prism ∧ d.reportEnd.eng = d.eng ∧
    d.reportEnd.flt = d.flt ∧ d.reportEnd.mem = d.mem := by
  unfold Device.reportEnd
  split <;> exact ⟨rfl, rfl, rfl, rfl, rfl⟩

theorem raiseStep_pairRaise (d : Device) (s : Nat) : RaiseStep d (d.pairRaise s) := by
  unfold Device.pairRaise
  split
  · exact .refl d
  · rfl

/-- The registers of the engines lie away from those of the fault pairs. -/
theorem meErr_ne_fltCdPair {q : Nat} (hq : q < 24) (e : Nat) : Reg.meErr e ≠ Reg.fltCdPair (Src.meSelftest q / 32) := by
  simp only [Reg.meErr, Reg.fltCdPair, Src.meSelftest, engBase]
  omega

/-- The registers of the engines lie above those of the interrupt vectors. -/
theorem meErr_ne_irq (e : Nat) : Reg.meErr e ≠ 0x4800 ∧ Reg.meErr e ≠ 0x4804 := by
  simp only [Reg.meErr, engBase]
  omega

/-- ME `e` of Prism `q` has failed its test: its error bit and its source are raised (R309). -/
def Device.meFailed (d : Device) (e q : Nat) : Device :=
  ((d.raise (Reg.meErr e) 3).pairRaise (Src.meSelftest q)).reportEnd

theorem RaiseStep.prism {a b : Device} (h : RaiseStep a b) : b.prism = a.prism :=
  congrArg (a₁ := b.sansRaise) (a₂ := a.sansRaise) (·.prism) h

theorem RaiseStep.eng {a b : Device} (h : RaiseStep a b) : b.eng = a.eng :=
  congrArg (a₁ := b.sansRaise) (a₂ := a.sansRaise) (·.eng) h

theorem RaiseStep.mem {a b : Device} (h : RaiseStep a b) : b.mem = a.mem :=
  congrArg (a₁ := b.sansRaise) (a₂ := a.sansRaise) (·.mem) h

theorem meFailed_keeps (d : Device) (e q : Nat) :
    (d.meFailed e q).prism = d.prism ∧ (d.meFailed e q).eng = d.eng ∧ (d.meFailed e q).mem = d.mem := by
  have h := (RaiseStep.of_onlyRegs (onlyRegs_raise d (Reg.meErr e) 3)).trans (raiseStep_pairRaise _ (Src.meSelftest q))
  obtain ⟨-, hprism, heng, -, hmem⟩ := reportEnd_keeps ((d.raise (Reg.meErr e) 3).pairRaise (Src.meSelftest q))
  exact ⟨hprism.trans h.prism, heng.trans h.eng, hmem.trans h.mem⟩

/-- Raising a pair and sending the all-END report leave the bits of other registers. -/
theorem raise_then_report {d : Device} {s k i : Nat} (hc : d.cmpAlive = true) (hk : k ≠ Reg.fltCdPair (s / 32)) :
    (d.pairRaise s).reportEnd.bitAt k i = d.bitAt k i ∧ ((d.pairRaise s).reportEnd.pairAt s).level = 1 := by
  obtain ⟨hregs, -, -, hflt, -⟩ := reportEnd_keeps (d.pairRaise s)
  rw [Device.bitAt_congr (Device.reg_congr hregs _), Device.bitAt_congr (Device.reg_pairRaise_ne d hk), Device.pairAt, hflt]
  exact ⟨rfl, Device.level_pairRaise hc _⟩

theorem meFailed_raises {d : Device} {q : Nat} (e : Nat) (hq : q < 24) (hc : d.cmpAlive = true) :
    (d.meFailed e q).bitAt (Reg.meErr e) 3 = true ∧ ((d.meFailed e q).pairAt (Src.meSelftest q)).level = 1 := by
  have hc1 : (d.raise (Reg.meErr e) 3).cmpAlive = true := (cmpAlive_of_onlyRegs (onlyRegs_raise d _ _)).trans hc
  have hb1 := bitAt_raise_same d (Reg.meErr e) 3 (by decide) (meErr_ne_irq e).1 (meErr_ne_irq e).2
  exact (raise_then_report hc1 (meErr_ne_fltCdPair hq e)).imp_left (·.trans hb1)

/-- The device after segment `n` of Prism `q` has failed and the ME that it tests is fenced. -/
def Device.meFenced (d : Device) (q n : Nat) : Device :=
  (d.setPrism q { d.prismAt q with nextSeg := 0, failSeg := n }).fenceEngine (7 * q + n)

/-- A failing segment of an ME fences it and raises its source (R309). -/
theorem segFailed_me (d : Device) {q n : Nat} (hn : n < 4) : d.segFailed q n = (d.meFenced q n).meFailed (7 * q + n) q :=
  congrArg Device.reportEnd (if_pos hn)

theorem segFailed_spec {d : Device} {q n : Nat} (hq : q < 24) (hn : n < 4) (hc : d.cmpAlive = true) :
    (d.segFailed q n).prismAt q = { d.prismAt q with nextSeg := 0, failSeg := n } ∧
      (d.segFailed q n).engAt (7 * q + n) = { (d.engAt (7 * q + n)).stop with fenced := true, faulted := true } ∧
      OtherEngines d (d.segFailed q n) (7 * q + n) ∧ (d.segFailed q n).bitAt (Reg.meErr (7 * q + n)) 3 = true ∧
      ((d.segFailed q n).pairAt (Src.meSelftest q)).level = 1 ∧ (d.segFailed q n).mem = d.mem := by
  rw [segFailed_me d hn]
  obtain ⟨hprism, heng, hmem⟩ := meFailed_keeps (d.meFenced q n) (7 * q + n) q
  obtain ⟨hbit, hpair⟩ := meFailed_raises (d := d.meFenced q n) (7 * q + n) hq hc
  have he : ∀ x, ((d.meFenced q n).meFailed (7 * q + n) q).engAt x = (d.meFenced q n).engAt x := fun x =>
    congrArg (fun t => tabGet Eng.reset t x) heng
  refine ⟨?_, (he _).trans (engAt_fenceEngine_same _ _), fun x hx => ?_, hbit, hpair, hmem⟩
  · exact (congrArg (fun t => tabGet Prism.reset t q) hprism).trans (Device.prismAt_setPrism_same d q _)
  · exact (he x).trans (OtherEngines.fenceEngine _ _ x hx)

/-! ## The obligation -/

theorem segRelease_rest {d : Device} {q : Nat} (he : ∀ i, i < 7 → d.engRest (7 * q + i)) (n : Nat) :
    ∀ i, i < 7 → ((d.segRelease q).segPassed q n).engRest (7 * q + i) := by
  intro i hi
  unfold Device.segPassed
  split
  · exact he i hi
  · exact he i hi

/-- After a failing segment of an ME its engine holds nothing, and the others of the Prism what they held. -/
theorem segFailed_rest {d : Device} {q n : Nat} (hq : q < 24) (hn : n < 4) (hc : d.cmpAlive = true)
    (he : ∀ i, i < 7 → d.engRest (7 * q + i)) : ∀ i, i < 7 → (d.segFailed q n).engRest (7 * q + i) := by
  intro i hi
  obtain ⟨-, hsame, hother, -⟩ := segFailed_spec hq hn hc
  unfold Device.engRest
  by_cases h : i = n
  · subst h
    rw [hsame]
    exact stop_rest (he i hi).2.1
  · rw [hother _ (by omega)]
    exact he i hi

/-- A passing segment of Prism `q` has ended (R307). -/
theorem segPassed_spec (d : Device) (q n : Nat) :
    (((d.segRelease q).segPassed q n).prismAt q).seg = none ∧
      (n < 9 → (((d.segRelease q).segPassed q n).prismAt q).nextSeg = n + 1 ∧
        (d.segRelease q).segPassed q n = { d with prism := ((d.segRelease q).segPassed q n).prism }) ∧
      (9 ≤ n → (((d.segRelease q).segPassed q n).prismAt q).nextSeg = 0 ∧
        ((d.segRelease q).segPassed q n).bgAt (.selftest q) = ⟨.normal, d.q⟩ ∧
        ((d.segRelease q).segPassed q n).fld Reg.fltStPassCnt 31 0 = satAdd 32 (d.fld Reg.fltStPassCnt 31 0) 1) := by
  have hr : ((d.segRelease q).prismAt q).seg = none := congrArg (·.seg) (Device.prismAt_setPrism_same d q _)
  unfold Device.segPassed
  split
  next h =>
    obtain ⟨hp, hb, hk⟩ := passDone_spec (d.segRelease q) q
    rw [hp]
    exact ⟨hr, fun h9 => by omega, fun _ => ⟨rfl, hb, hk⟩⟩
  next h =>
    rw [Device.prismAt_setPrism_same]
    exact ⟨hr, fun _ => ⟨rfl, rfl⟩, fun h9 => absurd h9 h⟩

/-- Settles O18: the levels by the age, a unit by its class, a segment by its result, where the engines of the Prism are woken
to nothing. -/
theorem backgroundAndSelfTest : Obligations.BackgroundAndSelfTest := by
  unfold Obligations.BackgroundAndSelfTest
  refine ⟨⟨fun s c hot hb hn ha => ?_, fun s c hot ha => ?_, fun s c hot ha => ?_, fun s c hot hb hn ha => ?_,
    fun s c r hb => ?_⟩, fun s q hq ht hf => ?_, fun s q hq ht hf hl hi => ?_, fun s q n t hq hs he => ?_,
    fun s q n t hq hn hc hs he => ?_⟩
  · exact .of_act (exec_bgLevelUrgent s c hot) hb (bgUrgent_spec hn ha)
  · exact .of_act_id (exec_bgLevelUrgent s c hot) (if_pos (.inr ha))
  · exact .of_act_id (exec_bgLevelForced s c hot) (if_pos (.inr ha))
  · exact .of_act (exec_bgLevelForced s c hot) hb (bgForce_spec (cmpAlive_of_bgRuns hb) hn ha)
  · obtain ⟨hdone, hlap, hchk, hdata, hplain, hpass, hscan⟩ := unitDone_spec s.dev c r
    exact .of_act (exec_bgUnitComplete s c r) hb ⟨hdone, hlap, hchk, hdata, hplain, hpass, hscan⟩
  · refine .of_act (exec_selftestSegmentStart s q) (decide_eq_true hq) ?_
    rw [segStart_defer ht hf]
    exact ⟨Device.fld_incr_same s.dev _, onlyRegs_incr s.dev _⟩
  · refine .of_act (exec_selftestSegmentStart s q) (decide_eq_true hq) ?_
    rw [segStart_begin ht hf hl hi]
    exact ⟨Device.prismAt_setPrism_same s.dev q _, fun p hp => Device.prismAt_setPrism_ne s.dev _ hp, rfl⟩
  · refine .of_act (exec_selftestSegmentEnd s q .pass) (decide_eq_true hq) ?_
    rw [segEnd_pass hs (segRelease_rest he n)]
    exact segPassed_spec s.dev q n
  · refine .of_act (exec_selftestSegmentEnd s q .fail) (decide_eq_true hq) ?_
    rw [segEnd_fail hs (segFailed_rest (d := s.dev.segRelease q) hq hn hc he)]
    obtain ⟨hp, hsame, hother, hbit, hpair, hmem⟩ := segFailed_spec (d := s.dev.segRelease q) hq hn hc
    have hr : ((s.dev.segRelease q).prismAt q).seg = none := congrArg (·.seg) (Device.prismAt_setPrism_same s.dev q _)
    rw [hp, hsame]
    exact ⟨hr, rfl, rfl, rfl, hother, hbit, hpair, hmem⟩

end Sys2Proof.Machine
end

section
/-! What memory operations read and leave alone: they read no register, and write none of the checker die's. Two devices that
differ in registers alone go through them alike. -/

namespace Sys2Proof.Machine

/-! ## Writes of registers of the compute die -/

/-- From `d` to `d'` only registers below 0x2000000, those of the compute die, change. -/
def LowRegs (d d' : Device) : Prop := d'.sansRegs = d.sansRegs ∧ ∀ k, 0x2000000 ≤ k → d'.reg k = d.reg k

theorem LowRegs.refl (d : Device) : LowRegs d d := ⟨rfl, fun _ _ => rfl⟩

theorem LowRegs.trans {a b c : Device} (h : LowRegs a b) (g : LowRegs b c) : LowRegs a c :=
  ⟨g.1.trans h.1, fun k hk => (g.2 k hk).trans (h.2 k hk)⟩

theorem LowRegs.of_onlyRegs {a b : Device} {l : List Nat} (h : OnlyRegs a b l) (hl : ∀ k ∈ l, k < 0x2000000) : LowRegs a b := by
  refine ⟨h.1, fun k hk => h.2 k (fun hm => absurd (hl k hm) (by omega)) fun hm => ?_⟩
  simp only [irqRegs, Reg.prfStatus, List.mem_cons, List.not_mem_nil, or_false] at hm
  omega

theorem LowRegs.of_ite {a b c : Device} {p : Prop} [Decidable p] (h : LowRegs a b) (g : LowRegs a c) :
    LowRegs a (if p then b else c) := by
  split <;> assumption

theorem lowRegs_setReg (d : Device) {k : Nat} (v : Word) (h : k < 0x2000000) : LowRegs d (d.setReg k v) :=
  .of_onlyRegs (onlyRegs_setReg d k v) (by simpa using h)

theorem lowRegs_perf (d : Device) (u ev n : Nat) : LowRegs d (d.perf u ev n) := .of_onlyRegs (onlyRegs_perf d u ev n) (by simp)

theorem lowRegs_raise (d : Device) {k : Nat} (i : Nat) (h : k < 0x2000000) : LowRegs d (d.raise k i) :=
  .of_onlyRegs (onlyRegs_raise d k i) (by simpa using h)

theorem bits_lt (w : Word) (hi lo : Nat) : bits w hi lo < 2 ^ (hi + 1 - lo) := Nat.mod_lt _ (Nat.two_pow_pos _)

/-- An entry of the error log (R166). -/
theorem lowRegs_memLog (d : Device) (kind ctrl a : Nat) : LowRegs d (d.memLog kind ctrl a) := by
  have hi : d.fld Reg.memLogHead 4 0 < 32 := bits_lt _ 4 0
  unfold Device.memLog
  extract_lets i d1 d2 d3 d4
  have h1 : LowRegs d d1 := lowRegs_setReg d _ (by simp only [Reg.memLogAddr]; omega)
  have h2 : LowRegs d1 d2 := lowRegs_setReg d1 _ (by simp only [Reg.memLogInfo]; omega)
  have h3 : LowRegs d2 d3 := lowRegs_setReg d2 _ (by simp only [Reg.memLogNs]; omega)
  have h4 : LowRegs d3 d4 := lowRegs_setReg d3 _ (by simp only [Reg.memLogFrame]; omega)
  exact ((((h1.trans h2).trans h3).trans h4).trans (lowRegs_setReg d4 _ (by decide))).trans (lowRegs_setReg _ _ (by decide))

theorem lowRegs_memEvent (d : Device) (ev a n : Nat) : LowRegs d (d.memEvent ev a n) := by
  unfold Device.memEvent
  split
  · exact lowRegs_perf d _ _ _
  · exact .refl d

theorem lowRegs_dramEvent (d : Device) (ev a n : Nat) : LowRegs d (d.dramEvent ev a n) :=
  .of_ite (lowRegs_memEvent d _ _ _) (.refl d)

/-! ## Two devices that differ in registers alone -/

/-- The devices differ in registers alone. -/
def Twin (a b : Device) : Prop := a.sansRegs = b.sansRegs

/-- What reads no register is the same for both. -/
theorem Twin.read {α : Sort*} {a b : Device} (h : Twin a b) (g : Device → α) (hg : ∀ d : Device, g d.sansRegs = g d) : g a = g b := by
  rw [← hg a, show a.sansRegs = b.sansRegs from h, hg b]

theorem Twin.mem {a b : Device} (h : Twin a b) : a.mem = b.mem := h.read Device.mem fun _ => rfl

/-- An operation has led from `a` to `a'` and from `b` to `b'`: they differ in registers alone, and the registers of the checker
die are those of `a`. -/
structure MemRun (a a' b' : Device) : Prop where
  twin : Twin a' b'
  high : ∀ k, 0x2000000 ≤ k → a'.reg k = a.reg k

theorem MemRun.refl {a b : Device} (h : Twin a b) : MemRun a a b := ⟨h, fun _ _ => rfl⟩

theorem MemRun.trans {a a' b' a'' b'' : Device} (h : MemRun a a' b') (g : MemRun a' a'' b'') : MemRun a a'' b'' :=
  ⟨g.twin, fun k hk => (g.high k hk).trans (h.high k hk)⟩

theorem MemRun.of_lowRegs {a a' b b' : Device} (h : Twin a b) (ha : LowRegs a a') (hb : LowRegs b b') : MemRun a a' b' :=
  ⟨(ha.1.trans h).trans hb.1.symm, ha.2⟩

/-- A fold of such an operation over one list. -/
theorem MemRun.foldl {α : Type} {f : Device → α → Device} (hf : ∀ {a b} x, Twin a b → MemRun a (f a x) (f b x)) (xs : List α)
    {a b : Device} (h : Twin a b) : MemRun a (xs.foldl f a) (xs.foldl f b) := by
  induction xs generalizing a b with
  | nil => exact .refl h
  | cons x xs ih => exact (hf x h).trans (ih (hf x h).twin)

theorem memRun_setMem {a b : Device} (h : Twin a b) (m : MemSys) : MemRun a (a.setMem m) (b.setMem m) :=
  ⟨congrArg (fun x : Device => x.setMem m) h, fun _ _ => rfl⟩

theorem memRun_setMemOf {a b : Device} (h : Twin a b) (g : Device → MemSys) (hg : ∀ d : Device, g d.sansRegs = g d) :
    MemRun a (a.setMem (g a)) (b.setMem (g b)) := by
  rw [h.read g hg]
  exact memRun_setMem h _

/-! ## Notes and marks (R151, R166) -/

theorem memRun_pairRaise {a b : Device} (h : Twin a b) {s : Nat} (hs : s < 0x1000) : MemRun a (a.pairRaise s) (b.pairRaise s) := by
  refine ⟨h.read (fun d => (d.pairRaise s).sansRegs) fun d => ?_, fun k hk => Device.reg_pairRaise_ne a ?_⟩
  · unfold Device.pairRaise
    show (if !d.cmpAlive then d.sansRegs else _ : Device).sansRegs = _
    split <;> rfl
  · simp only [Reg.fltCdPair]
    omega

theorem facet_lt {a : Nat} {p : Place} (h : placeOf a = some p) : p.facet < 4 := by
  unfold placeOf at h
  split at h
  · obtain rfl := Option.some.inj h
    show a / 2 ^ 32 < 4
    omega
  split at h
  · cases h
  split at h
  · split at h
    · obtain rfl := Option.some.inj h
      show (a - fbufBase) / 0x1000000 < 4
      omega
    · cases h
  split at h
  · cases h
  split at h
  · obtain rfl := Option.some.inj h
    show (a - scrBase) / 0x400000 / 6 < 4
    omega
  split at h
  · cases h
  split at h
  · obtain rfl := Option.some.inj h
    show (a - accBase) / 0x100000 / 24 < 4
    omega
  · cases h

theorem memRun_memSrc {a b : Device} (h : Twin a b) {base : Nat} (hb : base < 0x800) (x : Nat) :
    MemRun a (a.memSrc base x) (b.memSrc base x) := by
  unfold Device.memSrc
  split
  next p hp => exact memRun_pairRaise h (by have := facet_lt hp; omega)
  next => exact .refl h

theorem memRun_noteCe {a b : Device} (h : Twin a b) (w : Nat) : MemRun a (a.noteCe w) (b.noteCe w) := by
  have hl : ∀ d : Device, LowRegs d (if ((d.incr Reg.memCeCnt).raise Reg.memStatus 0).bitAt Reg.memCtrl 2
      then ((d.incr Reg.memCeCnt).raise Reg.memStatus 0).memLog 1 (ctrlOf w) w else (d.incr Reg.memCeCnt).raise Reg.memStatus 0) :=
    fun d =>
    have h0 : LowRegs d ((d.incr Reg.memCeCnt).raise Reg.memStatus 0) :=
      (lowRegs_setReg d _ (by decide)).trans (lowRegs_raise _ _ (by decide))
    .of_ite (h0.trans (lowRegs_memLog _ _ _ _)) h0
  have h1 := MemRun.of_lowRegs h (hl a) (hl b)
  exact h1.trans (memRun_memSrc h1.twin (by decide) w)

theorem memRun_noteFixed {a b : Device} (h : Twin a b) (kind w : Nat) : MemRun a (a.noteFixed kind w) (b.noteFixed kind w) := by
  have hl : ∀ d : Device, LowRegs d (((if kind = 2 then d.incr Reg.memUeFixedCnt else d).raise Reg.memStatus 1).memLog kind
      (ctrlOf w) w) := fun d =>
    ((LowRegs.of_ite (lowRegs_setReg d _ (by decide)) (.refl d)).trans (lowRegs_raise _ _ (by decide))).trans
      (lowRegs_memLog _ _ _ _)
  have h1 := MemRun.of_lowRegs h (hl a) (hl b)
  exact h1.trans (memRun_memSrc h1.twin (by decide) w)

theorem memRun_poisonWord {a b : Device} (h : Twin a b) (w : Nat) : MemRun a (a.poisonWord w) (b.poisonWord w) := by
  have hl : ∀ d : Device, LowRegs d (((d.incr Reg.memPoisonCnt).raise Reg.memStatus 2).memLog 3 (ctrlOf w) w) := fun d =>
    ((lowRegs_setReg d _ (by decide)).trans (lowRegs_raise _ _ (by decide))).trans (lowRegs_memLog _ _ _ _)
  unfold Device.poisonWord
  rw [h.mem]
  have h1 := memRun_setMem h (b.mem.setSyn w (patAt w))
  have h2 := h1.trans (.of_lowRegs h1.twin (hl _) (hl _))
  exact h2.trans (memRun_memSrc h2.twin (by decide) w)

/-! ## Page decode (R151) -/

theorem memRun_ceWord {a b : Device} (h : Twin a b) (w : Nat) : MemRun a (a.ceWord w) (b.ceWord w) := by
  unfold Device.ceWord
  rw [h.mem]
  split
  · have h1 := memRun_setMem h
    exact (h1 _).trans (memRun_noteCe (h1 _).twin w)
  · exact .refl h

/-- A check word with syndrome `s` of span `w` that the word code corrects is written back, with residues `f`. -/
def Device.fixCheck (d : Device) (w : Nat) (s : Byte) (f : Nat → SpanErr) : Device :=
  match wordDec w s.toNat with
  | .fixed x => (d.setMem (d.mem.setSpan w (f x))).noteCe w
  | _ => d

theorem memRun_fixCheck {a b : Device} (h : Twin a b) (w : Nat) (s : Byte) (f : Nat → SpanErr) :
    MemRun a (a.fixCheck w s f) (b.fixCheck w s f) := by
  unfold Device.fixCheck
  rw [h.mem]
  split
  · exact (memRun_setMem h _).trans (memRun_noteCe (memRun_setMem h _).twin w)
  · exact .refl h

/-- Both check words of span `w`, one after the other. -/
theorem fixChecks_eq (d : Device) (w : Nat) : d.fixChecks w =
    (let e := d.mem.spanAt w
     let d := d.fixCheck w e.cw0 fun x => { e with s0 := e.s0 ^^^ BitVec.ofNat 64 x, cw0 := 0 }
     let e := d.mem.spanAt w
     d.fixCheck w e.cw1 fun x => { e with s1 := e.s1 ^^^ BitVec.ofNat 64 x, cw1 := 0 }) := rfl

theorem memRun_fixChecks {a b : Device} (h : Twin a b) (w : Nat) : MemRun a (a.fixChecks w) (b.fixChecks w) := by
  rw [fixChecks_eq, fixChecks_eq, h.mem]
  have h1 := memRun_fixCheck h w
  simp only
  rw [(h1 _ _).twin.mem]
  exact (h1 _ _).trans (memRun_fixCheck (h1 _ _).twin w _ _)

theorem memRun_fixWord {a b : Device} (h : Twin a b) (w : Nat) (e : DWord) : MemRun a (a.fixWord w e) (b.fixWord w e) := by
  unfold Device.fixWord
  rw [h.mem]
  exact (memRun_setMem h _).trans (memRun_noteFixed (memRun_setMem h _).twin 2 w)

theorem memRun_giveUp {a b : Device} (h : Twin a b) (s : Nat) (es : List Nat) : MemRun a (a.giveUp s es) (b.giveUp s es) := by
  have h1 : MemRun a (es.foldl (fun d w => d.poisonWord w) a) (es.foldl (fun d w => d.poisonWord w) b) :=
    .foldl (fun w h => memRun_poisonWord h w) es h
  unfold Device.giveUp
  revert h1
  generalize es.foldl (fun d w => d.poisonWord w) a = a1
  generalize es.foldl (fun d w => d.poisonWord w) b = b1
  intro h1
  show MemRun a (a1.setMem (a1.mem.setSpan s .zero)) _
  rw [h1.twin.mem]
  exact h1.trans (memRun_setMem h1.twin _)

theorem memRun_pageDecode {a b : Device} (h : Twin a b) (s : Nat) : MemRun a (a.pageDecode s) (b.pageDecode s) := by
  have h0 := MemRun.of_lowRegs h (lowRegs_memEvent a 0xC3 s 1) (lowRegs_memEvent b 0xC3 s 1)
  have h1 := h0.trans (.foldl (fun w h => memRun_ceWord h w) (b.mem.flagged s) h0.twin)
  have h2 := h1.trans (memRun_fixChecks h1.twin s)
  unfold Device.pageDecode
  rw [h.mem]
  revert h2
  generalize ((b.mem.flagged s).foldl (fun d w => d.ceWord w) (a.memEvent 0xC3 s 1)).fixChecks s = a1
  generalize ((b.mem.flagged s).foldl (fun d w => d.ceWord w) (b.memEvent 0xC3 s 1)).fixChecks s = b1
  intro h2
  refine h2.trans ?_
  have ht := h2.twin
  clear h h0 h1 h2
  simp only
  rw [ht.mem]
  split
  · split
    · exact (memRun_setMem ht _).trans (memRun_noteFixed (memRun_setMem ht _).twin 5 s)
    · exact .refl ht
  · split
    · split
      · exact memRun_fixWord ht _ _
      · exact memRun_giveUp ht _ _
    · split
      · exact memRun_fixWord ht _ _
      · split
        · exact memRun_fixWord ht _ _
        · exact memRun_giveUp ht _ _
  · split
    · exact memRun_giveUp ht _ _
    · exact (memRun_fixWord ht _ _).trans (memRun_fixWord (memRun_fixWord ht _ _).twin _ _)
  · exact memRun_giveUp ht _ _

/-- The end of a decode releases the requests that waited for it (R152). -/
def Device.released (d : Device) (s : Nat) : Device :=
  { d.setMem { d.mem with decode := d.mem.decode.erase s } with
    eng := d.eng.map fun g => (g.1, g.2.keepHeld fun x => decide (x ≠ s)) }

theorem memRun_released {a b : Device} (h : Twin a b) (s : Nat) : MemRun a (a.released s) (b.released s) :=
  ⟨h.read (fun x : Device => (x.released s).sansRegs) fun _ => rfl, fun _ _ => rfl⟩

theorem memRun_pageEnd {a b : Device} (h : Twin a b) (s : Nat) : MemRun a (a.pageEnd s) (b.pageEnd s) :=
  (memRun_pageDecode h s).trans (memRun_released (memRun_pageDecode h s).twin s)

/-! ## Loading, storing and draining. `dec` decodes a span. -/

theorem Twin.needsDecode {a b : Device} (h : Twin a b) (w : Nat) : a.needsDecode w = b.needsDecode w :=
  h.read (fun d => d.needsDecode w) fun _ => rfl

section
variable {dec : Device → Nat → Device} (hdec : ∀ {a b} s, Twin a b → MemRun a (dec a s) (dec b s))
include hdec

theorem memRun_iteDecode {a b : Device} (h : Twin a b) (w : Nat) :
    MemRun a (if a.needsDecode w then dec a (spanBase w) else a) (if b.needsDecode w then dec b (spanBase w) else b) := by
  rw [h.needsDecode]
  split
  · exact hdec _ h
  · exact .refl h

theorem memRun_storeWith {a b : Device} (h : Twin a b) (w v : Nat) (poison : Bool) :
    MemRun a (a.storeWith dec w v poison) (b.storeWith dec w v poison) := by
  have h1 := memRun_iteDecode hdec h w
  unfold Device.storeWith
  split
  · exact .refl h
  · simp only
    rw [h1.twin.mem]
    exact h1.trans (memRun_setMem h1.twin _)

theorem memRun_loadWith {a b : Device} (h : Twin a b) (w : Nat) :
    MemRun a (a.loadWith dec w).1 (b.loadWith dec w).1 ∧ (a.loadWith dec w).2 = (b.loadWith dec w).2 := by
  have h1 := memRun_iteDecode hdec h w
  have h2 := h1.trans (memRun_ceWord h1.twin w)
  unfold Device.loadWith
  split
  · exact ⟨.refl h, rfl⟩
  · exact ⟨h2, by simp only [h2.twin.mem]⟩

theorem memRun_drainEntryWith {a b : Device} (h : Twin a b) (t : MergeEnt) :
    MemRun a (a.drainEntryWith dec t) (b.drainEntryWith dec t) := by
  unfold Device.drainEntryWith
  have h1 : MemRun a ((List.range 8).foldl (fun d i => (d.loadWith dec (t.line + 8 * i)).1) a)
      ((List.range 8).foldl (fun d i => (d.loadWith dec (t.line + 8 * i)).1) b) :=
    .foldl (f := fun d i => (d.loadWith dec (t.line + 8 * i)).1) (fun i h => (memRun_loadWith hdec h _).1) _ h
  refine h1.trans (.foldl (fun i h => ?_) _ h1.twin)
  simp only
  split
  · exact .refl h
  · split
    · exact memRun_storeWith hdec h _ _ _
    · have hl := memRun_loadWith hdec h (t.line + 8 * i)
      revert hl
      obtain ⟨a1, v⟩ := Device.loadWith dec _ (t.line + 8 * i)
      obtain ⟨b1, u⟩ := Device.loadWith dec _ (t.line + 8 * i)
      rintro ⟨hr, hv⟩
      obtain rfl : v = u := hv
      exact hr.trans (memRun_storeWith hdec hr.twin _ _ _)

theorem memRun_drainWith {a b : Device} (h : Twin a b) (t : MergeEnt) :
    MemRun a (a.drainWith dec t) (b.drainWith dec t) := by
  unfold Device.drainWith
  rw [h.mem]
  split
  · exact .refl h
  · have h1 := memRun_setMem h { b.mem with merge := b.mem.merge.filter (· ≠ t) }
    have h2 := h1.trans (.of_lowRegs h1.twin (lowRegs_memEvent _ 0xC2 t.line 1) (lowRegs_memEvent _ 0xC2 t.line 1))
    exact h2.trans (memRun_drainEntryWith hdec h2.twin t)

end

theorem memRun_spanDecode (n : Nat) {a b : Device} (s : Nat) (h : Twin a b) : MemRun a (spanDecode n a s) (spanDecode n b s) := by
  induction n generalizing a b s with
  | zero => exact memRun_pageEnd h s
  | succ n ih =>
    unfold spanDecode
    rw [h.mem]
    have h1 := memRun_setMem h { b.mem with decode := b.mem.decode.erase s }
    have h2 := h1.trans (.foldl (fun t h => memRun_drainWith (fun s h => ih s h) h t)
      (b.mem.merge.filter fun t => decide (spanBase t.line = s)) h1.twin)
    exact h2.trans (memRun_pageEnd h2.twin s)

theorem memRun_decodeSpan {a b : Device} (s : Nat) (h : Twin a b) : MemRun a (a.decodeSpan s) (b.decodeSpan s) := by
  unfold Device.decodeSpan
  rw [h.mem]
  exact memRun_spanDecode _ s h

theorem memRun_storeWord {a b : Device} (h : Twin a b) (w v : Nat) (poison : Bool) :
    MemRun a (a.storeWord w v poison) (b.storeWord w v poison) := memRun_storeWith memRun_decodeSpan h w v poison

theorem memRun_loadWord {a b : Device} (h : Twin a b) (w : Nat) :
    MemRun a (a.loadWord w).1 (b.loadWord w).1 ∧ (a.loadWord w).2 = (b.loadWord w).2 := memRun_loadWith memRun_decodeSpan h w

theorem memRun_drain {a b : Device} (h : Twin a b) (t : MergeEnt) : MemRun a (a.drain t) (b.drain t) :=
  memRun_drainWith memRun_decodeSpan h t

/-! ## Writing bytes -/

theorem memRun_dramEvent {a b : Device} (h : Twin a b) (ev x n : Nat) : MemRun a (a.dramEvent ev x n) (b.dramEvent ev x n) :=
  .of_lowRegs h (lowRegs_dramEvent _ _ _ _) (lowRegs_dramEvent _ _ _ _)

theorem memRun_writeLine {a b : Device} (h : Twin a b) (x : Nat) (bs : List Byte) (poison : Bool) :
    MemRun a (a.writeLine x bs poison) (b.writeLine x bs poison) := by
  unfold Device.writeLine
  simp only
  rw [h.mem]
  split
  · exact memRun_setMem h _
  · split
    · refine .foldl (fun i h => ?_) _ h
      exact memRun_storeWord h _ _ _
    · have hroom : ∀ l : List MergeEnt, MemRun a
          (if 16 ≤ l.length then match l with | t :: _ => a.drain t | [] => a else a)
          (if 16 ≤ l.length then match l with | t :: _ => b.drain t | [] => b else b) := by
        intro l
        split
        · split
          · exact memRun_drain h _
          · exact .refl h
        · exact .refl h
      have h1 := hroom (b.mem.merge.filter fun t => decide (t.ctrl = ctrlOf x))
      revert h1
      generalize (if 16 ≤ _ then _ else a) = a1
      generalize (if 16 ≤ _ then _ else b) = b1
      exact fun h1 => h1.trans (memRun_setMemOf h1.twin (fun d =>
        { d.mem with
          merge := d.mem.merge ++
            [(⟨ctrlOf x, x / 64 * 64, 0, List.replicate 64 0, 0, d.q⟩ : MergeEnt).add (x % 64) bs poison] }) fun _ => rfl)

theorem memRun_iteSpan {a b : Device} (h : Twin a b) (s : Nat) :
    MemRun a (if s ∈ a.mem.decode then a.decodeSpan s else a) (if s ∈ b.mem.decode then b.decodeSpan s else b) := by
  rw [h.mem]
  split
  · exact memRun_decodeSpan s h
  · exact .refl h

/-- Writing bytes. -/
theorem memRun_writeMem {a b : Device} (h : Twin a b) (x : Nat) (bs : List Byte) (poison : Bool) :
    MemRun a (a.writeMem x bs poison) (b.writeMem x bs poison) := by
  refine .foldl (fun {a b} p h => ?_) _ h
  have h1 := memRun_iteSpan h (spanBase p.1)
  revert h1
  generalize (if spanBase p.1 ∈ a.mem.decode then a.decodeSpan (spanBase p.1) else a) = a1
  generalize (if spanBase p.1 ∈ b.mem.decode then b.decodeSpan (spanBase p.1) else b) = b1
  intro h1
  refine h1.trans ?_
  have h2 := h1.twin
  simp only
  rw [h2.read (·.mapped p.1) fun _ => rfl]
  split
  · exact .refl h2
  · split
    · refine .foldl (fun t h => ?_) _ h2
      split
      · exact memRun_storeWord h _ _ _
      · have hl := memRun_loadWord h (wordBase t.1)
        revert hl
        obtain ⟨a1, v⟩ := Device.loadWord _ (wordBase t.1)
        obtain ⟨b1, u⟩ := Device.loadWord _ (wordBase t.1)
        rintro ⟨hr, hv⟩
        obtain rfl : v = u := hv
        exact hr.trans (memRun_storeWord hr.twin _ _ _)
    · exact (memRun_dramEvent h2 _ _ _).trans (memRun_writeLine (memRun_dramEvent h2 _ _ _).twin _ _ _)

/-! ## Reading bytes -/

/-- A read of a poisoned word is counted (R160). -/
theorem memRun_counted {a a1 b1 : Device} (h : MemRun a a1 b1) (c : Bool) (v : Nat) (p : Bool) :
    MemRun a (if c = true then ((a1.incr Reg.memPoisonReadCnt).raise Reg.memStatus 4, v, p) else (a1, v, p)).1
        (if c = true then ((b1.incr Reg.memPoisonReadCnt).raise Reg.memStatus 4, v, p) else (b1, v, p)).1 ∧
      (if c = true then ((a1.incr Reg.memPoisonReadCnt).raise Reg.memStatus 4, v, p) else (a1, v, p)).2 =
        (if c = true then ((b1.incr Reg.memPoisonReadCnt).raise Reg.memStatus 4, v, p) else (b1, v, p)).2 := by
  have hl : ∀ d : Device, LowRegs d ((d.incr Reg.memPoisonReadCnt).raise Reg.memStatus 4) := fun d =>
    (lowRegs_setReg d _ (by decide)).trans (lowRegs_raise _ _ (by decide))
  split
  · exact ⟨h.trans (.of_lowRegs h.twin (hl _) (hl _)), rfl⟩
  · exact ⟨h, rfl⟩

theorem memRun_seeAs {a b : Device} (h : Twin a b) (w : Nat) :
    MemRun a (a.seeAs .any w).1 (b.seeAs .any w).1 ∧ (a.seeAs .any w).2 = (b.seeAs .any w).2 := by
  have hl := memRun_loadWord h w
  unfold Device.seeAs
  simp only [ne_eq, not_true_eq_false, decide_false, Bool.false_and, Bool.false_eq_true, if_false, reduceCtorEq]
  revert hl
  obtain ⟨a1, v⟩ := a.loadWord w
  obtain ⟨b1, u⟩ := b.loadWord w
  rintro ⟨hr, hv⟩
  obtain rfl : v = u := hv
  replace hr : MemRun a a1 b1 := hr
  simp only [hr.twin.mem, hr.twin.read (·.oldAt w) fun _ => rfl]
  exact memRun_counted hr _ _ _

/-- Reading bytes: the device it leaves, and what it reads. -/
theorem memRun_readMem {a b : Device} (h : Twin a b) (x n : Nat) :
    MemRun a (a.readMem x n).dev (b.readMem x n).dev ∧ (a.readMem x n).bytes = (b.readMem x n).bytes ∧
      (a.readMem x n).poison = (b.readMem x n).poison := by
  have key : ∀ (l : List (Nat × Nat × Nat)) (s t : ReadRes),
      MemRun a s.dev t.dev ∧ s.bytes = t.bytes ∧ s.poison = t.poison →
      let f : ReadRes → Nat × Nat × Nat → ReadRes := fun s p =>
        let w := wordBase p.1
        let (d, v, bad) := s.dev.seeAs .any w
        ⟨d, s.bytes ++ slice (toLe (wordSize w) v) (p.1 - w) p.2.2, s.poison || bad⟩
      MemRun a (l.foldl f s).dev (l.foldl f t).dev ∧ (l.foldl f s).bytes = (l.foldl f t).bytes ∧
        (l.foldl f s).poison = (l.foldl f t).poison := by
    intro l
    induction l with
    | nil => exact fun s t h => h
    | cons p l ih =>
      rintro s t ⟨hd, hb, hp⟩
      obtain ⟨hr, hv⟩ := memRun_seeAs hd.twin (wordBase p.1)
      refine ih _ _ ⟨hd.trans hr, ?_, ?_⟩
      · simp only [hb, hv]
      · simp only [hp, hv]
  exact key _ _ _ ⟨memRun_dramEvent h _ _ _, rfl, rfl⟩

theorem memRun_sense {a b : Device} (h : Twin a b) (x n : Nat) : MemRun a (a.sense x n) (b.sense x n) := (memRun_readMem h x n).1

theorem Twin.peek {a b : Device} (h : Twin a b) (x n : Nat) : a.peek x n = b.peek x n := (memRun_readMem h x n).2.1

theorem Twin.peekPoison {a b : Device} (h : Twin a b) (x n : Nat) : a.peekPoison x n = b.peekPoison x n := (memRun_readMem h x n).2.2

end Sys2Proof.Machine
end

section
/-! FRAME_SYNC edges, sync windows and test frames (R42 to R45, R306). -/

namespace Sys2Proof.Machine

/-- Devices that differ in registers alone do so with the same tick state. -/
theorem sansRegs_with_tck {a b : Device} (h : b.sansRegs = a.sansRegs) (t : Tck) :
    ({ b with tck := t } : Device).sansRegs = ({ a with tck := t } : Device).sansRegs :=
  congrArg (fun x : Device => { x with tck := t }) h

/-! ## Edges in and out of the window (R42 to R45) -/

theorem exec_frameSyncEdge (s : State) : exec .frameSyncEdge s = act s.dev.syncUsed Device.syncEdge s := rfl
theorem exec_syncWindowClose (s : State) : exec .syncWindowClose s = act s.dev.syncUsed Device.windowClose s := rfl
theorem exec_syncAcq (s : State) : exec .syncAcq s = act s.dev.hostUp Device.syncAcq s := rfl
theorem exec_testRun (s : State) (run : Bool) :
    exec (.testRun run) s = act s.dev.hostUp (fun d => d.testRunWrite run) s := rfl
theorem exec_testPlanVerified (s : State) (l : List (List Byte)) (read : FlashRead) :
    exec (.testPlanVerified l read) s = act s.dev.cmpAlive (fun d => d.testVerified l read) s := rfl
theorem exec_tick (s : State) : exec .tick s = act s.dev.ticking (fun d => d.tickNow false) s := rfl

/-- An edge in LOCKED or FREE_RUN is judged. -/
theorem syncEdge_judge {d : Device} (h : d.tck.sync = .locked ∨ d.tck.sync = .freeRun) : d.syncEdge = d.edgeJudge := by
  unfold Device.syncEdge
  rcases h with h | h <;> rw [h]

/-- The edge after SYNC_ACQ in MAINT sets the phase (R45). -/
theorem edgeAcquire_maint {d : Device} (h : d.chk.dev = .maint) : d.edgeAcquire = { d with
    tck := { d.tck with
      sync := .locked, oowRun := 0, inRun := 0, edgeUsed := true
      phaseRef := d.timNs, expected := d.timNs + d.tck.period * 1000 } } := if_pos h

/-- An edge out of its window, or the second one in it (R43). -/
theorem edgeJudge_out {d : Device} (h : d.tck.edgeUsed = true ∨ d.tck.period * 1000 < 64 * (d.syncOffset d.timNs).natAbs) :
    d.edgeJudge = d.edgeOut := if_pos h

/-- An edge in its window is used (R42). -/
theorem edgeJudge_in {d : Device} (hu : d.tck.edgeUsed = false)
    (ho : 64 * (d.syncOffset d.timNs).natAbs ≤ d.tck.period * 1000) :
    d.edgeJudge =
      (let u : Device := { d with tck := { d.tck with edgeUsed := true } }
       if d.tck.sync = .locked then u.edgeApply (d.syncOffset d.timNs)
       else if d.tck.inRun + 1 < 4 then { d with tck := { d.tck with edgeUsed := true, inRun := d.tck.inRun + 1 } }
       else u.edgeApply (d.syncOffset d.timNs)) := by
  unfold Device.edgeJudge
  exact if_neg (by simp [hu, ho])

/-- An edge in its window is applied in LOCKED, and in FREE_RUN as the fourth in a row (R42, R44). -/
theorem edgeJudge_apply {d : Device} (hs : d.tck.sync = .locked ∨ (d.tck.sync = .freeRun ∧ 3 ≤ d.tck.inRun))
    (hu : d.tck.edgeUsed = false) (ho : 64 * (d.syncOffset d.timNs).natAbs ≤ d.tck.period * 1000) :
    d.edgeJudge = ({ d with tck := { d.tck with edgeUsed := true } } : Device).edgeApply (d.syncOffset d.timNs) := by
  rw [edgeJudge_in hu ho]
  rcases hs with hs | ⟨hs, hn⟩
  · exact if_pos hs
  · refine (if_neg (by simp [hs])).trans (if_neg (by omega))

/-- Raising a status bit keeps the bits that are set. -/
theorem bitAt_raise_of_bitAt {d : Device} {k j : Nat} (i : Nat) (hi : i < 32) (hk : k ≠ 0x4800) (hk' : k ≠ 0x4804)
    (h : d.bitAt k j = true) : (d.raise k i).bitAt k j = true := by
  unfold Device.bitAt
  rw [reg_raise_same d k i hk hk', bit_putBit _ _ _ _ hi]
  split
  · rfl
  · exact h

/-- An edge is counted out of its window (R43). -/
def Device.edgeCounted (d : Device) : Device := (d.raise Reg.tckStatus 1).count Reg.tckSyncCnt 15 0 1

theorem edgeCounted_spec (d : Device) :
    d.edgeCounted.bitAt Reg.tckStatus 1 = true ∧
      d.edgeCounted.fld Reg.tckSyncCnt 15 0 = satAdd 16 (d.fld Reg.tckSyncCnt 15 0) 1 ∧
      OnlyRegs d d.edgeCounted [Reg.tckStatus, Reg.tckSyncCnt] := by
  refine ⟨?_, ?_, ((onlyRegs_raise d _ 1).mono (by simp)).trans ((onlyRegs_count _ _ _ _ _).mono (by simp))⟩
  · refine (Device.bitAt_congr (d := d.raise Reg.tckStatus 1) (Device.reg_setReg_ne _ _ (by decide)) 1).trans ?_
    exact bitAt_raise_same d _ _ (by decide) (by decide) (by decide)
  · refine (Device.fld_count_same (d.raise Reg.tckStatus 1) Reg.tckSyncCnt 15 0 1 (by decide)).trans ?_
    rw [Device.fld_congr (reg_raise_ne d 1 (by decide) (by decide) (by decide))]

/-- An edge that is not the fourth out of its window in LOCKED. -/
theorem edgeOut_stay {d : Device} (h : ¬ (3 ≤ d.tck.oowRun ∧ d.tck.sync = .locked)) : d.edgeOut =
    { d.edgeCounted with tck := { d.edgeCounted.tck with oowRun := min 4 (d.edgeCounted.tck.oowRun + 1), inRun := 0 } } := by
  have ht : d.edgeCounted.tck = d.tck := tck_of_sansRegs (edgeCounted_spec d).2.2.1
  refine if_neg ?_
  show ¬ (min 4 (d.edgeCounted.tck.oowRun + 1) = 4 ∧ d.edgeCounted.tck.sync = .locked)
  rw [ht]
  exact fun hc => h ⟨by omega, hc.2⟩

/-- The fourth out-of-window edge in a row in LOCKED (R44). -/
theorem edgeOut_free {d : Device} (h : 3 ≤ d.tck.oowRun ∧ d.tck.sync = .locked) : d.edgeOut =
    ({ d.edgeCounted with tck := { d.edgeCounted.tck with
        oowRun := min 4 (d.edgeCounted.tck.oowRun + 1), inRun := 0, sync := .freeRun } } : Device).raise Reg.tckStatus 3 := by
  have ht : d.edgeCounted.tck = d.tck := tck_of_sansRegs (edgeCounted_spec d).2.2.1
  refine if_pos ?_
  show min 4 (d.edgeCounted.tck.oowRun + 1) = 4 ∧ d.edgeCounted.tck.sync = .locked
  rw [ht]
  exact ⟨by omega, h.2⟩

/-- An out-of-window edge is counted, and the fourth in a row leads to FREE_RUN (R43, R44). -/
theorem edgeOut_spec (d : Device) :
    d.edgeOut.bitAt Reg.tckStatus 1 = true ∧
      d.edgeOut.fld Reg.tckSyncCnt 15 0 = satAdd 16 (d.fld Reg.tckSyncCnt 15 0) 1 ∧
      d.edgeOut.tck = { d.tck with
        oowRun := min 4 (d.tck.oowRun + 1), inRun := 0
        sync := if 3 ≤ d.tck.oowRun ∧ d.tck.sync = .locked then .freeRun else d.tck.sync } ∧
      (3 ≤ d.tck.oowRun → d.tck.sync = .locked → d.edgeOut.bitAt Reg.tckStatus 3 = true) ∧
      SameRegs d d.edgeOut [Reg.tckStatus, Reg.tckSyncCnt] ∧
      d.edgeOut.sansRegs = { d with tck := d.edgeOut.tck }.sansRegs := by
  obtain ⟨hb, hc, hR⟩ := edgeCounted_spec d
  have ht : d.edgeCounted.tck = d.tck := tck_of_sansRegs hR.1
  by_cases h : 3 ≤ d.tck.oowRun ∧ d.tck.sync = .locked
  · rw [edgeOut_free h, ht, if_pos h]
    generalize d.edgeCounted = d1 at hb hc hR
    let d2 : Device := { d1 with tck := { d.tck with oowRun := min 4 (d.tck.oowRun + 1), inRun := 0, sync := .freeRun } }
    have h3 := onlyRegs_raise d2 Reg.tckStatus 3
    have ht3 : (d2.raise Reg.tckStatus 3).tck = d2.tck := tck_of_sansRegs h3.1
    refine ⟨bitAt_raise_of_bitAt (d := d2) 3 (by decide) (by decide) (by decide) hb, ?_, ht3,
      fun _ _ => bitAt_raise_same d2 _ _ (by decide) (by decide) (by decide), fun k hk hi => ?_, ?_⟩
    · exact (Device.fld_congr (reg_raise_ne d2 3 (by decide) (by decide) (by decide)) 15 0).trans hc
    · exact (h3.2 k (fun hm => hk (by simp_all)) hi).trans (hR.2 k hk hi)
    · show (d2.raise Reg.tckStatus 3).sansRegs = { d with tck := (d2.raise Reg.tckStatus 3).tck }.sansRegs
      rw [ht3, h3.1]
      exact sansRegs_with_tck hR.1 _
  · rw [edgeOut_stay h, ht, if_neg h]
    exact ⟨hb, hc, rfl, fun h1 h2 => absurd ⟨h1, h2⟩ h, hR.2.of_regs_eq rfl,
      sansRegs_with_tck hR.1 _⟩

/-! ## Applied edges (R42) -/

/-- An applied edge before it becomes or moves a tick. -/
def Device.edgeNoted (d : Device) (o : Int) : Device :=
  let d := d.setReg Reg.tckSyncOfs (BitVec.ofInt 32 o)
  { d with tck := { d.tck with edgeUsed := true, oowRun := 0, inRun := 0, sync := .locked } }

/-- An edge after its tick, or in test frames, moves the next tick or nothing. -/
theorem edgeApply_after {d : Device} {o : Int} (h : 0 ≤ o ∨ d.inTest = true) :
    ({ d with tck := { d.tck with edgeUsed := true } } : Device).edgeApply o =
      if d.inTest = true then d.edgeNoted o
      else { d.edgeNoted o with tck := { (d.edgeNoted o).tck with phaseRef := d.timNs, expected := d.timNs + d.tck.period * 1000 } } := by
  by_cases ht : d.inTest = true
  · rw [if_pos ht]
    exact if_pos ht
  · rw [if_neg ht]
    have ho : ¬ o < 0 := by
      have := h.resolve_right ht
      omega
    exact (if_neg ht).trans (if_neg ho)

/-- An edge before its tick becomes the tick. -/
theorem edgeApply_before {d : Device} {o : Int} (h : o < 0) (ht : d.inTest = false) :
    ({ d with tck := { d.tck with edgeUsed := true } } : Device).edgeApply o =
      if (d.edgeNoted o).ticking then (d.edgeNoted o).tickNow false else d.edgeNoted o := by
  have ht' : ¬ d.inTest = true := by simp [ht]
  exact (if_neg ht').trans (if_pos h)

/-- What an edge after its tick leaves. -/
theorem edgeApply_after_spec {d : Device} {o : Int} (h : 0 ≤ o ∨ d.inTest = true) {d' : Device}
    (hd : d' = ({ d with tck := { d.tck with edgeUsed := true } } : Device).edgeApply o) :
    d'.reg Reg.tckSyncOfs = BitVec.ofInt 32 o ∧ d'.tck.oowRun = 0 ∧ d'.tck.sync = .locked ∧
      d'.tck.expected = (if d.inTest then d.tck.expected else d.timNs + d.tck.period * 1000) ∧
      SameRegs d d' [Reg.tckSyncOfs] ∧ d'.sansRegs = { d with tck := d'.tck }.sansRegs := by
  have hR := (onlyRegs_setReg d Reg.tckSyncOfs (BitVec.ofInt 32 o)).2
  have hv := d.reg_setReg_same Reg.tckSyncOfs (BitVec.ofInt 32 o)
  rw [hd, edgeApply_after h]
  split
  · exact ⟨hv, rfl, rfl, rfl, hR.of_regs_eq rfl, rfl⟩
  · exact ⟨hv, rfl, rfl, rfl, hR.of_regs_eq rfl, rfl⟩

/-! ## The end of a sync window (R43) -/

theorem windowClose_eq {d : Device} (h : d.tck.sync = .locked ∨ d.tck.sync = .freeRun) : d.windowClose =
    (let u : Device := { d with tck := { d.tck with edgeUsed := false } }
     if d.tck.edgeUsed then u else (u.raise Reg.tckStatus 2).count Reg.tckSyncCnt 31 16 1) := by
  refine if_neg ?_
  rcases h with h | h <;> simp [h]

/-- What the end of a window leaves. -/
theorem windowClose_spec {d : Device} (h : d.tck.sync = .locked ∨ d.tck.sync = .freeRun) :
    d.windowClose.tck = { d.tck with edgeUsed := false } ∧
      (d.tck.edgeUsed = true → d.windowClose = { d with tck := d.windowClose.tck }) ∧
      (d.tck.edgeUsed = false → d.windowClose.bitAt Reg.tckStatus 2 = true ∧
        d.windowClose.fld Reg.tckSyncCnt 31 16 = satAdd 16 (d.fld Reg.tckSyncCnt 31 16) 1) ∧
      SameRegs d d.windowClose [Reg.tckStatus, Reg.tckSyncCnt] ∧
      d.windowClose.sansRegs = { d with tck := d.windowClose.tck }.sansRegs := by
  rw [windowClose_eq h]
  simp only
  split
  next hu => exact ⟨rfl, fun _ => rfl, fun hf => absurd (hu.symm.trans hf) (by decide), fun _ _ _ => rfl, rfl⟩
  next hu =>
    generalize hd : ({ d with tck := { d.tck with edgeUsed := false } } : Device) = u
    have hR : OnlyRegs u ((u.raise Reg.tckStatus 2).count Reg.tckSyncCnt 31 16 1) [Reg.tckStatus, Reg.tckSyncCnt] :=
      ((onlyRegs_raise u _ 2).mono (by simp)).trans ((onlyRegs_count _ _ _ _ _).mono (by simp))
    have ht := tck_of_sansRegs hR.1
    have hb : ((u.raise Reg.tckStatus 2).count Reg.tckSyncCnt 31 16 1).bitAt Reg.tckStatus 2 = true :=
      (Device.bitAt_congr (d := u.raise Reg.tckStatus 2) (Device.reg_setReg_ne _ _ (by decide)) 2).trans
        (bitAt_raise_same u _ _ (by decide) (by decide) (by decide))
    have hc := Device.fld_count_same (u.raise Reg.tckStatus 2) Reg.tckSyncCnt 31 16 1 (by decide)
    rw [Device.fld_congr (reg_raise_ne u 2 (by decide) (by decide) (by decide))] at hc
    refine ⟨?_, fun hf => absurd hf hu, fun _ => ⟨hb, ?_⟩, ?_, ?_⟩
    · rw [ht, ← hd]
    · rw [hc, ← hd]
      rfl
    · exact fun k hk hi => (hR.2 k hk hi).trans (by rw [← hd]; rfl)
    · rw [ht, hR.1, ← hd]

/-! ## Test frames (R306) -/

/-- TEST_RUN is taken in MAINT (R306). -/
theorem testRun_start {d : Device} (hb : d.bitAt Reg.tckCtrl 2 = false) (hm : d.chk.dev = .maint) : d.testRunWrite true =
    ({ d with tck := { d.tck with testWait := true } } : Device).setBit Reg.tckCtrl 2 true := by
  unfold Device.testRunWrite
  simp [hb, hm]

theorem testRun_refused {d : Device} (hb : d.bitAt Reg.tckCtrl 2 = false) (hm : d.chk.dev ≠ .maint) :
    d.testRunWrite true = d.raise Reg.tckStatus 10 := by
  unfold Device.testRunWrite
  simp [hb, hm]

theorem testRun_stop {d : Device} (hm : d.chk.dev = .maint) : d.testRunWrite false =
    (let u := d.setBit Reg.tckCtrl 2 false
     { u with tck := { u.tck with testWait := false, testEnd := u.tck.running } }) := if_pos hm

/-! ## The test plan (R306) -/

theorem memStep_flashMet (d : Device) (r : FlashRead) : MemStep d (d.flashMet r) := by
  unfold Device.flashMet
  extract_lets d1 d2
  have h1 : MemStep d d1 := (memStep_count d _ _ _ _).trans (memStep_perf _ _ _ _)
  have h2 : MemStep d d2 := by
    show MemStep d (if r.retry = true then d1.raise Reg.nvmStatus 0 else d1)
    split
    · exact h1.trans (memStep_raise _ _ _)
    · exact h1
  split
  · exact h2.trans (((memStep_incr d2 _).trans (memStep_raise _ _ _)).trans (memStep_pairRaise _ _))
  · exact h2

/-- A read of the flash without uncorrectable codewords touches registers alone. -/
theorem twin_flashMet (d : Device) {r : FlashRead} (h : r.bad = false) : Twin (d.flashMet r) d := by
  unfold Device.flashMet Twin
  rw [h]
  have hp : ((d.count Reg.nvmLdpcCnt 31 0 r.corrected).perf 200 0x102 r.corrected).sansRegs = d.sansRegs :=
    (onlyRegs_perf _ _ _ _).1
  simp only [Bool.false_eq_true, if_false]
  split
  · exact (onlyRegs_raise _ _ _).1.trans hp
  · exact hp

theorem memStep_placeTest (d : Device) (l : List (List Byte)) : MemStep d (d.placeTest l) :=
  .foldl _ (fun d _ => .foldl _ (fun d _ => memStep_writeMem d _ _ _) _ d) _ d

theorem memStep_testSense (d : Device) : MemStep d d.testSense :=
  .foldl _ (fun d _ => .foldl _ (fun d _ => memStep_sense d _ _) _ d) _ d

/-- Placing the test plan reads no register. -/
theorem Twin.placeTest {a b : Device} (h : Twin a b) (l : List (List Byte)) : Twin (a.placeTest l) (b.placeTest l) := by
  unfold Device.placeTest
  rw [h.read Device.powered fun _ => rfl]
  refine (MemRun.foldl (fun {a b} f h => ?_) _ h).twin
  rw [h.read (·.boot.test) fun _ => rfl]
  refine .foldl (fun x h => ?_) _ h
  exact memRun_writeMem h _ _ _

/-- Whether the copies of the test plan are those of the boot image is no question of registers. -/
theorem Twin.testPlaced {a b : Device} (h : Twin a b) : a.testPlaced = b.testPlaced := by
  unfold Device.testPlaced
  rw [h.read Device.powered fun _ => rfl, h.read (·.boot.test) fun _ => rfl]
  simp only [h.peek, h.peekPoison]

/-- What memory operations leave alone reads the same. -/
theorem MemStep.read {α : Sort*} {a b : Device} (h : MemStep a b) (g : Device → α) (hg : ∀ d : Device, g d.sansMem = g d) :
    g b = g a := by
  rw [← hg b, show b.sansMem = a.sansMem from h.1, hg a]

/-- Devices that differ in memories, registers and fault pairs alone do so with the same tick state. -/
theorem sansMem_with_tck {a b : Device} (h : b.sansMem = a.sansMem) (t : Tck) :
    ({ b with tck := t } : Device).sansMem = ({ a with tck := t } : Device).sansMem :=
  congrArg (fun x : Device => { x with tck := t }) h

/-- The copies of the test plan have been placed and read. -/
def Device.testChecked (d : Device) (l : List (List Byte)) (r : FlashRead) : Device :=
  (if r.bad then d.flashMet r else (d.flashMet r).placeTest l).testSense

theorem memStep_testChecked (d : Device) (l : List (List Byte)) (r : FlashRead) : MemStep d (d.testChecked l r) := by
  refine MemStep.trans ?_ (memStep_testSense _)
  split
  · exact memStep_flashMet d r
  · exact (memStep_flashMet d r).trans (memStep_placeTest _ l)

/-- Ticks start on the schedule of the test plan. -/
def Device.testStarted (d : Device) : Tck :=
  { d.tck with
    testPlan := d.testStarts, testWait := false, testEnd := false, running := true
    firstTick := d.tck.firstTick || !d.tck.running, expected := d.nextPoint }

/-- A verified test plan starts ticks where every copy is right (R306). -/
theorem testVerified_eq {d : Device} (hw : d.tck.testWait = true) (ht : d.inTest = true) (l : List (List Byte)) (r : FlashRead) :
    d.testVerified l r =
      let u := d.testChecked l r
      { u with tck := if r.bad = false ∧ (d.placeTest l).testPlaced = true then d.testStarted
        else { d.tck with testWait := false } } := by
  have hM := memStep_testChecked d l r
  have htck : (d.testChecked l r).tck = d.tck := hM.read Device.tck fun _ => rfl
  have hstart : (d.testChecked l r).testStarted = d.testStarted := hM.read Device.testStarted fun _ => rfl
  have hok : (!r.bad && (if r.bad then d.flashMet r else (d.flashMet r).placeTest l).testPlaced) = true ↔
      r.bad = false ∧ (d.placeTest l).testPlaced = true := by
    cases hb : r.bad with
    | true => simp
    | false => simp [((twin_flashMet d hb).placeTest l).testPlaced]
  unfold Device.testVerified
  rw [if_neg (by simp [hw, ht])]
  extract_lets d1 d2 ok u first
  show (if !ok then { u with tck := { u.tck with testWait := false } } else { u with tck := u.testStarted } : Device) = _
  have hu : u = d.testChecked l r := rfl
  rw [hu, htck, hstart]
  by_cases h : ok = true
  · rw [if_neg (by simp [h]), if_pos (hok.1 h)]
  · rw [if_pos (by simpa using h), if_neg (mt hok.2 h)]

/-- A tick that falls, or does not, on device `u`. -/
theorem act_ticking_eq (s : State) (u : Device) :
    act u.ticking (fun d => d.tickNow false) { s with dev := u } =
      .next { s with dev := if u.ticking then u.tickNow false else u } := by
  unfold act
  split <;> rfl

/-- Settles O13: an edge by the state of synchronization, by its offset and by the edges before it; a window by its edge; and test
frames by the commands that start and end them. -/
theorem syncEdgesAreJudged : Obligations.SyncEdgesAreJudged := by
  unfold Obligations.SyncEdgesAreJudged
  refine ⟨⟨fun s hu hs hm => ?_, fun s hu hs ho => ?_, fun s hu hs he ho hd => ?_, fun s hu hs he ho hn ht => ?_,
    fun s hu hs hn he ho => ?_⟩, fun s hu hs => ?_, fun s hu => ?_, fun s hu hb => ?_, fun s hu hm => ?_,
    fun s l r hc hw ht => ?_⟩
  · refine .of_act (exec_frameSyncEdge s) hu ?_
    have he : s.dev.syncEdge = s.dev.edgeAcquire := by
      unfold Device.syncEdge
      rw [hs]
    rw [he, edgeAcquire_maint hm]
    exact ⟨rfl, rfl, rfl⟩
  · refine .of_act (exec_frameSyncEdge s) hu ?_
    rw [syncEdge_judge hs, edgeJudge_out ho]
    exact edgeOut_spec s.dev
  · refine .of_act (exec_frameSyncEdge s) hu ?_
    exact edgeApply_after_spec hd ((syncEdge_judge (hs.imp_right (·.1))).trans (edgeJudge_apply hs he ho))
  · rw [exec_frameSyncEdge, exec_tick, act, if_pos hu, syncEdge_judge (hs.imp_right (·.1)), edgeJudge_apply hs he ho,
      edgeApply_before hn ht]
    exact (act_ticking_eq s (s.dev.edgeNoted (s.dev.syncOffset s.dev.timNs))).symm
  · refine .of_act (exec_frameSyncEdge s) hu ?_
    rw [syncEdge_judge (.inr hs), edgeJudge_in he ho]
    exact (if_neg (by simp [hs])).trans (if_pos (by omega))
  · exact .of_act (exec_syncWindowClose s) hu (windowClose_spec hs)
  · refine .of_act (exec_syncAcq s) hu ⟨fun h => if_pos h, fun h => ?_⟩
    have he : s.dev.syncAcq = s.dev.raise Reg.tckStatus 8 := if_neg (by simp [h])
    rw [he]
    exact ⟨bitAt_raise_same _ _ _ (by decide) (by decide) (by decide), onlyRegs_raise _ _ _⟩
  · refine .of_act (exec_testRun s true) hu ⟨fun hm => ?_, fun hm => ?_⟩
    · rw [testRun_start hb hm]
      generalize hd : ({ s.dev with tck := { s.dev.tck with testWait := true } } : Device) = u
      refine ⟨(Device.bitAt_setBit u _ _ _ _ _ (by decide)).trans (if_pos ⟨rfl, rfl⟩), by rw [← hd]; rfl, ?_, by rw [← hd]; rfl⟩
      exact fun k hk hi => ((onlyRegs_setBit u _ _ _).2 k hk hi).trans (by rw [← hd]; rfl)
    · rw [testRun_refused hb hm]
      exact ⟨bitAt_raise_same _ _ _ (by decide) (by decide) (by decide), onlyRegs_raise _ _ _⟩
  · refine .of_act (exec_testRun s false) hu ?_
    rw [testRun_stop hm]
    refine ⟨(Device.bitAt_setBit s.dev _ _ _ _ _ (by decide)).trans (if_pos ⟨rfl, rfl⟩), rfl, ?_, rfl⟩
    exact (onlyRegs_setBit s.dev _ _ _).2.of_regs_eq rfl
  · refine .of_act (exec_testPlanVerified s l r) hc ?_
    rw [testVerified_eq hw ht]
    refine ⟨fun hb hp => if_pos ⟨hb, hp⟩, fun h => if_neg ?_, sansMem_with_tck (memStep_testChecked s.dev l r).1 _⟩
    rintro ⟨hb, hp⟩
    rcases h with h | h <;> simp_all

end Sys2Proof.Machine
end

section
/-! Completions of requests (R352 to R355). -/

namespace Sys2Proof.Machine

/-! ## The completion ring (R355) -/

/-- A register of the completion ring holds no pending bits of interrupts. -/
theorem reg_fire_high (d : Device) {k : Nat} (hk : 0x2000000 ≤ k) : (d.fire 0).reg k = d.reg k :=
  reg_fire d (by decide) (by omega) (by omega)

/-- The completion ring with entry `i` written, before HIF_REQ_STATUS. -/
def Device.cplWrite (d : Device) (op : Nat) (tag : Byte) (status : Nat) (result : Word) : Device :=
  let n := d.reg Reg.hifCplCount
  let i := n.toNat % 16
  let d := d.setReg (Reg.hifCplInfo i) (word (op * 2 ^ 24 + tag.toNat * 2 ^ 16 + status))
  let d := d.setReg (Reg.hifCplResult i) result
  let d := d.setReg (Reg.hifCplSeq i) n
  let d := d.setReg (Reg.hifCplNs i) (word d.ctime.ns)
  d.setReg Reg.hifCplCount (n + 1)

/-- HIF_REQ_STATUS names the completion. -/
def cplStatus (w : Word) (op : Nat) (tag : Byte) (status : Nat) : Word :=
  putBits (putBits (putBits w 23 16 tag.toNat) 15 8 op) 7 0 status

theorem complete_eq (d : Device) (op : Nat) (tag : Byte) (status : Nat) (result : Word) :
    d.complete op tag status result =
      let u := d.cplWrite op tag status result
      (u.setReg Reg.hifReqStatus (cplStatus (u.reg Reg.hifReqStatus) op tag status)).fire 0 := rfl

theorem sansRegs_cplWrite (d : Device) (op : Nat) (tag : Byte) (status : Nat) (result : Word) :
    (d.cplWrite op tag status result).sansRegs = d.sansRegs := by
  unfold Device.cplWrite
  extract_lets n i d1 d2 d3 d4
  have h1 : d1.sansRegs = d.sansRegs := sansRegs_setReg d _ _
  have h2 : d2.sansRegs = d1.sansRegs := sansRegs_setReg d1 _ _
  have h3 : d3.sansRegs = d2.sansRegs := sansRegs_setReg d2 _ _
  have h4 : d4.sansRegs = d3.sansRegs := sansRegs_setReg d3 _ _
  exact (sansRegs_setReg d4 _ _).trans (h4.trans (h3.trans (h2.trans h1)))

/-- A completion touches registers alone. -/
theorem sansRegs_complete (d : Device) (op : Nat) (tag : Byte) (status : Nat) (result : Word) :
    (d.complete op tag status result).sansRegs = d.sansRegs := by
  rw [complete_eq]
  have h := sansRegs_cplWrite d op tag status result
  generalize d.cplWrite op tag status result = u at h ⊢
  exact ((onlyRegs_fire _ (by decide)).1.trans (sansRegs_setReg u _ _)).trans h

theorem cplWrite_regs (d : Device) (op : Nat) (tag : Byte) (status : Nat) (result : Word) {i : Nat}
    (hi : i = (d.reg Reg.hifCplCount).toNat % 16) :
    (d.cplWrite op tag status result).reg Reg.hifCplCount = d.reg Reg.hifCplCount + 1 ∧
      (d.cplWrite op tag status result).reg (Reg.hifCplInfo i) = word (op * 2 ^ 24 + tag.toNat * 2 ^ 16 + status) ∧
      (d.cplWrite op tag status result).reg (Reg.hifCplResult i) = result ∧
      (d.cplWrite op tag status result).reg (Reg.hifCplSeq i) = d.reg Reg.hifCplCount := by
  subst hi
  have h16 : (d.reg Reg.hifCplCount).toNat % 16 < 16 := Nat.mod_lt _ (by decide)
  generalize hi : (d.reg Reg.hifCplCount).toNat % 16 = i at h16
  unfold Device.cplWrite
  simp only [hi, Device.reg_setReg, Reg.hifCplInfo, Reg.hifCplResult, Reg.hifCplSeq, Reg.hifCplNs, Reg.hifCplCount]
  refine ⟨if_pos trivial, ?_, ?_, ?_⟩
  · rw [if_neg (by omega), if_neg (by omega), if_neg (by omega), if_neg (by omega), if_pos trivial]
  · rw [if_neg (by omega), if_neg (by omega), if_neg (by omega), if_pos trivial]
  · rw [if_neg (by omega), if_neg (by omega), if_pos trivial]

/-- The fields of HIF_REQ_STATUS after a completion. -/
theorem cplStatus_fields (w : Word) {op : Nat} (tag : Byte) {status : Nat} (ho : op < 256) (hs : status < 256) :
    bits (cplStatus w op tag status) 23 16 = tag.toNat ∧ bits (cplStatus w op tag status) 15 8 = op ∧
      bits (cplStatus w op tag status) 7 0 = status := by
  have ht : tag.toNat < 256 := tag.isLt
  unfold cplStatus
  refine ⟨?_, ?_, ?_⟩
  · rw [bits_putBits_other _ _ _ _ _ _ (.inr (by decide)), bits_putBits_other _ _ _ _ _ _ (.inr (by decide)),
      bits_putBits_same _ _ _ _ (by decide)]
    exact Nat.mod_eq_of_lt ht
  · rw [bits_putBits_other _ _ _ _ _ _ (.inr (by decide)), bits_putBits_same _ _ _ _ (by decide)]
    exact Nat.mod_eq_of_lt ho
  · rw [bits_putBits_same _ _ _ _ (by decide)]
    exact Nat.mod_eq_of_lt hs

/-- A completion answers its request, and takes the next entry of the ring. -/
theorem answered_complete {d d0 : Device} {op : Nat} (tag : Byte) {status : Nat} (result : Word)
    (h0 : d.reg Reg.hifCplCount = d0.reg Reg.hifCplCount) (ho : op < 256) (hs : status < 256) :
    Answered d0 (d.complete op tag status result) op tag status result := by
  obtain ⟨hcount, hinfo, hres, hseq⟩ := cplWrite_regs d op tag status result rfl
  rw [complete_eq]
  generalize d.cplWrite op tag status result = u at *
  have hhigh : ∀ k, 0x2000000 ≤ k → k ≠ Reg.hifReqStatus →
      ((u.setReg Reg.hifReqStatus (cplStatus (u.reg Reg.hifReqStatus) op tag status)).fire 0).reg k = u.reg k :=
    fun k hk hne => (reg_fire_high _ hk).trans (Device.reg_setReg_ne _ _ hne)
  have hst : ((u.setReg Reg.hifReqStatus (cplStatus (u.reg Reg.hifReqStatus) op tag status)).fire 0).reg Reg.hifReqStatus =
      cplStatus (u.reg Reg.hifReqStatus) op tag status :=
    (reg_fire_high _ (by decide)).trans (Device.reg_setReg_same _ _ _)
  obtain ⟨h1, h2, h3⟩ := cplStatus_fields (u.reg Reg.hifReqStatus) tag ho hs
  unfold Answered Device.fld
  simp only [hst, ← h0]
  refine ⟨?_, ?_, ?_, ?_, h1, h2, h3⟩
  · exact (hhigh _ (by decide) (by decide)).trans hcount
  · refine (hhigh _ ?_ ?_).trans hinfo <;> simp only [Reg.hifCplInfo, Reg.hifReqStatus] <;> omega
  · refine (hhigh _ ?_ ?_).trans hres <;> simp only [Reg.hifCplResult, Reg.hifReqStatus] <;> omega
  · refine (hhigh _ ?_ ?_).trans hseq <;> simp only [Reg.hifCplSeq, Reg.hifReqStatus] <;> omega

/-! ## The requests that run (R352) -/

/-- The device with the running requests `l`. -/
def Device.withRunning (d : Device) (l : List RunReq) : Device := { d with hif := { d.hif with running := l } }

/-- Completing running requests takes them off the list, and touches registers beside. -/
theorem sansRegs_completeWhere (d : Device) (p : RunReq → Bool) (status : Nat) (result : Word) :
    (d.completeWhere p status result).sansRegs = (d.withRunning (d.hif.running.filter fun r => !p r)).sansRegs := by
  have key : ∀ (l : List RunReq) (d : Device), (l.foldl (fun d r => d.complete r.op r.tag status result) d).sansRegs = d.sansRegs := by
    intro l
    induction l with
    | nil => exact fun d => rfl
    | cons r l ih => exact fun d => (ih _).trans (sansRegs_complete d _ _ _ _)
  exact key _ _

/-- The requests that run after a completion. -/
theorem running_completeWhere (d : Device) (p : RunReq → Bool) (status : Nat) (result : Word) :
    (d.completeWhere p status result).hif.running = d.hif.running.filter fun r => !p r :=
  Twin.read (sansRegs_completeWhere d p status result) (·.hif.running) fun _ => rfl

/-- The only running request is completed. -/
theorem completeWhere_one {d : Device} {p : RunReq → Bool} {r : RunReq} (hr : d.hif.running = [r]) (hp : p r = true)
    (status : Nat) (result : Word) : d.completeWhere p status result = (d.withRunning []).complete r.op r.tag status result := by
  unfold Device.completeWhere
  simp only [hr, List.filter_cons, hp, List.filter_nil, if_true, Bool.not_true, Bool.false_eq_true, if_false]
  rfl

/-- A device from which the only running request was completed answers it. -/
theorem answered_completeWhere {d d0 : Device} {p : RunReq → Bool} {r : RunReq} {status : Nat} (result : Word)
    (hr : d.hif.running = [r]) (hp : p r = true) (h0 : d.reg Reg.hifCplCount = d0.reg Reg.hifCplCount) (ho : r.op < 256)
    (hs : status < 256) : Answered d0 (d.completeWhere p status result) r.op r.tag status result := by
  rw [completeWhere_one hr hp]
  exact answered_complete _ _ h0 ho hs

end Sys2Proof.Machine
end

section
/-! Plan validation, digest comparison, loads and unloads (R48, R50, R175 to R179). -/

namespace Sys2Proof.Machine

/-! ## Reads (R149) -/

/-- Memory has been read: memories, fault pairs and registers of the compute die change. -/
structure ReadStep (d d' : Device) : Prop where
  mem : MemStep d d'
  high : ∀ k, 0x2000000 ≤ k → d'.reg k = d.reg k

theorem ReadStep.refl (d : Device) : ReadStep d d := ⟨.refl d, fun _ _ => rfl⟩

theorem ReadStep.trans {a b c : Device} (h : ReadStep a b) (g : ReadStep b c) : ReadStep a c :=
  ⟨h.mem.trans g.mem, fun k hk => (g.high k hk).trans (h.high k hk)⟩

theorem ReadStep.foldl {α : Type} (f : Device → α → Device) (hf : ∀ d x, ReadStep d (f d x)) (xs : List α) (d : Device) :
    ReadStep d (xs.foldl f d) := by
  induction xs generalizing d with
  | nil => exact .refl d
  | cons x xs ih => exact (hf d x).trans (ih _)

theorem readStep_sense (d : Device) (a n : Nat) : ReadStep d (d.sense a n) :=
  ⟨memStep_sense d a n, (memRun_sense (rfl : Twin d d) a n).high⟩

/-- The plans of a slot are read. -/
theorem readStep_slotSense (d : Device) (slot : Nat) : ReadStep d (d.slotSense slot) :=
  (readStep_sense d _ _).trans (.foldl _ (fun d _ => (readStep_sense d _ _).trans (readStep_sense _ _ _)) _ _)

/-! ## The end of a swap (R48, R50) -/

theorem exec_planValidationDone (s : State) : exec .planValidationDone s =
    act (s.dev.cmpAlive && decide ((s.dev.bgAt .telemetry).level ≠ .forced)) Device.planChecked s := rfl
theorem exec_planDigestCompareDone (s : State) :
    exec .planDigestCompareDone s = act s.dev.cmpAlive Device.planCompared s := rfl

/-- The request of a swap. -/
def Swap.isReq (w : Swap) (r : RunReq) : Bool := decide (r.op = 1) && decide (r.tag = w.tag)

/-- A swap that ends with PLAN_INVALID: it is gone, its request completes, and memory stays. -/
theorem swapEnd_spec {u : Device} {w : Swap} (h : u.tck.swap = some w) :
    (u.swapEnd 3).mem = u.mem ∧ (u.swapEnd 3).tck = { u.tck with swap := none } ∧
      (u.swapEnd 3).hif.running = u.hif.running.filter (fun r => !w.isReq r) ∧
      ∀ d0 a0, u.reg Reg.hifCplCount = d0.reg Reg.hifCplCount → u.hif.running = [RunReq.mk 1 w.tag a0] →
        Answered d0 (u.swapEnd 3) 1 w.tag 3 0 := by
  let v : Device := { u with tck := { u.tck with swap := none } }
  have he : u.swapEnd 3 = v.completeWhere w.isReq 3 0 := by
    unfold Device.swapEnd
    rw [h]
    rfl
  have hS := sansRegs_completeWhere v w.isReq 3 0
  rw [he]
  refine ⟨Twin.read hS Device.mem fun _ => rfl, Twin.read hS Device.tck fun _ => rfl, running_completeWhere v _ _ _, ?_⟩
  intro d0 a0 h0 hr
  exact answered_completeWhere (d := v) (r := RunReq.mk 1 w.tag a0) 0 hr (by simp [Swap.isReq])
    ((Device.reg_congr (d := u) (d' := v) rfl _).trans h0) (show 1 < 256 by decide) (by decide)

/-- The swap goes on in stage `w`. -/
def Device.swapTo (d : Device) (w : Swap) : Device := { d with tck := { d.tck with swap := some w } }

/-- A check of the slot of a swap that passes takes the swap on. -/
theorem swapTo_slotSense (d : Device) (slot : Nat) (w : Swap) :
    ((d.slotSense slot).swapTo w).mem = (d.slotSense slot).mem ∧
      ((d.slotSense slot).swapTo w).tck = { d.tck with swap := some w } ∧
      ((d.slotSense slot).swapTo w).sansMem = { d with tck := ((d.slotSense slot).swapTo w).tck }.sansMem := by
  have hM := (readStep_slotSense d slot).mem
  have ht : (d.slotSense slot).tck = d.tck := hM.read Device.tck fun _ => rfl
  unfold Device.swapTo
  rw [ht]
  exact ⟨rfl, rfl, sansMem_with_tck hM.1 _⟩

/-- A check of the slot of a swap that fails ends the swap with PLAN_INVALID. -/
theorem swapEnd_slotSense {d : Device} {w : Swap} (h : d.tck.swap = some w) :
    ((d.slotSense w.slot).swapEnd 3).mem = (d.slotSense w.slot).mem ∧
      ((d.slotSense w.slot).swapEnd 3).tck = { d.tck with swap := none } ∧
      ((d.slotSense w.slot).swapEnd 3).hif.running = d.hif.running.filter (fun r => !w.isReq r) ∧
      ∀ a0, d.hif.running = [RunReq.mk 1 w.tag a0] → Answered d ((d.slotSense w.slot).swapEnd 3) 1 w.tag 3 0 := by
  obtain ⟨hM, hhigh⟩ := readStep_slotSense d w.slot
  have ht : (d.slotSense w.slot).tck = d.tck := hM.read Device.tck fun _ => rfl
  obtain ⟨hmem, htck, hrun, hans⟩ := swapEnd_spec (u := d.slotSense w.slot) (w := w) (by rw [ht, h])
  rw [ht] at htck
  rw [hM.running] at hrun hans
  exact ⟨hmem, htck, hrun, fun a0 => hans d a0 (hhigh _ (by decide))⟩

theorem planChecked_ok {d : Device} {w : Swap} (h : d.tck.swap = some w) (hs : w.stage = .validating)
    (hok : d.slotOk w.slot = true) : d.planChecked = (d.slotSense w.slot).swapTo { w with stage := .digest } := by
  unfold Device.planChecked
  simp only [h, hs, hok, ne_eq, not_true_eq_false, if_false, if_true]
  rfl

theorem planChecked_bad {d : Device} {w : Swap} (h : d.tck.swap = some w) (hs : w.stage = .validating)
    (hok : d.slotOk w.slot = false) : d.planChecked = (d.slotSense w.slot).swapEnd 3 := by
  unfold Device.planChecked
  simp only [h, hs, hok, ne_eq, not_true_eq_false, if_false, Bool.false_eq_true]

theorem planCompared_ok {d : Device} {w : Swap} (h : d.tck.swap = some w) (hs : w.stage = .digest)
    (hok : d.slotDigestOk w.slot = true) :
    d.planCompared = (d.slotSense w.slot).swapTo { w with stage := .pending, doneAt := d.q } := by
  have hq : (d.slotSense w.slot).q = d.q := (readStep_slotSense d w.slot).mem.read Device.q fun _ => rfl
  rw [← hq]
  unfold Device.planCompared
  simp only [h, hs, hok, ne_eq, not_true_eq_false, if_false, if_true]
  rfl

theorem planCompared_bad {d : Device} {w : Swap} (h : d.tck.swap = some w) (hs : w.stage = .digest)
    (hok : d.slotDigestOk w.slot = false) : d.planCompared = (d.slotSense w.slot).swapEnd 3 := by
  unfold Device.planCompared
  simp only [h, hs, hok, ne_eq, not_true_eq_false, if_false, Bool.false_eq_true]

/-- Plan validation (R48 step 2). -/
theorem planChecked_spec {d : Device} {w : Swap} (h : d.tck.swap = some w) (hs : w.stage = .validating) :
    d.planChecked.mem = (d.slotSense w.slot).mem ∧
      (d.slotOk w.slot = true → d.planChecked.tck = { d.tck with swap := some { w with stage := .digest } } ∧
        d.planChecked.sansMem = { d with tck := d.planChecked.tck }.sansMem) ∧
      (d.slotOk w.slot = false → d.planChecked.tck = { d.tck with swap := none } ∧
        d.planChecked.hif.running = d.hif.running.filter (fun r => !w.isReq r) ∧
        ∀ a0, d.hif.running = [RunReq.mk 1 w.tag a0] → Answered d d.planChecked 1 w.tag 3 0) := by
  cases hok : d.slotOk w.slot with
  | true =>
    rw [planChecked_ok h hs hok]
    obtain ⟨hmem, htck, hS⟩ := swapTo_slotSense d w.slot { w with stage := .digest }
    exact ⟨hmem, fun _ => ⟨htck, hS⟩, fun hf => absurd hf (by decide)⟩
  | false =>
    rw [planChecked_bad h hs hok]
    obtain ⟨hmem, hrest⟩ := swapEnd_slotSense h
    exact ⟨hmem, fun hf => absurd hf (by decide), fun _ => hrest⟩

/-- The comparison of the plans' digests (R48 step 3). -/
theorem planCompared_spec {d : Device} {w : Swap} (h : d.tck.swap = some w) (hs : w.stage = .digest) :
    d.planCompared.mem = (d.slotSense w.slot).mem ∧
      (d.slotDigestOk w.slot = true →
        d.planCompared.tck = { d.tck with swap := some { w with stage := .pending, doneAt := d.q } } ∧
        d.planCompared.sansMem = { d with tck := d.planCompared.tck }.sansMem) ∧
      (d.slotDigestOk w.slot = false → d.planCompared.tck = { d.tck with swap := none } ∧
        ∀ a0, d.hif.running = [RunReq.mk 1 w.tag a0] → Answered d d.planCompared 1 w.tag 3 0) := by
  cases hok : d.slotDigestOk w.slot with
  | true =>
    rw [planCompared_ok h hs hok]
    obtain ⟨hmem, htck, hS⟩ := swapTo_slotSense d w.slot { w with stage := .pending, doneAt := d.q }
    exact ⟨hmem, fun _ => ⟨htck, hS⟩, fun hf => absurd hf (by decide)⟩
  | false =>
    rw [planCompared_bad h hs hok]
    obtain ⟨hmem, htck, -, hans⟩ := swapEnd_slotSense h
    exact ⟨hmem, fun hf => absurd hf (by decide), fun _ => ⟨htck, hans⟩⟩

end Sys2Proof.Machine
end

section
/-! Loads and unloads of models (R175 to R179), and the obligation on swaps and loads. -/

namespace Sys2Proof.Machine

/-! ## The end of a load -/

/-- The request of a load. -/
def LoadOp.isReq (l : LoadOp) (r : RunReq) : Bool := decide (r.op = l.op) && decide (r.tag = l.tag)

theorem sansRegs_loadEnd (d : Device) (l : LoadOp) (status : Nat) (result : Word) :
    (d.loadEnd l status result).sansRegs =
      (({ d with load := none } : Device).withRunning (d.hif.running.filter fun r => !l.isReq r)).sansRegs :=
  sansRegs_completeWhere _ l.isReq status result

/-- A load that ends is gone with its request, and models and contexts stay. -/
theorem loadEnd_spec (d : Device) (l : LoadOp) (status : Nat) (result : Word) :
    (d.loadEnd l status result).load = none ∧ (∀ r, r ∈ (d.loadEnd l status result).hif.running → ¬ (r.op = l.op ∧ r.tag = l.tag)) ∧
      (∀ n, (d.loadEnd l status result).modelAt n = d.modelAt n) ∧ (d.loadEnd l status result).cvu = d.cvu := by
  have hS := sansRegs_loadEnd d l status result
  refine ⟨Twin.read hS Device.load fun _ => rfl, fun r hr => ?_, fun n => Twin.read hS (·.modelAt n) fun _ => rfl,
    Twin.read hS Device.cvu fun _ => rfl⟩
  have hrun : (d.loadEnd l status result).hif.running = d.hif.running.filter fun r => !l.isReq r :=
    Twin.read hS (·.hif.running) fun _ => rfl
  rw [hrun, List.mem_filter] at hr
  rintro ⟨ho, ht⟩
  simp [LoadOp.isReq, ho, ht] at hr

/-- The only running request is that of the load: it is answered. -/
theorem answered_loadEnd {d d0 : Device} {l : LoadOp} {a0 : Word} {status : Nat} (result : Word)
    (hr : d.hif.running = [RunReq.mk l.op l.tag a0]) (h0 : d.reg Reg.hifCplCount = d0.reg Reg.hifCplCount) (ho : l.op < 256)
    (hs : status < 256) : Answered d0 (d.loadEnd l status result) l.op l.tag status result :=
  answered_completeWhere (d := { d with load := none }) (r := RunReq.mk l.op l.tag a0) result hr (by simp)
    ((Device.reg_congr (d := d) rfl _).trans h0) ho hs

theorem modelAt_setModel_other (d : Device) (n : Nat) (m : Model) : (d.setModel n m).modelAt (1 - n) = d.modelAt (1 - n) := by
  unfold Device.setModel
  split
  next h => subst h; rfl
  next h =>
    have h1 : 1 - n = 0 := by omega
    rw [h1]
    rfl

theorem setModel_regs (d : Device) (n : Nat) (m : Model) : (d.setModel n m).regs = d.regs := by
  unfold Device.setModel
  split <;> rfl

theorem setModel_hif (d : Device) (n : Nat) (m : Model) : (d.setModel n m).hif = d.hif := by
  unfold Device.setModel
  split <;> rfl

theorem setModel_cvu (d : Device) (n : Nat) (m : Model) : (d.setModel n m).cvu = d.cvu := by
  unfold Device.setModel
  split <;> rfl

/-- What the end of a load of entry `l.entry` leaves beside that entry. -/
structure LoadEnded (s d : Device) (l : LoadOp) : Prop where
  load : d.load = none
  running : ∀ r, r ∈ d.hif.running → ¬ (r.op = l.op ∧ r.tag = l.tag)
  other : d.modelAt (1 - l.entry) = s.modelAt (1 - l.entry)

/-- A load that ends after entry `l.entry` has been set to `m`. -/
theorem loadEnded_setModel {s u v : Device} {l : LoadOp} {m : Model} (h : ∀ n, u.modelAt n = s.modelAt n)
    (hv : ∀ n, v.modelAt n = (u.setModel l.entry m).modelAt n) (status : Nat) (result : Word) :
    LoadEnded s (v.loadEnd l status result) l ∧ (v.loadEnd l status result).modelAt l.entry = m := by
  obtain ⟨hload, hrun, hmod, -⟩ := loadEnd_spec v l status result
  refine ⟨⟨hload, hrun, ?_⟩, ?_⟩
  · rw [hmod, hv, modelAt_setModel_other, h]
  · rw [hmod, hv, modelAt_setModel_same]

/-! ## Placement (R175) -/

theorem MemStep.modelAt {a b : Device} (h : MemStep a b) (n : Nat) : b.modelAt n = a.modelAt n :=
  h.read (·.modelAt n) fun _ => rfl

theorem memStep_ite {d a b : Device} {p : Prop} [Decidable p] (ha : MemStep d a) (hb : MemStep d b) :
    MemStep d (if p then a else b) := by
  split <;> assumption

theorem memStep_placeAll (d : Device) (g : Img) (l : List Section) : MemStep d (d.placeAll g l) :=
  .foldl _ (fun d _ => .foldl _ (fun d _ => memStep_ite (memStep_writeMem d _ _ _) (memStep_zeroMem d _ _)) _ d) _ d

theorem memStep_releaseAt (d : Device) (l : List Section) : MemStep d (d.releaseAt l) :=
  .foldl _ (fun d _ => .foldl _ (fun d _ => memStep_zeroMem d _ _) _ d) _ d

theorem memStep_copiesRead (d : Device) (l : List Section) : MemStep d (d.copiesRead l) :=
  .foldl _ (fun d _ => .foldl _ (fun d _ => memStep_ite (memStep_sense d _ _) (.refl d)) _ d) _ d

theorem memStep_admReport (d : Device) (l : List (Nat × Want)) : MemStep d (d.admReport l) := by
  unfold Device.admReport
  split
  · exact (((memStep_setReg d _ _).trans (memStep_setReg _ _ _)).trans (memStep_setReg _ _ _)).trans (memStep_setReg _ _ _)
  · exact (((memStep_setReg d _ _).trans (memStep_setReg _ _ _)).trans (memStep_setReg _ _ _)).trans (memStep_setReg _ _ _)

/-- What a fold's steps keep, the fold keeps. -/
theorem foldl_keeps {α β : Type} (g : Device → β) (f : Device → α → Device) (hf : ∀ d x, g (f d x) = g d) (xs : List α)
    (d : Device) : g (xs.foldl f d) = g d := by
  induction xs generalizing d with
  | nil => rfl
  | cons x xs ih => exact (ih _).trans (hf d x)

/-- Enabling the contexts of a model and fencing narrowed engines leave the resident entries. -/
theorem modelAt_modelCtxs_fenceNarrow (d : Device) (e n : Nat) : (d.modelCtxs e).fenceNarrow.modelAt n = d.modelAt n := by
  have hf : (d.modelCtxs e).fenceNarrow.modelAt n = (d.modelCtxs e).modelAt n :=
    foldl_keeps (·.modelAt n) _ (fun d x => by split <;> rfl) _ _
  refine hf.trans (foldl_keeps (·.modelAt n) _ (fun d x => ?_) _ _)
  rfl

/-- Placement ends with the entry resident, or empty. -/
theorem loadPlace_spec {s u : Device} (h : ∀ n, u.modelAt n = s.modelAt n) (l : LoadOp) (g : Img) :
    LoadEnded s (u.loadPlace l g) l ∧
      ((u.loadPlace l g).modelAt l.entry = .reset ∨ (u.loadPlace l g).modelAt l.entry = modelFrom g) := by
  have hp := memStep_placeAll u g ((imgSecs g).filter (·.placed))
  have hc := hp.trans (memStep_copiesRead _ ((imgSecs g).filter (·.placed)))
  unfold Device.loadPlace
  extract_lets placed d1 ok d2
  split
  · obtain ⟨he, hm⟩ := loadEnded_setModel (fun n => (hc.modelAt n).trans (h n))
      (fun n => modelAt_modelCtxs_fenceNarrow (d2.setModel l.entry (modelFrom g)) l.entry n) 0 (word l.entry)
    exact ⟨he, .inr hm⟩
  · have hr := hc.trans (memStep_releaseAt d2 placed)
    obtain ⟨he, hm⟩ := loadEnded_setModel (l := l) (m := .reset) (fun n => (hr.modelAt n).trans (h n)) (fun n => rfl) 7 0
    exact ⟨he, .inl hm⟩

/-! ## LOAD_COMPLETE (R175) -/

/-- The source of a load has been read (R149, R385). -/
def Device.loadRead (d : Device) (l : LoadOp) (x : FlashRead) : Device :=
  let src := d.loadSource l.args
  let u := d.srcRead l.args (if !src.2.1 then 0 else if imgForm src.2.2 src.1 then imgSig src.2.2 + 256 else 64)
  if src.2.1 && decide (l.args.a0.toNat ≠ 15) then u.flashMet x else u

theorem readStep_srcRead (d : Device) (a : ReqArgs) (n : Nat) : ReadStep d (d.srcRead a n) := by
  unfold Device.srcRead
  split
  · exact readStep_sense d _ _
  · exact .refl d

theorem memStep_loadRead (d : Device) (l : LoadOp) (x : FlashRead) : MemStep d (d.loadRead l x) :=
  memStep_ite ((readStep_srcRead d _ _).mem.trans (memStep_flashMet _ _)) (readStep_srcRead d _ _).mem

/-- A source that may not be read leaves the registers of the checker die. -/
theorem readStep_loadRead {d : Device} {l : LoadOp} (x : FlashRead) (h : (d.loadSource l.args).2.1 = false) :
    ReadStep d (d.loadRead l x) := by
  have he : d.loadRead l x = d.srcRead l.args 0 := by
    unfold Device.loadRead
    simp only [h]
    rfl
  rw [he]
  exact readStep_srcRead d _ _

/-- The steps of Table 7.7 in order, after the source has been read. -/
theorem loadDone_eq {d : Device} {l : LoadOp} (x : FlashRead) (h : d.load = some l) (h3 : l.op ≠ 3) (hw : l.waitTick = false) :
    d.loadDone x =
      let src := d.loadSource l.args
      let u := d.loadRead l x
      let s := u.shorts src.2.2 (u.otherSections l.entry)
      let v := u.admReport s
      if !src.2.1 || !imgForm src.2.2 src.1 || !srcClear l.args (imgSecs src.2.2 ++ u.otherSections l.entry) then u.loadFail l 4
      else if (src.2.1 && decide (l.args.a0.toNat ≠ 15) && x.bad) || d.srcPoison l.args (imgSig src.2.2 + 256) ||
        !u.imgSigned src.2.2 then u.loadFail l 5
      else if s ≠ [] then v.loadFail l 6
      else if !v.imgValid src.2.2 then v.loadFail l 7
      else v.loadPlace l src.2.2 := by
  unfold Device.loadDone
  rw [h]
  exact if_neg (by simp [h3, hw])

/-- How a load ends: it fails with a status, 4 where its source may not be read; or it is placed, where its image passed every
check. -/
theorem loadDone_cases {d : Device} {l : LoadOp} (x : FlashRead) (h : d.load = some l) (h3 : l.op ≠ 3) (hw : l.waitTick = false) :
    (∃ st u, MemStep d u ∧ d.loadDone x = u.loadFail l st ∧
      ((d.loadSource l.args).2.1 = false → st = 4 ∧ u = d.loadRead l x)) ∨
    (∃ u, MemStep d u ∧ d.loadDone x = u.loadPlace l (d.loadSource l.args).2.2 ∧ (d.loadSource l.args).2.1 = true ∧
      imgForm (d.loadSource l.args).2.2 (d.loadSource l.args).1 = true ∧ d.imgSigned (d.loadSource l.args).2.2 = true ∧
      d.shorts (d.loadSource l.args).2.2 (d.otherSections l.entry) = [] ∧ d.imgValid (d.loadSource l.args).2.2 = true) := by
  have hM := memStep_loadRead d l x
  rw [loadDone_eq x h h3 hw]
  generalize d.loadSource l.args = src
  generalize d.loadRead l x = u at hM ⊢
  extract_lets src' u' s v
  have hv : MemStep d v := hM.trans (memStep_admReport u s)
  split
  next => exact .inl ⟨4, u, hM, rfl, fun _ => ⟨rfl, rfl⟩⟩
  next h4 =>
    have hsrc : src.2.1 = true ∧ imgForm src.2.2 src.1 = true := by
      simp only [Bool.or_eq_true, Bool.not_eq_true', not_or, Bool.not_eq_false] at h4
      exact h4.1
    have hno : src.2.1 = false → False := fun hf => absurd (hsrc.1.symm.trans hf) (by decide)
    split
    next => exact .inl ⟨5, u, hM, rfl, fun hf => (hno hf).elim⟩
    next h5 =>
      split
      next => exact .inl ⟨6, v, hv, rfl, fun hf => (hno hf).elim⟩
      next h6 =>
        split
        next => exact .inl ⟨7, v, hv, rfl, fun hf => (hno hf).elim⟩
        next h7 =>
          simp only [Bool.or_eq_true, Bool.not_eq_true', not_or, Bool.not_eq_false] at h5 h7
          refine .inr ⟨v, hv, rfl, hsrc.1, hsrc.2, ?_, ?_, ?_⟩
          · exact (hM.read (·.imgSigned src.2.2) fun _ => rfl).symm.trans h5.2
          · exact (hM.read (fun d => d.shorts src.2.2 (d.otherSections l.entry)) fun _ => rfl).symm.trans (not_not.1 h6)
          · exact (hv.read (·.imgValid src.2.2) fun _ => rfl).symm.trans h7

/-- A load that fails leaves its entry empty. -/
theorem loadFail_spec {s u : Device} (h : ∀ n, u.modelAt n = s.modelAt n) (l : LoadOp) (st : Nat) :
    LoadEnded s (u.loadFail l st) l ∧ (u.loadFail l st).modelAt l.entry = .reset :=
  loadEnded_setModel h (fun _ => rfl) st 0

/-- A load whose source may not be read answers with status 4. -/
theorem answered_loadFail {d u : Device} {l : LoadOp} {a0 : Word} {st : Nat} (hu : ReadStep d u)
    (hr : d.hif.running = [RunReq.mk l.op l.tag a0]) (ho : l.op < 256) (hs : st < 256) :
    Answered d (u.loadFail l st) l.op l.tag st 0 := by
  refine answered_loadEnd (a0 := a0) 0 ?_ ?_ ho hs
  · rw [setModel_hif, hu.mem.running, hr]
  · exact (Device.reg_congr (setModel_regs _ _ _) _).trans (hu.high _ (by decide))

/-! ## UNLOAD_COMPLETE (R179) -/

/-- No context of a released owner is left. -/
theorem owner_dropCtxs (d : Device) (o : Owner) (ho : o ≠ .image) (c : Nat) : ((d.dropCtxs o).ctxAt c).owner ≠ o := by
  have key : ∀ t : Tab Ctx, (tabGet Ctx.reset (t.filter fun c => c.2.owner ≠ o) c).owner ≠ o := by
    intro t
    induction t with
    | nil => exact fun h => ho h.symm
    | cons x t ih =>
      by_cases hx : x.2.owner = o
      · simpa [List.filter_cons, hx] using ih
      · rw [List.filter_cons_of_pos (by simpa using hx)]
        unfold tabGet
        split
        · exact hx
        · exact ih
  exact key _

theorem ownerOf_ne_image (n : Nat) : ownerOf n ≠ .image := by
  unfold ownerOf
  split <;> decide

theorem unloadDone_eq {d : Device} {l : LoadOp} (h : d.load = some l) (h3 : l.op = 3) :
    d.unloadDone = (((d.releaseAt (((d.modelAt l.entry).sections).filter (·.placed))).dropCtxs (ownerOf l.entry)).setModel
      l.entry .reset).loadEnd l 0 0 := by
  unfold Device.unloadDone
  rw [h]
  exact if_pos h3

/-! ## The obligation -/

theorem exec_loadComplete (s : State) (r : FlashRead) :
    exec (.loadComplete r) s = act s.dev.cmpAlive (fun d => d.loadDone r) s := rfl
theorem exec_unloadComplete (s : State) : exec .unloadComplete s = act s.dev.cmpAlive Device.unloadDone s := rfl

/-- Settles O25: a swap by the check of its slot; a load by the steps of Table 7.7, each of which fails it or leads on; an unload
by what it releases. -/
theorem swapsAndLoadsAreVerified : Obligations.SwapsAndLoadsAreVerified := by
  unfold Obligations.SwapsAndLoadsAreVerified
  refine ⟨⟨fun s w hc h hs hb => ?_, fun s w hc h hs => ?_⟩, fun s l r hc h h3 hw => ?_, fun s l hc h h3 => ?_⟩
  · exact .of_act (exec_planValidationDone s) (by simp [hc, hb]) (planChecked_spec h hs)
  · exact .of_act (exec_planDigestCompareDone s) hc (planCompared_spec h hs)
  · refine .of_act (exec_loadComplete s r) hc ?_
    rcases loadDone_cases r h h3 hw with ⟨st, u, hM, he, hsrc⟩ | ⟨u, hM, he, hok, hform, hsig, hshort, hvalid⟩
    · obtain ⟨⟨hload, hrun, hoth⟩, hm⟩ := loadFail_spec (fun n => hM.modelAt n) l st
      rw [he]
      refine ⟨hload, hrun, hoth, .inl hm, fun hres => ?_, fun a0 hno hr ho => ?_⟩
      · rw [hm] at hres
        exact absurd hres (by decide)
      · obtain ⟨rfl, rfl⟩ := hsrc hno
        exact answered_loadFail (readStep_loadRead r hno) hr ho (by decide)
    · obtain ⟨⟨hload, hrun, hoth⟩, hm⟩ := loadPlace_spec (fun n => hM.modelAt n) l (s.dev.loadSource l.args).2.2
      rw [he]
      exact ⟨hload, hrun, hoth, hm, fun _ => ⟨hform, hsig, hshort, hvalid⟩,
        fun a0 hno => absurd (hok.symm.trans hno) (by decide)⟩
  · refine .of_act (exec_unloadComplete s) hc ?_
    rw [unloadDone_eq h h3]
    have hM := memStep_releaseAt s.dev (((s.dev.modelAt l.entry).sections).filter (·.placed))
    generalize s.dev.releaseAt _ = u at hM ⊢
    obtain ⟨⟨hload, hrun, hoth⟩, hm⟩ := loadEnded_setModel (u := u.dropCtxs (ownerOf l.entry)) (l := l) (m := .reset)
      (fun n => hM.modelAt n) (fun n => rfl) 0 0
    obtain ⟨-, -, -, hcvu⟩ := loadEnd_spec ((u.dropCtxs (ownerOf l.entry)).setModel l.entry .reset) l 0 0
    refine ⟨hload, hm, hoth, fun c => ?_, fun r hr => h3 ▸ hrun r hr⟩
    rw [Device.ctxAt, hcvu, setModel_cvu]
    exact owner_dropCtxs u _ (ownerOf_ne_image _) c

end Sys2Proof.Machine
end

section
/-! Bytes and stored words: what a memory reads back after a word of it is rewritten (R4, R141). -/

namespace Sys2Proof.Machine

theorem length_toLe (n v : Nat) : (toLe n v).length = n := by
  induction n generalizing v with
  | zero => rfl
  | succ n ih => simp [toLe, ih]

/-- The bytes of a number spell its low part. -/
theorem leNat_toLe (n v : Nat) : leNat (toLe n v) = v % 256 ^ n := by
  induction n generalizing v with
  | zero => simp [toLe, leNat, Nat.mod_one]
  | succ n ih => rw [toLe, leNat, ih, BitVec.toNat_ofNat, pow_succ' 256, Nat.mod_mul]

/-- A run of bytes written from `a`: each of them is read back, and every other address is unchanged. -/
theorem tabGet_writeBytes (a s j : Nat) (l : List Byte) (t : Tab Byte) :
    tabGet 0 ((l.zipIdx s).foldl (fun t b => tabSet 0 t (a + b.2) b.1) t) j =
      if a + s ≤ j ∧ j < a + s + l.length then l.getD (j - (a + s)) 0 else tabGet 0 t j := by
  induction l generalizing s t with
  | nil => simp
  | cons b l ih =>
    rw [List.zipIdx_cons, List.foldl_cons, ih]
    by_cases hj : j = a + s
    · subst hj
      simp
    · rw [tabGet_tabSet_ne 0 t b hj]
      by_cases hin : a + (s + 1) ≤ j ∧ j < a + (s + 1) + l.length
      · rw [if_pos hin, if_pos (by simp only [List.length_cons]; omega),
          show j - (a + s) = j - (a + (s + 1)) + 1 by omega, List.getD_cons_succ]
      · rw [if_neg hin, if_neg (by simp only [List.length_cons]; omega)]

namespace MemSys

theorem data_putBytes (m : MemSys) (a n v j : Nat) : tabGet 0 (m.putBytes a n v).data j =
    if a ≤ j ∧ j < a + n then (toLe n v).getD (j - a) 0 else tabGet 0 m.data j := by
  have h := tabGet_writeBytes a 0 j (toLe n v) m.data
  rwa [length_toLe] at h

/-- A word that is rewritten reads what was written. -/
theorem word_putBytes_same (m : MemSys) {w n : Nat} (v : Nat) (hn : wordSize w = n) : (m.putBytes w n v).word w = v % 256 ^ n := by
  have hbytes : (List.range n).map (fun i => tabGet 0 (m.putBytes w n v).data (w + i)) = toLe n v := by
    refine List.ext_getElem (by simp [length_toLe]) fun i hi hi' => ?_
    rw [length_toLe] at hi'
    rw [List.getElem_map, List.getElem_range, data_putBytes, if_pos (by omega), Nat.add_sub_cancel_left,
      List.getD_eq_getElem]
  rw [word, hn, hbytes, leNat_toLe]

/-- A word apart from the bytes written is unchanged. -/
theorem word_putBytes_ne (m : MemSys) {a n w : Nat} (v : Nat) (h : w + wordSize w ≤ a ∨ a + n ≤ w) :
    (m.putBytes a n v).word w = m.word w := by
  unfold word
  refine congrArg leNat (List.map_congr_left fun i hi => ?_)
  rw [List.mem_range] at hi
  rw [data_putBytes, if_neg (by omega)]

theorem synAt_setSyn_ne (m : MemSys) {w a : Nat} (s : Nat) (h : a ≠ w) : (m.setSyn w s).synAt a = m.synAt a :=
  congrArg BitVec.toNat (tabGet_tabSet_ne 0 m.syn _ h)

end MemSys

/-! ## Accumulator words (R77) -/

theorem isMe_iff {e : Nat} : isMe e = true ↔ e < 168 ∧ e % 7 < 4 := by
  rw [Bool.and_eq_true, decide_eq_true_eq, decide_eq_true_eq, engKind]
  split <;> omega

theorem accAddr_eq (e r n : Nat) : accAddr e r n = 0xA00000000 + (4 * (e / 7) + e % 7) * 0x100000 + r * 0x100 + 4 * n := rfl

theorem accAddr_mod (e r n : Nat) : accAddr e r n % 4 = 0 := by
  rw [accAddr_eq]
  omega

/-- Columns of one row are words apart. -/
theorem accAddr_ne (e r : Nat) {k n : Nat} (h : k ≠ n) : accAddr e r k ≠ accAddr e r n := by
  simp only [accAddr]
  omega

/-- The accumulator memory of ME `j` stores a word at `w`. -/
structure AccWord (j w : Nat) : Prop where
  isAcc : isAcc w = true
  stored : accHole w = false
  placeOf : placeOf w = some (.acc j)
  aligned : w % 4 = 0

/-- Columns 0 to 32 of the rows of an ME are stored words (R77). -/
theorem accWord_accAddr {e r n : Nat} (he : isMe e = true) (hr : r < 2048) (hn : n ≤ 32) :
    AccWord (4 * (e / 7) + e % 7) (accAddr e r n) := by
  have hme : 4 * (e / 7) + e % 7 < 96 := by
    have := isMe_iff.mp he
    omega
  have hacc : isAcc (accAddr e r n) = true := by
    rw [isAcc, Bool.and_eq_true, decide_eq_true_eq, decide_eq_true_eq, accAddr_eq]
    unfold accBase
    omega
  refine ⟨hacc, ?_, ?_, accAddr_mod e r n⟩
  · rw [accHole, hacc, Bool.true_and, Bool.or_eq_false_iff, decide_eq_false_iff_not, decide_eq_false_iff_not, accAddr_eq]
    unfold accBase
    omega
  · rw [placeOf, accAddr_eq]
    unfold fbufBase scrBase accBase
    rw [if_neg (by omega), if_neg (by omega), if_neg (by omega), if_neg (by omega), if_neg (by omega), if_neg (by omega),
      if_pos (by omega)]
    congr 2
    omega

theorem me_facet_eq {e : Nat} (he : isMe e = true) : (4 * (e / 7) + e % 7) / 24 = e / 42 := by
  have := isMe_iff.mp he
  omega

section
variable {j w : Nat} (h : AccWord j w)
include h

theorem AccWord.wordSize : wordSize w = 4 := by rw [Machine.wordSize, h.isAcc]; rfl

theorem AccWord.wordBase : wordBase w = w := by
  rw [Machine.wordBase, h.wordSize]
  exact Nat.div_mul_cancel (Nat.dvd_of_mod_eq_zero h.aligned)

theorem AccWord.patAt : patAt w = 0x7F := by rw [Machine.patAt, h.isAcc]; rfl

theorem AccWord.accBase_le : accBase ≤ w := by
  have hacc := h.isAcc
  rw [Machine.isAcc, Bool.and_eq_true, decide_eq_true_eq, decide_eq_true_eq] at hacc
  exact hacc.1

/-- A read or write of the word is one piece. -/
theorem AccWord.pieces {s : Nat} (hs : s % 4 = 0) (h4 : 4 ≤ s) : pieces s (4 + 1) w 0 4 = [(w, 0, 4)] := by
  have hmin : min 4 (s - w % s) = 4 := by
    have h1 : w % s < s := Nat.mod_lt _ (by omega)
    have h2 : w % s % 4 = 0 := by rw [Nat.mod_mod_of_dvd _ (Nat.dvd_of_mod_eq_zero hs), h.aligned]
    omega
  simp [Machine.pieces, hmin]

/-- The array of an ME in service stores its accumulator words. -/
theorem AccWord.mapped {d : Device} (hf : d.facetUp (j / 24) = true) : d.mapped w = true := by
  rw [Device.mapped, h.placeOf]
  exact hf

end

/-! ## Clean words -/

/-- No span is being decoded, and the word at `w` carries no syndrome. -/
structure Device.Clean (d : Device) (w : Nat) : Prop where
  decode : d.mem.decode = []
  syn : d.mem.synAt w = 0

theorem Device.Clean.wordDec {d : Device} {w : Nat} (hc : d.Clean w) : wordDec w (d.mem.synAt w) = .clean := by
  rw [hc.syn]
  rfl

theorem Device.Clean.needsDecode {d : Device} {w : Nat} (hc : d.Clean w) : d.needsDecode w = false := by
  simp [Device.needsDecode, hc.wordDec, hc.decode]

section
variable {d : Device} {j w : Nat} (h : AccWord j w)
include h

/-- Reading a clean accumulator word changes nothing. -/
theorem Device.Clean.loadWord (hc : d.Clean w) : d.loadWord w = (d, d.mem.word w, false) := by
  have hce : d.ceWord w = d := by rw [Device.ceWord, hc.wordDec]
  simp [Device.loadWord, Device.loadWith, h.stored, hc.needsDecode, hce, hc.syn]

theorem Device.Clean.seeAs_drain (hc : d.Clean w) : d.seeAs .drain w = (d, d.mem.word w, false) := by
  simp only [Device.seeAs, hc.needsDecode, hc.loadWord h, h.isAcc, Bool.and_false, Bool.false_and, Bool.false_eq_true, if_false,
    or_true, if_true]
  split <;> rfl

theorem Device.Clean.readAs_drain (hc : d.Clean w) :
    d.readAs .drain w 4 = ⟨d, slice (toLe 4 (d.mem.word w)) 0 4, false⟩ := by
  have hdram : d.dramEvent 0xC0 w 4 = d := if_neg (by have := h.accBase_le; unfold accBase at this; omega)
  rw [Device.readAs, h.wordSize, h.pieces rfl le_rfl, hdram]
  simp [h.wordBase, hc.seeAs_drain h, h.wordSize]

/-- Storing a clean accumulator word: its bytes and its mark. -/
theorem Device.Clean.storeWord (hc : d.Clean w) (v : Nat) (p : Bool) : d.storeWord w v p =
    d.setMem ((d.mem.putBytes w 4 v).setSyn w (if p then 0x7F else 0)) := by
  have htouch : ∀ m : MemSys, m.touch w = m := fun m => by rw [MemSys.touch, h.placeOf]
  simp [Device.storeWord, Device.storeWith, h.stored, hc.needsDecode, hc.wordDec, MemSys.residue, h.wordSize, h.patAt, htouch]

end

/-! ## Writes of the drain (R77, R78) -/

theorem slice_toLe (n v : Nat) : slice (toLe n v) 0 n = toLe n v := by
  simp [slice, length_toLe]

theorem leAt_toLe_word (v : Word) : leAt (toLe 4 v.toNat) 0 4 = v.toNat := by
  rw [leAt, slice_toLe, leNat_toLe]
  exact Nat.mod_eq_of_lt v.isLt

/-- The writes that are noted for the a-cycle in progress (R78, R128). -/
def Device.racesNow (d : Device) : List Race := if d.raceAt = d.q / aQ then d.races else []

/-- The word at `w` is clean, and no write of it is noted in this a-cycle. -/
structure Device.Fresh (d : Device) (w : Nat) : Prop extends d.Clean w where
  free : ∀ x ∈ d.racesNow, x.word ≠ w

/-- The device with a write of the word at `w` by the drain of engine `e` noted. -/
def Device.drainNoted (d : Device) (e w : Nat) : Device :=
  { d with raceAt := d.q / aQ, races := d.racesNow ++ [⟨w, 168 + e, d.mem.word w, false⟩] }

/-- The drain of engine `e` has stored `v` with a mark in the clean word at `w`. -/
def Device.drained (d : Device) (e w v : Nat) (p : Bool) : Device :=
  (d.drainNoted e w).setMem ((d.mem.putBytes w 4 v).setSyn w (if p then 0x7F else 0))

section
variable {d : Device} {j w : Nat} (h : AccWord j w)
include h

theorem writeMem_word (hc : d.Clean w) (hf : d.facetUp (j / 24) = true) (v : Word) (p : Bool) :
    d.writeMem w (toLe 4 v.toNat) p = d.setMem ((d.mem.putBytes w 4 v.toNat).setSyn w (if p then 0x7F else 0)) := by
  rw [Device.writeMem, length_toLe, h.pieces rfl (by decide)]
  simp only [List.foldl_cons, List.foldl_nil, hc.decode, List.not_mem_nil, if_false, h.mapped hf, h.isAcc, Bool.not_true,
    Bool.false_eq_true, if_true]
  rw [h.pieces rfl le_rfl]
  simp only [List.foldl_cons, List.foldl_nil, if_true, leAt_toLe_word, hc.storeWord h]

theorem writeTag_word (hc : d.Clean w) (hf : d.facetUp (j / 24) = true) (v : Word) (p : Bool) :
    d.writeTag w ((toLe 4 v.toNat).map fun b => (b, p)) =
      d.setMem ((d.mem.putBytes w 4 v.toNat).setSyn w (if p then 0x7F else 0)) := by
  have hbytes : ((toLe 4 v.toNat).map fun b => (b, p)).map (·.1) = toLe 4 v.toNat := by
    rw [List.map_map]
    exact List.map_id _
  have hmark : ((toLe 4 v.toNat).map fun b => (b, p)).any (·.2) = p := by simp [toLe]
  have hlen : ((toLe 4 v.toNat).map fun b => (b, p)).length = 4 := by simp [length_toLe]
  rw [Device.writeTag, hlen, h.wordSize, h.pieces rfl le_rfl]
  simp only [List.foldl_cons, List.foldl_nil, List.drop_zero]
  rw [List.take_of_length_le hlen.le, hbytes, hmark, writeMem_word h hc hf]

/-- The drain's write of a fresh word is noted, and nothing contends with it (R78). -/
theorem raceWord_fresh (hw : d.Fresh w) (e : Nat) : d.raceWord (168 + e) w = (d.drainNoted e w, true) := by
  have hnow : (if d.raceAt = d.q / aQ then d else { d with raceAt := d.q / aQ, races := [] }) =
      { d with raceAt := d.q / aQ, races := d.racesNow } := by
    unfold Device.racesNow
    split
    next hq => rw [← hq]
    next => rfl
  have hfind : d.racesNow.find? (fun x => decide (x.word = w)) = none := by
    simpa using hw.free
  have hclean : ({ d with raceAt := d.q / aQ, races := d.racesNow } : Device).Clean w := ⟨hw.decode, hw.syn⟩
  have hnote : d.noteWrite (168 + e) w = d.drainNoted e w := by
    simp only [Device.noteWrite, hnow, hfind, hclean.seeAs_drain h]
    rfl
  rw [Device.raceWord, hnote]
  refine if_pos (List.isEmpty_iff.mpr (List.filter_eq_nil_iff.mpr fun x hx => ?_))
  rcases List.mem_append.mp hx with hx | hx
  · simp [hw.free x hx]
  · simp [List.mem_singleton.mp hx]

theorem engWrite_fresh (hw : d.Fresh w) (hf : d.facetUp (j / 24) = true) (e : Nat) (v : Word) (p : Bool) :
    d.engWrite (168 + e) w ((toLe 4 v.toNat).map fun b => (b, p)) = d.drained e w v.toNat p := by
  have hlen : ((toLe 4 v.toNat).map fun b => (b, p)).length = 4 := by simp [length_toLe]
  have hscr : ¬ w < scrBase := by
    have := h.accBase_le
    unfold accBase at this
    unfold scrBase
    omega
  have hclean : (d.drainNoted e w).Clean w := ⟨hw.decode, hw.syn⟩
  rw [Device.engWrite, if_neg hscr, hlen, h.wordSize, h.pieces rfl le_rfl]
  simp only [List.foldl_cons, List.foldl_nil, List.drop_zero, h.wordBase, raceWord_fresh h hw, if_true]
  rw [List.take_of_length_le hlen.le]
  exact writeTag_word h hclean hf v p

end

/-- The drain stores one word in a fresh column; under ACC_MODE 0 it is the result's (R79). -/
theorem drainWord_fresh {d : Device} {e r n : Nat} (h : AccWord (4 * (e / 7) + e % 7) (accAddr e r n))
    (hw : d.Fresh (accAddr e r n)) (hf : d.facetUp ((4 * (e / 7) + e % 7) / 24) = true) (mode : Nat) (int : Bool)
    (bias y : Word) (bad keep : Bool) :
    ∃ (v : Word) (p : Bool), d.drainWord e mode r n int bias y bad keep = d.drained e (accAddr e r n) v.toNat p ∧
      (mode = 0 → v = y) := by
  unfold Device.drainWord
  generalize accAddr e r n = w at *
  have hread : (if mode = 1 then d.readAs .drain w 4 else ⟨d, [], false⟩).dev = d ∧
      (if mode = 1 then d.readAs .drain w 4 else ⟨d, [], false⟩).poison = false := by
    split
    · rw [hw.readAs_drain h]
      exact ⟨rfl, rfl⟩
    · exact ⟨rfl, rfl⟩
  simp only [hread, Bool.or_false]
  exact ⟨_, _, engWrite_fresh h hw hf e _ _, fun h0 => if_pos h0⟩

end Sys2Proof.Machine
end

section
/-! Result rows (R77, R79, R86 to R88): the words that a row writes, and its comparison. -/

namespace Sys2Proof.Machine

/-! ## The words of a row -/

section
variable {d : Device} {e w v : Nat} {p : Bool}

theorem racesNow_drained (x : Race) (hx : x ∈ (d.drained e w v p).racesNow) : x ∈ d.racesNow ∨ x.word = w := by
  have hnow : (d.drained e w v p).racesNow = d.racesNow ++ [⟨w, 168 + e, d.mem.word w, false⟩] := if_pos rfl
  rw [hnow, List.mem_append, List.mem_singleton] at hx
  exact hx.imp_right fun h => by rw [h]

/-- Draining a word keeps every other fresh one fresh. -/
theorem Device.Fresh.drained {a : Nat} (h : d.Fresh a) (hne : a ≠ w) : (d.drained e w v p).Fresh a where
  decode := h.decode
  syn := by
    rw [← h.syn]
    exact MemSys.synAt_setSyn_ne _ _ hne
  free x hx := (racesNow_drained x hx).elim (h.free x) fun hw => hw ▸ hne.symm

end

/-- From `d0` to `d` the drain has written columns below `n` of row `r`, of each that `val` names its value; nothing but the row and
the notes of its writes has changed, and the columns from `n` on are fresh. -/
structure RowDrained (e r : Nat) (val : Nat → Option Nat) (n : Nat) (d0 d : Device) : Prop where
  rest : d = { d0 with mem := { d0.mem with data := d.mem.data, syn := d.mem.syn }, raceAt := d.raceAt, races := d.races }
  outside : ∀ a, a < accAddr e r 0 ∨ accAddr e r 33 ≤ a → tabGet 0 d.mem.data a = tabGet 0 d0.mem.data a
  written : ∀ k, k < n → ∀ v, val k = some v → d.mem.word (accAddr e r k) = v
  ahead : ∀ k, n ≤ k → k ≤ 32 → d.Fresh (accAddr e r k)

namespace RowDrained
variable {e r n : Nat} {val : Nat → Option Nat} {d0 d : Device} (h : RowDrained e r val n d0 d)
include h

/-- A column that no value is asked of is passed over. -/
theorem skip (hv : val n = none) : RowDrained e r val (n + 1) d0 d where
  rest := h.rest
  outside := h.outside
  written k hk v hkv := by
    have hne : k ≠ n := fun hkn => by
      rw [hkn, hv] at hkv
      exact Option.some_ne_none v hkv.symm
    exact h.written k (by omega) v hkv
  ahead k hk := h.ahead k (by omega)

/-- The next column is written. -/
theorem step {v : Nat} (p : Bool) (he : isMe e = true) (hr : r < 2048) (hn : n ≤ 32) (hlt : v < 2 ^ 32)
    (hv : ∀ u, val n = some u → v = u) : RowDrained e r val (n + 1) d0 (d.drained e (accAddr e r n) v p) where
  rest := congrArg (fun x : Device => x.drained e (accAddr e r n) v p) h.rest ▸ rfl
  outside a ha := by
    rw [← h.outside a ha]
    refine (MemSys.data_putBytes d.mem _ 4 v a).trans (if_neg ?_)
    simp only [accAddr] at ha ⊢
    omega
  written k hk u hku := by
    by_cases hkn : k = n
    · subst hkn
      rw [← hv u hku]
      refine (MemSys.word_putBytes_same d.mem v (accWord_accAddr he hr hn).wordSize).trans ?_
      exact Nat.mod_eq_of_lt hlt
    · rw [← h.written k (by omega) u hku]
      refine MemSys.word_putBytes_ne d.mem v ?_
      rw [(accWord_accAddr he hr (show k ≤ 32 by omega)).wordSize]
      simp only [accAddr]
      omega
  ahead k hk hk32 := (h.ahead k (by omega) hk32).drained (accAddr_ne e r (by omega))

end RowDrained

/-- What ACC_MODE 0 asks of column `k` of a row: its word in an active column, and the checksum in column 32 (R79). -/
def rowWord (w : CmdWord) (y : RowRes) (k : Nat) : Option Nat :=
  if mmMode w = 0 then
    if k = 32 then some (y.z.toNat % 2 ^ 32) else if (mmMask w).getLsbD k then some (nth y.y k 0).toNat else none
  else none

section
variable {e r n : Nat} {w : CmdWord} {y : RowRes} {d0 d : Device} (he : isMe e = true) (hr : r < 2048)
  (hf : d0.facetUp (e / 42) = true)
include he hr hf

/-- The drain writes the next column with what `rowWord` asks of it. -/
theorem RowDrained.drainWord (h : RowDrained e r (rowWord w y) n d0 d) (hn : n ≤ 32) (int : Bool) (bias v : Word) (bad keep : Bool)
    (hv : mmMode w = 0 → ∀ u, rowWord w y n = some u → v.toNat = u) :
    RowDrained e r (rowWord w y) (n + 1) d0 (d.drainWord e (mmMode w) r n int bias v bad keep) := by
  have hup : d.facetUp ((4 * (e / 7) + e % 7) / 24) = true := by
    rw [me_facet_eq he, h.rest]
    exact hf
  obtain ⟨x, p, hx, hxv⟩ := drainWord_fresh (accWord_accAddr he hr hn) (h.ahead n le_rfl hn) hup (mmMode w) int bias v bad keep
  rw [hx]
  refine h.step p he hr hn x.isLt fun u hu => ?_
  by_cases hm : mmMode w = 0
  · rw [hxv hm]
    exact hv hm u hu
  · rw [rowWord, if_neg hm] at hu
    exact absurd hu.symm (Option.some_ne_none u)

/-- The data columns of a row, in rising order. -/
theorem RowDrained.columns (h : RowDrained e r (rowWord w y) 0 d0 d) (int : Bool) (bias : List Word) (bad keep : Bool) {n : Nat}
    (hn : n ≤ 32) : RowDrained e r (rowWord w y) n d0 ((List.range n).foldl (fun d k =>
      if (mmMask w).getLsbD k then d.drainWord e (mmMode w) r k int (nth bias k 0) (nth y.y k 0) bad keep else d) d) := by
  induction n with
  | zero => exact h
  | succ n ih =>
    have hprev := ih (by omega)
    rw [List.range_succ, List.foldl_append, List.foldl_cons, List.foldl_nil]
    have hne : ¬ n = 32 := by omega
    split
    next hcol =>
      refine hprev.drainWord he hr hf (by omega) int _ _ bad keep fun hm u hu => ?_
      rw [rowWord, if_pos hm, if_neg hne, if_pos hcol] at hu
      exact Option.some_inj.mp hu
    next hcol => exact hprev.skip (by rw [rowWord, if_neg hne, if_neg hcol, ite_self])

/-- A whole row: its active columns and its checksum (R79). -/
theorem RowDrained.drainRow (h : RowDrained e r (rowWord w y) 0 d0 d) (bias : List Word) (init : Bool) :
    RowDrained e r (rowWord w y) 33 d0 (d.drainRow e w bias r y init) := by
  rw [Device.drainRow, activeCols, List.foldl_filter]
  refine (h.columns he hr hf _ bias y.poison init le_rfl).drainWord he hr hf le_rfl _ _ _ _ false fun hm u hu => ?_
  rw [rowWord, if_pos hm, if_pos rfl] at hu
  rw [← Option.some_inj.mp hu]
  exact BitVec.toNat_ofNat _ _

end

/-! ## The comparison of a row (R86 to R88) -/

/-- From `d` to `d'` registers and the fault pairs of the compute die change. -/
def PairStep (d d' : Device) : Prop := d'.sansRegs = { d with flt := { d.flt with pair := d'.flt.pair } }.sansRegs

theorem PairStep.trans {a b c : Device} (h : PairStep a b) (g : PairStep b c) : PairStep a c :=
  Eq.trans g (congrArg (fun x : Device => { x with flt := { x.flt with pair := c.flt.pair } }) h)

theorem PairStep.of_onlyRegs {a b : Device} {l : List Nat} (h : OnlyRegs a b l) : PairStep a b := by
  have hflt : b.flt = a.flt := congrArg (·.flt) h.1
  rw [PairStep, h.1, hflt]

theorem pairStep_pairRaise (d : Device) (s : Nat) : PairStep d (d.pairRaise s) := by
  unfold PairStep Device.pairRaise
  split <;> rfl

theorem PairStep.of_ite {a b c : Device} {p : Prop} [Decidable p] (h : PairStep a b) (g : PairStep a c) :
    PairStep a (if p then b else c) := by
  split <;> assumption

/-- A mismatch as its registers record it: the first of the frame with its place, and the counts (R88). -/
def Device.mismatchNoted (d : Device) (e : Nat) (x : MeCmd) (r : Nat) : Device :=
  let d1 := if d.reg (Reg.meAbftFrame e) = 0 then
      (d.setReg (Reg.meAbftRow e) (word (bits d.frame 10 0 * 65536 + r))).setReg (Reg.meAbftCmd e) (word x.addr) else d
  ((d1.incr (Reg.meAbftFrame e)).incr (Reg.meAbftTotal e)).raise (Reg.meErr e) 1

theorem mismatch_eq (d : Device) (e : Nat) (x : MeCmd) (r : Nat) : d.mismatch e x r =
    if x.mismatched then d.mismatchNoted e x r else (d.mismatchNoted e x r).pairRaise (Src.meAbft (4 * (e / 7) + e % 7)) := rfl

theorem pairStep_mismatchNoted (d : Device) (e : Nat) (x : MeCmd) (r : Nat) : PairStep d (d.mismatchNoted e x r) := by
  unfold Device.mismatchNoted
  extract_lets d1
  have h1 : PairStep d d1 :=
    .of_ite ((PairStep.of_onlyRegs (onlyRegs_setReg d _ _)).trans (.of_onlyRegs (onlyRegs_setReg _ _ _))) rfl
  exact ((h1.trans (.of_onlyRegs (onlyRegs_incr d1 _))).trans (.of_onlyRegs (onlyRegs_incr _ _))).trans
    (.of_onlyRegs (onlyRegs_raise _ _ _))

theorem pairStep_mismatch (d : Device) (e : Nat) (x : MeCmd) (r : Nat) : PairStep d (d.mismatch e x r) := by
  have hnoted := pairStep_mismatchNoted d e x r
  rw [mismatch_eq]
  exact .of_ite hnoted (hnoted.trans (pairStep_pairRaise _ _))

/-- A comparison touches registers and the pair of ME_ABFT. -/
theorem pairStep_compare (d : Device) (e : Nat) (x : MeCmd) (r : Nat) (y : RowRes) : PairStep d (d.compare e x r y).1 := by
  unfold Device.compare
  simp only
  split
  · exact (PairStep.of_onlyRegs (onlyRegs_incr d _)).trans (.of_onlyRegs (onlyRegs_raise _ _ _))
  · split
    · exact .of_onlyRegs (onlyRegs_incr d _)
    · exact .of_onlyRegs (onlyRegs_perf d _ _ _)
    · exact (PairStep.of_onlyRegs (onlyRegs_perf d _ _ _)).trans (pairStep_mismatch _ _ _ _)

theorem PairStep.cmpAlive {d d' : Device} (h : PairStep d d') : d'.cmpAlive = d.cmpAlive := by
  unfold PairStep at h
  show d'.sansRegs.cmpAlive = _
  rw [h]
  rfl

theorem Device.fld_incr_ne (d : Device) {k j : Nat} (h : j ≠ k) (hi lo : Nat) : (d.incr k).fld j hi lo = d.fld j hi lo :=
  Device.fld_congr (d.reg_setReg_ne _ h) hi lo

/-- The registers of engines lie above those of interrupts, memories and fault pairs (R357). -/
theorem engBase_le (e : Nat) : 0x1000000 ≤ engBase e := by
  unfold engBase
  omega

theorem reg_evidence_ne (d : Device) {e k : Nat} (v w : Word) (p : Prop) [Decidable p] (hrow : k ≠ Reg.meAbftRow e)
    (hcmd : k ≠ Reg.meAbftCmd e) :
    (if p then (d.setReg (Reg.meAbftRow e) v).setReg (Reg.meAbftCmd e) w else d).reg k = d.reg k := by
  split
  · rw [Device.reg_setReg_ne _ _ hcmd, Device.reg_setReg_ne _ _ hrow]
  · rfl

theorem mismatchNoted_spec (d : Device) (e : Nat) (x : MeCmd) (r : Nat) :
    (d.mismatchNoted e x r).bitAt (Reg.meErr e) 1 = true ∧
    (d.mismatchNoted e x r).fld (Reg.meAbftFrame e) 31 0 = satAdd 32 (d.fld (Reg.meAbftFrame e) 31 0) 1 ∧
    (d.mismatchNoted e x r).fld (Reg.meAbftTotal e) 31 0 = satAdd 32 (d.fld (Reg.meAbftTotal e) 31 0) 1 := by
  have hbase := engBase_le e
  unfold Device.mismatchNoted
  extract_lets d1
  have h1 : ∀ k, k ≠ Reg.meAbftRow e → k ≠ Reg.meAbftCmd e → d1.reg k = d.reg k := fun k => reg_evidence_ne d _ _ _
  refine ⟨bitAt_raise_same _ _ _ (by decide) (by simp only [Reg.meErr]; omega) (by simp only [Reg.meErr]; omega), ?_, ?_⟩
  · rw [Device.fld_congr (reg_raise_ne _ 1 (by simp) (by simp only [Reg.meAbftFrame]; omega)
        (by simp only [Reg.meAbftFrame]; omega)),
      Device.fld_incr_ne _ (by simp), Device.fld_incr_same, Device.fld_congr (h1 _ (by simp) (by simp))]
  · rw [Device.fld_congr (reg_raise_ne _ 1 (by simp) (by simp only [Reg.meAbftTotal]; omega)
        (by simp only [Reg.meAbftTotal]; omega)),
      Device.fld_incr_same, Device.fld_incr_ne _ (by simp), Device.fld_congr (h1 _ (by simp) (by simp))]

/-- A mismatch is counted in the frame and in total, sets ABFT, and the first of its command drives the pair (R88). -/
theorem mismatch_spec {d : Device} (hal : d.cmpAlive = true) {e : Nat} (he : e < 168) (x : MeCmd) (r : Nat) :
    (d.mismatch e x r).bitAt (Reg.meErr e) 1 = true ∧
    (d.mismatch e x r).fld (Reg.meAbftFrame e) 31 0 = satAdd 32 (d.fld (Reg.meAbftFrame e) 31 0) 1 ∧
    (d.mismatch e x r).fld (Reg.meAbftTotal e) 31 0 = satAdd 32 (d.fld (Reg.meAbftTotal e) 31 0) 1 ∧
    (x.mismatched = false → ((d.mismatch e x r).pairAt (Src.meAbft (4 * (e / 7) + e % 7))).level = 1) := by
  have hbase := engBase_le e
  obtain ⟨herr, hframe, htotal⟩ := mismatchNoted_spec d e x r
  have hnoted := pairStep_mismatchNoted d e x r
  rw [mismatch_eq]
  generalize d.mismatchNoted e x r = u at *
  by_cases hx : x.mismatched = true
  · rw [if_pos hx]
    exact ⟨herr, hframe, htotal, fun h => absurd (hx.symm.trans h) (by decide)⟩
  · rw [if_neg hx]
    have hpair : ∀ k, 0x1000000 ≤ k → (u.pairRaise (Src.meAbft (4 * (e / 7) + e % 7))).reg k = u.reg k := fun k hk =>
      Device.reg_pairRaise_ne u (by simp only [Reg.fltCdPair, Src.meAbft]; omega)
    refine ⟨?_, ?_, ?_, fun _ => Device.level_pairRaise (hnoted.cmpAlive.trans hal) _⟩
    · exact (Device.bitAt_congr (hpair _ (by simp only [Reg.meErr]; omega)) 1).trans herr
    · exact (Device.fld_congr (hpair _ (by simp only [Reg.meAbftFrame]; omega)) 31 0).trans hframe
    · exact (Device.fld_congr (hpair _ (by simp only [Reg.meAbftTotal]; omega)) 31 0).trans htotal

/-- A poisoned row is counted, and not compared (R86). -/
theorem compare_poison {d : Device} {e : Nat} {x : MeCmd} {r : Nat} {y : RowRes} (hp : y.poison = true) :
    (d.compare e x r y).1.fld (Reg.mePoisonRows e) 31 0 = satAdd 32 (d.fld (Reg.mePoisonRows e) 31 0) 1 ∧
    (d.compare e x r y).1.fld (Reg.meAbftFrame e) 31 0 = d.fld (Reg.meAbftFrame e) 31 0 := by
  have hbase := engBase_le e
  have hc : (d.compare e x r y).1 = (d.incr (Reg.mePoisonRows e)).raise (Reg.meErr e) 2 := by
    rw [Device.compare, if_pos hp]
  have hraise : ∀ k, 0x1000000 ≤ k → k ≠ Reg.meErr e →
      (d.compare e x r y).1.reg k = (d.incr (Reg.mePoisonRows e)).reg k := fun k hk hne => by
    rw [hc, reg_raise_ne _ 2 hne (by omega) (by omega)]
  constructor
  · rw [Device.fld_congr (hraise _ (by simp only [Reg.mePoisonRows]; omega) (by simp)), Device.fld_incr_same]
  · rw [Device.fld_congr (hraise _ (by simp only [Reg.meAbftFrame]; omega) (by simp)),
      Device.fld_incr_ne _ (by simp)]

/-- A row that mismatches its checksum (R87, R88). -/
theorem compare_mismatch {d : Device} (hal : d.cmpAlive = true) {e : Nat} (he : e < 168) {x : MeCmd} {r : Nat} {y : RowRes}
    (hp : y.poison = false) (hm : compareRow (classOf (mmAfmt x.word) (mmWfmt x.word)).int (mmMask x.word)
      (d.reg (Reg.meAbftTol0 e + 4 * cmdFld x.word 9 0 2)) x.injected y = some true) :
    (d.compare e x r y).1.bitAt (Reg.meErr e) 1 = true ∧
    (d.compare e x r y).1.fld (Reg.meAbftFrame e) 31 0 = satAdd 32 (d.fld (Reg.meAbftFrame e) 31 0) 1 ∧
    (d.compare e x r y).1.fld (Reg.meAbftTotal e) 31 0 = satAdd 32 (d.fld (Reg.meAbftTotal e) 31 0) 1 ∧
    (x.mismatched = false → ((d.compare e x r y).1.pairAt (Src.meAbft (4 * (e / 7) + e % 7))).level = 1) := by
  have hbase := engBase_le e
  have hc : (d.compare e x r y).1 = (d.perf e 0x48 1).mismatch e x r := by
    simp only [Device.compare, hp, Bool.false_eq_true, if_false, hm]
  have hperf := onlyRegs_perf d e 0x48 1
  have hreg : ∀ k, 0x1000000 ≤ k → (d.perf e 0x48 1).fld k 31 0 = d.fld k 31 0 := fun k hk =>
    Device.fld_congr (hperf.2 k List.not_mem_nil (by
      simp only [irqRegs, Reg.prfStatus, List.mem_cons, List.not_mem_nil, or_false]
      omega)) 31 0
  rw [hc, ← hreg (Reg.meAbftFrame e) (by simp only [Reg.meAbftFrame]; omega),
    ← hreg (Reg.meAbftTotal e) (by simp only [Reg.meAbftTotal]; omega)]
  exact mismatch_spec ((cmpAlive_of_onlyRegs hperf).trans hal) he x r

end Sys2Proof.Machine
end

section
/-! ME_ROW_WRITE (R77, R79, R86 to R88). -/

namespace Sys2Proof.Machine

theorem exec_meRowWrite (e : Nat) (s : State) : exec (.meRowWrite e) s = act (isMe e) (fun d => d.rowWrite e) s := rfl

theorem facetUp_of_meUp {d : Device} {e : Nat} (h : d.meUp e = true) : d.facetUp (e / 42) = true := by
  simp only [Device.meUp, Bool.and_eq_true] at h
  exact h.1.2

theorem cmpAlive_of_facetUp {d : Device} {f : Nat} (h : d.facetUp f = true) : d.cmpAlive = true := by
  simp only [Device.facetUp, Bool.and_eq_true] at h
  exact h.1.1

@[simp] theorem Device.meAt_setMe_same (d : Device) (e : Nat) (m : Me) : (d.setMe e m).meAt e = m := tabGet_tabSet_same _ _ _ _

theorem Device.meAt_setMe_ne (d : Device) {e y : Nat} (m : Me) (h : y ≠ e) : (d.setMe e m).meAt y = d.meAt y :=
  tabGet_tabSet_ne _ _ _ h

theorem Device.reg_setMe (d : Device) (e k : Nat) (m : Me) : (d.setMe e m).reg k = d.reg k := Device.reg_congr (d.setMe_regs e m) k

theorem Device.pairAt_setMe (d : Device) (e s : Nat) (m : Me) : (d.setMe e m).pairAt s = d.pairAt s := rfl

/-- ME_ROW_WRITE compares the next row of the oldest stream that has rows left, writes it, and counts it written. -/
theorem rowWrite_eq {d : Device} {e i : Nat} {x : MeCmd} {y : RowRes} (hup : d.meUp e = true)
    (hi : (d.meAt e).pipe.findIdx? (fun x => decide (x.next < x.rows.length)) = some i) (hx : (d.meAt e).pipe[i]? = some x)
    (hy : x.rows[x.next]? = some y) :
    let c := d.compare e x (mmRow x.word + x.next) y
    let d' := c.1.drainRow e x.word x.bias (mmRow x.word + x.next) y false
    d.rowWrite e = d'.setMe e { d'.meAt e with
      pipe := (d.meAt e).pipe.set i { x with next := x.next + 1, mismatched := x.mismatched || c.2 } } := by
  unfold Device.rowWrite
  simp only [hi, hx, hup, hy]

/-- Before its first row in an a-cycle, with clean memories, every column of a row is fresh. -/
theorem rowDrained_start {d : Device} (hsyn : d.mem.syn = []) (hdec : d.mem.decode = []) (hnow : d.raceAt ≠ d.q / aQ) (e r : Nat)
    (val : Nat → Option Nat) : RowDrained e r val 0 d d where
  rest := rfl
  outside _ _ := rfl
  written k hk := absurd hk (Nat.not_lt_zero k)
  ahead k _ _ :=
    { decode := hdec
      syn := by rw [MemSys.synAt, hsyn]; rfl
      free := by rw [Device.racesNow, if_neg hnow]; simp }

/-- What reads neither registers nor the pairs is the same. -/
theorem PairStep.read {α : Sort*} {a b : Device} (h : PairStep a b) (f : Device → α) (hf : ∀ u : Device, f u.sansRegs = f u)
    (hp : ∀ (u : Device) (l : Tab Pair), f { u with flt := { u.flt with pair := l } } = f u) : f b = f a := by
  have hs : b.sansRegs = { a with flt := { a.flt with pair := b.flt.pair } }.sansRegs := h
  rw [← hf b, hs, hf, hp]

/-- What the row's write leaves alone: all but registers, pairs, memory and the notes of its writes. -/
theorem RowDrained.pairStep {e r n : Nat} {val : Nat → Option Nat} {a b c : Device} (h : RowDrained e r val n b c)
    (hab : PairStep a b) : c.eng = a.eng ∧ c.sigs = a.sigs ∧ c.me = a.me ∧
      ∀ t : Tab Me, ({ c with me := t } : Device).sansMem = { a with me := t, raceAt := c.raceAt, races := c.races }.sansMem := by
  refine ⟨?_, ?_, ?_, fun t => ?_⟩
  · rw [h.rest]
    exact hab.read (·.eng) (fun _ => rfl) fun _ _ => rfl
  · rw [h.rest]
    exact hab.read (·.sigs) (fun _ => rfl) fun _ _ => rfl
  · rw [h.rest]
    exact hab.read (·.me) (fun _ => rfl) fun _ _ => rfl
  · exact (congrArg (fun u : Device => { u with me := t }.sansMem) h.rest).trans
      (hab.read (fun u : Device => { u with me := t, raceAt := c.raceAt, races := c.races }.sansMem) (fun _ => rfl) fun _ _ => rfl)

/-- Settles O40: the row is compared, which touches registers and the pair of ME_ABFT, and its columns are written one after the
other. -/
theorem rowsAreWritten : Obligations.RowsAreWritten := by
  unfold Obligations.RowsAreWritten
  intro s e i x y he hup hi hx hy hr hsyn hdec hnow
  refine .of_act (exec_meRowWrite e s) he ?_
  have hpair := pairStep_compare s.dev e x (mmRow x.word + x.next) y
  have hmis := compare_mismatch (x := x) (y := y) (r := mmRow x.word + x.next) (cmpAlive_of_facetUp (facetUp_of_meUp hup))
    (isMe_iff.mp he).1
  have hpoison := compare_poison (d := s.dev) (e := e) (x := x) (y := y) (r := mmRow x.word + x.next)
  rw [rowWrite_eq hup hi hx hy]
  generalize s.dev.compare e x (mmRow x.word + x.next) y = c at hpair hmis hpoison ⊢
  have hmem : c.1.mem = s.dev.mem := hpair.read (·.mem) (fun _ => rfl) fun _ _ => rfl
  have hrace : c.1.raceAt ≠ c.1.q / aQ := by
    rw [hpair.read (·.raceAt) (fun _ => rfl) fun _ _ => rfl, hpair.read (·.q) (fun _ => rfl) fun _ _ => rfl]
    exact hnow
  have hdrain := (rowDrained_start (hmem ▸ hsyn) (hmem ▸ hdec) hrace e (mmRow x.word + x.next) (rowWord x.word y)).drainRow he hr
    ((hpair.read (·.facetUp (e / 42)) (fun _ => rfl) fun _ _ => rfl).trans (facetUp_of_meUp hup)) x.bias false
  obtain ⟨heng, hsigs, hme, hrest⟩ := hdrain.pairStep hpair
  generalize c.1.drainRow e x.word x.bias (mmRow x.word + x.next) y false = d at hdrain heng hsigs hme hrest ⊢
  have hat : ∀ a, d.meAt a = s.dev.meAt a := fun a => by rw [Device.meAt, hme]; rfl
  generalize hm : ({ d.meAt e with
    pipe := (s.dev.meAt e).pipe.set i { x with next := x.next + 1, mismatched := x.mismatched || c.2 } } : Me) = m
  have hpipe : ((d.setMe e m).meAt e).pipe = (s.dev.meAt e).pipe.set i
      { x with next := x.next + 1, mismatched := x.mismatched || c.2 } := by rw [Device.meAt_setMe_same, ← hm]
  have hregs : ∀ k, (d.setMe e m).reg k = c.1.reg k := fun k =>
    (d.reg_setMe e k m).trans (Device.reg_congr (congrArg (·.regs) hdrain.rest) k)
  have hflt : d.flt = c.1.flt := congrArg (·.flt) hdrain.rest
  have hpairs : ∀ s, (d.setMe e m).pairAt s = c.1.pairAt s := fun s =>
    (d.pairAt_setMe e s m).trans (congrArg (fun f : Flt => tabGet Pair.reset f.pair s) hflt)
  refine ⟨⟨{ x with next := x.next + 1, mismatched := x.mismatched || c.2 }, ?_, rfl⟩, fun j hj => ?_,
    fun hmode => ⟨fun n hn hcol => ?_, ?_⟩, fun a ha => ?_, fun hp hcmp => ?_, fun hp => ?_,
    (d.setMe_eng e m).trans heng, (d.setMe_sigs e m).trans hsigs, fun z hz => ?_, ?_⟩
  · rw [hpipe]
    exact List.getElem?_set_self (List.getElem?_eq_some_iff.mp hx).1
  · rw [hpipe]
    exact List.getElem?_set_ne hj.symm
  · rw [Device.setMe_mem]
    refine hdrain.written n (by omega) _ ?_
    rw [rowWord, if_pos hmode, if_neg (by omega), if_pos hcol]
  · rw [Device.setMe_mem]
    refine hdrain.written 32 (by omega) _ ?_
    rw [rowWord, if_pos hmode, if_pos rfl]
  · rw [Device.setMe_mem, ← hmem]
    exact hdrain.outside a ha
  · obtain ⟨herr, hframe, htotal, hlevel⟩ := hmis hp hcmp
    refine ⟨(Device.bitAt_congr (hregs _) 1).trans herr, (Device.fld_congr (hregs _) 31 0).trans hframe,
      (Device.fld_congr (hregs _) 31 0).trans htotal, fun hfirst => ?_⟩
    rw [hpairs]
    exact hlevel hfirst
  · obtain ⟨hrows, hframe⟩ := hpoison hp
    exact ⟨(Device.fld_congr (hregs _) 31 0).trans hrows, (Device.fld_congr (hregs _) 31 0).trans hframe⟩
  · rw [Device.meAt_setMe_ne _ _ hz, hat]
  · rw [Device.setMe_raceAt, Device.setMe_races]
    exact hrest _

end Sys2Proof.Machine
end

section
/-! What reading memory leaves alone: every operation of the memory system is made of a few steps (writes of memory, of registers
of its block and of the fault pairs, counts, and the release of requests that waited), so that a relation that holds along these
steps holds along the operations (R149 to R163). -/

namespace Sys2Proof.Machine

/-- `R` is kept along every step that operations of the memory system are made of. -/
structure MemClosed (R : Device → Device → Prop) : Prop where
  refl : ∀ d, R d d
  trans : ∀ {a b c}, R a b → R b c → R a c
  setMem : ∀ d m, R d (d.setMem m)
  setReg : ∀ d {k} v, 0x30000 ≤ k → k < 0x41000 → R d (d.setReg k v)
  raise : ∀ d i, R d (d.raise Reg.memStatus i)
  setPair : ∀ d s v, R d (d.setPair s v)
  perf : ∀ d u ev n, R d (d.perf u ev n)
  release : ∀ d p, R d { d with eng := d.eng.map fun g => (g.1, g.2.keepHeld p) }

/-- A property of a fold: it holds at the start, and every step keeps it, counting the steps. -/
theorem foldl_counted {α β : Type} {P : Nat → β → Prop} {f : β → α → β} (hf : ∀ n b a, P n b → P (n + 1) (f b a)) (l : List α)
    {n : Nat} {b : β} (h : P n b) : P (n + l.length) (l.foldl f b) := by
  induction l generalizing n b with
  | nil => exact h
  | cons a l ih =>
    rw [List.length_cons, Nat.add_comm l.length 1, ← Nat.add_assoc]
    exact ih (hf n b a h)

theorem rel_ite {R : Device → Device → Prop} {a b c : Device} {p : Prop} [Decidable p] (h : R a b) (g : R a c) :
    R a (if p then b else c) := by
  split <;> assumption

namespace MemClosed
variable {R : Device → Device → Prop} (hR : MemClosed R)
include hR

theorem foldl {α : Type} {f : Device → α → Device} (hf : ∀ d x, R d (f d x)) (xs : List α) (d : Device) : R d (xs.foldl f d) :=
  foldl_counted (P := fun _ u => R d u) (fun _ _ _ h => hR.trans h (hf _ _)) xs (n := 0) (hR.refl d)

/-! ## Notes (R151, R166) -/

theorem incr (d : Device) {k : Nat} (hlo : 0x30000 ≤ k) (hhi : k < 0x41000) : R d (d.incr k) := hR.setReg d _ hlo hhi

theorem memLog (d : Device) (kind ctrl a : Nat) : R d (d.memLog kind ctrl a) := by
  have hi : d.fld Reg.memLogHead 4 0 < 32 := bits_lt _ 4 0
  unfold Device.memLog
  extract_lets i d1 d2 d3 d4
  have h1 : R d d1 := hR.setReg d _ (by simp only [Reg.memLogAddr]; omega) (by simp only [Reg.memLogAddr]; omega)
  have h2 : R d1 d2 := hR.setReg d1 _ (by simp only [Reg.memLogInfo]; omega) (by simp only [Reg.memLogInfo]; omega)
  have h3 : R d2 d3 := hR.setReg d2 _ (by simp only [Reg.memLogNs]; omega) (by simp only [Reg.memLogNs]; omega)
  have h4 : R d3 d4 := hR.setReg d3 _ (by simp only [Reg.memLogFrame]; omega) (by simp only [Reg.memLogFrame]; omega)
  exact hR.trans (hR.trans (hR.trans (hR.trans (hR.trans h1 h2) h3) h4) (hR.setReg d4 _ (by decide) (by decide)))
    (hR.setReg _ _ (by decide) (by decide))

theorem memEvent (d : Device) (ev a n : Nat) : R d (d.memEvent ev a n) := by
  unfold Device.memEvent
  split
  · exact hR.perf d _ _ _
  · exact hR.refl d

theorem dramEvent (d : Device) (ev a n : Nat) : R d (d.dramEvent ev a n) := rel_ite (hR.memEvent d ev a _) (hR.refl d)

theorem pairRaise (d : Device) {s : Nat} (hs : s < 0x1000) : R d (d.pairRaise s) := by
  unfold Device.pairRaise
  exact rel_ite (hR.refl d) (hR.trans (hR.setPair d _ _)
    (hR.setReg _ _ (by simp only [Reg.fltCdPair]; omega) (by simp only [Reg.fltCdPair]; omega)))

theorem memSrc (d : Device) {base : Nat} (hb : base < 0x800) (a : Nat) : R d (d.memSrc base a) := by
  unfold Device.memSrc
  split
  next p hp => exact hR.pairRaise d (by have := facet_lt hp; omega)
  next => exact hR.refl d

theorem noteCe (d : Device) (w : Nat) : R d (d.noteCe w) := by
  have h0 : R d ((d.incr Reg.memCeCnt).raise Reg.memStatus 0) := hR.trans (hR.incr d (by decide) (by decide)) (hR.raise _ 0)
  unfold Device.noteCe
  exact hR.trans (rel_ite (hR.trans h0 (hR.memLog _ _ _ _)) h0) (hR.memSrc _ (by decide) w)

theorem noteFixed (d : Device) (kind a : Nat) : R d (d.noteFixed kind a) := by
  have h0 : R d (if kind = 2 then d.incr Reg.memUeFixedCnt else d) := rel_ite (hR.incr d (by decide) (by decide)) (hR.refl d)
  unfold Device.noteFixed
  exact hR.trans (hR.trans (hR.trans h0 (hR.raise _ 1)) (hR.memLog _ _ _ _)) (hR.memSrc _ (by decide) a)

theorem poisonWord (d : Device) (w : Nat) : R d (d.poisonWord w) := by
  unfold Device.poisonWord
  exact hR.trans (hR.trans (hR.trans (hR.trans (hR.setMem d _) (hR.incr _ (by decide) (by decide))) (hR.raise _ 2))
    (hR.memLog _ _ _ _)) (hR.memSrc _ (by decide) w)

/-! ## Page decode (R151) -/

theorem ceWord (d : Device) (w : Nat) : R d (d.ceWord w) := by
  unfold Device.ceWord
  split
  · exact hR.trans (hR.setMem d _) (hR.noteCe _ w)
  · exact hR.refl d

theorem fixCheck (d : Device) (w : Nat) (s : Byte) (f : Nat → SpanErr) : R d (d.fixCheck w s f) := by
  unfold Device.fixCheck
  split
  · exact hR.trans (hR.setMem d _) (hR.noteCe _ w)
  · exact hR.refl d

theorem fixChecks (d : Device) (b : Nat) : R d (d.fixChecks b) := by
  rw [fixChecks_eq]
  exact hR.trans (hR.fixCheck d b _ _) (hR.fixCheck _ b _ _)

theorem fixWord (d : Device) (w : Nat) (x : DWord) : R d (d.fixWord w x) := by
  unfold Device.fixWord
  exact hR.trans (hR.setMem d _) (hR.noteFixed _ 2 w)

theorem giveUp (d : Device) (b : Nat) (es : List Nat) : R d (d.giveUp b es) := by
  unfold Device.giveUp
  exact hR.trans (hR.foldl hR.poisonWord es d) (hR.setMem _ _)

theorem pageDecode (d : Device) (b : Nat) : R d (d.pageDecode b) := by
  have h0 : R d (((d.mem.flagged b).foldl (fun d w => d.ceWord w) (d.memEvent 0xC3 b 1)).fixChecks b) :=
    hR.trans (hR.trans (hR.memEvent d 0xC3 b 1) (hR.foldl hR.ceWord _ _)) (hR.fixChecks _ b)
  unfold Device.pageDecode
  generalize ((d.mem.flagged b).foldl (fun d w => d.ceWord w) (d.memEvent 0xC3 b 1)).fixChecks b = u at h0 ⊢
  refine hR.trans h0 ?_
  simp only
  split
  · exact rel_ite (hR.trans (hR.setMem u _) (hR.noteFixed _ 5 b)) (hR.refl u)
  · exact rel_ite (rel_ite (hR.fixWord u _ _) (hR.giveUp u _ _))
      (rel_ite (hR.fixWord u _ _) (rel_ite (hR.fixWord u _ _) (hR.giveUp u _ _)))
  · exact rel_ite (hR.giveUp u _ _) (hR.trans (hR.fixWord u _ _) (hR.fixWord _ _ _))
  · exact hR.giveUp u _ _

theorem released (d : Device) (b : Nat) : R d (d.released b) :=
  hR.trans (hR.setMem d { d.mem with decode := d.mem.decode.erase b }) (hR.release (d.setMem _) fun x => decide (x ≠ b))

theorem pageEnd (d : Device) (b : Nat) : R d (d.pageEnd b) := hR.trans (hR.pageDecode d b) (hR.released _ b)

/-! ## Loading, storing and draining. `dec` decodes a span. -/

section
variable {dec : Device → Nat → Device} (hdec : ∀ d b, R d (dec d b))
include hdec

theorem storeWith (d : Device) (w v : Nat) (poison : Bool) : R d (d.storeWith dec w v poison) := by
  unfold Device.storeWith
  exact rel_ite (hR.refl d) (hR.trans (rel_ite (hdec d _) (hR.refl d)) (hR.setMem _ _))

theorem loadWith (d : Device) (w : Nat) : R d (d.loadWith dec w).1 := by
  unfold Device.loadWith
  split
  · exact hR.refl d
  · exact hR.trans (rel_ite (hdec d _) (hR.refl d)) (hR.ceWord _ w)

theorem drainEntryWith (d : Device) (t : MergeEnt) : R d (d.drainEntryWith dec t) := by
  unfold Device.drainEntryWith
  refine hR.trans (hR.foldl (fun d i => hR.loadWith hdec d (t.line + 8 * i)) (List.range 8) d) (hR.foldl (fun d i => ?_) _ _)
  exact rel_ite (hR.refl d) (rel_ite (hR.storeWith hdec d _ _ _) (hR.trans (hR.loadWith hdec d _) (hR.storeWith hdec _ _ _ _)))

theorem drainWith (d : Device) (t : MergeEnt) : R d (d.drainWith dec t) := by
  unfold Device.drainWith
  exact rel_ite (hR.refl d) (hR.trans (hR.trans (hR.setMem d _) (hR.memEvent _ _ _ _)) (hR.drainEntryWith hdec _ t))

end

theorem spanDecode (n : Nat) (d : Device) (b : Nat) : R d (spanDecode n d b) := by
  induction n generalizing d b with
  | zero => exact hR.pageEnd d b
  | succ n ih => exact hR.trans (hR.trans (hR.setMem d _) (hR.foldl (hR.drainWith ih) _ _)) (hR.pageEnd _ b)

theorem decodeSpan (d : Device) (b : Nat) : R d (d.decodeSpan b) := hR.spanDecode _ d b

theorem loadWord (d : Device) (w : Nat) : R d (d.loadWord w).1 := hR.loadWith hR.decodeSpan d w

/-! ## Reads -/

theorem seeAs (d : Device) (r : Reader) (w : Nat) : R d (d.seeAs r w).1 := by
  have hcount : ∀ (c p : Bool) (u : Device) (v : Nat), R d u →
      R d (if c = true then ((u.incr Reg.memPoisonReadCnt).raise Reg.memStatus 4, v, p) else (u, v, p)).1 := by
    intro c p u v h
    split
    · exact hR.trans (hR.trans h (hR.incr u (by decide) (by decide))) (hR.raise _ 4)
    · exact h
  have hload : ∀ c : Bool, R d (if c = true then (d.setMem { d.mem with decode := (d.mem.decode ++ [spanBase w]).dedup },
      d.mem.word w, true) else d.loadWord w).1 := by
    intro c
    split
    · exact hR.setMem d _
    · exact hR.loadWord d w
  unfold Device.seeAs
  exact hcount _ _ _ _ (hload _)

theorem readAs (d : Device) (r : Reader) (a n : Nat) : R d (d.readAs r a n).dev :=
  foldl_counted (P := fun _ (u : ReadRes) => R d u.dev) (fun _ _ _ h => hR.trans h (hR.seeAs _ r _)) _ (n := 0)
    (hR.dramEvent d _ _ _)

theorem readTagAs (d : Device) (r : Reader) (a n : Nat) : R d (d.readTagAs r a n).1 := by
  refine foldl_counted (P := fun _ (u : Device × Marked) => R d u.1) (fun _ u p h => ?_) _ (n := 0) (hR.refl d)
  simp only
  split
  · exact h
  · exact hR.trans h (hR.readAs _ r _ _)
  · exact hR.trans h (hR.readAs _ r _ _)

end MemClosed

end Sys2Proof.Machine
end

section
/-! Reading the operands of matrix commands (R62, R79, R81, R85): how much is read, and what the reads leave alone. -/

namespace Sys2Proof.Machine

/-! ## Operands -/

namespace MemClosed
variable {R : Device → Device → Prop} (hR : MemClosed R)
include hR

theorem readElems (d : Device) (f a n : Nat) (want : Nat → Bool) : R d (d.readElems f a n want).dev := by
  refine foldl_counted (P := fun _ (u : Device × Marked) => R d u.1) (fun _ u p h => ?_) _ (n := 0) (hR.refl d)
  simp only
  split
  · exact hR.trans h (hR.readTagAs _ _ _ _)
  · exact h

theorem readOne (d : Device) (f a c : Nat) : R d (d.readOne f a c).dev := hR.readTagAs d _ _ _

theorem readAct (d : Device) (w : CmdWord) (g : Option Agd) (m : Nat) : R d (d.readAct w g m).dev := by
  unfold Device.readAct
  split
  · exact hR.readElems d _ _ _ _
  · refine foldl_counted (P := fun _ (u : ElemRead) => R d u.dev) (fun _ u k h => ?_) _ (n := 0) (hR.refl d)
    split
    next => exact h
    next a c _ => exact hR.trans h (hR.readOne _ _ a c)

theorem readBias (d : Device) (e : Nat) (w : CmdWord) : R d (d.readBias e w).1 := by
  unfold Device.readBias
  split
  · exact hR.refl d
  · exact hR.trans (hR.readElems d _ _ _ _) (hR.perf _ _ _ _)

theorem formRow (d : Device) (e : Nat) (x : MeCmd) (h : Weights) (bad : Bool) (m : Nat) : R d (d.formRow e x h bad m).1 := by
  have hscale : ∀ u : Device, R u (if mmScale x.word then
      u.readElems 13 (cmdFld x.word 50 0 48 + 16 * m) (ceilDiv (mmK x.word) 32) fun _ => true else ⟨u, [], 0⟩).dev := by
    intro u
    split
    · exact hR.readElems u _ _ _ _
    · exact hR.refl u
  unfold Device.formRow
  exact hR.trans (hR.trans (hR.readAct d _ _ _) (hscale _)) (hR.perf _ _ _ _)

/-- The rows of a stream: one for each row of activations (R67). -/
theorem formRows (d : Device) (e : Nat) (x : MeCmd) (h : Weights) (bad : Bool) (n : Nat) :
    let r := (List.range n).foldl (fun (r : Device × List RowRes) k =>
      let (d, y) := r.1.formRow e x h bad k
      (d, r.2 ++ [y])) (d, [])
    R d r.1 ∧ r.2.length = n := by
  have hfold := foldl_counted (P := fun n (r : Device × List RowRes) => R d r.1 ∧ r.2.length = n)
    (f := fun r k => ((r.1.formRow e x h bad k).1, r.2 ++ [(r.1.formRow e x h bad k).2]))
    (fun n r k hr => ⟨hR.trans hr.1 (hR.formRow r.1 e x h bad k), by simp [hr.2]⟩) (List.range n) (n := 0) (b := (d, []))
    ⟨hR.refl d, rfl⟩
  rw [List.length_range, Nat.zero_add] at hfold
  exact hfold

/-- Weights are loaded with their K, their columns and a row per K (R62). -/
theorem readWeights (d : Device) (e : Nat) (w : CmdWord) : R d (d.readWeights e w).1 ∧ (d.readWeights e w).2.k = mmK w ∧
    (d.readWeights e w).2.rows.length = mmK w ∧ (d.readWeights e w).2.nmask = mmMask w := by
  have hrows := foldl_counted (P := fun n (r : Device × List (List Nat) × Nat) => R d r.1 ∧ r.2.1.length = n)
    (f := fun r k =>
      let x := r.1.readElems (mmWfmt w) (cmdFld w 34 0 48 + k * cmdFld w 40 0 32) 32 fun n => (mmMask w).getLsbD n
      (x.dev, r.2.1 ++ [x.codes], r.2.2 + x.bad))
    (fun n r k hr => ⟨hR.trans hr.1 (hR.readElems _ _ _ _ _), by simp [hr.2]⟩) (List.range (mmK w)) (n := 0) (b := (d, [], 0))
    ⟨hR.refl d, rfl⟩
  have hscales : ∀ (u : Device) (bad n : Nat), R u ((List.range n).foldl (fun (r : Device × List (List Byte) × Nat) b =>
      let x := r.1.readElems 13 (cmdFld w 56 0 48 + 32 * b) 32 fun _ => true
      (x.dev, r.2.1 ++ [x.codes.map (BitVec.ofNat 8)], r.2.2 + x.bad)) (u, [], bad)).1 := fun u bad n =>
    foldl_counted (P := fun _ (r : Device × List (List Byte) × Nat) => R u r.1)
      (fun _ r b hr => hR.trans hr (hR.readElems r.1 13 (cmdFld w 56 0 48 + 32 * b) 32 fun _ => true)) _ (n := 0) (hR.refl u)
  rw [List.length_range, Nat.zero_add] at hrows
  exact ⟨hR.trans (hR.trans hrows.1 (hscales _ _ _)) (hR.perf _ _ _ _), rfl, hrows.2, rfl⟩

end MemClosed

/-! ## What reads leave alone -/

/-- Memory has been read: memories, fault pairs, which requests wait for a page decode, and registers of the memory block change. -/
def Fetched (d d' : Device) : Prop :=
  d'.sansMem = d.sansMem ∧ ∀ k, k < 0x30000 ∨ 0x41000 ≤ k → k ∉ irqRegs → d'.reg k = d.reg k

theorem Fetched.of_onlyRegs {a b : Device} {l : List Nat} (h : OnlyRegs a b l) (hl : ∀ k ∈ l, 0x30000 ≤ k ∧ k < 0x41000) :
    Fetched a b :=
  ⟨(MemStep.of_onlyRegs h).1, fun k hk hi => h.2 k (fun hm => by have := hl k hm; omega) hi⟩

theorem sansMem_keepHeld (d : Device) (p : Nat → Bool) :
    ({ d with eng := d.eng.map fun g => (g.1, g.2.keepHeld p) } : Device).sansMem = d.sansMem := by
  simp [Device.sansMem, Device.sansRegs, List.map_map, Function.comp_def, Eng.keepHeld_keepHeld]

/-- The steps of memory are such reads. -/
theorem memClosed_fetched : MemClosed Fetched where
  refl d := ⟨rfl, fun _ _ _ => rfl⟩
  trans h g := ⟨g.1.trans h.1, fun k hk hi => (g.2 k hk hi).trans (h.2 k hk hi)⟩
  setMem d m := ⟨rfl, fun _ _ _ => rfl⟩
  setReg d k v hlo hhi := .of_onlyRegs (onlyRegs_setReg d k v) (by simpa using ⟨hlo, hhi⟩)
  raise d i := .of_onlyRegs (onlyRegs_raise d _ i) (by simp [Reg.memStatus])
  setPair d s v := ⟨rfl, fun _ _ _ => rfl⟩
  perf d u ev n := .of_onlyRegs (onlyRegs_perf d u ev n) (by simp)
  release d p := ⟨sansMem_keepHeld d p, fun _ _ _ => rfl⟩

theorem Fetched.trans {a b c : Device} (h : Fetched a b) (g : Fetched b c) : Fetched a c := memClosed_fetched.trans h g

theorem tabGet_map {α : Type} (dflt : α) (f : α → α) (hf : f dflt = dflt) (t : Tab α) (k : Nat) :
    tabGet dflt (t.map fun g => (g.1, f g.2)) k = f (tabGet dflt t k) := by
  induction t with
  | nil => exact hf.symm
  | cons g t ih => by_cases hk : k = g.1 <;> simp [tabGet, hk, ih]

theorem Eng.keepHeld_queue (g : Eng) (p : Nat → Bool) : (g.keepHeld p).queue = g.queue := rfl
theorem Eng.keepHeld_phase (g : Eng) (p : Nat → Bool) : (g.keepHeld p).phase = g.phase := rfl

/-- Devices that agree but for registers and memories run the same engines, but for which requests wait for a page decode. -/
theorem keepHeld_of_sansMem {d d' : Device} (h : d'.sansMem = d.sansMem) (x : Nat) :
    (d'.engAt x).keepHeld (fun _ => false) = (d.engAt x).keepHeld fun _ => false := by
  have hmap : ∀ u : Device, u.sansMem.engAt x = (u.engAt x).keepHeld fun _ => false := fun u =>
    tabGet_map Eng.reset (fun g => g.keepHeld fun _ => false) rfl u.eng x
  rw [← hmap, h, hmap]

section
variable {d d' : Device} (h : Fetched d d')
include h

theorem Fetched.me : d'.me = d.me := congrArg (·.me) h.1

theorem Fetched.otherEnginesRun (e : Nat) : OtherEnginesRun d d' e := fun x _ => keepHeld_of_sansMem h.1 x

theorem Fetched.queue (x : Nat) : (d'.engAt x).queue = (d.engAt x).queue := by
  rw [← Eng.keepHeld_queue _ fun _ => false, keepHeld_of_sansMem h.1, Eng.keepHeld_queue]

theorem Fetched.phase (x : Nat) : (d'.engAt x).phase = (d.engAt x).phase := by
  rw [← Eng.keepHeld_phase _ fun _ => false, keepHeld_of_sansMem h.1, Eng.keepHeld_phase]

/-- An engine without commands under way has none. -/
theorem Fetched.acts_nil {x : Nat} (ha : (d.engAt x).acts = []) : (d'.engAt x).acts = [] := by
  have hk : ((d'.engAt x).keepHeld fun _ => false).acts = ((d.engAt x).keepHeld fun _ => false).acts :=
    congrArg Eng.acts (keepHeld_of_sansMem h.1 x)
  rw [Eng.keepHeld, Eng.keepHeld, ha] at hk
  exact List.map_eq_nil_iff.mp hk

/-- The counter of a header WAIT keeps its value. -/
theorem Fetched.waitCtr (e : Nat) (w : CmdWord) : d'.ctr (waitCtr e w) = d.ctr (Machine.waitCtr e w) := by
  refine Device.fld_congr (h.2 _ ?_ (waitCtr_not_irq e w)) 15 0
  unfold Machine.waitCtr ctrOf
  split
  · exact .inr (by simp only [ctrReg, Reg.prmTok]; omega)
  · split
    · exact .inr (by simp only [ctrReg, Reg.fctTok]; omega)
    · have : cmdFld w 2 0 6 < 64 := Nat.mod_lt _ (by decide)
      exact .inl (by simp only [ctrReg, Reg.tckTok]; omega)

end

end Sys2Proof.Machine
end

section
/-! ME_STREAM_START (R64, R67). -/

namespace Sys2Proof.Machine

theorem exec_meStreamStart (e : Nat) (s : State) : exec (.meStreamStart e) s = act (isMe e) (fun d => d.streamStart e) s := rfl

theorem meAt_congr {d d' : Device} (h : d'.me = d.me) (e : Nat) : d'.meAt e = d.meAt e := by
  rw [Device.meAt, h]
  rfl

/-- Arrays that are replaced after a read of memory. -/
theorem Fetched.setMe {d u : Device} (h : Fetched d u) (e : Nat) (m : Me) :
    (u.setMe e m).sansMem = { d with me := (u.setMe e m).me }.sansMem :=
  congrArg (fun z : Device => { z with me := (u.setMe e m).me }) h.1

/-- The array once the stream of entry `i`, now `y`, has started at `s` (R62, R67). -/
def Me.streamed (m : Me) (i : Nat) (y : MeCmd) (s : Nat) : Me :=
  { m with
    active := if mmReuse y.word then m.active else m.shadow
    shadow := if mmReuse y.word then m.shadow else none
    pipe := m.pipe.set i y
    sPrev := s
    spanPrev := mmM y.word * (classOf (mmAfmt y.word) (mmWfmt y.word)).r }

/-- Starting a stream reads the operands, replaces the array, and stamps. -/
theorem startStream_cases (d : Device) (e i : Nat) (x : MeCmd) : ∃ (u : Device) (y : MeCmd), Fetched d u ∧
    y.word = x.word ∧ y.addr = x.addr ∧ y.v = x.v ∧ y.next = x.next ∧ y.rows.length = mmM x.word ∧
    y.waste.length = mmM x.word ∧ y.s = some (max ((d.meAt e).startAt x) (d.q / aQ)) ∧
    OnlyRegs (u.setMe e ((d.meAt e).streamed i y (max ((d.meAt e).startAt x) (d.q / aQ)))) (d.startStream e i x) [] := by
  unfold Device.startStream
  extract_lets w m held s
  have hbias := memClosed_fetched.readBias d e w
  generalize d.readBias e w = b at hbias ⊢
  obtain ⟨d1, bias, bb⟩ := b
  have hrows := memClosed_fetched.formRows d1 e x (held.getD ⟨0, 0, false, 0, [], [], false⟩) bb (mmM w)
  simp only at hrows ⊢
  generalize List.foldl _ (d1, []) (List.range (mmM w)) = r at hrows ⊢
  obtain ⟨u, rows⟩ := r
  obtain ⟨hu, hlen⟩ := hrows
  have hread : Fetched d u := Fetched.trans hbias hu
  refine ⟨u, { x with s := some s, bias := bias, rows := rows, waste := (List.range (mmM w)).map fun k => u.rowWaste w x.agd k }, hread,
    rfl, rfl, rfl, rfl, hlen, by simp [w], rfl, ?_⟩
  rw [meAt_congr hread.me]
  refine OnlyRegs.trans (.trans (.trans (.of_ite (onlyRegs_perf _ _ _ _) (.refl _ _)) (onlyRegs_stampWith _ _ _ _))
    (onlyRegs_stampWith _ _ _ _)) (onlyRegs_stampWith _ _ _ _)

/-- An engine whose head is legal settles as it is. -/
theorem settle_legal {d : Device} {e : Nat}
    (h : ∀ c, c ∈ (d.engAt e).queue.head? → c.poisoned = false ∧ opAllowed (engKind e) (opcode c.word) = true) : d.settle e = d := by
  unfold Device.settle
  split
  · rfl
  · split
    next => rfl
    next c cs hq =>
      rw [hq] at h
      obtain ⟨hpoison, hop⟩ := h c rfl
      simp [hpoison, hop]

/-- The oldest entry without a stream starts it once its header WAIT is satisfied. -/
theorem streamStart_eq {d : Device} {e i : Nat} {x : MeCmd} (hi : (d.meAt e).pipe.findIdx? (fun x => x.s.isNone) = some i)
    (hx : (d.meAt e).pipe[i]? = some x) (hst : mmStreams x.word = true) (hv : x.v.isSome = true) (hr : d.running e = true) :
    d.streamStart e = (d.startStream e i x).settle e := by
  unfold Device.streamStart
  simp only [hi, hx, hst, hv, hr, Bool.and_self, if_true]

/-- What ME_STREAM_START changes: the array of its engine, and what reading the operands changes (R64, R67). -/
theorem streamStart_spec {d : Device} {e i : Nat} {x : MeCmd} (hi : (d.meAt e).pipe.findIdx? (fun x => x.s.isNone) = some i)
    (hx : (d.meAt e).pipe[i]? = some x) (hst : mmStreams x.word = true) (hv : x.v.isSome = true) (hr : d.running e = true)
    (hq : ∀ h, h ∈ (d.engAt e).queue.head? → h.poisoned = false ∧ opAllowed (engKind e) (opcode h.word) = true) :
    ∃ y : MeCmd, y.word = x.word ∧ y.addr = x.addr ∧ y.v = x.v ∧ y.next = x.next ∧ y.rows.length = mmM x.word ∧
      y.waste.length = mmM x.word ∧ y.s = some (max ((d.meAt e).startAt x) (d.q / aQ)) ∧
      (d.streamStart e).meAt e = (d.meAt e).streamed i y (max ((d.meAt e).startAt x) (d.q / aQ)) ∧
      (∀ z, z ≠ e → (d.streamStart e).meAt z = d.meAt z) ∧
      (d.streamStart e).sansMem = { d with me := (d.streamStart e).me }.sansMem := by
  obtain ⟨u, y, hu, hword, haddr, hyv, hnext, hrows, hwaste, hs, hregs⟩ := startStream_cases d e i x
  rw [streamStart_eq hi hx hst hv hr]
  generalize d.startStream e i x = d' at hregs ⊢
  generalize hm : (d.meAt e).streamed i y (max ((d.meAt e).startAt x) (d.q / aQ)) = m at hregs ⊢
  have hme : d'.me = (u.setMe e m).me := congrArg (·.me) hregs.1
  have hsettle : d'.settle e = d' := settle_legal fun c hc => hq c (by
    rwa [hregs.engAt, show (u.setMe e m).engAt e = u.engAt e from rfl, hu.queue] at hc)
  rw [hsettle]
  refine ⟨y, hword, haddr, hyv, hnext, hrows, hwaste, hs, ?_, fun z hz => ?_, ?_⟩
  · rw [meAt_congr hme, Device.meAt_setMe_same, hm]
  · rw [meAt_congr hme, Device.meAt_setMe_ne _ _ hz, meAt_congr hu.me]
  · rw [(MemStep.of_onlyRegs hregs).1, hu.setMe, hme]

end Sys2Proof.Machine
end

section
/-! MM and MMC enter the pipeline (R67, R68, R111). -/

namespace Sys2Proof.Machine

theorem exec_mm (e : Nat) (s : State) : exec (.mm e) s = act (isMe e) (fun d => d.runMm e 0x10) s := rfl
theorem exec_mmc (e : Nat) (s : State) : exec (.mmc e) s = act (isMe e) (fun d => d.runMm e 0x11) s := rfl

/-! ## Steps of engines, arrays and memory -/

/-- From `a` to `b` only engines, arrays, registers, memories and fault pairs change. -/
def ArrayStep (a b : Device) : Prop := b.sansMem = { a with eng := b.eng, me := b.me }.sansMem

theorem ArrayStep.trans {a b c : Device} (h : ArrayStep a b) (g : ArrayStep b c) : ArrayStep a c :=
  Eq.trans g (congrArg (fun z : Device =>
    { z with me := c.me, eng := c.eng.map fun x : Nat × Eng => (x.1, x.2.keepHeld fun _ => false) }) h)

theorem ArrayStep.of_fetched {a b : Device} (h : Fetched a b) : ArrayStep a b := by
  have hput := congrArg (fun z : Device =>
    { z with me := b.me, eng := b.eng.map fun x : Nat × Eng => (x.1, x.2.keepHeld fun _ => false) }) h.1
  exact hput

theorem ArrayStep.of_ite {a b c : Device} {p : Prop} [Decidable p] (h : ArrayStep a b) (g : ArrayStep a c) :
    ArrayStep a (if p then b else c) := rel_ite h g

theorem arrayStep_setMe (d : Device) (e : Nat) (m : Me) : ArrayStep d (d.setMe e m) := rfl
theorem arrayStep_modEng (d : Device) (e : Nat) (f : Eng → Eng) : ArrayStep d (d.modEng e f) := rfl
theorem arrayStep_setCtr (d : Device) (c : Ctr) (v : Nat) : ArrayStep d (d.setCtr c v) := rfl
theorem arrayStep_push (d : Device) (e : Nat) (a : Act) : ArrayStep d (d.push e a) := rfl

/-! ## The stages of taking a matrix command -/

/-- The header WAIT of a matrix command is absent or satisfied (R111). -/
def Device.mmMet (d : Device) (e : Nat) (w : CmdWord) : Bool := !waitEn w || decide (waitN w ≤ d.ctr (waitCtr e w))

/-- A satisfied header WAIT is counted down. -/
def Device.mmCounted (d : Device) (e : Nat) (w : CmdWord) : Device :=
  if waitEn w && d.mmMet e w then d.setCtr (waitCtr e w) (d.ctr (waitCtr e w) - waitN w) else d

/-- The weights of the shadow register: those that the command loads, or the old ones (R68). -/
def Device.mmShadow (d : Device) (e : Nat) (w : CmdWord) (old : Option Weights) : Device × Option Weights :=
  if mmLoads w then ((d.readWeights e w).1, some (d.readWeights e w).2) else (d, old)

/-- The entry of an untagged matrix command in the pipeline. -/
def Device.mmEntry (d : Device) (e : Nat) (h : FCmd) (w : CmdWord) : MeCmd where
  addr := h.addr
  word := w
  agd := if isMmc w ∧ mmStreams w then some (tabGet (agdOf 0) (d.meAt e).agd (cmdFld w 28 0 4)) else none
  b := max (d.meAt e).sPrev (d.q / aQ)
  v := if !waitEn w then some 0 else if d.mmMet e w then some (d.q / aQ) else none
  s := none
  bias := []
  rows := []
  waste := []
  next := 0
  mismatched := false
  injected := d.bitAt (Reg.meCtrl e) 2 && !((d.meAt e).pipe.any (·.injected))
  tag := none

/-- An untagged command as its engine lists it while it is under way. -/
def listed (h : FCmd) (w : CmdWord) : Act := ⟨h.addr, w, 0, 0, [], 0, false, none, 0⟩

/-- An unsatisfied header WAIT blocks the engine on its counter (R111). -/
def Device.mmBlocked (d : Device) (e : Nat) (w : CmdWord) (met : Bool) : Device :=
  if met then d else d.modEng e fun t => { t with phase := .waiting, blocked := some (waitCtr e w, waitN w) }

/-- What taking an untagged matrix command does, stage by stage. -/
theorem meBody_eq {d : Device} {e : Nat} {h : FCmd} {w : CmdWord} (ht : h.tag = none) : Device.meBody e d h w =
    let r := (d.mmCounted e w).mmShadow e w (d.meAt e).shadow
    ((r.1.setMe e { d.meAt e with pipe := (d.meAt e).pipe ++ [d.mmEntry e h w], shadow := r.2 }).push e (listed h w)).mmBlocked e w
      (d.mmMet e w) := by
  unfold Device.meBody Device.mmShadow
  rw [ht]
  cases mmLoads w <;> rfl

/-- Loading weights reads memory; the shadow register holds them, or what it held (R62, R68). -/
theorem mmShadow_spec (d : Device) (e : Nat) (w : CmdWord) (old : Option Weights) : Fetched d (d.mmShadow e w old).1 ∧
    (mmLoads w = false → (d.mmShadow e w old).2 = old) ∧
    (mmLoads w = true → ∃ t : Weights, (d.mmShadow e w old).2 = some t ∧ t.k = mmK w ∧ t.rows.length = mmK w ∧ t.nmask = mmMask w) := by
  obtain ⟨hread, hk, hrows, hmask⟩ := memClosed_fetched.readWeights d e w
  unfold Device.mmShadow
  cases hl : mmLoads w
  · exact ⟨memClosed_fetched.refl d, fun _ => rfl, fun h => absurd h (by decide)⟩
  · exact ⟨hread, fun h => absurd h (by decide), fun _ => ⟨_, rfl, hk, hrows, hmask⟩⟩

theorem arrayStep_mmCounted (d : Device) (e : Nat) (w : CmdWord) : ArrayStep d (d.mmCounted e w) :=
  .of_ite (arrayStep_setCtr d _ _) rfl

@[simp] theorem mmCounted_eng (d : Device) (e : Nat) (w : CmdWord) : (d.mmCounted e w).eng = d.eng := by
  unfold Device.mmCounted
  split <;> rfl

@[simp] theorem mmCounted_me (d : Device) (e : Nat) (w : CmdWord) : (d.mmCounted e w).me = d.me := by
  unfold Device.mmCounted
  split <;> rfl

/-- The counter of a header WAIT after the test of it (R111). -/
theorem ctr_mmCounted {d : Device} {e : Nat} {w : CmdWord} (hw : waitEn w = true) :
    (d.mmCounted e w).ctr (waitCtr e w) =
      if waitN w ≤ d.ctr (waitCtr e w) then d.ctr (waitCtr e w) - waitN w else d.ctr (waitCtr e w) := by
  unfold Device.mmCounted Device.mmMet
  simp only [hw, Bool.not_true, Bool.false_or, Bool.true_and, decide_eq_true_eq]
  split
  · exact d.ctr_setCtr _ _ (Nat.lt_of_le_of_lt (Nat.sub_le _ _) (d.ctr_lt _))
  · rfl

/-- The lone head leaves the queue. -/
theorem popCmd_solo {d : Device} {e op : Nat} {h : FCmd} (hs : d.solo e op h) :
    (d.popCmd e).engAt e = { d.engAt e with queue := [] } := by
  obtain ⟨-, -, hq, -, hwait, -, -, -, -, -⟩ := hs
  rw [Device.popCmd, Device.engAt_modEng_same, hq, ← hwait]
  rfl

/-- What blocking leaves of the engines, arrays and counters. -/
theorem mmBlocked_spec (d : Device) (e : Nat) (w : CmdWord) (met : Bool) :
    ArrayStep d (d.mmBlocked e w met) ∧ (d.mmBlocked e w met).me = d.me ∧ (d.mmBlocked e w met).regs = d.regs ∧
      OtherEngines d (d.mmBlocked e w met) e ∧ ((d.mmBlocked e w met).engAt e).queue = (d.engAt e).queue ∧
      ((d.mmBlocked e w met).engAt e).acts = (d.engAt e).acts ∧
      (met = true → ((d.mmBlocked e w met).engAt e).phase = (d.engAt e).phase) ∧
      (met = false → ((d.mmBlocked e w met).engAt e).phase = .waiting ∧
        ((d.mmBlocked e w met).engAt e).blocked = some (waitCtr e w, waitN w)) := by
  unfold Device.mmBlocked
  cases met
  · rw [if_neg Bool.false_ne_true, Device.engAt_modEng_same]
    exact ⟨arrayStep_modEng d e _, rfl, rfl, .setEng d e _, rfl, rfl, fun h => absurd h (by decide), fun _ => ⟨rfl, rfl⟩⟩
  · rw [if_pos rfl]
    exact ⟨rfl, rfl, rfl, .refl d e, rfl, rfl, fun _ => rfl, fun h => absurd h (by decide)⟩

theorem v_mmEntry (d : Device) (e : Nat) (h : FCmd) (w : CmdWord) : (d.mmEntry e h w).v =
    if waitEn w = false then some 0 else if waitN w ≤ d.ctr (waitCtr e w) then some (d.q / aQ) else none := by
  unfold Device.mmEntry Device.mmMet
  cases waitEn w <;> simp

theorem injected_mmEntry {d : Device} {e : Nat} (h : FCmd) (w : CmdWord) (hpipe : (d.meAt e).pipe = []) :
    (d.mmEntry e h w).injected = d.bitAt (Reg.meCtrl e) 2 := by
  show (d.bitAt (Reg.meCtrl e) 2 && !((d.meAt e).pipe.any (·.injected))) = _
  rw [hpipe]
  exact Bool.and_true _

/-- An untagged matrix command is taken by an engine that has nothing else (R67, R68). -/
theorem meBody_spec {d : Device} {e : Nat} {h : FCmd} {w : CmdWord} (ht : h.tag = none) (hq : (d.engAt e).queue = [])
    (ha : (d.engAt e).acts = []) (hpipe : (d.meAt e).pipe = []) (hrun : (d.engAt e).phase = .executing) :
    MatrixStarted d e h w (Device.meBody e d h w) := by
  rw [meBody_eq ht]
  simp only
  have hcount := arrayStep_mmCounted d e w
  have hctr : waitEn w = true → _ := ctr_mmCounted (d := d) (e := e) (w := w)
  have hceng : ∀ x, (d.mmCounted e w).engAt x = d.engAt x := fun x => by rw [Device.engAt, mmCounted_eng]; rfl
  have hcme : (d.mmCounted e w).me = d.me := mmCounted_me d e w
  obtain ⟨hread, hkeep, hload⟩ := mmShadow_spec (d.mmCounted e w) e w (d.meAt e).shadow
  generalize (d.mmCounted e w).mmShadow e w (d.meAt e).shadow = r at hread hkeep hload ⊢
  generalize d.mmCounted e w = d1 at hcount hctr hceng hcme hread
  generalize hm : ({ d.meAt e with pipe := (d.meAt e).pipe ++ [d.mmEntry e h w], shadow := r.2 } : Me) = m
  have hD : ArrayStep r.1 ((r.1.setMe e m).push e (listed h w)) :=
    (arrayStep_setMe r.1 e m).trans (arrayStep_push _ e (listed h w))
  have hDme : ((r.1.setMe e m).push e (listed h w)).me = (r.1.setMe e m).me := (r.1.setMe e m).modEng_me e _
  have hDregs : ((r.1.setMe e m).push e (listed h w)).regs = r.1.regs :=
    ((r.1.setMe e m).modEng_regs e _).trans (r.1.setMe_regs e m)
  have hDeng : ((r.1.setMe e m).push e (listed h w)).engAt e = { r.1.engAt e with acts := (r.1.engAt e).acts ++ [listed h w] } :=
    engAt_push (r.1.setMe e m) e (listed h w)
  have hDoth : OtherEngines r.1 ((r.1.setMe e m).push e (listed h w)) e := .push (r.1.setMe e m) e (listed h w)
  generalize (r.1.setMe e m).push e (listed h w) = d2 at hD hDme hDregs hDeng hDoth ⊢
  obtain ⟨hF, hFme, hFregs, hFoth, hFq, hFacts, hFmet, hFunmet⟩ := mmBlocked_spec d2 e w (d.mmMet e w)
  generalize d2.mmBlocked e w (d.mmMet e w) = d' at hF hFme hFregs hFoth hFq hFacts hFmet hFunmet ⊢
  have hme : d'.me = (r.1.setMe e m).me := hFme.trans hDme
  have hctr' : d'.ctr (waitCtr e w) = d1.ctr (waitCtr e w) :=
    (Device.fld_congr (Device.reg_congr (hFregs.trans hDregs) _) 15 0).trans (hread.waitCtr e w)
  have hat : d'.meAt e = m := (meAt_congr hme e).trans (r.1.meAt_setMe_same e m)
  refine ⟨?_, ?_, ⟨d.mmEntry e h w, ?_, rfl, rfl, rfl, rfl, ?_, v_mmEntry d e h w⟩, ?_, fun hl => ?_, fun hl => ?_,
    fun hen hle => ⟨?_, ?_⟩, fun hen hlt => ⟨?_, ?_, ?_⟩, fun x hx => ?_, fun y hy => ?_, ?_⟩
  · rw [hFq, hDeng]
    exact (hread.queue e).trans ((congrArg Eng.queue (hceng e)).trans hq)
  · rw [hFacts, hDeng, hread.acts_nil ((congrArg Eng.acts (hceng e)).trans ha)]
    rfl
  · rw [hat, ← hm]
    exact congrArg (· ++ [d.mmEntry e h w]) hpipe
  · exact injected_mmEntry h w hpipe
  · rw [hat, ← hm]
  · rw [hat, ← hm]
    exact hkeep hl
  · rw [hat, ← hm]
    exact hload hl
  · rw [hctr', hctr hen, if_pos hle]
  · rw [hFmet (by simp [Device.mmMet, hle]), hDeng]
    exact (hread.phase e).trans ((congrArg Eng.phase (hceng e)).trans hrun)
  · exact (hFunmet (by simp [Device.mmMet, hen, hlt])).1
  · exact (hFunmet (by simp [Device.mmMet, hen, hlt])).2
  · rw [hctr', hctr hen, if_neg (Nat.not_le.mpr hlt)]
  · rw [hFoth x hx, hDoth x hx, ← hceng x]
    exact hread.otherEnginesRun e x hx
  · rw [meAt_congr hme, Device.meAt_setMe_ne _ _ hy, meAt_congr hread.me, meAt_congr hcme]
  · exact ((hcount.trans (.of_fetched hread)).trans hD).trans hF

/-- A lone MM or MMC that is legal is taken. -/
theorem runMm_solo {d : Device} {e op : Nat} {h : FCmd} {w : CmdWord} (hs : d.solo e op h) (hw : w = stepWord h.word (d.engAt e).loops)
    (hc : hdrCauses h.word ++ mmCauses e h.word d w = []) : d.runMm e op = (Device.meBody e (d.popCmd e) h w).settle e := by
  obtain ⟨-, -, -, ha, -, -, -, -, -, -⟩ := id hs
  subst hw
  unfold Device.runMm
  rw [ha]
  simp [Device.headOp_solo hs, hc]

/-- What has started from the device without the head has started from the device. -/
theorem MatrixStarted.of_popCmd {d d' : Device} {e : Nat} {h : FCmd} {w : CmdWord} (hst : MatrixStarted (d.popCmd e) e h w d') :
    MatrixStarted d e h w d' := by
  have hoth : OtherEngines d (d.popCmd e) e := .setEng d e _
  have hstep : ArrayStep d (d.popCmd e) := arrayStep_modEng d e _
  have hme : ∀ x, (d.popCmd e).meAt x = d.meAt x := fun x => meAt_congr (d.modEng_me e _) x
  have hreg : ∀ k, (d.popCmd e).reg k = d.reg k := fun k => Device.reg_congr (d.modEng_regs e _) k
  have hbit : (d.popCmd e).bitAt (Reg.meCtrl e) 2 = d.bitAt (Reg.meCtrl e) 2 := Device.bitAt_congr (hreg _) 2
  have hctr : (d.popCmd e).ctr (waitCtr e w) = d.ctr (waitCtr e w) := Device.fld_congr (hreg _) 15 0
  have hq : (d.popCmd e).q = d.q := d.modEng_q e _
  generalize d.popCmd e = d0 at *
  unfold MatrixStarted at hst ⊢
  obtain ⟨hqueue, hacts, hentry, hactive, hkeep, hload, hmet, hunmet, hother, hmes, hrest⟩ := hst
  rw [hbit, hctr, hq] at hentry
  rw [hme] at hactive hkeep
  rw [hctr] at hmet hunmet
  exact ⟨hqueue, hacts, hentry, hactive, hkeep, hload, hmet, hunmet, fun x hx => (hother x hx).trans (by rw [hoth x hx]),
    fun y hy => (hmes y hy).trans (hme y), hstep.trans hrest⟩

/-- A lone MM or MMC enters the pipeline (R67, R68). -/
theorem matrixStarted_of_solo {d : Device} {e op : Nat} {h : FCmd} {w : CmdWord} (hs : d.solo e op h)
    (hw : w = stepWord h.word (d.engAt e).loops) (hc : hdrCauses h.word ++ mmCauses e h.word d w = []) :
    MatrixStarted d e h w (d.runMm e op) := by
  obtain ⟨-, hrun, -, hacts, -, hpipe, -, htag, -, -⟩ := id hs
  have hpop := popCmd_solo hs
  have hphase : (d.engAt e).phase = .executing := by
    simp only [Device.running, Bool.and_eq_true, decide_eq_true_eq] at hrun
    exact hrun.1.1.1.1.1
  have hst := meBody_spec (d := d.popCmd e) (e := e) (w := w) htag (by rw [hpop]) (by rw [hpop]; exact hacts)
    ((congrArg Me.pipe (meAt_congr (d.modEng_me e _) e)).trans hpipe) (by rw [hpop]; exact hphase)
  rw [runMm_solo hs hw hc, Device.settle_nil hst.1]
  exact hst.of_popCmd

end Sys2Proof.Machine
end

section
/-! AGD and ABFT_INJ (R136, R87), and the obligation on the start of matrix commands. -/

namespace Sys2Proof.Machine

/-! ## Stepped commands keep their opcode (R124) -/

theorem opcode_cmdPut (c : CmdWord) {b : Nat} (n v : Nat) (hb : 1 ≤ b) : opcode (cmdPut c b n v) = opcode c := by
  unfold opcode cmdFld
  apply Nat.eq_of_testBit_eq
  intro i
  simp only [Nat.mul_zero, Nat.add_zero, Nat.pow_zero, Nat.div_one, Nat.testBit_mod_two_pow]
  by_cases hi : i < 8
  · have hlow : decide (8 * b ≤ i) = false := by simp; omega
    rw [BitVec.testBit_toNat, BitVec.testBit_toNat, cmdPut, BitVec.getLsbD_or, BitVec.getLsbD_and, BitVec.getLsbD_and,
      BitVec.getLsbD_not, BitVec.getLsbD_ofNat, BitVec.getLsbD_ofNat, Nat.testBit_mul_two_pow, Nat.testBit_mul_two_pow, hlow]
    simp [show i < 512 by omega]
  · simp [hi]

theorem stepSlots_pos (op : Nat) : ∀ s ∈ stepSlots op, 1 ≤ s.1 := by
  have hall : (stepSlots op).all (fun s => decide (1 ≤ s.1)) = true := by
    unfold stepSlots
    split_ifs <;> rfl
  simpa using hall

theorem opcode_stepWord (c : CmdWord) (ls : List LoopEnt) : opcode (stepWord c ls) = opcode c := by
  have hfold : ∀ (l : List ((Nat × Nat) × Nat)), (∀ s ∈ l, 1 ≤ s.1.1) → ∀ w : CmdWord, opcode w = opcode c →
      opcode (l.foldl (fun w s => cmdPut w s.1.1 s.1.2
        (wrapN (8 * s.1.2) ((cmdFld c s.1.1 0 (8 * s.1.2) : Int) + stepSum ls s.2))) w) = opcode c := by
    intro l
    induction l with
    | nil => exact fun _ w hw => hw
    | cons s l ih =>
      intro hl w hw
      exact ih (fun t ht => hl t (List.mem_cons_of_mem s ht)) _ ((opcode_cmdPut w _ _ (hl s List.mem_cons_self)).trans hw)
  exact hfold _ (fun s hs => stepSlots_pos _ s.1 (List.fst_mem_of_mem_zipIdx hs)) c rfl

/-! ## AGD (R136) -/

theorem exec_agd (e : Nat) (s : State) : exec (.agd e) s =
    act (isMe e) (fun d => d.start e 0x12 (agdCauses e) (Device.agdBody e)) s := rfl

/-- A lone AGD stores its descriptor and completes. -/
theorem agd_spec {d : Device} {e : Nat} {h : FCmd} {w : CmdWord} (hs : d.solo e 0x12 h) (hw : w = stepWord h.word (d.engAt e).loops)
    (hl : hdrCauses h.word = []) (hc : agdCauses e d w = []) (hm : d.waitMet e w) :
    ∃ u : Device, d.start e 0x12 (agdCauses e) (Device.agdBody e) = u ∧ LoneDone d u e w [] ∧
      u.me = tabSet Me.reset d.me e { d.meAt e with agd := tabSet (agdOf 0) (d.meAt e).agd (cmdFld w 8 0 4) (agdOf w) } ∧
      u.sansRegs = { d with eng := u.eng, me := u.me, sigs := d.signalled e w }.sansRegs := by
  obtain ⟨-, -, -, hacts, -, -, -, htag, -, -⟩ := id hs
  obtain ⟨d1, hstart, h1, h2, h3, h4⟩ := Device.start_solo hs (causes := agdCauses e) (body := Device.agdBody e) hw.symm hl hc hm
  have hE : EngineStep d d1 e := ⟨h1, h3⟩
  have hme : d1.me = d.me := congrArg (·.me) h1
  have hop : opcode w = 0x12 := by rw [hw, opcode_stepWord, opcode_of_solo hs]
  have hbody : Device.agdBody e d1 h w = (d1.setMe e { d1.meAt e with
      agd := tabSet (agdOf 0) (d1.meAt e).agd (cmdFld w 8 0 4) (agdOf w) }).pushDone e h w := rfl
  rw [meAt_congr hme] at hbody
  generalize ({ d.meAt e with agd := tabSet (agdOf 0) (d.meAt e).agd (cmdFld w 8 0 4) (agdOf w) } : Me) = m at hbody ⊢
  have hat : ∀ x, (d1.setMe e m).engAt x = d1.engAt x := fun x => by rw [Device.engAt, d1.setMe_eng e m]; rfl
  obtain ⟨d2, hpush, hrest, heng, hoth, hregs⟩ := pushDone_solo (d := d1.setMe e m) (e := e) (h := h) (w := w)
    (by rw [hat, h2]; exact hacts) htag (by rw [d1.setMe_tck e m, hE.tck]; exact abandoning_of_solo hs) (by rw [hop]; decide)
  have hsig : (d1.setMe e m).signalled e w = d.signalled e w := hE.signalled e w
  rw [hsig] at hpush
  have heng2 : ({ d2 with sigs := d.signalled e w } : Device).engAt e = { d.engAt e with queue := [] } :=
    heng.trans ((hat e).trans h2)
  have hme2 : d2.me = tabSet Me.reset d1.me e m := congrArg (·.me) hrest
  refine ⟨{ d2 with sigs := d.signalled e w }, ?_, ⟨?_, ?_, fun x hx => ?_, h4.trans fun k hk hi => ?_⟩, ?_, ?_⟩
  · rw [hstart, hbody, hpush]
    exact Device.settle_nil (congrArg Eng.queue heng2)
  · exact congrArg Eng.queue heng2
  · exact (congrArg Eng.acts heng2).trans hacts
  · exact (hoth x hx).trans ((hat x).trans (h3 x hx))
  · exact (hregs k hk hi).trans (d1.reg_setMe e k m)
  · rw [← hme]
    exact hme2
  · have hsans : d2.sansRegs = { d with eng := d2.eng, me := tabSet Me.reset d1.me e m }.sansRegs := by
      rw [hrest]
      exact congrArg (fun x : Device => { x with eng := d2.eng, me := tabSet Me.reset d1.me e m }) h1
    rw [← hme2] at hsans
    exact congrArg (fun x : Device => { x with sigs := d.signalled e w }) hsans

/-! ## ABFT_INJ (R87) -/

theorem exec_abftInj (e : Nat) (s : State) :
    exec (.abftInj e) s = act (isMe e && s.dev.cmpAlive) (fun d => d.armInjection e) s := rfl

theorem onlyRegs_event (d : Device) (k i : Nat) : OnlyRegs d (d.event k i) [k] :=
  ⟨sansRegs_event d k i, fun j hj _ => by rw [d.reg_event, if_neg (by simpa using hj)]⟩

theorem bitAt_event_same (d : Device) (k : Nat) {i : Nat} (hi : i < 32) : (d.event k i).bitAt k i = true := by
  rw [Device.bitAt, d.reg_event, if_pos rfl, bit_putBit _ _ _ _ hi, if_pos rfl]

/-- Test injection is armed in STARTUP_TEST and MAINT, and refused elsewhere (Table 3.9). -/
theorem abftInj_completes {s : State} {e : Nat} (he : isMe e = true) (hal : s.dev.cmpAlive = true) :
    Completes (.abftInj e) s fun d =>
      (s.dev.chk.dev = .startupTest ∨ s.dev.chk.dev = .maint → d.bitAt (Reg.meCtrl e) 2 = true ∧ OnlyRegs s.dev d [Reg.meCtrl e]) ∧
      (s.dev.chk.dev ≠ .startupTest → s.dev.chk.dev ≠ .maint →
        d.bitAt (Reg.meErr e) 5 = true ∧ OnlyRegs s.dev d [Reg.meErr e]) := by
  have hbase := engBase_le e
  refine .of_act (exec_abftInj e s) (by rw [he, hal]; rfl) ?_
  unfold Device.armInjection
  split
  next harm =>
    exact ⟨fun _ => ⟨bitAt_event_same _ _ (by decide), onlyRegs_event _ _ _⟩, fun h1 h2 => absurd harm (by simp [h1, h2])⟩
  next harm =>
    exact ⟨fun h => absurd h harm, fun _ _ => ⟨bitAt_raise_same _ _ _ (by decide) (by simp only [Reg.meErr]; omega)
      (by simp only [Reg.meErr]; omega), onlyRegs_raise _ _ _⟩⟩

/-! ## The obligation -/

/-- Settles O39: MM and MMC by the stages of taking them, AGD by what completes it, ABFT_INJ by the device state, and the start of
a stream by what it reads and the array it leaves. -/
theorem matrixCommandsStart : Obligations.MatrixCommandsStart := by
  unfold Obligations.MatrixCommandsStart
  refine ⟨⟨fun s e h w he hw hc => ⟨fun hs => ?_, fun hs => ?_⟩, fun s e h w he hs hw hl hc hm => ?_,
    fun s e he hal => abftInj_completes he hal⟩, fun s e i x he hi hx hst hv hr hq => ?_⟩
  · exact .of_act (exec_mm e s) he (matrixStarted_of_solo hs hw hc)
  · exact .of_act (exec_mmc e s) he (matrixStarted_of_solo hs hw hc)
  · refine .of_act (exec_agd e s) he ?_
    obtain ⟨u, hrun, hdone, hme, hrest⟩ := agd_spec hs hw hl hc hm
    rw [hrun]
    have hat : u.meAt e = { s.dev.meAt e with agd := tabSet (agdOf 0) (s.dev.meAt e).agd (cmdFld w 8 0 4) (agdOf w) } := by
      rw [Device.meAt, hme, tabGet_tabSet_same]
    refine ⟨hdone, ?_, fun n hn => ?_, ?_, fun y hy => ?_, hrest⟩
    · rw [hat, tabGet_tabSet_same]
    · rw [hat, tabGet_tabSet_ne _ _ _ hn]
    · rw [hat]
    · rw [Device.meAt, hme, tabGet_tabSet_ne _ _ _ hy]
      rfl
  · refine .of_act (exec_meStreamStart e s) he ?_
    obtain ⟨y, hword, haddr, hyv, hnext, hrows, hwaste, hs, hat, hoth, hrest⟩ := streamStart_spec hi hx hst hv hr hq
    rw [hat]
    unfold Me.streamed
    refine ⟨⟨y, List.getElem?_set_self (List.getElem?_eq_some_iff.mp hx).1, hword, haddr, hyv, hnext, hrows, hwaste, hs⟩,
      fun j hj => List.getElem?_set_ne hj.symm, ?_, ?_, rfl, ?_, hoth, hrest⟩
    all_goals rw [hword]

end Sys2Proof.Machine
end

section
/-! LOOP (R123): a LOOP that stands alone counts a pass of its own loop-stack entry, drops it, falls through or opens one. -/

namespace Sys2Proof.Machine

theorem exec_loop (e : Nat) (s : State) : exec (.loop e) s = execLoop e s := rfl

/-- A LOOP carries neither a header WAIT nor a header SIGNAL (R123). -/
theorem loopCauses_header {e a : Nat} {d : Device} {w : CmdWord} (h : loopCauses e a d w = []) :
    waitEn w = false ∧ sigEn w = false := by
  simp only [loopCauses, List.append_eq_nil_iff, cause_eq_nil, Bool.or_eq_false_iff] at h
  exact ⟨h.2.1.1.1.1.2, h.2.1.1.1.2⟩

theorem signalled_of_not_sigEn {d : Device} {e : Nat} {w : CmdWord} (h : sigEn w = false) : d.signalled e w = d.sigs := by
  rw [Device.signalled, h]
  rfl

/-- The entry that a LOOP opens (R123). -/
def loopEntry (h : FCmd) (w : CmdWord) : LoopEnt :=
  ⟨h.addr, h.addr - 64 * loopLen w, 1, loopStep w 0, loopStep w 1, loopStep w 2, loopStep w 3⟩

/-- What a LOOP does to its engine before it completes. -/
def Device.looped (d : Device) (e : Nat) (h : FCmd) (w : CmdWord) : Device :=
  match (d.engAt e).loops.getLast? with
  | some t =>
    if t.addr = h.addr then
      if t.iter + 1 < loopCount w then
        d.setEng e ((d.engAt e).jump (h.addr - 64 * loopLen w) ((d.engAt e).loops.dropLast ++ [{ t with iter := t.iter + 1 }]))
      else d.setEng e { d.engAt e with loops := (d.engAt e).loops.dropLast }
    else if loopCount w = 1 then d
    else d.setEng e ((d.engAt e).jump (h.addr - 64 * loopLen w) ((d.engAt e).loops ++ [loopEntry h w]))
  | none =>
    if loopCount w = 1 then d
    else d.setEng e ((d.engAt e).jump (h.addr - 64 * loopLen w) [loopEntry h w])

theorem loopBody_eq (d : Device) (e : Nat) (h : FCmd) (w : CmdWord) : d.loopBody e h w = (d.looped e h w).pushDone e h w := rfl

section
variable {d : Device} {e : Nat} {h : FCmd} {w : CmdWord}

theorem looped_again {ls : List LoopEnt} {t : LoopEnt} (hl : (d.engAt e).loops = ls ++ [t]) (ha : t.addr = h.addr)
    (hn : t.iter + 1 < loopCount w) : d.looped e h w =
      d.setEng e ((d.engAt e).jump (h.addr - 64 * loopLen w) (ls ++ [{ t with iter := t.iter + 1 }])) := by
  rw [Device.looped, hl]
  simp [ha, hn]

theorem looped_last {ls : List LoopEnt} {t : LoopEnt} (hl : (d.engAt e).loops = ls ++ [t]) (ha : t.addr = h.addr)
    (hn : loopCount w ≤ t.iter + 1) : d.looped e h w = d.setEng e { d.engAt e with loops := ls } := by
  rw [Device.looped, hl]
  simp [ha, Nat.not_lt.mpr hn]

/-- A LOOP without an entry of its own falls through at COUNT = 1, and opens one otherwise. -/
theorem looped_new (hl : ∀ t, (d.engAt e).loops.getLast? = some t → t.addr ≠ h.addr) : d.looped e h w =
    if loopCount w = 1 then d
    else d.setEng e ((d.engAt e).jump (h.addr - 64 * loopLen w) ((d.engAt e).loops ++ [loopEntry h w])) := by
  unfold Device.looped
  split
  next t ht => rw [if_neg (hl t ht)]
  next hn => rw [List.getLast?_eq_none_iff.mp hn, List.nil_append]

end

theorem engineStep_setEng (d : Device) (e : Nat) (g : Eng) : EngineStep d (d.setEng e g) e := ⟨rfl, .setEng d e g⟩

theorem EngineStep.refl (d : Device) (e : Nat) : EngineStep d d e := ⟨rfl, .refl d e⟩

/-- A lone LOOP takes its engine to `g`, whatever `looped` makes of it, and is done. -/
theorem loop_completes {s : State} {e : Nat} {h : FCmd} (hs : s.dev.solo e 5 h) (hl : hdrCauses h.word = [])
    (hc : loopCauses e h.addr s.dev h.word = []) {g : Eng} (hq : g.queue = []) (ha : g.acts = [])
    (hg : ∀ d, d.engAt e = { s.dev.engAt e with queue := [] } →
      EngineStep d (d.looped e h h.word) e ∧ (d.looped e h h.word).regs = d.regs ∧ (d.looped e h h.word).engAt e = g) :
    Completes (.loop e) s fun d => LoneDone s.dev d e h.word [] ∧ d.engAt e = g ∧
      d.sansRegs = { s.dev with eng := d.eng }.sansRegs := by
  obtain ⟨he, -, hqueue, -, -, -, -, -, -, -⟩ := id hs
  obtain ⟨hwait, hsig⟩ := loopCauses_header hc
  obtain ⟨d1, hstart, h1, h2, h3, h4⟩ := Device.start_solo hs (causes := loopCauses e h.addr)
    (body := fun d h w => d.loopBody e h w) (stepWord_none _ (by rw [opcode_of_solo hs]; rfl)) hl hc
    (fun hen => absurd (hwait.symm.trans hen) (by decide))
  obtain ⟨hstep, hregs, heng⟩ := hg d1 h2
  have hE : EngineStep s.dev (d1.looped e h h.word) e := EngineStep.trans ⟨h1, h3⟩ hstep
  obtain ⟨d2, hpush, hrest, heng2, hoth2, hregs2⟩ := pushDone_solo (d := d1.looped e h h.word) (e := e) (h := h) (w := h.word)
    (by rw [heng]; exact ha) (tag_of_solo hs) (by rw [hE.tck]; exact abandoning_of_solo hs) (by rw [opcode_of_solo hs]; decide)
  rw [hE.signalled, signalled_of_not_sigEn hsig] at hpush
  have hE2 : EngineStep s.dev d2 e := hE.trans ⟨hrest, hoth2⟩
  have hat : d2.engAt e = g := heng2.trans heng
  have hsame : ({ d2 with sigs := s.dev.sigs } : Device) = d2 := by
    rw [show s.dev.sigs = d2.sigs from (congrArg (·.sigs) hE2.1).symm]
  rw [hsame] at hpush
  have hrun : s.dev.runLoop e = d2 := by
    rw [Device.runLoop, hqueue]
    simp only
    rw [hstart, loopBody_eq, hpush]
    exact Device.settle_nil (by rw [hat]; exact hq)
  refine .of_act (exec_loop e s) (decide_eq_true he) ?_
  rw [hrun]
  refine ⟨⟨by rw [hat]; exact hq, by rw [hat]; exact ha, hE2.2, h4.trans fun k hk hi => ?_⟩, hat, hE2.1⟩
  rw [hregs2 k hk hi, Device.reg_congr hregs]

/-- Settles O7: whether the last loop-stack entry is the LOOP's own, and how COUNT compares with its passes, name the case. -/
theorem loopRepeatsItsBody : Obligations.LoopRepeatsItsBody := by
  unfold Obligations.LoopRepeatsItsBody
  intro s e h hs hl hc
  obtain ⟨-, -, hqueue, hacts, -, -, -, -, -, -⟩ := id hs
  refine ⟨fun ls t hls hat hn => ?_, fun ls t hls hat hn => ?_, fun hnew hn => ?_, fun hnew hn => ?_⟩
  · refine (loop_completes hs hl hc
      (g := (s.dev.engAt e).jump (h.addr - 64 * loopLen h.word) (ls ++ [{ t with iter := t.iter + 1 }])) rfl hacts
      fun d hd => ?_).mono fun d ⟨hdone, hg, hrest⟩ => ⟨hdone, by rw [hg]; rfl, by rw [hg]; rfl, hrest⟩
    rw [looped_again (by rw [hd]; exact hls) hat hn, Device.engAt_setEng_same, hd]
    exact ⟨engineStep_setEng d e _, rfl, rfl⟩
  · refine (loop_completes hs hl hc (g := { s.dev.engAt e with queue := [], loops := ls }) rfl hacts
      fun d hd => ?_).mono fun d ⟨hdone, hg, hrest⟩ => ⟨hdone, by rw [hg], by rw [hg], hrest⟩
    rw [looped_last (by rw [hd]; exact hls) hat hn, Device.engAt_setEng_same, hd]
    exact ⟨engineStep_setEng d e _, rfl, rfl⟩
  · refine (loop_completes hs hl hc (g := { s.dev.engAt e with queue := [] }) rfl hacts
      fun d hd => ?_).mono fun d ⟨hdone, hg, hrest⟩ => ⟨hdone, by rw [hg], by rw [hg], hrest⟩
    rw [looped_new (by rw [hd]; exact hnew), if_pos hn]
    exact ⟨.refl d e, rfl, hd⟩
  · refine (loop_completes hs hl hc
      (g := (s.dev.engAt e).jump (h.addr - 64 * loopLen h.word) ((s.dev.engAt e).loops ++ [loopEntry h h.word])) rfl hacts
      fun d hd => ?_).mono fun d ⟨hdone, hg, hrest⟩ => ⟨hdone, by rw [hg]; rfl, by rw [hg]; rfl, hrest⟩
    rw [looped_new (by rw [hd]; exact hnew), if_neg (by omega), Device.engAt_setEng_same, hd]
    exact ⟨engineStep_setEng d e _, rfl, rfl⟩

end Sys2Proof.Machine
end

section
/-! Illegal commands (R83, R115). -/

namespace Sys2Proof.Machine

/-- The sources XX_CMD lie below 0x200. -/
theorem cmdSrc_lt {e : Nat} (he : e < 168) : cmdSrc e < 0x200 := by
  unfold cmdSrc Src.meCmd Src.veCmd Src.feCmd Src.seCmd
  split_ifs <;> omega

/-- Driving a pair leaves the registers of the engines alone. -/
theorem Device.reg_pairRaise_eng (d : Device) {s k : Nat} (hs : s < 0x1000) (hk : 0x1000000 ≤ k) : (d.pairRaise s).reg k = d.reg k :=
  Device.reg_pairRaise_ne d (by simp only [Reg.fltCdPair]; omega)

/-- The engine that an illegal command halts (R115). -/
def Eng.illegal (g : Eng) : Eng := { g with phase := .halted, fetch := none, blocked := none }

/-- ERR_INFO takes the cause, and ERR.CMD is set (R115). -/
def Device.errNoted (d : Device) (e c : Nat) : Device := (d.setReg (Reg.errInfo e) (word c)).raise (Reg.err e) 0

theorem illegal_eq (d : Device) (e c : Nat) : d.illegal e c = ((d.modEng e Eng.illegal).errNoted e c).pairRaise (cmdSrc e) := rfl

theorem errNoted_spec (d : Device) (e c : Nat) : OnlyRegs d (d.errNoted e c) [Reg.errInfo e, Reg.err e] ∧
    (d.errNoted e c).bitAt (Reg.err e) 0 = true ∧ (d.errNoted e c).reg (Reg.errInfo e) = word c := by
  have hbase := engBase_le e
  unfold Device.errNoted
  refine ⟨((onlyRegs_setReg d _ _).mono (by simp)).trans ((onlyRegs_raise _ _ _).mono (by simp)), ?_, ?_⟩
  · exact bitAt_raise_same _ _ _ (by decide) (by simp only [Reg.err]; omega) (by simp only [Reg.err]; omega)
  · rw [reg_raise_ne _ 0 (by simp) (by simp only [Reg.errInfo]; omega) (by simp only [Reg.errInfo]; omega), Device.reg_setReg_same]

theorem pairStep_illegal (d : Device) (e c : Nat) : PairStep (d.modEng e Eng.illegal) (d.illegal e c) :=
  (PairStep.of_onlyRegs (errNoted_spec (d.modEng e Eng.illegal) e c).1).trans (pairStep_pairRaise _ _)

theorem engAt_illegal (d : Device) (e c x : Nat) : (d.illegal e c).engAt x = (d.modEng e Eng.illegal).engAt x :=
  (pairStep_illegal d e c).read (·.engAt x) (fun _ => rfl) fun _ _ => rfl

/-- What an illegal command records: ERR.CMD, ERR_INFO and the pair of XX_CMD (R115). -/
theorem illegal_records (d : Device) {e : Nat} (he : e < 168) (c : Nat) :
    (d.illegal e c).bitAt (Reg.err e) 0 = true ∧ (d.illegal e c).reg (Reg.errInfo e) = word c ∧
    (d.cmpAlive = true → ((d.illegal e c).pairAt (cmdSrc e)).level = 1) := by
  have hbase := engBase_le e
  have hsrc := cmdSrc_lt he
  obtain ⟨honly, hbit, hinfo⟩ := errNoted_spec (d.modEng e Eng.illegal) e c
  have halive := cmpAlive_of_onlyRegs honly
  rw [illegal_eq]
  generalize (d.modEng e Eng.illegal).errNoted e c = u at hbit hinfo halive ⊢
  refine ⟨?_, ?_, fun hal => Device.level_pairRaise (halive.trans hal) _⟩
  · exact (Device.bitAt_congr (u.reg_pairRaise_eng (by omega) (by simp only [Reg.err]; omega)) 0).trans hbit
  · exact (u.reg_pairRaise_eng (by omega) (by simp only [Reg.errInfo]; omega)).trans hinfo

/-- An illegal command leaves the other engines and memory alone (R115). -/
theorem illegal_frame (d : Device) (e c : Nat) : OtherEngines d (d.illegal e c) e ∧
    (d.illegal e c).sansMem = { d with eng := (d.illegal e c).eng }.sansMem ∧ (d.illegal e c).mem = d.mem := by
  have hstep := pairStep_illegal d e c
  refine ⟨fun x hx => (engAt_illegal d e c x).trans (OtherEngines.setEng d e _ x hx), ?_, ?_⟩
  · rw [hstep.read (·.eng) (fun _ => rfl) fun _ _ => rfl]
    exact hstep.read Device.sansMem (fun _ => rfl) fun _ _ => rfl
  · exact hstep.read (·.mem) (fun _ => rfl) fun _ _ => rfl

/-- A head whose conditions are not all met is illegal, with its lowest cause (R115). -/
theorem start_illegal {d : Device} {e op : Nat} {h : FCmd} {causes : Device → CmdWord → List Nat}
    {body : Device → FCmd → CmdWord → Device} (hh : d.headOp e op = some h)
    (hc : hdrCauses h.word ++ causes d (stepWord h.word (d.engAt e).loops) ≠ []) :
    d.start e op causes body = d.illegal e (lowest (hdrCauses h.word ++ causes d (stepWord h.word (d.engAt e).loops))) := by
  unfold Device.start
  rw [hh]
  simp only

/-- The command at the head is the oldest of the queue. -/
theorem queue_of_headOp {d : Device} {e op : Nat} {h : FCmd} (hh : d.headOp e op = some h) :
    ∃ l, (d.engAt e).queue = h :: l := by
  unfold Device.headOp at hh
  split at hh
  · exact absurd hh (by simp)
  · split at hh
    next c l hq =>
      split at hh
      · exact absurd hh (by simp)
      · exact ⟨l, by rw [hq, Option.some.inj hh]⟩
    next => exact absurd hh (by simp)

/-- Settles O8: each of the five commands starts at the head of its queue, where its causes make it illegal. -/
theorem illegalCommandHaltsEngine : Obligations.IllegalCommandHaltsEngine := by
  unfold Obligations.IllegalCommandHaltsEngine
  intro s e h x hx he hh hc
  have key : ∀ (i : Instr) (f : Device → Device), exec i s = act (decide (e < 168)) f s →
      f s.dev = s.dev.illegal e (lowest (hdrCauses h.word ++ x.2.2 s.dev (stepWord h.word (s.dev.engAt e).loops))) →
      Completes i s fun d =>
        (d.engAt e).phase = .halted ∧ (d.engAt e).queue = (s.dev.engAt e).queue ∧ OtherEngines s.dev d e ∧
        d.bitAt (Reg.err e) 0 = true ∧
        d.reg (Reg.errInfo e) = word (lowest (hdrCauses h.word ++ x.2.2 s.dev (stepWord h.word (s.dev.engAt e).loops))) ∧
        (s.dev.cmpAlive = true → (d.pairAt (cmdSrc e)).level = 1) ∧
        d.sansMem = { s.dev with eng := d.eng }.sansMem ∧ d.mem = s.dev.mem := by
    intro i f hi hf
    refine .of_act hi (decide_eq_true he) ?_
    rw [hf]
    obtain ⟨hbit, hinfo, hpair⟩ := illegal_records s.dev he
      (lowest (hdrCauses h.word ++ x.2.2 s.dev (stepWord h.word (s.dev.engAt e).loops)))
    obtain ⟨hother, hrest, hmem⟩ := illegal_frame s.dev e
      (lowest (hdrCauses h.word ++ x.2.2 s.dev (stepWord h.word (s.dev.engAt e).loops)))
    refine ⟨?_, ?_, hother, hbit, hinfo, hpair, hrest, hmem⟩
    all_goals
      rw [engAt_illegal, Device.engAt_modEng_same]
      rfl
  simp only [List.mem_cons, List.not_mem_nil, or_false] at hx
  rcases hx with rfl | rfl | rfl | rfl | rfl
  · exact key _ _ (exec_nop e s) (start_illegal hh hc)
  · exact key _ _ (exec_wait e s) (start_illegal hh hc)
  · exact key _ _ (exec_signal e s) (start_illegal hh hc)
  · exact key _ _ (exec_mark e s) (start_illegal hh hc)
  · refine key _ _ (exec_loop e s) ?_
    obtain ⟨l, hq⟩ := queue_of_headOp hh
    rw [Device.runLoop, hq]
    exact start_illegal hh hc

end Sys2Proof.Machine
end

section
/-! COMMAND_FETCH (R107, R108, R160). -/

namespace Sys2Proof.Machine

theorem exec_commandFetch (e : Nat) (s : State) : exec (.commandFetch e) s = execCommandFetch e s := rfl

/-! ## Steps of engines and memory -/

/-- From `a` to `b` only engines, registers, memories and fault pairs change. -/
def RunStep (a b : Device) : Prop := b.sansMem = { a with eng := b.eng }.sansMem

/-- Devices that agree but for engines, registers, memories and fault pairs agree when both get the same engines. -/
theorem sansMem_with_eng {a b : Device} (h : RunStep a b) (l : Tab Eng) :
    ({ b with eng := l } : Device).sansMem = ({ a with eng := l } : Device).sansMem :=
  congrArg (fun z : Device => { z with eng := l.map fun g : Nat × Eng => (g.1, g.2.keepHeld fun _ => false) }) h

theorem RunStep.trans {a b c : Device} (h : RunStep a b) (g : RunStep b c) : RunStep a c :=
  Eq.trans g (sansMem_with_eng h c.eng)

theorem RunStep.of_sansMem {a b : Device} (h : b.sansMem = a.sansMem) : RunStep a b := by
  have hput := congrArg (fun z : Device => { z with eng := b.eng.map fun g : Nat × Eng => (g.1, g.2.keepHeld fun _ => false) }) h
  exact hput

theorem RunStep.of_sansRegs {a b : Device} (h : b.sansRegs = { a with eng := b.eng }.sansRegs) : RunStep a b := by
  have hput := congrArg (fun z : Device => { z with
    mem := MemSys.reset, flt := { z.flt with pair := [] }
    eng := z.eng.map fun g : Nat × Eng => (g.1, g.2.keepHeld fun _ => false) }) h
  exact hput

theorem OtherEnginesRun.trans {a b c : Device} {e : Nat} (h : OtherEnginesRun a b e) (g : OtherEnginesRun b c e) :
    OtherEnginesRun a c e := fun x hx => (g x hx).trans (h x hx)

theorem OtherEngines.run {a b : Device} {e : Nat} (h : OtherEngines a b e) : OtherEnginesRun a b e :=
  fun x hx => by rw [h x hx]

/-! ## The head is judged -/

/-- Judging the head leaves the device, or makes the head illegal (R115). -/
theorem settle_cases (d : Device) (e : Nat) : d.settle e = d ∨ ∃ c, d.settle e = d.illegal e c := by
  unfold Device.settle
  split
  · exact .inl rfl
  · split
    · exact .inl rfl
    · split
      · exact .inr ⟨_, rfl⟩
      · split
        · exact .inr ⟨_, rfl⟩
        · exact .inl rfl

/-- What judging the head of engine `e` leaves: everything but registers and pairs, unless it halts the engine. -/
theorem settle_spec (d : Device) (e : Nat) : OtherEngines d (d.settle e) e ∧ RunStep d (d.settle e) ∧ (d.settle e).mem = d.mem ∧
    ((d.settle e).engAt e).queue = (d.engAt e).queue ∧
    (((d.settle e).engAt e).phase ≠ .halted → (d.settle e).engAt e = d.engAt e) := by
  rcases settle_cases d e with h | ⟨c, h⟩
  · rw [h]
    exact ⟨.refl d e, rfl, rfl, rfl, fun _ => rfl⟩
  · rw [h, engAt_illegal, Device.engAt_modEng_same]
    obtain ⟨hother, hrest, hmem⟩ := illegal_frame d e c
    exact ⟨hother, hrest, hmem, rfl, fun hp => absurd rfl hp⟩

/-! ## Fetching -/

/-- Without PRF_TAG_CFG.EN no command is tagged (R372). -/
theorem tagCount_off {d : Device} (h : d.bitAt Reg.prfTagCfg 31 = false) (e : Nat) (g : Eng) : d.tagCount e g = (false, g) := by
  unfold Device.tagCount
  rw [if_pos]
  exact .inl (by rw [show bit (d.reg Reg.prfTagCfg) 31 = false from h]; rfl)

/-- An engine with one more command in its queue goes on behind it, and stops behind an END (R107). -/
def Eng.fetched (g : Eng) (x : FCmd) : Eng :=
  { g with queue := g.queue ++ [x], fetch := if opcode x.word = 1 ∧ x.poisoned = false then none else some (x.addr + 64) }

theorem enqueue_untagged {d : Device} (h : d.bitAt Reg.prfTagCfg 31 = false) (e a : Nat) (w : CmdWord) (bad : Bool) :
    d.enqueue e a w bad = (d.setEng e (d.engAt e)).modEng e fun g => g.fetched ⟨a, w, bad, none⟩ := by
  unfold Device.enqueue
  rw [tagCount_off h]
  simp [Eng.fetched]

theorem fetchCmd_eq {d : Device} {e a : Nat} (hm : d.mayFetch e = true) (hf : (d.engAt e).fetch = some a) :
    d.fetchCmd e = ((d.readMem (d.phys a) 64).dev.enqueue e a (BitVec.ofNat 512 (leNat (d.readMem (d.phys a) 64).bytes))
      (d.readMem (d.phys a) 64).poison).settle e := by
  unfold Device.fetchCmd
  rw [hm, hf]

/-- Settles O9: the read leaves the engines but for page decodes, the command joins the queue, and the head is judged. -/
theorem commandFetchQueuesCommand : Obligations.CommandFetchQueuesCommand := by
  unfold Obligations.CommandFetchQueuesCommand
  intro s e a he hm hf htag
  refine .of_act (exec_commandFetch e s) (decide_eq_true he) ?_
  rw [fetchCmd_eq hm hf]
  have hread : Fetched s.dev (s.dev.readMem (s.dev.phys a) 64).dev := memClosed_fetched.readAs s.dev .any _ 64
  generalize s.dev.readMem (s.dev.phys a) 64 = r at hread ⊢
  have htag' : r.dev.bitAt Reg.prfTagCfg 31 = false :=
    (Device.bitAt_congr (hread.2 Reg.prfTagCfg (.inr (by decide)) (by decide)) 31).trans htag
  rw [enqueue_untagged htag']
  generalize hx : (⟨a, BitVec.ofNat 512 (leNat r.bytes), r.poison, none⟩ : FCmd) = x
  generalize hu : (r.dev.setEng e (r.dev.engAt e)).modEng e (fun g => g.fetched x) = u
  have heng : u.engAt e = (r.dev.engAt e).fetched x := by
    rw [← hu, Device.engAt_modEng_same, Device.engAt_setEng_same]
  have hother : OtherEngines r.dev u e := by
    rw [← hu]
    exact (OtherEngines.setEng _ _ _).trans (.setEng _ _ _)
  have hrun : RunStep r.dev u := by
    rw [← hu]
    rfl
  have hmem : u.mem = r.dev.mem := by
    rw [← hu]
    rfl
  obtain ⟨sother, srun, smem, squeue, sfetch⟩ := settle_spec u e
  refine ⟨x, ?_, by rw [← hx], by rw [← hx], by rw [← hx], (hread.otherEnginesRun e).trans (hother.trans sother).run, fun hp => ?_,
    ((RunStep.of_sansMem hread.1).trans hrun).trans srun, smem.trans hmem⟩
  · rw [squeue, heng, ← hread.queue e]
    rfl
  · rw [sfetch hp, heng, ← hx]
    rfl

end Sys2Proof.Machine
end

section
/-! TOKEN_SIGNAL_ARRIVAL (R116, R117, R21). -/

namespace Sys2Proof.Machine

theorem exec_tokenSignalArrival (c : Ctr) (s : State) : exec (.tokenSignalArrival c) s = execTokenSignalArrival c s := rfl

/-! ## Registers of counters -/

theorem ctrReg_not_irq_of_ok {c : Ctr} (h : okCtr c = true) : ctrReg c ∉ irqRegs :=
  ctrReg_not_irq c fun i hi => by
    subst hi
    simp only [okCtr, decide_eq_true_eq] at h
    omega

/-- The index of a counter in its scope. -/
def ctrIdx : Ctr → Nat
  | .prm _ i => i
  | .fct _ i => i
  | .dev i => i

theorem ctrIdx_lt_of_ok {c : Ctr} (h : okCtr c = true) : ctrIdx c < 64 := by
  cases c with
  | prm q i => exact of_decide_eq_true (Bool.and_eq_true_iff.mp h).2
  | fct f i => exact Nat.lt_trans (of_decide_eq_true (Bool.and_eq_true_iff.mp h).2) (by decide : 32 < 64)
  | dev i => exact Nat.lt_trans (of_decide_eq_true h) (by decide : 16 < 64)

/-- Counters are apart from every ERR register (R357). -/
theorem ctrReg_ne_err {c : Ctr} (h : ctrIdx c < 64) (e : Nat) : ctrReg c ≠ Reg.err e := by
  cases c with
  | prm q i =>
    simp only [ctrIdx] at h
    simp only [ctrReg, Reg.prmTok, Reg.err, engBase]
    omega
  | fct f i =>
    simp only [ctrIdx] at h
    simp only [ctrReg, Reg.fctTok, Reg.err, engBase]
    omega
  | dev i =>
    simp only [ctrIdx] at h
    simp only [ctrReg, Reg.tckTok, Reg.err, engBase]
    omega

/-- The registers of the fault pairs lie between the device counters and the engines. -/
theorem ctrReg_ne_pair {c : Ctr} (h : okCtr c = true) {q : Nat} (hq : q < 0x1000) : ctrReg c ≠ Reg.fltCdPair (q / 32) := by
  cases c with
  | prm _ _ | fct _ _ =>
    simp only [ctrReg, Reg.prmTok, Reg.fctTok, Reg.fltCdPair]
    omega
  | dev i =>
    simp only [okCtr, decide_eq_true_eq] at h
    simp only [ctrReg, Reg.tckTok, Reg.fltCdPair]
    omega

theorem ctr_congr {d d' : Device} {c : Ctr} (h : d'.reg (ctrReg c) = d.reg (ctrReg c)) : d'.ctr c = d.ctr c :=
  Device.fld_congr h 15 0

theorem OnlyRegs.ctr {d d' : Device} (h : OnlyRegs d d' []) {c : Ctr} (hc : okCtr c = true) : d'.ctr c = d.ctr c :=
  ctr_congr (h.2 _ List.not_mem_nil (ctrReg_not_irq_of_ok hc))

/-! ## The stages of an arrival -/

/-- The SIGNALs that reach counter `c` next are no longer on their way. -/
def Device.sigsTaken (d : Device) (c : Ctr) : Device :=
  { d with sigs := d.sigs.filter fun g => !((d.sigsDue c).contains g) }

/-- The SIGNALs that reach a Prism's counter are counted as an event (Table 15.2). -/
def Device.tokenEvent (d : Device) (c : Ctr) (n : Nat) : Device :=
  match c with
  | .prm q _ => d.perf (168 + q) 0x82 n
  | _ => d

theorem tokenArrival_held {d : Device} {c : Ctr} (h : d.ctrHeld c = true) : d.tokenArrival c = d := by
  rw [Device.tokenArrival, if_pos h]

theorem tokenArrival_eq {d : Device} {c : Ctr} (h : d.ctrHeld c = false) : d.tokenArrival c =
    (((d.sigsTaken c).addTokens c (d.sigsDue c)).tokenEvent c (d.sigsDue c).length).releaseAll c := by
  rw [Device.tokenArrival, if_neg (by rw [h]; decide)]
  rfl

theorem onlyRegs_tokenEvent (d : Device) (c : Ctr) (n : Nat) : OnlyRegs d (d.tokenEvent c n) [] := by
  unfold Device.tokenEvent
  split
  · exact onlyRegs_perf d _ _ _
  · exact .refl d _

theorem onlyRegs_setCtr (d : Device) (c : Ctr) (v : Nat) : OnlyRegs d (d.setCtr c v) [ctrReg c] := onlyRegs_setReg d _ _

/-- Amounts that do not saturate the counter are added (R117). -/
theorem addTokens_fits {d : Device} {c : Ctr} {l : List SigMsg} (h : d.ctr c + sumBy SigMsg.amount l ≤ 0xFFFF) :
    d.addTokens c l = d.setCtr c (d.ctr c + sumBy SigMsg.amount l) :=
  if_neg (Nat.not_lt.mpr h)

/-- Amounts beyond 0xFFFF saturate it, and their senders set TOKEN_OVF (R117). -/
theorem addTokens_over {d : Device} {c : Ctr} {l : List SigMsg} (h : 0xFFFF < d.ctr c + sumBy SigMsg.amount l) :
    d.addTokens c l = (d.setCtr c 0xFFFF).tokenOvf l :=
  if_pos h

/-! ## Saturation (R117) -/

/-- A sender of SIGNALs that saturate a counter sets TOKEN_OVF. -/
def Device.senderOvf (d : Device) (g : SigMsg) : Device :=
  if g.eng < 168 then (d.raise (Reg.err g.eng) (tokenOvfBit g.eng)).pairRaise (Src.tokenOvf (g.eng / 7)) else d

theorem tokenOvf_eq (d : Device) (l : List SigMsg) : d.tokenOvf l = l.foldl Device.senderOvf d := rfl

theorem tokenOvfBit_lt (e : Nat) : tokenOvfBit e < 32 := by
  unfold tokenOvfBit
  split <;> omega

theorem pairStep_senderOvf (d : Device) (g : SigMsg) : PairStep d (d.senderOvf g) := by
  unfold Device.senderOvf
  exact .of_ite ((PairStep.of_onlyRegs (onlyRegs_raise d _ _)).trans (pairStep_pairRaise _ _)) rfl

theorem pairStep_tokenOvf (d : Device) (l : List SigMsg) : PairStep d (d.tokenOvf l) := by
  rw [tokenOvf_eq]
  induction l generalizing d with
  | nil => rfl
  | cons g l ih => exact (pairStep_senderOvf d g).trans (ih _)

theorem ctr_senderOvf (d : Device) (g : SigMsg) {c : Ctr} (hc : okCtr c = true) : (d.senderOvf g).ctr c = d.ctr c := by
  refine ctr_congr ?_
  unfold Device.senderOvf
  split
  · rw [Device.reg_pairRaise_ne _ (ctrReg_ne_pair hc (by simp only [Src.tokenOvf]; omega))]
    exact (onlyRegs_raise d _ _).2 _ (by simpa using ctrReg_ne_err (ctrIdx_lt_of_ok hc) g.eng) (ctrReg_not_irq_of_ok hc)
  · rfl

theorem ctr_tokenOvf (d : Device) (l : List SigMsg) {c : Ctr} (hc : okCtr c = true) : (d.tokenOvf l).ctr c = d.ctr c := by
  rw [tokenOvf_eq]
  induction l generalizing d with
  | nil => rfl
  | cons g l ih => exact (ih _).trans (ctr_senderOvf d g hc)

/-- TOKEN_OVF of engine `e` is set, and its pair stands at 10 where the compute die is alive. -/
def Device.ovfShown (d : Device) (e : Nat) : Prop :=
  d.bitAt (Reg.err e) (tokenOvfBit e) = true ∧ (d.cmpAlive = true → (d.pairAt (Src.tokenOvf (e / 7))).level = 1)

theorem level_pairRaise_of_level {d : Device} {s : Nat} (h : (d.pairAt s).level = 1) (x : Nat) :
    ((d.pairRaise x).pairAt s).level = 1 := by
  cases hal : d.cmpAlive with
  | false => rwa [Device.pairRaise, hal]
  | true =>
    by_cases hx : s = x
    · rw [hx]
      exact Device.level_pairRaise hal x
    · rw [Device.pairRaise_alive hal, ← h]
      exact congrArg (·.level) (tabGet_tabSet_ne Pair.reset d.flt.pair _ hx)

theorem pairAt_of_onlyRegs {d d' : Device} {l : List Nat} (h : OnlyRegs d d' l) (s : Nat) : d'.pairAt s = d.pairAt s :=
  congrArg (a₁ := d'.sansRegs) (a₂ := d.sansRegs) (·.pairAt s) h.1

/-- A sender shows what it has caused. -/
theorem ovfShown_self (d : Device) {g : SigMsg} (hg : g.eng < 168) : (d.senderOvf g).ovfShown g.eng := by
  have hbase := engBase_le g.eng
  have hraise := onlyRegs_raise d (Reg.err g.eng) (tokenOvfBit g.eng)
  have hbit := bitAt_raise_same d (Reg.err g.eng) _ (tokenOvfBit_lt g.eng) (by simp only [Reg.err]; omega)
    (by simp only [Reg.err]; omega)
  have halive := (pairStep_senderOvf d g).cmpAlive
  unfold Device.senderOvf at halive ⊢
  rw [if_pos hg] at halive ⊢
  refine ⟨?_, fun hal => Device.level_pairRaise ((cmpAlive_of_onlyRegs hraise).trans (halive.symm.trans hal)) _⟩
  exact (Device.bitAt_congr (Device.reg_pairRaise_eng _ (by simp only [Src.tokenOvf]; omega)
    (by simp only [Reg.err]; omega)) _).trans hbit

/-- What is shown stays when another sender shows its own. -/
theorem ovfShown_senderOvf {d : Device} {e : Nat} (h : d.ovfShown e) (g : SigMsg) : (d.senderOvf g).ovfShown e := by
  have hbase := engBase_le e
  obtain ⟨hbit, hlevel⟩ := h
  have halive := (pairStep_senderOvf d g).cmpAlive
  by_cases hg : g.eng < 168
  · have hraise := onlyRegs_raise d (Reg.err g.eng) (tokenOvfBit g.eng)
    have hkeep : (d.raise (Reg.err g.eng) (tokenOvfBit g.eng)).bitAt (Reg.err e) (tokenOvfBit e) = true := by
      by_cases he : Reg.err e = Reg.err g.eng
      · rw [← he]
        exact bitAt_raise_of_bitAt _ (tokenOvfBit_lt _) (by simp only [Reg.err]; omega) (by simp only [Reg.err]; omega) hbit
      · rw [Device.bitAt_congr (reg_raise_ne d _ he (by simp only [Reg.err]; omega) (by simp only [Reg.err]; omega))]
        exact hbit
    have hpair := pairAt_of_onlyRegs hraise (Src.tokenOvf (e / 7))
    unfold Device.senderOvf at halive ⊢
    rw [if_pos hg] at halive ⊢
    refine ⟨(Device.bitAt_congr (Device.reg_pairRaise_eng _ (by simp only [Src.tokenOvf]; omega)
      (by simp only [Reg.err]; omega)) _).trans hkeep, fun hal => level_pairRaise_of_level ?_ _⟩
    rw [hpair]
    exact hlevel (halive.symm.trans hal)
  · rw [Device.senderOvf, if_neg hg]
    exact ⟨hbit, hlevel⟩

/-- Every sender shows TOKEN_OVF (R117). -/
theorem ovfShown_tokenOvf {e : Nat} (he : e < 168) {l : List SigMsg} (hl : e ∈ l.map SigMsg.eng) (d : Device) :
    (d.tokenOvf l).ovfShown e := by
  have hkeep : ∀ (l : List SigMsg) (d : Device), d.ovfShown e → (l.foldl Device.senderOvf d).ovfShown e := fun l d h =>
    foldl_counted (P := fun _ u => Device.ovfShown u e) (fun _ _ g hu => ovfShown_senderOvf hu g) l (n := 0) h
  rw [tokenOvf_eq]
  induction l generalizing d with
  | nil => exact absurd hl List.not_mem_nil
  | cons g l ih =>
    rcases List.mem_cons.mp hl with rfl | hl
    · exact hkeep l _ (ovfShown_self d he)
    · exact ih hl _

theorem ovfShown_of_onlyRegs {d d' : Device} (h : OnlyRegs d d' []) {e : Nat} (hs : d.ovfShown e) : d'.ovfShown e := by
  have hbase := engBase_le e
  obtain ⟨hbit, hlevel⟩ := hs
  refine ⟨?_, fun hal => ?_⟩
  · refine (Device.bitAt_congr (h.2 _ List.not_mem_nil ?_) _).trans hbit
    simp only [irqRegs, Reg.prfStatus, Reg.err, List.mem_cons, List.not_mem_nil, or_false]
    omega
  · rw [pairAt_of_onlyRegs h]
    exact hlevel ((cmpAlive_of_onlyRegs h).symm.trans hal)

/-! ## Engines that wait -/

/-- The test of engine `e` when counter `c` has changed. -/
def Device.retryOn (c : Ctr) (d : Device) (e : Nat) : Device :=
  if (d.engAt e).blocked.any (fun b => decide (b.1 = c)) then d.retry e else d

theorem releaseAll_eq (d : Device) (c : Ctr) : d.releaseAll c = (List.range 168).foldl (Device.retryOn c) d := rfl

theorem retryOn_other {d : Device} {c : Ctr} {e : Nat} (h : ∀ n, (d.engAt e).blocked ≠ some (c, n)) : d.retryOn c e = d := by
  unfold Device.retryOn
  refine if_neg fun hany => ?_
  cases hb : (d.engAt e).blocked with
  | none => simp [hb] at hany
  | some b =>
    have hc : b.1 = c := by simpa [hb] using hany
    exact h b.2 (by rw [hb, ← hc])

/-- Engines that do not wait for counter `c` stay as they are. -/
theorem foldl_retryOn_other {d : Device} {c : Ctr} {l : List Nat} (h : ∀ e ∈ l, ∀ n, (d.engAt e).blocked ≠ some (c, n)) :
    l.foldl (Device.retryOn c) d = d := by
  induction l with
  | nil => rfl
  | cons e l ih =>
    rw [List.foldl_cons, retryOn_other (h e List.mem_cons_self)]
    exact ih fun x hx => h x (List.mem_cons_of_mem e hx)

theorem releaseAll_none {d : Device} {c : Ctr} (h : ∀ e, e < 168 → ∀ n, (d.engAt e).blocked ≠ some (c, n)) : d.releaseAll c = d :=
  foldl_retryOn_other fun e he => h e (List.mem_range.mp he)

/-- An engine whose wait has ended. -/
def Eng.woken (g : Eng) : Eng := { g with blocked := none, phase := .executing, waitDone := true }

/-- The wait of an engine without a matrix command, whose head is no WAIT, ends (R117). -/
theorem release_eq {d : Device} {e : Nat} {h : FCmd} (hp : (d.meAt e).pipe = []) (hq : (d.engAt e).queue = [h])
    (hop : opcode h.word ≠ 2) : d.release e = d.modEng e Eng.woken := by
  have hpipe : ((d.modEng e Eng.woken).meAt e).pipe = [] := hp
  have hqueue : ((d.modEng e Eng.woken).engAt e).queue = [h] := by
    rw [Device.engAt_modEng_same]
    exact hq
  show (if ((d.modEng e Eng.woken).meAt e).pipe.any fun x => x.v.isNone then _ else
    match ((d.modEng e Eng.woken).engAt e).queue with
    | h :: _ => if opcode h.word = 2 then (d.modEng e Eng.woken).runWait e else d.modEng e Eng.woken
    | [] => d.modEng e Eng.woken) = _
  rw [hpipe, hqueue]
  simp [hop]

/-- The one engine that waits for counter `c` is released where the counter holds what it waits for (R117). -/
theorem releaseAll_one {d : Device} {c : Ctr} {e n : Nat} {h : FCmd} (he : e < 168) (hb : (d.engAt e).blocked = some (c, n))
    (hother : ∀ x, x < 168 → x ≠ e → ∀ n, (d.engAt x).blocked ≠ some (c, n)) (hn : n ≤ d.ctr c)
    (hheld : d.ctrHeld (.prm (e / 7) 0) = false) (hp : (d.meAt e).pipe = []) (hq : (d.engAt e).queue = [h])
    (hop : opcode h.word ≠ 2) : d.releaseAll c = (d.setCtr c (d.ctr c - n)).modEng e Eng.woken := by
  obtain ⟨l1, l2, hl⟩ := List.append_of_mem (List.mem_range.mpr he)
  have hnodup : (l1 ++ e :: l2).Nodup := hl ▸ List.nodup_range
  obtain ⟨-, hnodup2, hdisj⟩ := List.nodup_append.mp hnodup
  have hlt : ∀ x ∈ l1 ++ e :: l2, x < 168 := fun x hx => List.mem_range.mp (hl ▸ hx)
  have h1 : ∀ x ∈ l1, ∀ n, (d.engAt x).blocked ≠ some (c, n) := fun x hx =>
    hother x (hlt x (List.mem_append_left _ hx)) (hdisj x hx e List.mem_cons_self)
  have hself : d.retryOn c e = (d.setCtr c (d.ctr c - n)).modEng e Eng.woken := by
    rw [Device.retryOn, hb, if_pos (by simp), Device.retry, hb]
    simp only [hn, hheld, Bool.not_false, and_self, if_true]
    exact release_eq hp hq hop
  rw [releaseAll_eq, hl, List.foldl_append, foldl_retryOn_other h1, List.foldl_cons, hself]
  refine foldl_retryOn_other fun x hx => ?_
  have hne : x ≠ e := fun hxe => (List.nodup_cons.mp hnodup2).1 (hxe ▸ hx)
  rw [show ((d.setCtr c (d.ctr c - n)).modEng e Eng.woken).engAt x = d.engAt x from OtherEngines.setEng _ e _ x hne]
  exact hother x (hlt x (List.mem_append_right _ (List.mem_cons_of_mem e hx))) hne

/-! ## The obligation -/

/-- Before any engine is released, what the SIGNALs add has been added, and the event counted. -/
theorem arrival_fits {d : Device} {c : Ctr} (hc : okCtr c = true) (hv : d.ctr c + sumBy SigMsg.amount (d.sigsDue c) ≤ 0xFFFF) :
    let u := ((d.sigsTaken c).addTokens c (d.sigsDue c)).tokenEvent c (d.sigsDue c).length
    OnlyRegs (d.sigsTaken c) u [ctrReg c] ∧ u.ctr c = d.ctr c + sumBy SigMsg.amount (d.sigsDue c) := by
  have hev := onlyRegs_tokenEvent ((d.sigsTaken c).addTokens c (d.sigsDue c)) c (d.sigsDue c).length
  have hadd : (d.sigsTaken c).addTokens c (d.sigsDue c) =
      (d.sigsTaken c).setCtr c (d.ctr c + sumBy SigMsg.amount (d.sigsDue c)) := addTokens_fits hv
  refine ⟨OnlyRegs.trans ?_ (hev.mono (by simp)), (hev.ctr hc).trans ?_⟩
  · rw [hadd]
    exact onlyRegs_setCtr _ _ _
  · rw [hadd]
    exact Device.ctr_setCtr _ _ _ (by omega)

/-- Settles O10: the amounts are added or saturate the counter, and the engine that waits for it alone is released. -/
theorem signalArrivalCounts : Obligations.SignalArrivalCounts := by
  unfold Obligations.SignalArrivalCounts
  refine ⟨fun s c hheld => ?_, fun s c hc hheld hno hv => ?_, fun s c e hc hheld hno hv he hl => ?_,
    fun s c e n h hc hheld hprm he hb hother hv hn hp hq hop => ?_⟩
  · exact .of_act (exec_tokenSignalArrival c s) rfl (tokenArrival_held hheld)
  · refine .of_act (exec_tokenSignalArrival c s) rfl ?_
    obtain ⟨honly, hctr⟩ := arrival_fits hc hv
    rw [tokenArrival_eq hheld, releaseAll_none fun x hx n => by rw [honly.engAt]; exact hno x hx n]
    have hsigs := congrArg (·.sigs) honly.1
    refine ⟨hctr, hsigs, fun k hk hi => honly.2 k hk hi, ?_⟩
    rw [honly.1]
    exact congrArg (fun l => Device.sansRegs { s.dev with sigs := l }) hsigs.symm
  · refine .of_act (exec_tokenSignalArrival c s) rfl ?_
    have hadd : (s.dev.sigsTaken c).addTokens c (s.dev.sigsDue c) =
        ((s.dev.sigsTaken c).setCtr c 0xFFFF).tokenOvf (s.dev.sigsDue c) := addTokens_over hv
    rw [tokenArrival_eq hheld, hadd]
    have hpair := pairStep_tokenOvf ((s.dev.sigsTaken c).setCtr c 0xFFFF) (s.dev.sigsDue c)
    have hctr := (ctr_tokenOvf ((s.dev.sigsTaken c).setCtr c 0xFFFF) (s.dev.sigsDue c) hc).trans
      (Device.ctr_setCtr _ _ _ (by decide))
    have hshown := ovfShown_tokenOvf he hl ((s.dev.sigsTaken c).setCtr c 0xFFFF)
    generalize ((s.dev.sigsTaken c).setCtr c 0xFFFF).tokenOvf (s.dev.sigsDue c) = u at hpair hctr hshown ⊢
    have hev := onlyRegs_tokenEvent u c (s.dev.sigsDue c).length
    have heng : ∀ x, (u.tokenEvent c (s.dev.sigsDue c).length).engAt x = s.dev.engAt x := fun x =>
      (hev.engAt x).trans (hpair.read (·.engAt x) (fun _ => rfl) fun _ _ => rfl)
    rw [releaseAll_none fun x hx n => by rw [heng]; exact hno x hx n]
    obtain ⟨hbit, hlevel⟩ := ovfShown_of_onlyRegs hev hshown
    refine ⟨(hev.ctr hc).trans hctr, hbit, fun hal => hlevel ?_, ?_⟩
    · exact ((cmpAlive_of_onlyRegs hev).trans hpair.cmpAlive).trans hal
    · exact (congrArg (·.mem) hev.1).trans (hpair.read (·.mem) (fun _ => rfl) fun _ _ => rfl)
  · refine .of_act (exec_tokenSignalArrival c s) rfl ?_
    obtain ⟨honly, hctr⟩ := arrival_fits hc hv
    rw [tokenArrival_eq hheld]
    generalize ((s.dev.sigsTaken c).addTokens c (s.dev.sigsDue c)).tokenEvent c (s.dev.sigsDue c).length = u at honly hctr ⊢
    have heng : ∀ x, u.engAt x = s.dev.engAt x := honly.engAt
    have hme : u.meAt e = s.dev.meAt e := congrArg (a₁ := u.sansRegs) (a₂ := (s.dev.sigsTaken c).sansRegs) (·.meAt e) honly.1
    have hheld' : u.ctrHeld (.prm (e / 7) 0) = s.dev.ctrHeld (.prm (e / 7) 0) :=
      congrArg (a₁ := u.sansRegs) (a₂ := (s.dev.sigsTaken c).sansRegs) (·.ctrHeld (.prm (e / 7) 0)) honly.1
    rw [releaseAll_one (n := n) (h := h) he (by rw [heng]; exact hb) (fun x hx hne n => by rw [heng]; exact hother x hx hne n)
      (by rw [hctr]; exact hn) (hheld'.trans hprm) (by rw [hme]; exact hp) (by rw [heng]; exact hq) hop, hctr]
    refine ⟨?_, ?_, fun x hx => ?_, fun k hk hi => ?_⟩
    · exact Device.ctr_setCtr u c _ (by omega)
    · rw [Device.engAt_modEng_same, show (u.setCtr c (s.dev.ctr c + sumBy SigMsg.amount (s.dev.sigsDue c) - n)).engAt e =
        s.dev.engAt e from heng e]
      rfl
    · exact (OtherEngines.setEng (u.setCtr c _) e _ x hx).trans (heng x)
    · exact (Device.reg_setReg_ne u _ (by simpa using hk)).trans (honly.2 k hk hi)

end Sys2Proof.Machine
end

section
/-! Completion of the only command of an engine (R111, R112). -/

namespace Sys2Proof.Machine

/-- The act that `finish` completes is the first unfinished one selected. -/
theorem finish_none {d : Device} {e : Nat} {p : Act → Bool} (h : ∀ a ∈ (d.engAt e).acts, a.done = false → p a = false) :
    d.finish e p = d := by
  have hno : (d.engAt e).acts.findIdx? (fun a => !a.done && p a) = none := by
    rw [List.findIdx?_eq_none_iff]
    intro a ha
    cases hd : a.done with
    | true => rfl
    | false => exact h a ha hd
  unfold Device.finish
  rw [hno]

/-- The only command of an engine completes: it retires, and its header SIGNAL is sent (R111). -/
theorem finish_lone {d : Device} {e : Nat} {a : Act} {p : Act → Bool} (ha : (d.engAt e).acts = [a]) (hd : a.done = false)
    (hp : p a = true) (ht : a.tag = none) (hop : opcode a.word ≠ 3 ∧ opcode a.word ≠ 4) (hab : d.tck.abandoning = false) :
    ∃ u, d.finish e p = { u with sigs := d.signalled e a.word } ∧ EngineStep d u e ∧
      u.engAt e = { d.engAt e with acts := [] } ∧ SameRegs d u [] := by
  let done : Act := { a with done := true }
  let d0 := d.modEng e fun g => { g with acts := g.acts.modify 0 fun a => { a with done := true } }
  have h0 : d0.engAt e = { d.engAt e with acts := [done] } := by
    rw [Device.engAt_modEng_same, ha]
    rfl
  have hcnt := onlyRegs_cmdDone d0 e none a.word
  have hacts : ((d0.cmdDone e none a.word).engAt e).acts = [done] := by rw [hcnt.engAt, h0]
  let u := (d0.cmdDone e none a.word).modEng e fun g => { g with acts := [] }
  have hstep : EngineStep d u e := by
    refine ⟨?_, ((OtherEngines.setEng d e _).trans (.of_sansRegs hcnt.1 e)).trans (.setEng _ e _)⟩
    exact congrArg (fun x : Device => { x with eng := u.eng }) hcnt.1
  have hfin : d.finish e p = (d0.cmdDone e none a.word).retire e := by
    unfold Device.finish
    simp only [ha, List.findIdx?_cons, hd, hp, Bool.not_false, Bool.and_self, if_true, List.getElem?_cons_zero, ht]
    rfl
  have hret : u.retireAct e done = u.signalOf e a.word := by
    unfold Device.retireAct
    simp only [done, hop.1, hop.2, or_self, if_false, ht, stampWith_none, ite_self]
  refine ⟨u, ?_, hstep, ?_, hcnt.2⟩
  · rw [hfin, retire_one hacts rfl, hret,
      signalOf_local (by rw [hstep.tck]; exact hab) fun h => absurd h hop.1, hstep.signalled]
  · rw [Device.engAt_modEng_same, hcnt.engAt, h0]

/-- The only command of an engine with nothing behind it completes, and the engine is left without work. -/
theorem finish_settle_lone {d : Device} {e : Nat} {a : Act} {p : Act → Bool} (ha : (d.engAt e).acts = [a])
    (hq : (d.engAt e).queue = []) (hd : a.done = false) (hp : p a = true) (ht : a.tag = none)
    (hop : opcode a.word ≠ 3 ∧ opcode a.word ≠ 4) (hab : d.tck.abandoning = false) :
    ∃ u, (d.finish e p).settle e = u ∧ u.engAt e = { d.engAt e with acts := [] } ∧ OtherEngines d u e ∧
      u.sigs = d.signalled e a.word ∧ SameRegs d u [] ∧
      u.sansRegs = { d with eng := u.eng, sigs := d.signalled e a.word }.sansRegs := by
  obtain ⟨u, hu, hstep, heng, hregs⟩ := finish_lone ha hd hp ht hop hab
  refine ⟨{ u with sigs := d.signalled e a.word }, ?_, heng, hstep.2, rfl, hregs, ?_⟩
  · rw [hu]
    exact Device.settle_nil ((congrArg Eng.queue heng).trans hq)
  · exact congrArg (fun x : Device => { x with sigs := d.signalled e a.word }) hstep.1

/-! ## Matrix commands (R67) -/

theorem exec_meCommandDone (e : Nat) (s : State) : exec (.meCommandDone e) s = execMeCommandDone e s := rfl

/-- A stream leaves no rows for its completion to set. -/
theorem initRows_of_streams {d : Device} {e : Nat} {x : MeCmd} (h : mmStreams x.word = true) : d.initRows e x = d := by
  unfold Device.initRows
  exact if_pos (.inr (.inr h))

/-- The array without the entry that completes, its test injection ended (R87). -/
def Device.entryDone (d : Device) (e i : Nat) (x : MeCmd) : Device :=
  if x.injected then (d.setMe e { d.meAt e with pipe := (d.meAt e).pipe.eraseIdx i }).clearBit (Reg.meCtrl e) 2
  else d.setMe e { d.meAt e with pipe := (d.meAt e).pipe.eraseIdx i }

theorem meCommandDone_eq {d : Device} {e i : Nat} {x : MeCmd} (hup : d.meUp e = true)
    (hx : (d.meAt e).pipe.zipIdx.find? (fun x => meDone x.2 x.1) = some (x, i)) (hs : mmStreams x.word = true) :
    d.meCommandDone e =
      ((d.entryDone e i x).finish e fun a => decide (a.addr = x.addr) && decide (a.word = x.word)).settle e := by
  unfold Device.meCommandDone
  simp only [hx, hup, initRows_of_streams hs, Bool.not_true, Bool.false_eq_true, if_false]
  rfl

theorem justSet_congr {d d' : Device} (he : d'.evts = d.evts) (hq : d'.q = d.q) (k i : Nat) : d'.justSet k i = d.justSet k i := by
  unfold Device.justSet Device.cycleOf
  rw [he, hq]

/-- A bit that is cleared reads 0, unless it was set in this cycle (R10). -/
theorem bitAt_clearBit_same (d : Device) (k : Nat) {i : Nat} (hi : i < 32) :
    (d.clearBit k i).bitAt k i = (d.bitAt k i && d.justSet k i) := by
  unfold Device.clearBit
  cases d.justSet k i with
  | true => exact (Bool.and_true _).symm
  | false =>
    rw [if_neg Bool.false_ne_true, Device.bitAt_setBit _ _ _ _ _ _ hi, if_pos ⟨rfl, rfl⟩, Bool.and_false]

theorem onlyRegs_clearBit (d : Device) (k i : Nat) : OnlyRegs d (d.clearBit k i) [k] :=
  .of_ite (.refl d _) (onlyRegs_setBit d k i false)

/-- What the end of an entry leaves: the other arrays, the engines, and every register but ME_CTRL. -/
theorem entryDone_spec (d : Device) (e i : Nat) (x : MeCmd) :
    (d.entryDone e i x).sansRegs = (d.setMe e { d.meAt e with pipe := (d.meAt e).pipe.eraseIdx i }).sansRegs ∧
    SameRegs d (d.entryDone e i x) (if x.injected then [Reg.meCtrl e] else []) ∧
    (x.injected = true → (d.entryDone e i x).bitAt (Reg.meCtrl e) 2 =
      (d.bitAt (Reg.meCtrl e) 2 && d.justSet (Reg.meCtrl e) 2)) := by
  unfold Device.entryDone
  generalize hu : d.setMe e { d.meAt e with pipe := (d.meAt e).pipe.eraseIdx i } = u
  have hreg : ∀ k, u.reg k = d.reg k := fun k => by rw [← hu, d.reg_setMe]
  have hjust : u.justSet (Reg.meCtrl e) 2 = d.justSet (Reg.meCtrl e) 2 := by
    rw [← hu]
    exact justSet_congr rfl rfl _ _
  by_cases hx : x.injected = true
  · have hclear := onlyRegs_clearBit u (Reg.meCtrl e) 2
    have hbit := bitAt_clearBit_same u (Reg.meCtrl e) (i := 2) (by decide)
    rw [hjust, Device.bitAt_congr (hreg _)] at hbit
    rw [if_pos hx, if_pos hx]
    exact ⟨hclear.1, fun k hk hi => (hclear.2 k hk hi).trans (hreg k), fun _ => hbit⟩
  · rw [if_neg hx, if_neg hx]
    exact ⟨rfl, fun k _ _ => hreg k, fun h => absurd h hx⟩

theorem meCtrl_not_irq (e : Nat) : Reg.meCtrl e ∉ irqRegs := by
  have hbase := engBase_le e
  simp only [irqRegs, Reg.prfStatus, Reg.meCtrl, List.mem_cons, List.not_mem_nil, or_false]
  omega

/-- A stream with every row written completes its command (R111, R112). -/
theorem meCommandDone_completes {s : State} {e i : Nat} {x : MeCmd} {a : Act} (he : isMe e = true) (hup : s.dev.meUp e = true)
    (hab : s.dev.tck.abandoning = false)
    (hx : (s.dev.meAt e).pipe.zipIdx.find? (fun x => meDone x.2 x.1) = some (x, i)) (hs : mmStreams x.word = true)
    (hop : opcode x.word = 0x10 ∨ opcode x.word = 0x11) (ht : a.tag = none) (hd : a.done = false) (haddr : a.addr = x.addr)
    (hword : a.word = x.word) (ha : (s.dev.engAt e).acts = [a]) (hq : (s.dev.engAt e).queue = []) :
    Completes (.meCommandDone e) s fun d => (d.engAt e) = { s.dev.engAt e with acts := [] } ∧
      d.meAt e = { s.dev.meAt e with pipe := (s.dev.meAt e).pipe.eraseIdx i } ∧ d.sigs = s.dev.signalled e x.word ∧
      (x.injected = true → d.bitAt (Reg.meCtrl e) 2 = (s.dev.bitAt (Reg.meCtrl e) 2 && s.dev.justSet (Reg.meCtrl e) 2)) ∧
      SameRegs s.dev d (if x.injected then [Reg.meCtrl e] else []) ∧
      OtherEngines s.dev d e ∧ d.sansRegs = { s.dev with eng := d.eng, me := d.me, sigs := d.sigs }.sansRegs := by
  refine .of_act (exec_meCommandDone e s) he ?_
  rw [meCommandDone_eq hup hx hs]
  obtain ⟨hsans, hregs, hbit⟩ := entryDone_spec s.dev e i x
  generalize s.dev.entryDone e i x = u at hsans hregs hbit ⊢
  have heng : ∀ y, u.engAt y = s.dev.engAt y := fun y => engAt_of_sansRegs hsans y
  obtain ⟨d, hrun, hdeng, hdoth, hdsigs, hdregs, hdrest⟩ := finish_settle_lone (d := u) (e := e) (a := a)
    (p := fun a => decide (a.addr = x.addr) && decide (a.word = x.word)) (by rw [heng]; exact ha) (by rw [heng]; exact hq) hd
    (by simp [haddr, hword]) ht (by rw [hword]; omega) ((congrArg (·.abandoning) (tck_of_sansRegs hsans)).trans hab)
  have hsig : u.signalled e a.word = s.dev.signalled e x.word := by
    rw [signalled_congr hsans, hword]
    rfl
  have hme : d.me = u.me := congrArg (·.me) hdrest
  have hume : u.me = (s.dev.setMe e { s.dev.meAt e with pipe := (s.dev.meAt e).pipe.eraseIdx i }).me := congrArg (·.me) hsans
  rw [hrun]
  refine ⟨by rw [hdeng, heng], ?_, hdsigs.trans hsig, fun hi => ?_, fun k hk hi => (hdregs k List.not_mem_nil hi).trans (hregs k hk hi),
    fun y hy => (hdoth y hy).trans (heng y), ?_⟩
  · rw [meAt_congr (hme.trans hume), Device.meAt_setMe_same]
  · exact (Device.bitAt_congr (hdregs _ List.not_mem_nil (meCtrl_not_irq e)) 2).trans (hbit hi)
  · rw [hdrest, hdsigs, hme]
    exact congrArg (fun z : Device => { z with eng := d.eng, me := u.me, sigs := u.signalled e a.word }) hsans

end Sys2Proof.Machine
end

section
/-! Writing memory: every write of the memory system is made of the same few steps as its reads, and an engine's write adds only the
notes of the words that it wrote in this a-cycle (R128, R155 to R159). -/

namespace Sys2Proof.Machine

namespace MemClosed
variable {R : Device → Device → Prop} (hR : MemClosed R)
include hR

theorem storeWord (d : Device) (w v : Nat) (poison : Bool) : R d (d.storeWord w v poison) :=
  hR.storeWith hR.decodeSpan d w v poison

theorem drain (d : Device) (t : MergeEnt) : R d (d.drain t) := hR.drainWith hR.decodeSpan d t

theorem writeLine (d : Device) (a : Nat) (bs : List Byte) (poison : Bool) : R d (d.writeLine a bs poison) := by
  unfold Device.writeLine
  simp only
  split
  · exact hR.setMem d _
  · split
    · exact hR.foldl (fun d i => hR.storeWord d (a + 8 * i) (leAt bs (8 * i) 8) poison) _ d
    · refine hR.trans ?_ (hR.setMem _ _)
      split
      · split
        · exact hR.drain d _
        · exact hR.refl d
      · exact hR.refl d

theorem writeMem (d : Device) (a : Nat) (bs : List Byte) (poison : Bool) : R d (d.writeMem a bs poison) := by
  refine hR.foldl (fun d p => ?_) _ d
  refine hR.trans (b := if spanBase p.1 ∈ d.mem.decode then d.decodeSpan (spanBase p.1) else d)
    (rel_ite (hR.decodeSpan d _) (hR.refl d)) ?_
  simp only
  generalize (if spanBase p.1 ∈ d.mem.decode then d.decodeSpan (spanBase p.1) else d) = u
  refine rel_ite (hR.refl u) (rel_ite (hR.foldl (fun d t => ?_) _ u) (hR.trans (hR.dramEvent u _ _ _) (hR.writeLine _ _ _ _)))
  exact rel_ite (hR.storeWord d _ _ _) (hR.trans (hR.loadWord d _) (hR.storeWord _ _ _ _))

theorem writeTag (d : Device) (a : Nat) (l : Marked) : R d (d.writeTag a l) := hR.foldl (fun d _ => hR.writeMem d _ _ _) _ d

end MemClosed

/-! ## An engine's writes -/

theorem Eng.keepHeld_true (g : Eng) : g.keepHeld (fun _ => true) = g := by
  simp [Eng.keepHeld]

/-- Engines have written memory: memories, registers, fault pairs, the notes of the words written in this a-cycle, and which requests
wait for a page decode change. -/
def Wrote (d d' : Device) : Prop :=
  d'.sansMem = { d with raceAt := d'.raceAt, races := d'.races }.sansMem ∧
    ∃ p, d'.eng = d.eng.map fun g => (g.1, g.2.keepHeld p)

/-- Where the notes stay, and the engines but for requests that are released. -/
theorem Wrote.of_sansMem {d d' : Device} (h : d'.sansMem = d.sansMem) {p : Nat → Bool}
    (he : d'.eng = d.eng.map fun g => (g.1, g.2.keepHeld p)) : Wrote d d' := by
  have ht : d'.raceAt = d.raceAt := congrArg (·.raceAt) h
  have hr : d'.races = d.races := congrArg (·.races) h
  refine ⟨?_, p, he⟩
  rw [ht, hr]
  exact h

theorem map_keepHeld_true (t : Tab Eng) : t = t.map fun g => (g.1, g.2.keepHeld fun _ => true) := by
  simp [Eng.keepHeld_true]

theorem Wrote.of_sansMem_eng {d d' : Device} (h : d'.sansMem = d.sansMem) (he : d'.eng = d.eng) : Wrote d d' :=
  .of_sansMem h (he.trans (map_keepHeld_true d.eng))

theorem Wrote.refl (d : Device) : Wrote d d := .of_sansMem_eng rfl rfl

theorem Wrote.trans {a b c : Device} (h : Wrote a b) (g : Wrote b c) : Wrote a c := by
  obtain ⟨hab, p, hp⟩ := h
  obtain ⟨hbc, q, hq⟩ := g
  refine ⟨?_, fun x => q x && p x, ?_⟩
  · exact hbc.trans (congrArg (fun z : Device => { z with raceAt := c.raceAt, races := c.races }) hab)
  · rw [hq, hp, List.map_map]
    exact List.map_congr_left fun g _ => by simp [Eng.keepHeld_keepHeld]

theorem Wrote.of_onlyRegs {a b : Device} {l : List Nat} (h : OnlyRegs a b l) : Wrote a b :=
  .of_sansMem_eng (MemStep.of_onlyRegs h).1 (congrArg (·.eng) h.1)

/-- A note of words written. -/
theorem wrote_races (d : Device) (n : Nat) (l : List Race) : Wrote d { d with raceAt := n, races := l } :=
  ⟨rfl, _, map_keepHeld_true d.eng⟩

theorem memClosed_wrote : MemClosed Wrote where
  refl := .refl
  trans := .trans
  setMem _ _ := .of_sansMem_eng rfl rfl
  setReg d k v _ _ := .of_onlyRegs (onlyRegs_setReg d k v)
  raise d i := .of_onlyRegs (onlyRegs_raise d _ i)
  setPair _ _ _ := .of_sansMem_eng rfl rfl
  perf d u ev n := .of_onlyRegs (onlyRegs_perf d u ev n)
  release d p := .of_sansMem (sansMem_keepHeld d p) rfl

theorem wrote_noteWrite (d : Device) (e w : Nat) : Wrote d (d.noteWrite e w) := by
  have hcycle : Wrote d (if d.raceAt = d.q / aQ then d else { d with raceAt := d.q / aQ, races := [] }) :=
    rel_ite (.refl d) (wrote_races d _ _)
  unfold Device.noteWrite
  simp only
  split
  · exact hcycle.trans (wrote_races _ _ _)
  · exact hcycle.trans (wrote_races _ _ _)

/-- Telling who wins a word (R78, R128). -/
theorem wrote_raceWord (d : Device) (e w : Nat) : Wrote d (d.raceWord e w).1 := by
  have hnote := wrote_noteWrite d e w
  unfold Device.raceWord
  generalize d.noteWrite e w = u at hnote ⊢
  simp only
  have hflag : ∀ p : Bool, Wrote d (match placeOf w with
      | some (.acc j) => if p = true then u else u.raise (Reg.meErr (meEngine j)) 4
      | some (.scr q) => u.perf (168 + q) 0x81 1
      | _ => u) := by
    intro p
    split
    · exact hnote.trans (rel_ite (.refl u) (.of_onlyRegs (onlyRegs_raise u _ _)))
    · exact hnote.trans (.of_onlyRegs (onlyRegs_perf u _ _ _))
    · exact hnote
  split
  · exact hnote
  · split
    · exact (hflag _).trans (rel_ite (.refl _) (memClosed_wrote.writeTag _ _ _))
    · exact hflag _

theorem wrote_engWrite (d : Device) (e a : Nat) (l : Marked) : Wrote d (d.engWrite e a l) := by
  unfold Device.engWrite
  refine rel_ite (memClosed_wrote.writeTag d a l) (memClosed_wrote.foldl (fun d p => ?_) _ d)
  exact (wrote_raceWord d e (wordBase p.1)).trans (rel_ite (memClosed_wrote.writeTag _ _ _) (.refl _))

theorem Wrote.otherEnginesRun {d d' : Device} (h : Wrote d d') (e : Nat) : OtherEnginesRun d d' e := fun x _ =>
  keepHeld_of_sansMem (d := { d with raceAt := d'.raceAt, races := d'.races }) h.1 x

/-- A write leaves an engine but for which of its requests wait for a page decode. -/
theorem Wrote.engAt {d d' : Device} (h : Wrote d d') : ∃ p, ∀ x, d'.engAt x = (d.engAt x).keepHeld p := by
  obtain ⟨-, p, hp⟩ := h
  refine ⟨p, fun x => ?_⟩
  rw [Device.engAt, hp]
  exact tabGet_map Eng.reset (fun g => g.keepHeld p) rfl d.eng x

theorem Wrote.tck {d d' : Device} (h : Wrote d d') : d'.tck = d.tck := congrArg (·.tck) h.1
theorem Wrote.sigs {d d' : Device} (h : Wrote d d') : d'.sigs = d.sigs := congrArg (·.sigs) h.1
theorem Wrote.q {d d' : Device} (h : Wrote d d') : d'.q = d.q := congrArg (·.q) h.1

theorem Wrote.signalled {d d' : Device} (h : Wrote d d') (e : Nat) (w : CmdWord) : d'.signalled e w = d.signalled e w := by
  unfold Device.signalled
  rw [h.sigs, h.q]

end Sys2Proof.Machine
end

section
/-! VE_COMMAND_COMPLETE (R140), and the obligation on the completion of matrix and vector commands. -/

namespace Sys2Proof.Machine

theorem exec_veCommandComplete (e : Nat) (s : State) :
    exec (.veCommandComplete e) s = act (isVe e) (fun d => d.veComplete e) s := rfl

theorem wrote_veWrite (d : Device) (e : Nat) (out : List OutByte) : Wrote d (d.veWrite e out) :=
  memClosed_wrote.foldl (fun d (r : Nat × Marked) => wrote_engWrite d e (d.phys r.1) r.2) _ d

theorem RunStep.with_sigs {a b : Device} (h : RunStep a b) (l : List SigMsg) :
    RunStep { a with sigs := l } { b with sigs := l } := by
  have hput := congrArg (fun z : Device => { z with sigs := l }) h
  exact hput

/-- The results of a VE's command are written, and none wait any more. -/
def Device.veWritten (d : Device) (e : Nat) : Device :=
  (d.veWrite e (d.engAt e).veOut).modEng e fun g => { g with veOut := [] }

theorem veComplete_eq {d : Device} {e : Nat} {a : Act} (hab : d.tck.abandoning = false) (hf : (d.engAt e).fenced = false)
    (hs : (d.engAt e).stopped = false) (ha : (d.engAt e).acts = [a]) (hd : a.done = false) :
    d.veComplete e = ((d.veWritten e).finish e fun _ => true).settle e := by
  unfold Device.veComplete
  simp only [hf, hs, hab, ha, List.any_cons, hd, List.any_nil, Bool.not_false, Bool.or_false, Bool.not_true, Bool.false_eq_true,
    if_false]
  rfl

/-- A VE's only command completes with its last write (R111, R140). -/
theorem veCommandComplete_completes {s : State} {e : Nat} {a : Act} (he : isVe e = true) (hab : s.dev.tck.abandoning = false)
    (hf : (s.dev.engAt e).fenced = false) (hs : (s.dev.engAt e).stopped = false) (ha : (s.dev.engAt e).acts = [a])
    (hq : (s.dev.engAt e).queue = []) (hd : a.done = false) (ht : a.tag = none) (hop : opcode a.word ≠ 3 ∧ opcode a.word ≠ 4) :
    Completes (.veCommandComplete e) s fun d => d.engAt e = { s.dev.engAt e with acts := [], veOut := [] } ∧
      d.mem = (s.dev.veWrite e (s.dev.engAt e).veOut).mem ∧ d.sigs = s.dev.signalled e a.word ∧ OtherEnginesRun s.dev d e ∧
      d.sansMem = { s.dev with eng := d.eng, sigs := d.sigs, raceAt := d.raceAt, races := d.races }.sansMem := by
  refine .of_act (exec_veCommandComplete e s) he ?_
  rw [veComplete_eq hab hf hs ha hd]
  unfold Device.veWritten
  have hw := wrote_veWrite s.dev e (s.dev.engAt e).veOut
  generalize s.dev.veWrite e (s.dev.engAt e).veOut = v at hw ⊢
  obtain ⟨p, hp⟩ := hw.engAt
  have hu : (v.modEng e fun g => { g with veOut := [] }).engAt e = { (s.dev.engAt e).keepHeld p with veOut := [] } := by
    rw [Device.engAt_modEng_same, hp]
  have hstep : EngineStep v (v.modEng e fun g => { g with veOut := [] }) e := engineStep_setEng v e _
  generalize v.modEng e (fun g => { g with veOut := [] }) = u at hu hstep ⊢
  obtain ⟨d, hrun, hdeng, hdoth, hdsigs, -, hdrest⟩ := finish_settle_lone (d := u) (e := e)
    (a := { a with out := a.out.map fun r => { r with held := r.held.filter p } }) (p := fun _ => true)
    (by rw [hu]; simp only [Eng.keepHeld, ha, List.map_cons, List.map_nil]) (by rw [hu]; exact hq) hd rfl ht hop
    (by rw [hstep.tck, hw.tck]; exact hab)
  have hsig : u.signalled e a.word = s.dev.signalled e a.word := (hstep.signalled e a.word).trans (hw.signalled e a.word)
  rw [hrun]
  refine ⟨?_, ?_, hdsigs.trans hsig, ?_, ?_⟩
  · rw [hdeng, hu]
    rfl
  · exact (congrArg (·.mem) hdrest).trans (congrArg (·.mem) hstep.1)
  · exact ((hw.otherEnginesRun e).trans hstep.2.run).trans hdoth.run
  · rw [show d.raceAt = v.raceAt from (congrArg (·.raceAt) hdrest).trans (congrArg (·.raceAt) hstep.1),
      show d.races = v.races from (congrArg (·.races) hdrest).trans (congrArg (·.races) hstep.1), hdsigs]
    have hend := RunStep.of_sansRegs (a := { u with sigs := u.signalled e a.word }) hdrest
    have hmid := (RunStep.of_sansRegs hstep.1).with_sigs (u.signalled e a.word)
    have hstart := (RunStep.of_sansMem (a := { s.dev with raceAt := v.raceAt, races := v.races }) hw.1).with_sigs
      (u.signalled e a.word)
    exact (hstart.trans hmid).trans hend

/-- Settles O41: a matrix command by `meCommandDone_completes`, a VE command by `veCommandComplete_completes`. -/
theorem engineCommandsComplete : Obligations.EngineCommandsComplete := by
  unfold Obligations.EngineCommandsComplete
  refine ⟨fun s e i x a he hup hab hx hst hop _ ht hd haddr hword ha hq => ?_,
    fun s e a he hab hf hs ha hq hd ht h3 h4 => ?_⟩
  · exact meCommandDone_completes he hup hab hx hst hop ht hd haddr hword ha hq
  · exact veCommandComplete_completes he hab hf hs ha hq hd ht ⟨h3, h4⟩

end Sys2Proof.Machine
end

section
/-! What the memory system reads: decoding, storing and draining depend on the memories alone, and a decode under way only ends
there (R149 to R157). -/

namespace Sys2Proof.Machine

/-! ## Notes leave the memories alone (R166) -/

theorem mem_raise (d : Device) (k i : Nat) : (d.raise k i).mem = d.mem := congrArg (·.mem) (onlyRegs_raise d k i).1
theorem mem_of_lowRegs {a b : Device} (h : LowRegs a b) : b.mem = a.mem := congrArg (·.mem) h.1

theorem mem_memLog (d : Device) (kind ctrl a : Nat) : (d.memLog kind ctrl a).mem = d.mem := mem_of_lowRegs (lowRegs_memLog d _ _ _)
theorem mem_memEvent (d : Device) (ev a n : Nat) : (d.memEvent ev a n).mem = d.mem := mem_of_lowRegs (lowRegs_memEvent d _ _ _)

theorem mem_pairRaise (d : Device) (s : Nat) : (d.pairRaise s).mem = d.mem := by
  unfold Device.pairRaise
  split <;> rfl

theorem mem_memSrc (d : Device) (base a : Nat) : (d.memSrc base a).mem = d.mem := by
  unfold Device.memSrc
  split
  · exact mem_pairRaise d _
  · rfl

theorem mem_noteCe (d : Device) (w : Nat) : (d.noteCe w).mem = d.mem := by
  unfold Device.noteCe
  have hcount : ((d.incr Reg.memCeCnt).raise Reg.memStatus 0).mem = d.mem :=
    (mem_raise _ _ _).trans (mem_of_lowRegs (lowRegs_setReg d _ (by decide)))
  generalize (d.incr Reg.memCeCnt).raise Reg.memStatus 0 = u at hcount ⊢
  simp only [mem_memSrc]
  split
  · exact (mem_memLog u _ _ _).trans hcount
  · exact hcount

theorem mem_noteFixed (d : Device) (kind a : Nat) : (d.noteFixed kind a).mem = d.mem := by
  unfold Device.noteFixed
  rw [mem_memSrc, mem_memLog, mem_raise]
  exact mem_of_lowRegs (.of_ite (lowRegs_setReg d _ (by decide)) (.refl d))

/-! ## Operations that depend on the memories alone -/

/-- An operation has led from `a` to `a'` and from `b` to `b'`: the memories are the same, and no decode has begun. -/
structure MemAlike (a a' b' : Device) : Prop where
  eq : a'.mem = b'.mem
  sub : a'.mem.decode.Sublist a.mem.decode

theorem MemAlike.refl {a b : Device} (h : a.mem = b.mem) : MemAlike a a b := ⟨h, .refl _⟩

theorem MemAlike.trans {a a' b' a'' b'' : Device} (h : MemAlike a a' b') (g : MemAlike a' a'' b'') : MemAlike a a'' b'' :=
  ⟨g.eq, g.sub.trans h.sub⟩

theorem MemAlike.of_mem {a a' b b' : Device} (h : a.mem = b.mem) (ha : a'.mem = a.mem) (hb : b'.mem = b.mem) : MemAlike a a' b' :=
  ⟨(ha.trans h).trans hb.symm, by rw [ha]⟩

theorem MemAlike.foldl {α : Type} {f : Device → α → Device} (hf : ∀ {a b : Device} x, a.mem = b.mem → MemAlike a (f a x) (f b x))
    (xs : List α) {a b : Device} (h : a.mem = b.mem) : MemAlike a (xs.foldl f a) (xs.foldl f b) := by
  induction xs generalizing a b with
  | nil => exact .refl h
  | cons x xs ih => exact (hf x h).trans (ih (hf x h).eq)

theorem memAlike_setMem (a b : Device) {m : MemSys} (hm : m.decode.Sublist a.mem.decode) : MemAlike a (a.setMem m) (b.setMem m) :=
  ⟨rfl, hm⟩

theorem decode_residue (m : MemSys) (w x : Nat) : (m.residue w x).decode = m.decode := by
  unfold MemSys.residue
  split <;> rfl

theorem decode_touch (m : MemSys) (w : Nat) : (m.touch w).decode = m.decode := by
  unfold MemSys.touch
  split <;> rfl

/-- A word that is rewritten with a new syndrome. -/
theorem memAlike_putWord {a b : Device} (h : a.mem = b.mem) (w n v x s : Nat) :
    MemAlike a (a.setMem (((b.mem.putBytes w n v).residue w x).setSyn w s))
      (b.setMem (((b.mem.putBytes w n v).residue w x).setSyn w s)) :=
  memAlike_setMem a b (by
    rw [h, show (((b.mem.putBytes w n v).residue w x).setSyn w s).decode = ((b.mem.putBytes w n v).residue w x).decode from rfl,
      decode_residue]
    exact .refl _)

theorem memAlike_setSpan {a b : Device} (h : a.mem = b.mem) (s : Nat) (x : SpanErr) :
    MemAlike a (a.setMem (b.mem.setSpan s x)) (b.setMem (b.mem.setSpan s x)) := memAlike_setMem a b (by rw [h]; exact .refl _)

theorem memAlike_noteCe {a b : Device} (h : a.mem = b.mem) (w : Nat) : MemAlike a (a.noteCe w) (b.noteCe w) :=
  .of_mem h (mem_noteCe a w) (mem_noteCe b w)

theorem memAlike_noteFixed {a b : Device} (h : a.mem = b.mem) (kind w : Nat) :
    MemAlike a (a.noteFixed kind w) (b.noteFixed kind w) := .of_mem h (mem_noteFixed a kind w) (mem_noteFixed b kind w)

theorem mem_poisonWord (d : Device) (w : Nat) : (d.poisonWord w).mem = d.mem.setSyn w (patAt w) := by
  unfold Device.poisonWord
  rw [mem_memSrc, mem_memLog, mem_raise]
  exact mem_of_lowRegs (lowRegs_setReg (d.setMem (d.mem.setSyn w (patAt w))) _ (by decide))

theorem memAlike_poisonWord {a b : Device} (h : a.mem = b.mem) (w : Nat) : MemAlike a (a.poisonWord w) (b.poisonWord w) :=
  ⟨by rw [mem_poisonWord, mem_poisonWord, h], by rw [mem_poisonWord]; exact .refl _⟩

/-! ## Page decode (R151) -/

theorem memAlike_ceWord {a b : Device} (h : a.mem = b.mem) (w : Nat) : MemAlike a (a.ceWord w) (b.ceWord w) := by
  unfold Device.ceWord
  rw [h]
  split
  · refine (memAlike_putWord h _ _ _ _ _).trans (memAlike_noteCe ?_ w)
    rfl
  · exact .refl h

theorem memAlike_fixCheck {a b : Device} (h : a.mem = b.mem) (w : Nat) (s : Byte) (f : Nat → SpanErr) :
    MemAlike a (a.fixCheck w s f) (b.fixCheck w s f) := by
  unfold Device.fixCheck
  rw [h]
  split
  · refine (memAlike_setSpan h w _).trans (memAlike_noteCe ?_ w)
    rfl
  · exact .refl h

theorem memAlike_fixChecks {a b : Device} (h : a.mem = b.mem) (w : Nat) : MemAlike a (a.fixChecks w) (b.fixChecks w) := by
  rw [fixChecks_eq, fixChecks_eq, h]
  have h1 := memAlike_fixCheck h w
  simp only
  rw [(h1 _ _).eq]
  exact (h1 _ _).trans (memAlike_fixCheck (h1 _ _).eq w _ _)

theorem memAlike_fixWord {a b : Device} (h : a.mem = b.mem) (w : Nat) (x : DWord) : MemAlike a (a.fixWord w x) (b.fixWord w x) := by
  unfold Device.fixWord
  rw [h]
  extract_lets v s
  refine (memAlike_putWord h _ _ _ _ _).trans (memAlike_noteFixed ?_ 2 w)
  rfl

theorem memAlike_giveUp {a b : Device} (h : a.mem = b.mem) (s : Nat) (es : List Nat) : MemAlike a (a.giveUp s es) (b.giveUp s es) := by
  have h1 : MemAlike a (es.foldl (fun d w => d.poisonWord w) a) (es.foldl (fun d w => d.poisonWord w) b) :=
    .foldl (fun w h => memAlike_poisonWord h w) es h
  unfold Device.giveUp
  generalize es.foldl (fun d w => d.poisonWord w) a = a1 at h1 ⊢
  generalize es.foldl (fun d w => d.poisonWord w) b = b1 at h1 ⊢
  simp only
  rw [h1.eq]
  exact h1.trans (memAlike_setSpan h1.eq s _)

theorem memAlike_memEvent {a b : Device} (h : a.mem = b.mem) (ev x n : Nat) : MemAlike a (a.memEvent ev x n) (b.memEvent ev x n) :=
  .of_mem h (mem_memEvent a ev x n) (mem_memEvent b ev x n)

theorem memAlike_pageDecode {a b : Device} (h : a.mem = b.mem) (s : Nat) : MemAlike a (a.pageDecode s) (b.pageDecode s) := by
  have h0 := memAlike_memEvent h 0xC3 s 1
  have h1 := h0.trans (.foldl (fun w h => memAlike_ceWord h w) (b.mem.flagged s) h0.eq)
  have h2 := h1.trans (memAlike_fixChecks h1.eq s)
  unfold Device.pageDecode
  rw [h]
  generalize ((b.mem.flagged s).foldl (fun d w => d.ceWord w) (a.memEvent 0xC3 s 1)).fixChecks s = a1 at h2 ⊢
  generalize ((b.mem.flagged s).foldl (fun d w => d.ceWord w) (b.memEvent 0xC3 s 1)).fixChecks s = b1 at h2 ⊢
  refine h2.trans ?_
  have hm := h2.eq
  clear h h0 h1 h2
  simp only
  rw [hm]
  split
  · split
    · have h3 := memAlike_setSpan hm s .zero
      exact h3.trans (memAlike_noteFixed h3.eq 5 s)
    · exact .refl hm
  · split
    · split
      · exact memAlike_fixWord hm _ _
      · exact memAlike_giveUp hm _ _
    · split
      · exact memAlike_fixWord hm _ _
      · split
        · exact memAlike_fixWord hm _ _
        · exact memAlike_giveUp hm _ _
  · split
    · exact memAlike_giveUp hm _ _
    · exact (memAlike_fixWord hm _ _).trans (memAlike_fixWord (memAlike_fixWord hm _ _).eq _ _)
  · exact memAlike_giveUp hm _ _

theorem memAlike_released {a b : Device} (h : a.mem = b.mem) (s : Nat) : MemAlike a (a.released s) (b.released s) :=
  ⟨by rw [Device.released, Device.released, h]; rfl, List.erase_sublist⟩

theorem memAlike_pageEnd {a b : Device} (h : a.mem = b.mem) (s : Nat) : MemAlike a (a.pageEnd s) (b.pageEnd s) :=
  (memAlike_pageDecode h s).trans (memAlike_released (memAlike_pageDecode h s).eq s)

/-! ## Loading, storing and draining. `dec` decodes a span. -/

section
variable {dec : Device → Nat → Device} (hdec : ∀ {a b : Device} s, a.mem = b.mem → MemAlike a (dec a s) (dec b s))
include hdec

theorem memAlike_iteDecode {a b : Device} (h : a.mem = b.mem) (w : Nat) :
    MemAlike a (if a.needsDecode w then dec a (spanBase w) else a) (if b.needsDecode w then dec b (spanBase w) else b) := by
  rw [show a.needsDecode w = b.needsDecode w by rw [Device.needsDecode, Device.needsDecode, h]]
  split
  · exact hdec _ h
  · exact .refl h

theorem memAlike_storeWith {a b : Device} (h : a.mem = b.mem) (w v : Nat) (poison : Bool) :
    MemAlike a (a.storeWith dec w v poison) (b.storeWith dec w v poison) := by
  have h1 := memAlike_iteDecode hdec h w
  unfold Device.storeWith
  split
  · exact .refl h
  · simp only
    rw [h1.eq]
    refine h1.trans (memAlike_setMem _ _ ?_)
    rw [decode_touch, h1.eq]
    show (MemSys.residue _ _ _).decode.Sublist _
    rw [decode_residue]

theorem memAlike_loadWith {a b : Device} (h : a.mem = b.mem) (w : Nat) :
    MemAlike a (a.loadWith dec w).1 (b.loadWith dec w).1 ∧ (a.loadWith dec w).2 = (b.loadWith dec w).2 := by
  have h1 := memAlike_iteDecode hdec h w
  have h2 := h1.trans (memAlike_ceWord h1.eq w)
  unfold Device.loadWith
  split
  · exact ⟨.refl h, rfl⟩
  · exact ⟨h2, by simp only [h2.eq]⟩

theorem memAlike_drainEntryWith {a b : Device} (h : a.mem = b.mem) (t : MergeEnt) :
    MemAlike a (a.drainEntryWith dec t) (b.drainEntryWith dec t) := by
  have h1 : MemAlike a ((List.range 8).foldl (fun d i => (d.loadWith dec (t.line + 8 * i)).1) a)
      ((List.range 8).foldl (fun d i => (d.loadWith dec (t.line + 8 * i)).1) b) :=
    .foldl (f := fun d i => (d.loadWith dec (t.line + 8 * i)).1) (fun i h => (memAlike_loadWith hdec h _).1) _ h
  unfold Device.drainEntryWith
  refine h1.trans (.foldl (fun {a b} i h => ?_) _ h1.eq)
  have hload := memAlike_loadWith hdec h (t.line + 8 * i)
  simp only
  split
  · exact .refl h
  · split
    · exact memAlike_storeWith hdec h _ _ _
    · revert hload
      obtain ⟨a1, v⟩ := Device.loadWith dec a (t.line + 8 * i)
      obtain ⟨b1, u⟩ := Device.loadWith dec b (t.line + 8 * i)
      rintro ⟨hload, hval⟩
      obtain rfl : v = u := hval
      exact hload.trans (memAlike_storeWith hdec hload.eq _ _ _)

theorem memAlike_drainWith {a b : Device} (h : a.mem = b.mem) (t : MergeEnt) :
    MemAlike a (a.drainWith dec t) (b.drainWith dec t) := by
  unfold Device.drainWith
  rw [h]
  split
  · exact .refl h
  · have h1 : MemAlike a (a.setMem { b.mem with merge := b.mem.merge.filter (· ≠ t) })
        (b.setMem { b.mem with merge := b.mem.merge.filter (· ≠ t) }) := memAlike_setMem a b (by rw [h])
    have h2 := h1.trans (memAlike_memEvent h1.eq 0xC2 t.line 1)
    exact h2.trans (memAlike_drainEntryWith hdec h2.eq t)

end

theorem memAlike_spanDecode (n : Nat) {a b : Device} (s : Nat) (h : a.mem = b.mem) :
    MemAlike a (spanDecode n a s) (spanDecode n b s) := by
  induction n generalizing a b s with
  | zero => exact memAlike_pageEnd h s
  | succ n ih =>
    unfold spanDecode
    rw [h]
    have h1 : MemAlike a (a.setMem { b.mem with decode := b.mem.decode.erase s })
        (b.setMem { b.mem with decode := b.mem.decode.erase s }) := memAlike_setMem a b (by rw [h]; exact List.erase_sublist)
    have h2 := h1.trans (.foldl (fun t h => memAlike_drainWith (fun s h => ih s h) h t)
      (b.mem.merge.filter fun t => decide (spanBase t.line = s)) h1.eq)
    exact h2.trans (memAlike_pageEnd h2.eq s)

theorem memAlike_decodeSpan {a b : Device} (s : Nat) (h : a.mem = b.mem) : MemAlike a (a.decodeSpan s) (b.decodeSpan s) := by
  unfold Device.decodeSpan
  rw [h]
  exact memAlike_spanDecode _ s h

theorem memAlike_loadWord {a b : Device} (h : a.mem = b.mem) (w : Nat) :
    MemAlike a (a.loadWord w).1 (b.loadWord w).1 ∧ (a.loadWord w).2 = (b.loadWord w).2 :=
  memAlike_loadWith memAlike_decodeSpan h w

end Sys2Proof.Machine
end

section
/-! What a read looks at: the memories, and what no read changes. Devices that differ in registers, fault pairs and engines alone read
the same (R149, R156, R199). -/

namespace Sys2Proof.Machine

/-- A device without its registers, memories, fault pairs and engines. -/
def Device.around (d : Device) : Device := { d.sansMem with eng := [] }

/-- The devices differ in registers, fault pairs and engines alone. -/
structure Alike (a b : Device) : Prop where
  mem : a.mem = b.mem
  around : a.around = b.around

theorem Alike.symm {a b : Device} (h : Alike a b) : Alike b a := ⟨h.mem.symm, h.around.symm⟩

theorem Alike.of_sansRegs {a b : Device} (h : b.sansRegs = { a with eng := b.eng }.sansRegs) : Alike a b := by
  have hput := congrArg (fun z : Device => { z with mem := MemSys.reset, flt := { z.flt with pair := [] }, eng := [] }) h
  exact ⟨(congrArg (·.mem) h).symm, Eq.symm hput⟩

/-- What looks at none of the parts that differ is the same. -/
theorem Alike.read {α : Sort*} {a b : Device} (h : Alike a b) (g : Device → α) (hg : ∀ d : Device, g d.around = g d) : g a = g b := by
  rw [← hg a, h.around, hg b]

theorem around_of_memStep {a b : Device} (h : MemStep a b) : b.around = a.around :=
  congrArg (fun z : Device => { z with eng := [] }) h.1

/-- An operation of memory leaves them so, where it leaves the same memories. -/
theorem Alike.step {a b a' b' : Device} (h : Alike a b) (ha : MemStep a a') (hb : MemStep b b') (hm : a'.mem = b'.mem) :
    Alike a' b' := ⟨hm, by rw [around_of_memStep ha, around_of_memStep hb, h.around]⟩

theorem Alike.phys {a b : Device} (h : Alike a b) (x : Nat) : a.phys x = b.phys x := h.read (·.phys x) fun _ => rfl

/-- What other readers see of a word. -/
theorem alike_seeAs {a b : Device} (h : Alike a b) (w : Nat) :
    Alike (a.seeAs .any w).1 (b.seeAs .any w).1 ∧ (a.seeAs .any w).2 = (b.seeAs .any w).2 := by
  suffices hmem : (a.seeAs .any w).1.mem = (b.seeAs .any w).1.mem ∧ (a.seeAs .any w).2 = (b.seeAs .any w).2 from
    ⟨h.step (memStep_seeAs a .any w) (memStep_seeAs b .any w) hmem.1, hmem.2⟩
  have hcount : ∀ (c p : Bool) (u v : Device) (x : Nat), u.mem = v.mem →
      (if c = true then ((u.incr Reg.memPoisonReadCnt).raise Reg.memStatus 4, x, p) else (u, x, p)).1.mem =
        (if c = true then ((v.incr Reg.memPoisonReadCnt).raise Reg.memStatus 4, x, p) else (v, x, p)).1.mem ∧
      (if c = true then ((u.incr Reg.memPoisonReadCnt).raise Reg.memStatus 4, x, p) else (u, x, p)).2 =
        (if c = true then ((v.incr Reg.memPoisonReadCnt).raise Reg.memStatus 4, x, p) else (v, x, p)).2 := by
    intro c p u v x huv
    have hnote : ∀ d : Device, ((d.incr Reg.memPoisonReadCnt).raise Reg.memStatus 4).mem = d.mem := fun d =>
      (mem_raise _ _ _).trans (mem_of_lowRegs (lowRegs_setReg d _ (by decide)))
    cases c
    · exact ⟨huv, rfl⟩
    · exact ⟨(hnote u).trans (huv.trans (hnote v).symm), rfl⟩
  have hload := memAlike_loadWord h.mem w
  have hold := (h.step (memStep_loadWord a w) (memStep_loadWord b w) hload.1.eq).read (·.oldAt w) fun _ => rfl
  unfold Device.seeAs
  simp only [ne_eq, not_true_eq_false, decide_false, Bool.false_and, Bool.false_eq_true, if_false, reduceCtorEq]
  revert hload hold
  obtain ⟨a1, v⟩ := a.loadWord w
  obtain ⟨b1, u⟩ := b.loadWord w
  rintro ⟨hmem, hval⟩ hold
  obtain rfl : v = u := hval
  replace hmem : a1.mem = b1.mem := hmem.eq
  replace hold : a1.oldAt w = b1.oldAt w := hold
  simp only [hmem, hold]
  exact hcount _ _ _ _ _ hmem

/-- Bytes that are read, and the device that the read leaves. -/
theorem alike_readMem {a b : Device} (h : Alike a b) (x n : Nat) :
    Alike (a.readMem x n).dev (b.readMem x n).dev ∧ (a.readMem x n).bytes = (b.readMem x n).bytes ∧
      (a.readMem x n).poison = (b.readMem x n).poison := by
  have hstart : Alike (a.dramEvent 0xC0 x n) (b.dramEvent 0xC0 x n) :=
    h.step (memStep_dramEvent a _ _ _) (memStep_dramEvent b _ _ _)
      (by rw [mem_of_lowRegs (lowRegs_dramEvent a _ _ _), mem_of_lowRegs (lowRegs_dramEvent b _ _ _), h.mem])
  refine List.foldl_rel (r := fun s t : ReadRes => Alike s.dev t.dev ∧ s.bytes = t.bytes ∧ s.poison = t.poison)
    ⟨hstart, rfl, rfl⟩ fun p _ s t ⟨hd, hb, hp⟩ => ?_
  obtain ⟨hr, hv⟩ := alike_seeAs hd (wordBase p.1)
  refine ⟨hr, ?_, ?_⟩
  · simp only [hb, hv]
  · simp only [hp, hv]

/-- Bytes that are read with their marks, and the device that the read leaves. -/
theorem alike_readTag {a b : Device} (h : Alike a b) (x n : Nat) :
    Alike (a.readTag x n).1 (b.readTag x n).1 ∧ (a.readTag x n).2 = (b.readTag x n).2 := by
  refine List.foldl_rel (r := fun s t : Device × Marked => Alike s.1 t.1 ∧ s.2 = t.2) ⟨h, rfl⟩ fun p _ s t ⟨hd, hm⟩ => ?_
  simp only
  rw [hd.read (·.viewOf p.1) fun _ => rfl, hm]
  split
  · exact ⟨hd, rfl⟩
  next v stale _ =>
    obtain ⟨hr, hb, hp⟩ := alike_readMem hd v p.2.2
    unfold Device.readMem at hb hp
    exact ⟨hr, by simp only [hb, hp]⟩
  · obtain ⟨hr, hb, hp⟩ := alike_readMem hd p.1 p.2.2
    unfold Device.readMem at hb hp
    exact ⟨hr, by simp only [hb, hp]⟩

theorem Alike.peek {a b : Device} (h : Alike a b) (x n : Nat) : a.peek x n = b.peek x n := (alike_readMem h x n).2.1

theorem Alike.peekPoison {a b : Device} (h : Alike a b) (x n : Nat) : a.peekPoison x n = b.peekPoison x n :=
  (alike_readMem h x n).2.2

end Sys2Proof.Machine
end

section
/-! Memory requests complete, or wait for a page decode (R126, R127, R151, R152). -/

namespace Sys2Proof.Machine

theorem exec_memoryRequestComplete (e i : Nat) (s : State) :
    exec (.memoryRequestComplete e i) s = act (decide (e < 168)) (fun d => d.requestComplete e i) s := rfl

theorem exec_pageDecodeComplete (b : Nat) (s : State) :
    exec (.pageDecodeComplete b) s = act true (fun d => d.decodeComplete b) s := rfl

/-! ## What forming and writing a request's data leaves -/

theorem onlyRegs_notePoison (d : Device) (e n : Nat) : OnlyRegs d (d.notePoison e n) [Reg.err e] := by
  unfold Device.notePoison
  exact .of_ite (.refl d _) ((onlyRegs_raise d _ _).trans ((onlyRegs_perf _ _ _ _).mono (by simp)))

theorem wrote_notePoison (d : Device) (e n : Nat) : Wrote d (d.notePoison e n) := .of_onlyRegs (onlyRegs_notePoison d e n)

theorem wrote_pairRaise (d : Device) (s : Nat) : Wrote d (d.pairRaise s) := by
  unfold Device.pairRaise
  exact rel_ite (.refl d) ((memClosed_wrote.setPair d _ _).trans (.of_onlyRegs (onlyRegs_setReg _ _ _)))

namespace MemClosed
variable {R : Device → Device → Prop} (hR : MemClosed R) (e : Nat) (hnote : ∀ d n, R d (d.notePoison e n))
include hR

theorem readTag (d : Device) (a n : Nat) : R d (d.readTag a n).1 := hR.readTagAs d .any a n

theorem readMem (d : Device) (a n : Nat) : R d (d.readMem a n).dev := hR.readAs d .any a n

include hnote

theorem convRow (d : Device) (w : CmdWord) (r lo n : Nat) : R d (d.convRow e w r lo n).1 := by
  unfold Device.convRow
  simp only
  exact hR.trans (hR.trans (hR.readTag d _ _) (hR.perf _ _ _ _)) (hnote _ _)

/-- Forming the data of a request reads memory and notes what it finds. -/
theorem reqData (w : CmdWord) (hidx : ∀ d r first, R d (d.gatherIdx e w r first).1) (d : Device) (i : Nat) :
    R d (d.reqData e w i).1 := by
  unfold Device.reqData
  simp only
  split
  · exact hR.convRow e hnote d w _ _ _
  · split
    · refine foldl_counted (P := fun _ (u : Device × Marked) => R d u.1) (fun _ u k hu => ?_) _ (n := 0) (hR.refl d)
      simp only
      exact hR.trans hu (hR.convRow e hnote u.1 w _ _ _)
    · split
      · have hidx := hidx d (reqAt w i).1 (decide ((reqAt w i).2.1 = 0))
        revert hidx
        generalize d.gatherIdx e w (reqAt w i).1 (decide ((reqAt w i).2.1 = 0)) = y
        obtain ⟨u, j⟩ := y
        intro hidx
        cases j with
        | some j =>
          simp only
          exact hR.trans hidx (hR.trans (hR.readTag u _ _) (hnote _ _))
        | none =>
          simp only
          exact hidx
      · split
        · exact hR.trans (hR.readTag d _ _) (hnote _ _)
        · exact hR.refl d

end MemClosed

theorem wrote_gatherIdx (d : Device) (e : Nat) (w : CmdWord) (r : Nat) (first : Bool) : Wrote d (d.gatherIdx e w r first).1 := by
  unfold Device.gatherIdx
  generalize d.idxWord w r = x
  have hread : Wrote d (if first = true then d.sense (d.phys (mSrc w + 4 * r)) 4 else d) :=
    rel_ite (memClosed_wrote.readMem d _ _) (.refl d)
  simp only
  generalize (if first = true then d.sense (d.phys (mSrc w + 4 * r)) 4 else d) = u at hread ⊢
  split
  · exact hread.trans (rel_ite (wrote_notePoison u _ _) (.refl u))
  · split
    · exact hread.trans (rel_ite (.trans (.of_onlyRegs (onlyRegs_raise u _ _)) (wrote_pairRaise _ _)) (.refl u))
    · exact hread

theorem wrote_reqData (d : Device) (e : Nat) (w : CmdWord) (i : Nat) : Wrote d (d.reqData e w i).1 :=
  memClosed_wrote.reqData e (fun d => wrote_notePoison d e) w (fun d => wrote_gatherIdx d e w) d i

theorem wrote_reqWrite (d : Device) (e : Nat) (w : CmdWord) (i : Nat) (l : Marked) : Wrote d (d.reqWrite e w i l) :=
  memClosed_wrote.foldl (fun d (t : Nat × Nat × Nat) => wrote_engWrite d e (d.phys t.1) ((l.drop t.2.1).take t.2.2)) _ d

/-- An engine whose only request waits for no page decode is left as it is. -/
theorem keepHeld_lone {g : Eng} {a : Act} {r : Request} (ha : g.acts = [a]) (ho : a.out = [r]) (hr : r.held = []) (p : Nat → Bool) :
    g.keepHeld p = g := by
  obtain ⟨⟩ := g
  obtain ⟨⟩ := a
  obtain ⟨⟩ := r
  simp only at ha ho hr
  subst hr ho ha
  rfl

theorem EngineStep.of_onlyRegs {a b : Device} {l : List Nat} (h : OnlyRegs a b l) (e : Nat) : EngineStep a b e := by
  refine ⟨?_, .of_sansRegs h.1 e⟩
  rw [show b.eng = a.eng from congrArg (·.eng) h.1]
  exact h.1

/-! ## The only request of an engine -/

theorem flight_lone {g : Eng} {a : Act} {r : Request} (ha : g.acts = [a]) (ho : a.out = [r]) : g.flight = [(0, a, r)] := by
  simp [Eng.flight, ha, ho]

/-- What MEMORY_REQUEST_COMPLETE does with the only request of an engine. -/
theorem requestComplete_lone {d : Device} {e : Nat} {a : Act} {r : Request} (ha : (d.engAt e).acts = [a]) (ho : a.out = [r]) :
    d.requestComplete e 0 =
      if !r.held.isEmpty || r.remote || d.spanBusy a.word r.idx || d.refreshHolds a.word r.idx then d
      else match d.badSpans a.word r.idx with
        | [] => ((d.reqData e a.word r.idx).1.reqWrite e a.word r.idx (d.reqData e a.word r.idx).2).reqDone e 0 r
        | sp => (d.setMem { d.mem with decode := (d.mem.decode ++ sp).dedup }).modEng e fun g => { g with
            acts := g.acts.modify 0 fun a => { a with out := a.out.map fun x => if x = r then { x with held := sp } else x } } := by
  unfold Device.requestComplete
  rw [flight_lone ha ho]
  rfl

/-- An engine of which no transfer is done, with nothing in its queue, is left as it is. -/
theorem finishDue_idle {d : Device} {e : Nat} {a : Act} (ha : (d.engAt e).acts = [a]) (hq : (d.engAt e).queue = [])
    (hx : (!a.done && xferDone (d.q / aQ) a) = false) : d.finishDue e = d := by
  unfold Device.finishDue Device.finishXfers
  rw [ha]
  simp only [List.length_cons, List.any_cons, List.any_nil, hx, Bool.or_false, Bool.false_eq_true, if_false]
  exact Device.settle_nil hq

/-- An engine with nothing left to issue and no transfer done goes on with its list. -/
theorem issue_idle {d : Device} {e : Nat} {a : Act} (ha : (d.engAt e).acts = [a]) (hq : (d.engAt e).queue = [])
    (hn : a.next = a.total) (hx : (!a.done && xferDone (d.q / aQ) a) = false) : d.issue e = d := by
  have hissue : d.issueN e (sumBy (fun a => a.total - a.next) (d.engAt e).acts) = d := by
    rw [ha]
    simp [sumBy, hn, Device.issueN]
  unfold Device.issue
  simp only [hissue, ite_self]
  exact finishDue_idle ha hq hx

/-- The list of an engine whose only request has completed. -/
theorem engAt_dropReq {d : Device} {e : Nat} {a : Act} {r : Request} (ha : (d.engAt e).acts = [a]) (ho : a.out = [r]) :
    (d.dropReq e 0 r).engAt e = { d.engAt e with acts := [{ a with out := [], last := d.q / aQ }] } := by
  unfold Device.dropReq
  rw [(onlyRegs_perf _ _ _ _).engAt, Device.engAt_modEng_same, ha]
  simp [ho]

/-- Counting a request of engine `e` as completed touches that engine and the counters. -/
theorem engineStep_dropReq (d : Device) (e k : Nat) (r : Request) : EngineStep d (d.dropReq e k r) e :=
  (engineStep_setEng d e _).trans (.of_onlyRegs (onlyRegs_perf _ _ _ _) e)

/-- With the only request the transfer's work is done; it completes in a later a-cycle (R126). -/
theorem reqDone_lone {d : Device} {e : Nat} {a : Act} {r : Request} (ha : (d.engAt e).acts = [a]) (hq : (d.engAt e).queue = [])
    (ho : a.out = [r]) (hn : a.next = a.total) : d.reqDone e 0 r = d.dropReq e 0 r := by
  have heng := engAt_dropReq ha ho
  have hcycle : (d.dropReq e 0 r).q = d.q := congrArg (·.q) (engineStep_dropReq d e 0 r).1
  have hout : ((d.dropReq e 0 r).engAt e).outstanding = 0 := by
    rw [heng]
    rfl
  unfold Device.reqDone
  simp only [hout, Device.flushReady]
  refine issue_idle (a := { a with out := [], last := d.q / aQ }) (congrArg Eng.acts heng) ((congrArg Eng.queue heng).trans hq) hn ?_
  simp [xferDone, hcycle]

/-- A request that nothing holds completes. -/
theorem requestComplete_done {s : State} {e : Nat} {a : Act} {r : Request} (he : e < 168) (ha : (s.dev.engAt e).acts = [a])
    (hq : (s.dev.engAt e).queue = []) (ho : a.out = [r]) (hn : a.next = a.total) (hh : r.held = []) (hr : r.remote = false)
    (hb : s.dev.spanBusy a.word r.idx = false) (hf : s.dev.refreshHolds a.word r.idx = false)
    (hs : s.dev.badSpans a.word r.idx = []) :
    Completes (.memoryRequestComplete e 0) s fun d =>
      d.engAt e = { s.dev.engAt e with acts := [{ a with out := [], last := s.dev.q / aQ }] } ∧
      d.mem = ((s.dev.reqData e a.word r.idx).1.reqWrite e a.word r.idx (s.dev.reqData e a.word r.idx).2).mem ∧
      OtherEnginesRun s.dev d e ∧ d.sansMem = { s.dev with eng := d.eng, raceAt := d.raceAt, races := d.races }.sansMem := by
  refine .of_act (exec_memoryRequestComplete e 0 s) (decide_eq_true he) ?_
  rw [requestComplete_lone ha ho, hs]
  simp only [hh, hr, hb, hf, List.isEmpty_nil, Bool.not_true, Bool.or_self, Bool.false_eq_true, if_false]
  have hw := (wrote_reqData s.dev e a.word r.idx).trans
    (wrote_reqWrite _ e a.word r.idx (s.dev.reqData e a.word r.idx).2)
  generalize (s.dev.reqData e a.word r.idx).1.reqWrite e a.word r.idx (s.dev.reqData e a.word r.idx).2 = u at hw ⊢
  have heng : u.engAt e = s.dev.engAt e := by
    obtain ⟨p, hp⟩ := hw.engAt
    rw [hp, keepHeld_lone ha ho hh]
  rw [reqDone_lone (heng ▸ ha) (heng ▸ hq) ho hn]
  have hstep := engineStep_dropReq u e 0 r
  have hdone := engAt_dropReq (d := u) (e := e) (heng ▸ ha) ho
  generalize u.dropReq e 0 r = d at hstep hdone ⊢
  refine ⟨?_, congrArg (·.mem) hstep.1, (hw.otherEnginesRun e).trans hstep.2.run, ?_⟩
  · rw [hdone, heng, hw.q]
  · rw [show d.raceAt = u.raceAt from congrArg (·.raceAt) hstep.1, show d.races = u.races from congrArg (·.races) hstep.1]
    exact (RunStep.of_sansMem (a := { s.dev with raceAt := u.raceAt, races := u.races }) hw.1).trans (.of_sansRegs hstep.1)

/-- A transfer with every request completed completes in a later a-cycle (R126). -/
theorem finishDue_lone {d : Device} {e : Nat} {a : Act} (hab : d.tck.abandoning = false) (ha : (d.engAt e).acts = [a])
    (hq : (d.engAt e).queue = []) (ho : a.out = []) (hn : a.next = a.total) (ht : 0 < a.total) (hd : a.done = false)
    (htag : a.tag = none) (hop : opcode a.word ≠ 3 ∧ opcode a.word ≠ 4) (hl : a.last < d.q / aQ) :
    (d.finishDue e).engAt e = { d.engAt e with acts := [] } ∧ (d.finishDue e).sigs = d.signalled e a.word := by
  have hx : xferDone (d.q / aQ) a = true := by simp [xferDone, ho, hn, ht, hl]
  have hdue : d.finishDue e = (d.finish e (xferDone (d.q / aQ))).settle e := by
    unfold Device.finishDue
    rw [ha]
    simp [Device.finishXfers, ha, hd, hx]
  obtain ⟨u, hrun, heng, -, hsigs, -, -⟩ := finish_settle_lone ha hq hd hx htag hop hab
  rw [hdue, hrun]
  exact ⟨heng, hsigs⟩

/-- A request that finds an uncorrectable source word waits for the decode of its spans (R151). -/
theorem requestComplete_bad {s : State} {e : Nat} {a : Act} {r : Request} (he : e < 168) (ha : (s.dev.engAt e).acts = [a])
    (ho : a.out = [r]) (hh : r.held = []) (hr : r.remote = false) (hb : s.dev.spanBusy a.word r.idx = false)
    (hf : s.dev.refreshHolds a.word r.idx = false) (hs : s.dev.badSpans a.word r.idx ≠ []) :
    Completes (.memoryRequestComplete e 0) s fun d =>
      (d.engAt e).acts = [{ a with out := [{ r with held := s.dev.badSpans a.word r.idx }] }] ∧
      (∀ b, b ∈ s.dev.badSpans a.word r.idx → b ∈ d.mem.decode) ∧ OtherEngines s.dev d e ∧ d.mem.data = s.dev.mem.data ∧
      d = { s.dev with eng := d.eng, mem := d.mem } := by
  refine .of_act (exec_memoryRequestComplete e 0 s) (decide_eq_true he) ?_
  rw [requestComplete_lone ha ho]
  simp only [hh, hr, hb, hf, List.isEmpty_nil, Bool.not_true, Bool.or_self, Bool.false_eq_true, if_false]
  generalize s.dev.badSpans a.word r.idx = sp at hs ⊢
  cases sp with
  | nil => exact absurd rfl hs
  | cons b l =>
    refine ⟨?_, fun x hx => ?_, .setEng _ e _, rfl, rfl⟩
    · rw [Device.engAt_modEng_same]
      show List.modify (s.dev.engAt e).acts _ _ = _
      rw [ha]
      simp [ho, hr]
    · exact List.mem_dedup.mpr (List.mem_append_right _ hx)

/-- A request that is held, remote, or at a busy span or a Forced refresh does not complete (R127, R152). -/
theorem requestComplete_held {d : Device} {e : Nat} {a : Act} {r : Request} (ha : (d.engAt e).acts = [a]) (ho : a.out = [r])
    (hh : r.held ≠ [] ∨ r.remote = true ∨ d.spanBusy a.word r.idx = true ∨ d.refreshHolds a.word r.idx = true) :
    d.requestComplete e 0 = d := by
  rw [requestComplete_lone ha ho]
  refine if_pos ?_
  rcases hh with h | h | h | h
  · simp [h]
  · simp [h]
  · simp [h]
  · simp [h]

/-! ## The end of a page decode -/

/-- A decode of span `b` ends as a page's does, after steps that begin no other decode. -/
theorem decodeSpan_ends (d : Device) (b : Nat) :
    ∃ u : Device, d.decodeSpan b = u.released b ∧ u.mem.decode.Sublist (d.mem.decode.erase b) := by
  have hfold : ∀ l : List MergeEnt, MemAlike (d.setMem { d.mem with decode := d.mem.decode.erase b })
      (l.foldl (Device.drainWith (spanDecode d.mem.merge.length)) (d.setMem { d.mem with decode := d.mem.decode.erase b }))
      (l.foldl (Device.drainWith (spanDecode d.mem.merge.length)) (d.setMem { d.mem with decode := d.mem.decode.erase b })) :=
    fun l => .foldl (fun t h => memAlike_drainWith (fun s h => memAlike_spanDecode _ s h) h t) l rfl
  have hdrain := hfold (d.mem.merge.filter fun t => decide (spanBase t.line = b))
  unfold Device.decodeSpan spanDecode
  simp only
  have hmem : (d.setMem { d.mem with decode := d.mem.decode.erase b }).mem.merge = d.mem.merge := rfl
  rw [hmem]
  generalize List.foldl _ _ _ = v at hdrain ⊢
  exact ⟨v.pageDecode b, rfl, (hdrain.trans (memAlike_pageDecode rfl b)).sub⟩

/-- No request waits for a span once its decode has ended (R152). -/
theorem released_held {d : Device} {b e : Nat} {a : Act} {r : Request} (ha : a ∈ ((d.released b).engAt e).acts) (hr : r ∈ a.out) :
    b ∉ r.held := by
  have heng : (d.released b).engAt e = (d.engAt e).keepHeld fun x => decide (x ≠ b) :=
    tabGet_map Eng.reset (fun g => g.keepHeld fun x => decide (x ≠ b)) rfl d.eng e
  rw [heng] at ha
  simp only [Eng.keepHeld, List.mem_map] at ha
  obtain ⟨a0, -, rfl⟩ := ha
  simp only [List.mem_map] at hr
  obtain ⟨r0, -, rfl⟩ := hr
  simp

/-- Settles O43: the only request of an engine completes, is held or starts a page decode; a transfer with all of them completed
completes later; the end of a decode is the end of a page's. -/
theorem requestsComplete : Obligations.RequestsComplete := by
  unfold Obligations.RequestsComplete
  refine ⟨fun s e a r he ha hq ho hn hh hr hb hf hs => requestComplete_done he ha hq ho hn hh hr hb hf hs,
    fun d e a hab ha hq ho hn ht hd htag h3 h4 => ⟨fun hl => finishDue_lone hab ha hq ho hn ht hd htag ⟨h3, h4⟩ hl, fun hl => ?_⟩,
    fun s e a r he ha ho hh hr hb hf hs => requestComplete_bad he ha ho hh hr hb hf hs, fun s e a r he ha ho hh => ?_,
    fun s b hb => ?_⟩
  · exact finishDue_idle ha hq (by simp [xferDone, Nat.not_lt.mpr hl])
  · exact .of_act (exec_memoryRequestComplete e 0 s) (decide_eq_true he) (requestComplete_held ha ho hh)
  · refine .of_act (exec_pageDecodeComplete b s) rfl ?_
    rw [show s.dev.decodeComplete b = s.dev.decodeSpan b from if_pos hb]
    have hstep := memStep_decodeSpan s.dev b
    obtain ⟨u, hu, hsub⟩ := decodeSpan_ends s.dev b
    refine ⟨fun e => keepHeld_of_sansMem hstep.1 e, fun hnd => ?_, fun e a r => ?_, hstep.2, hstep.1⟩
    · rw [hu]
      exact fun hm => hnd.not_mem_erase (hsub.subset (List.mem_of_mem_erase hm))
    · rw [hu]
      exact released_held

end Sys2Proof.Machine
end

section
/-! What VE commands do to the device when they start: they read memory and note the poisoned elements that they meet (R138 to R140). -/

namespace Sys2Proof.Machine

namespace MemClosed
variable {R : Device → Device → Prop} (hR : MemClosed R) (e : Nat) (hnote : ∀ d n, R d (d.notePoison e n))
include hR

/-! ## Collecting results -/

theorem part (x : VAcc) (a m v : Nat) (bad : Bool) : R x.dev (x.part a m v bad).dev := by
  unfold VAcc.part
  split
  · exact hR.refl _
  · split
    · exact hR.refl _
    · exact hR.readMem x.dev _ _

/-- A fold of steps that collect results. -/
theorem foldAcc {α : Type} {f : VAcc → α → VAcc} {d : Device} {x : VAcc} (hx : R d x.dev) (hf : ∀ x a, R x.dev (f x a).dev)
    (l : List α) : R d (l.foldl f x).dev :=
  foldl_counted (P := fun _ (y : VAcc) => R d y.dev) (fun _ _ _ h => hR.trans h (hf _ _)) l (n := 0) hx

theorem elems (x : VAcc) (int : Bool) (t : Nat) (sat : Bool) (a : Nat) (l : List (Option VElem)) :
    R x.dev (x.elems int t sat a l).dev := by
  unfold VAcc.elems
  simp only
  split
  · refine hR.foldAcc ?_ (fun y j => hR.part y _ _ _ _) _
    exact hR.refl x.dev
  · refine hR.foldAcc ?_ (fun y o => ?_) _
    · exact hR.refl x.dev
    · split
      · exact hR.refl _
      · exact hR.refl _

theorem mask (x : VAcc) (a : Nat) (l : List (Option (Bool × Bool))) : R x.dev (x.mask a l).dev := by
  unfold VAcc.mask
  exact hR.foldAcc (hR.refl x.dev) (fun y j => hR.part y _ _ _ _) _

theorem ints (x : VAcc) (a : Nat) (l : List (Int × Bool)) : R x.dev (x.ints a l).dev := hR.elems x _ _ _ _ _

/-! ## Operands -/

include hnote

theorem vRead (d : Device) (int : Bool) (f a n : Nat) : R d (d.vRead e int f a n).1 :=
  hR.trans (hR.readTag d (d.phys a) (fmtBytes f n)) (hnote _ _)

theorem vWords (d : Device) (int : Bool) (a n : Nat) : R d (d.vWords e int a n).1 := hR.vRead e hnote d int _ a n

theorem vPredRow (d : Device) (a n : Nat) : R d (d.vPredRow e a n).1 :=
  hR.trans (hR.readTag d (d.phys a) (ceilDiv n 8)) (hnote _ _)

theorem vRow (d : Device) (w : CmdWord) (r : Nat) : R d (d.vRow e w r).1 := hR.vRead e hnote d _ _ _ _

theorem vS1 (d : Device) (w : CmdWord) (r : Nat) : R d (d.vS1 e w r).1 := by
  unfold Device.vS1
  split
  · exact hR.refl d
  · split
    · exact hR.vWords e hnote d _ _ _
    · exact hR.vWords e hnote d _ _ _

theorem vPreds (d : Device) (w : CmdWord) (r : Nat) : R d (d.vPreds e w r).1 := by
  unfold Device.vPreds
  split
  · exact hR.vPredRow e hnote d _ _
  · exact hR.refl d

theorem vAll (d : Device) (w : CmdWord) : R d (d.vAll e w).1 := by
  refine foldl_counted (P := fun _ (u : Device × List (List VElem)) => R d u.1) (fun _ u r hu => ?_) _ (n := 0) (hR.refl d)
  simp only
  exact hR.trans hu (hR.vRow e hnote u.1 w r)

/-- Words that an operation reads where it uses them. -/
theorem iteWords (d : Device) (p : Bool) (a n : Nat) (l : List VElem) :
    R d (if p = true then d.vWords e false a n else (d, l)).1 := by
  split
  · exact hR.vWords e hnote d _ _ _
  · exact hR.refl d

/-! ## The operations (R140) -/

theorem vewRow (w : CmdWord) (r : Nat) (x : VAcc) : R x.dev (vewRow e w r x).dev := by
  have hread : R x.dev (((x.dev.vRow e w r).1.vS1 e w r).1.vPreds e w r).1 :=
    hR.trans (hR.trans (hR.vRow e hnote _ w r) (hR.vS1 e hnote _ w r)) (hR.vPreds e hnote _ w r)
  unfold Machine.vewRow
  simp only
  split
  · exact hR.trans hread (hR.mask { x with dev := _ } _ _)
  · exact hR.trans hread (hR.elems { x with dev := _ } _ _ _ _ _)

theorem vactRow (w : CmdWord) (t : Marked) (r : Nat) (x : VAcc) : R x.dev (vactRow e w t r x).dev := by
  have hread := hR.trans (hR.trans (hR.vRow e hnote x.dev w r)
    (hR.iteWords e hnote _ (usesS1 w) (vSrc1 w) (vCols w) (List.replicate (vCols w) (vImm w 0, false)))) (hR.vPreds e hnote _ w r)
  unfold Machine.vactRow
  simp only
  exact hR.trans hread (hR.elems { x with dev := _ } _ _ _ _ _)

theorem vnormRow (w : CmdWord) (r : Nat) (x : VAcc) : R x.dev (vnormRow e w r x).dev := by
  have hread := hR.trans (hR.trans (hR.vRow e hnote x.dev w r) (hR.iteWords e hnote _ (usesS1 w) (vSrc1 w) (vCols w) []))
    (hR.iteWords e hnote _ (usesAux w) (vAux w) (vCols w) [])
  unfold Machine.vnormRow
  simp only
  exact hR.trans hread (hR.elems { x with dev := _ } _ _ _ _ _)

theorem vpoolAll (w : CmdWord) (x : VAcc) : R x.dev (vpoolAll e w x).dev := by
  unfold Machine.vpoolAll
  simp only
  exact hR.foldAcc (hR.vAll e hnote x.dev w) (fun y r => hR.elems y _ _ _ _ _) _

theorem vresizeAll (w : CmdWord) (x : VAcc) : R x.dev (vresizeAll e w x).dev := by
  unfold Machine.vresizeAll
  simp only
  exact hR.foldAcc (hR.vAll e hnote x.dev w) (fun y r => hR.elems y _ _ _ _ _) _

theorem vredRow (w : CmdWord) (r : Nat) (x : VAcc) : R x.dev (vredRow e w r x).dev :=
  hR.trans (hR.vRow e hnote x.dev w r) (hR.elems { x with dev := _ } _ _ _ _ _)

theorem vargmaxRow (w : CmdWord) (r : Nat) (x : VAcc) : R x.dev (vargmaxRow e w r x).dev :=
  hR.trans (hR.vRow e hnote x.dev w r) (hR.elems { x with dev := _ } _ _ _ _ _)

theorem vtopkRow (w : CmdWord) (r : Nat) (x : VAcc) : R x.dev (vtopkRow e w r x).dev := by
  unfold Machine.vtopkRow
  simp only
  exact hR.trans (hR.trans (hR.vRow e hnote x.dev w r) (hR.elems { x with dev := _ } _ _ _ _ _)) (hR.ints _ _ _)

/-- The predicates of every row. -/
theorem vPredAll (w : CmdWord) (d : Device) (n : Nat) : R d ((List.range n).foldl (fun (s : Device × List (Bool × Bool)) r =>
      ((s.1.vPredRow e (vAux w + r * predPitch (vCols w)) 1).1,
        s.2 ++ (s.1.vPredRow e (vAux w + r * predPitch (vCols w)) 1).2)) (d, [])).1 := by
  refine foldl_counted (P := fun _ (u : Device × List (Bool × Bool)) => R d u.1) (fun _ u r hu => ?_) _ (n := 0) (hR.refl d)
  simp only
  exact hR.trans hu (hR.vPredRow e hnote u.1 _ _)

theorem vcompactAll (w : CmdWord) (x : VAcc) : R x.dev (vcompactAll e w x).dev := by
  unfold Machine.vcompactAll
  simp only
  have hread := hR.trans (hR.vAll e hnote x.dev w) (hR.vPredAll e hnote w (x.dev.vAll e w).1 (vRows w))
  exact hR.trans (hR.foldAcc hread (fun y r => hR.elems y _ _ _ _ _) _) (hR.ints _ _ _)

theorem vqmxRow (w : CmdWord) (r : Nat) (x : VAcc) : R x.dev (vqmxRow e w r x).dev := hR.vRow e hnote x.dev w r

omit hnote in
theorem overRows (w : CmdWord) {row : Nat → VAcc → VAcc} (hrow : ∀ r x, R x.dev (row r x).dev) (x : VAcc) :
    R x.dev (overRows w row x).dev := hR.foldAcc (hR.refl x.dev) (fun y r => hrow r y) _

end MemClosed

end Sys2Proof.Machine
end

section
/-! VE commands start (R138 to R140). -/

namespace Sys2Proof.Machine

/-! ## A lone command is taken -/

/-- What taking a lone command does: its header WAIT is subtracted, and it leaves the queue. -/
theorem taken_spec {d : Device} {e op : Nat} {h : FCmd} {w : CmdWord} (hs : d.solo e op h) (hm : d.waitMet e w) :
    EngineStep d ((d.gate e w).1.popCmd e) e ∧ ((d.gate e w).1.popCmd e).engAt e = { d.engAt e with queue := [] } ∧
      Waited d ((d.gate e w).1.popCmd e) e w [] := by
  obtain ⟨-, -, hq, -, hwait, -, -, -, -, -⟩ := hs
  obtain ⟨u, hg, hu, hW⟩ := Device.gate_met hwait hm
  have heng := engAt_of_sansRegs hu
  rw [hg]
  refine ⟨⟨?_, (OtherEngines.of_sansRegs hu e).trans (.setEng u e _)⟩, ?_, hW⟩
  · exact congrArg (fun x : Device => { x with eng := (u.popCmd e).eng }) hu
  · rw [Device.popCmd, Device.engAt_modEng_same, heng, hq, ← hwait]
    rfl

/-- A lone legal command is taken and takes effect. -/
theorem start_taken {d : Device} {e op : Nat} {h : FCmd} {w : CmdWord} (hs : d.solo e op h)
    {causes : Device → CmdWord → List Nat} {body : Device → FCmd → CmdWord → Device}
    (hw : w = stepWord h.word (d.engAt e).loops) (hl : hdrCauses h.word = []) (hc : causes d w = []) (hm : d.waitMet e w) :
    d.start e op causes body = (body ((d.gate e w).1.popCmd e) h w).settle e := by
  have hhead := Device.headOp_solo hs
  obtain ⟨-, -, -, -, hwait, -, -, htag, -, -⟩ := hs
  obtain ⟨u, hg, -, -⟩ := Device.gate_met hwait hm
  unfold Device.start
  rw [hhead]
  simp only [← hw, hl, hc, List.append_nil, hg, if_true, Device.stamp, htag, stampWith_none]

/-! ## Operands are read -/

/-- Memory has been read, and poisoned elements noted: memories, fault pairs, which requests wait for a page decode, registers of the
memory block and ERR registers change. -/
def Sensed (d d' : Device) : Prop :=
  d'.sansMem = d.sansMem ∧ ∀ k, k < 0x30000 ∨ 0x41000 ≤ k → (∀ x, k ≠ Reg.err x) → k ∉ irqRegs → d'.reg k = d.reg k

theorem Sensed.of_fetched {a b : Device} (h : Fetched a b) : Sensed a b := ⟨h.1, fun k hk _ hi => h.2 k hk hi⟩

theorem Sensed.trans {a b c : Device} (h : Sensed a b) (g : Sensed b c) : Sensed a c :=
  ⟨g.1.trans h.1, fun k hk he hi => (g.2 k hk he hi).trans (h.2 k hk he hi)⟩

theorem memClosed_sensed : MemClosed Sensed where
  refl d := .of_fetched (memClosed_fetched.refl d)
  trans := .trans
  setMem d m := .of_fetched (memClosed_fetched.setMem d m)
  setReg d _ v hlo hhi := .of_fetched (memClosed_fetched.setReg d v hlo hhi)
  raise d i := .of_fetched (memClosed_fetched.raise d i)
  setPair d s v := .of_fetched (memClosed_fetched.setPair d s v)
  perf d u ev n := .of_fetched (memClosed_fetched.perf d u ev n)
  release d p := .of_fetched (memClosed_fetched.release d p)

theorem sensed_notePoison (d : Device) (e n : Nat) : Sensed d (d.notePoison e n) :=
  ⟨(MemStep.of_onlyRegs (onlyRegs_notePoison d e n)).1,
    fun k _ he hi => (onlyRegs_notePoison d e n).2 k (by simpa using he e) hi⟩

theorem ctrIdx_waitCtr (e : Nat) (w : CmdWord) : ctrIdx (waitCtr e w) < 64 := by
  have hidx : cmdFld w 2 0 6 < 64 := Nat.mod_lt _ (by decide)
  unfold waitCtr ctrOf
  split
  · exact hidx
  · split
    · exact hidx
    · exact hidx

/-- The counters lie outside the memory block. -/
theorem ctrReg_outside {c : Ctr} (h : ctrIdx c < 64) : ctrReg c < 0x30000 ∨ 0x41000 ≤ ctrReg c := by
  cases c with
  | prm q i => exact .inr (by simp only [ctrReg, Reg.prmTok]; omega)
  | fct f i => exact .inr (by simp only [ctrReg, Reg.fctTok]; omega)
  | dev i =>
    simp only [ctrIdx] at h
    exact .inl (by simp only [ctrReg, Reg.tckTok]; omega)

/-- The counter of a header WAIT keeps its value. -/
theorem Sensed.waitCtr {a b : Device} (h : Sensed a b) (e : Nat) (w : CmdWord) :
    b.ctr (Machine.waitCtr e w) = a.ctr (Machine.waitCtr e w) :=
  Device.fld_congr (h.2 _ (ctrReg_outside (ctrIdx_waitCtr e w)) (ctrReg_ne_err (ctrIdx_waitCtr e w)) (waitCtr_not_irq e w)) 15 0

theorem queue_of_sansMem {a b : Device} (h : b.sansMem = a.sansMem) (e : Nat) : (b.engAt e).queue = (a.engAt e).queue := by
  rw [← Eng.keepHeld_queue _ fun _ => false, keepHeld_of_sansMem h, Eng.keepHeld_queue]

theorem acts_nil_of_sansMem {a b : Device} (h : b.sansMem = a.sansMem) {e : Nat} (ha : (a.engAt e).acts = []) :
    (b.engAt e).acts = [] := by
  have hk := congrArg Eng.acts (keepHeld_of_sansMem h e)
  simp only [Eng.keepHeld, ha, List.map_nil, List.map_eq_nil_iff] at hk
  exact hk

/-! ## Starting -/

/-- A VE command that reads its sources in `x` starts: its results wait, and it is listed. -/
def Device.veTaken (x : VAcc) (e : Nat) (a : Act) : Device :=
  ((x.dev.perf e 9 x.inv).modEng e fun g => { g with veOut := x.out }).push e a

theorem engAt_veTaken (x : VAcc) (e : Nat) (a : Act) :
    (Device.veTaken x e a).engAt e = { x.dev.engAt e with veOut := x.out, acts := (x.dev.engAt e).acts ++ [a] } := by
  unfold Device.veTaken
  rw [engAt_push, Device.engAt_modEng_same, (onlyRegs_perf _ _ _ _).engAt]

theorem engineStep_veTaken (x : VAcc) (e : Nat) (a : Act) : EngineStep x.dev (Device.veTaken x e a) e :=
  ((EngineStep.of_onlyRegs (onlyRegs_perf _ _ _ _) e).trans (engineStep_setEng _ e _)).trans (engineStep_setEng _ e _)

/-- A lone VE command starts. -/
theorem vectorStarted_of_solo {d : Device} {e op : Nat} {h : FCmd} {w : CmdWord} (hs : d.solo e op h)
    (hw : w = stepWord h.word (d.engAt e).loops) (hl : hdrCauses h.word = []) (hc : vCauses e d w = []) (hm : d.waitMet e w)
    {f : CmdWord → VAcc → VAcc} (hf : ∀ x, Sensed x.dev (f w x).dev) : VectorStarted d e h w (f w) (d.runVe e op f) := by
  obtain ⟨hstep, heng, hwait, -⟩ := taken_spec hs hm
  have hrun : d.runVe e op f = (Device.veTaken (f w ⟨(d.gate e w).1.popCmd e, [], 0⟩) e
      ⟨h.addr, w, 0, 0, [], 0, false, h.tag, 0⟩).settle e := start_taken hs hw hl hc hm
  obtain ⟨-, -, -, hacts, -, -, -, htag, -, -⟩ := hs
  unfold VectorStarted
  rw [hrun, htag]
  have hread := hf ⟨(d.gate e w).1.popCmd e, [], 0⟩
  replace hread : Sensed ((d.gate e w).1.popCmd e) _ := hread
  generalize f w ⟨(d.gate e w).1.popCmd e, [], 0⟩ = x at hread ⊢
  generalize (d.gate e w).1.popCmd e = d1 at hstep heng hwait hread ⊢
  generalize hact : Act.mk h.addr w 0 0 [] 0 false none 0 = a
  have hend := engAt_veTaken x e a
  have hgo := engineStep_veTaken x e a
  have hctr : (Device.veTaken x e a).ctr (waitCtr e w) = x.dev.ctr (waitCtr e w) :=
    Device.fld_congr ((onlyRegs_perf x.dev e 9 x.inv).2 _ List.not_mem_nil (waitCtr_not_irq e w)) 15 0
  generalize Device.veTaken x e a = u at hend hgo hctr ⊢
  have hqueue : (u.engAt e).queue = [] := by rw [hend, queue_of_sansMem hread.1, heng]
  rw [Device.settle_nil hqueue]
  refine ⟨hqueue, ?_, ?_, fun hen => ?_, ?_, ?_, ?_⟩
  · rw [hend, acts_nil_of_sansMem hread.1 (by rw [heng]; exact hacts)]
    rfl
  · rw [hend]
  · rw [hctr, hread.waitCtr, hwait hen]
  · exact (hstep.2.run.trans fun y _ => keepHeld_of_sansMem hread.1 y).trans hgo.2.run
  · rw [show u.sigs = x.dev.sigs from congrArg (·.sigs) hgo.1, show x.dev.sigs = d1.sigs from congrArg (·.sigs) hread.1]
    exact congrArg (·.sigs) hstep.1
  · exact ((RunStep.of_sansRegs hstep.1).trans (.of_sansMem hread.1)).trans (.of_sansRegs hgo.1)

/-! ## The commands -/

theorem exec_vew (e : Nat) (s : State) :
    exec (.vew e) s = act (isVe e) (fun d => d.runVe e opVew fun w => overRows w (vewRow e w)) s := rfl
theorem exec_vnorm (e : Nat) (s : State) :
    exec (.vnorm e) s = act (isVe e) (fun d => d.runVe e opVnorm fun w => overRows w (vnormRow e w)) s := rfl
theorem exec_vsmax (e : Nat) (s : State) :
    exec (.vsmax e) s = act (isVe e) (fun d => d.runVe e opVsmax fun w => overRows w (vnormRow e w)) s := rfl
theorem exec_vpool (e : Nat) (s : State) : exec (.vpool e) s = act (isVe e) (fun d => d.runVe e opVpool (vpoolAll e)) s := rfl
theorem exec_vresize (e : Nat) (s : State) :
    exec (.vresize e) s = act (isVe e) (fun d => d.runVe e opVresize (vresizeAll e)) s := rfl
theorem exec_vred (e : Nat) (s : State) :
    exec (.vred e) s = act (isVe e) (fun d => d.runVe e opVred fun w => overRows w (vredRow e w)) s := rfl
theorem exec_vargmax (e : Nat) (s : State) :
    exec (.vargmax e) s = act (isVe e) (fun d => d.runVe e opVargmax fun w => overRows w (vargmaxRow e w)) s := rfl
theorem exec_vtopk (e : Nat) (s : State) :
    exec (.vtopk e) s = act (isVe e) (fun d => d.runVe e opVtopk fun w => overRows w (vtopkRow e w)) s := rfl
theorem exec_vcompact (e : Nat) (s : State) :
    exec (.vcompact e) s = act (isVe e) (fun d => d.runVe e opVcompact (vcompactAll e)) s := rfl
theorem exec_vqmx (e : Nat) (s : State) :
    exec (.vqmx e) s = act (isVe e) (fun d => d.runVe e opVqmx fun w => overRows w (vqmxRow e w)) s := rfl

/-- VACT: its table, where FUNC is TABLE, then its rows. -/
def vactAll (e : Nat) (w : CmdWord) (x : VAcc) : VAcc :=
  overRows w (vactRow e w (if vFunc w = 2 then (x.dev.readTag (x.dev.phys (vAux w)) 1040).2 else []))
    { x with dev := if vFunc w = 2 then (x.dev.readTag (x.dev.phys (vAux w)) 1040).1 else x.dev }

theorem exec_vact (e : Nat) (s : State) : exec (.vact e) s = act (isVe e) (fun d => d.runVe e opVact (vactAll e)) s := by
  have hall : (fun (w : CmdWord) (x : VAcc) =>
      let (d, t) := if vFunc w = 2 then x.dev.readTag (x.dev.phys (vAux w)) 1040 else (x.dev, [])
      overRows w (vactRow e w t) { x with dev := d }) = vactAll e := by
    funext w x
    unfold vactAll
    by_cases hw : vFunc w = 2
    · simp only [hw, if_true]
    · simp only [hw, if_false]
  rw [← hall]
  rfl

theorem sensed_vactAll (e : Nat) (w : CmdWord) (x : VAcc) : Sensed x.dev (vactAll e w x).dev := by
  have htable : Sensed x.dev (if vFunc w = 2 then (x.dev.readTag (x.dev.phys (vAux w)) 1040).1 else x.dev) :=
    rel_ite (memClosed_sensed.readTag x.dev _ _) (memClosed_sensed.refl x.dev)
  exact htable.trans (memClosed_sensed.overRows w (memClosed_sensed.vactRow e (fun d => sensed_notePoison d e) w _) _)

end Sys2Proof.Machine
end

section
/-! Transfers start (R125, R126, R130 to R134), and the obligation on the start of VE commands and transfers. -/

namespace Sys2Proof.Machine

theorem exec_copy (e : Nat) (s : State) :
    exec (.copy e) s = act (isFe e) (fun d => d.start e 0x30 (copyCauses e) (Device.moverBody e)) s := rfl
theorem exec_fetch2d (e : Nat) (s : State) :
    exec (.fetch2d e) s = act (isFe e) (fun d => d.start e 0x31 (fetch2dCauses e) (Device.moverBody e)) s := rfl
theorem exec_gather (e : Nat) (s : State) :
    exec (.gather e) s = act (isFe e) (fun d => d.start e 0x32 (gatherCauses e) (Device.moverBody e)) s := rfl
theorem exec_store (e : Nat) (s : State) :
    exec (.store e) s = act (isSe e) (fun d => d.start e 0x40 (storeCauses e) (Device.moverBody e)) s := rfl
theorem exec_storeT (e : Nat) (s : State) :
    exec (.storeT e) s = act (isSe e) (fun d => d.start e 0x41 (storeCauses e) (Device.moverBody e)) s := rfl

/-! ## Issuing the requests of a lone transfer (R125) -/

theorem EngineStep.alike {a b : Device} {e : Nat} (h : EngineStep a b e) : Alike a b := .of_sansRegs h.1

theorem EngineStep.q {a b : Device} {e : Nat} (h : EngineStep a b e) : b.q = a.q := congrArg (·.q) h.1

theorem Alike.reqRemote {a b : Device} (h : Alike a b) (w : CmdWord) (i : Nat) : a.reqRemote w i = b.reqRemote w i := by
  have hidx : ∀ r, a.idxWord w r = b.idxWord w r := fun r => by
    unfold Device.idxWord
    simp only [h.phys, h.peek, h.peekPoison]
  unfold Device.reqRemote
  simp only [hidx]

/-- A transfer of which the first `k` requests have been issued in a-cycle `t`, all of them local and outstanding. -/
def Act.issued (a : Act) (k t : Nat) : Act :=
  { a with next := k, out := (List.range k).map fun i => Request.mk i t [] false none }

theorem Act.outstanding_issued (a : Act) (k t : Nat) : (a.issued k t).out.length = k := by
  simp [Act.issued]

/-- Engine `e` of `d` has the transfer `a` alone, with `k` requests issued. -/
def Issued (d : Device) (e : Nat) (a : Act) (k : Nat) (u : Device) : Prop :=
  EngineStep d u e ∧ SameRegs d u [] ∧ u.engAt e = { d.engAt e with acts := [a.issued k (d.q / aQ)] }

theorem Issued.acts {d u : Device} {e k : Nat} {a : Act} (h : Issued d e a k u) : (u.engAt e).acts = [a.issued k (d.q / aQ)] :=
  congrArg Eng.acts h.2.2

theorem Issued.outstanding {d u : Device} {e k : Nat} {a : Act} (h : Issued d e a k u) : (u.engAt e).outstanding = k := by
  unfold Eng.outstanding
  rw [h.acts]
  simp [sumBy, Act.outstanding_issued]

/-- The next request is issued. -/
theorem Issued.noteIssue {d u : Device} {e k : Nat} {a : Act} (h : Issued d e a k u) :
    Issued d e a (k + 1) (u.noteIssue e 0 k true false none) := by
  obtain ⟨hstep, hregs, heng⟩ := h
  have hcount := fun v : Device => onlyRegs_perf v e 6 1
  refine ⟨hstep.trans ((engineStep_setEng u e _).trans (.of_onlyRegs (hcount _) e)), fun r hr hi => ?_, ?_⟩
  · exact ((hcount _).2 r hr hi).trans (hregs r hr hi)
  · unfold Device.noteIssue
    rw [(hcount _).engAt, Device.engAt_modEng_same, heng, hstep.q]
    simp [Act.issued, List.range_succ]

/-- A lone transfer without remote requests issues them up to the engine's limit (R125). -/
theorem issueN_lone {d : Device} {e : Nat} {a : Act} (hlocal : ∀ i, i < a.total → d.reqRemote a.word i = none) (n : Nat) :
    ∀ {u : Device} {k : Nat}, Issued d e a k u → k ≤ min a.total (reqLimit e) → a.total ≤ n + k →
      Issued d e a (min a.total (reqLimit e)) (u.issueN e n) := by
  induction n with
  | zero =>
    intro u k h hk hn
    obtain rfl : k = min a.total (reqLimit e) := by omega
    exact h
  | succ n ih =>
    intro u k h hk hn
    unfold Device.issueN
    rw [h.outstanding, h.acts]
    split
    next hfull =>
      obtain rfl : k = min a.total (reqLimit e) := by omega
      exact h
    next hroom =>
      by_cases hmore : k < a.total
      · have hfind : [a.issued k (d.q / aQ)].findIdx? (fun a => decide (a.next < a.total)) = some 0 := by
          simp [Act.issued, hmore]
        have hone : u.issueOne e 0 (a.issued k (d.q / aQ)) = u.noteIssue e 0 k true false none := by
          unfold Device.issueOne
          simp only [Act.issued, h.1.alike.symm.reqRemote, hlocal k hmore]
        simp only [hfind, List.getElem?_cons_zero, hone]
        exact ih h.noteIssue (by omega) (by omega)
      · have hfind : [a.issued k (d.q / aQ)].findIdx? (fun a => decide (a.next < a.total)) = none := by
          simp [Act.issued, hmore]
        obtain rfl : k = min a.total (reqLimit e) := by omega
        simp only [hfind]
        exact h

/-- A transfer that has only begun is not done. -/
theorem xferDone_issued (a : Act) (k t t' : Nat) : xferDone t' (a.issued k t) = false := by
  cases k with
  | zero => simp [xferDone, Act.issued]; omega
  | succ k => simp [xferDone, Act.issued, List.range_succ]

/-- A lone transfer that has been listed issues its requests, and is not done. -/
theorem issue_lone {d u : Device} {e : Nat} {a : Act} (hab : d.tck.abandoning = false) (hseg : (d.prismAt (e / 7)).seg = none)
    (hq : (d.engAt e).queue = []) (hlocal : ∀ i, i < a.total → d.reqRemote a.word i = none) (h : Issued d e a 0 u) :
    Issued d e a (min a.total (reqLimit e)) (u.issue e) := by
  have hsum : sumBy (fun a => a.total - a.next) (u.engAt e).acts = a.total := by
    rw [h.acts]
    simp [sumBy, Act.issued]
  have hall := issueN_lone hlocal a.total h (Nat.zero_le _) (Nat.le_refl _)
  have hutck : u.tck = d.tck := h.1.tck
  have hprism : u.prismAt (e / 7) = d.prismAt (e / 7) := h.1.alike.symm.read (·.prismAt (e / 7)) fun _ => rfl
  unfold Device.issue
  rw [hutck, hab, hprism, hseg, hsum]
  simp only [Option.isSome_none, Bool.or_self, Bool.false_eq_true, if_false]
  generalize u.issueN e a.total = v at hall ⊢
  rw [finishDue_idle hall.acts ((congrArg Eng.queue hall.2.2).trans hq) (by rw [xferDone_issued, Bool.and_false])]
  exact hall

theorem seg_of_solo {d : Device} {e op : Nat} {h : FCmd} (hs : d.solo e op h) : (d.prismAt (e / 7)).seg = none := by
  obtain ⟨-, hrun, -⟩ := hs
  simp only [Device.running, Bool.and_eq_true, Option.isNone_iff_eq_none] at hrun
  obtain ⟨⟨⟨-, hseg⟩, -⟩, -⟩ := hrun
  exact hseg

/-- A lone transfer without remote requests starts (R126, R130). -/
theorem transferStarted_of_solo {d : Device} {e op : Nat} {h : FCmd} {w : CmdWord} (hs : d.solo e op h)
    (hw : w = stepWord h.word (d.engAt e).loops) (hl : hdrCauses h.word = []) {causes : Device → CmdWord → List Nat}
    (hc : causes d w = []) (hm : d.waitMet e w) (hlocal : ∀ i, i < reqTotal w → d.reqRemote w i = none) :
    TransferStarted d e h w (d.start e op causes (Device.moverBody e)) := by
  obtain ⟨hstep, heng, hwait, hkeep⟩ := taken_spec hs hm
  rw [start_taken hs hw hl hc hm]
  have hab := abandoning_of_solo hs
  have hseg := seg_of_solo hs
  obtain ⟨-, -, -, hacts, -, -, -, -, -, -⟩ := hs
  unfold Device.moverBody
  generalize (d.gate e w).1.popCmd e = d1 at hstep heng hwait hkeep ⊢
  generalize ha : Act.mk h.addr w (reqTotal w) 0 [] 0 false h.tag 0 = a
  have hstart : Issued d1 e a 0 (d1.push e a) := by
    refine ⟨engineStep_setEng d1 e _, fun _ _ _ => rfl, ?_⟩
    rw [engAt_push, heng, hacts, ← ha]
    rfl
  have hend := issue_lone (by rw [hstep.tck]; exact hab)
    (by rw [hstep.alike.symm.read (·.prismAt (e / 7)) fun _ => rfl]; exact hseg) (by rw [heng])
    (fun i hi => by rw [hstep.alike.symm.reqRemote, ← ha]; exact hlocal i (by rw [← ha] at hi; exact hi)) hstart
  generalize (d1.push e a).issue e = u at hend ⊢
  obtain ⟨hgo, hregs, hu⟩ := hend
  have hqueue : (u.engAt e).queue = [] := by rw [hu, heng]
  rw [Device.settle_nil hqueue]
  refine ⟨hqueue, ⟨_, congrArg Eng.acts hu, ?_, ?_, ?_, ?_, ?_, ?_⟩, ⟨fun hen => ?_, fun k hk hi => ?_⟩,
    hstep.2.trans hgo.2, (hstep.trans hgo).1⟩
  · rw [← ha]; rfl
  · rw [← ha]; rfl
  · rw [← ha]; rfl
  · rw [← ha]; rfl
  · rw [← ha]; rfl
  · rw [hstep.q]; rfl
  · rw [← hwait hen]
    exact Device.fld_congr (hregs _ List.not_mem_nil (waitCtr_not_irq e w)) 15 0
  · exact (hregs k List.not_mem_nil hi).trans (hkeep k hk hi)

theorem isFe_of_solo {d : Device} {e op : Nat} {h : FCmd} (hs : d.solo e op h) (hk : engKind e = 2) : isFe e = true := by
  simp [isFe, hs.1, hk]

theorem isSe_of_solo {d : Device} {e op : Nat} {h : FCmd} (hs : d.solo e op h) (hk : engKind e = 3) : isSe e = true := by
  simp [isSe, hs.1, hk]

/-- Settles O42: a VE command by `vectorStarted_of_solo`, with what its operation reads; a transfer by
`transferStarted_of_solo`. -/
theorem vectorsAndTransfersStart : Obligations.VectorsAndTransfersStart := by
  unfold Obligations.VectorsAndTransfersStart
  refine ⟨fun s e h w he hw hl hc hm => ?_, fun s e h w hw hl hm hlocal => ⟨fun hk hs hc => ?_, fun hk hs hc => ?_,
    fun hk hs hc => ?_, fun hk hs hc => ?_, fun hk hs hc => ?_⟩⟩
  · have hR := memClosed_sensed
    have hnote := fun d => sensed_notePoison d e
    refine ⟨fun hs => ?_, fun hs => ?_, fun hs => ?_, fun hs => ?_, fun hs => ?_, fun hs => ?_, fun hs => ?_, fun hs => ?_,
      fun hs => ?_, fun hs => ?_, fun hs => ?_⟩
    · exact .of_act (exec_vew e s) he (vectorStarted_of_solo hs hw hl hc hm (hR.overRows w (hR.vewRow e hnote w)))
    · exact .of_act (exec_vact e s) he (vectorStarted_of_solo hs hw hl hc hm (sensed_vactAll e w))
    · exact .of_act (exec_vnorm e s) he (vectorStarted_of_solo hs hw hl hc hm (hR.overRows w (hR.vnormRow e hnote w)))
    · exact .of_act (exec_vsmax e s) he (vectorStarted_of_solo hs hw hl hc hm (hR.overRows w (hR.vnormRow e hnote w)))
    · exact .of_act (exec_vpool e s) he (vectorStarted_of_solo hs hw hl hc hm (hR.vpoolAll e hnote w))
    · exact .of_act (exec_vresize e s) he (vectorStarted_of_solo hs hw hl hc hm (hR.vresizeAll e hnote w))
    · exact .of_act (exec_vred e s) he (vectorStarted_of_solo hs hw hl hc hm (hR.overRows w (hR.vredRow e hnote w)))
    · exact .of_act (exec_vargmax e s) he (vectorStarted_of_solo hs hw hl hc hm (hR.overRows w (hR.vargmaxRow e hnote w)))
    · exact .of_act (exec_vtopk e s) he (vectorStarted_of_solo hs hw hl hc hm (hR.overRows w (hR.vtopkRow e hnote w)))
    · exact .of_act (exec_vcompact e s) he (vectorStarted_of_solo hs hw hl hc hm (hR.vcompactAll e hnote w))
    · exact .of_act (exec_vqmx e s) he (vectorStarted_of_solo hs hw hl hc hm (hR.overRows w (hR.vqmxRow e hnote w)))
  · exact .of_act (exec_copy e s) (isFe_of_solo hs hk) (transferStarted_of_solo hs hw hl hc hm hlocal)
  · exact .of_act (exec_fetch2d e s) (isFe_of_solo hs hk) (transferStarted_of_solo hs hw hl hc hm hlocal)
  · exact .of_act (exec_gather e s) (isFe_of_solo hs hk) (transferStarted_of_solo hs hw hl hc hm hlocal)
  · exact .of_act (exec_store e s) (isSe_of_solo hs hk) (transferStarted_of_solo hs hw hl hc hm hlocal)
  · exact .of_act (exec_storeT e s) (isSe_of_solo hs hk) (transferStarted_of_solo hs hw hl hc hm hlocal)

end Sys2Proof.Machine
end

section
/-! SEND and its packet acknowledgements (R133, R135, R223). -/

namespace Sys2Proof.Machine

theorem exec_send (e : Nat) (s : State) :
    exec (.send e) s = act (isSe e) (fun d => d.start e 0x42 (sendCauses e) (Device.sendBody e)) s := rfl

theorem exec_packetAck (e : Nat) (s : State) : exec (.packetAck e) s = act (isSe e) (fun d => d.ackIn e) s := rfl

/-! ## How much is read -/

theorem length_slice (l : List Byte) (ofs n : Nat) : (slice l ofs n).length = n := by
  simp only [slice, List.length_append, List.length_take, List.length_drop, List.length_replicate]
  omega

/-- A fold over the pieces of a range that adds each piece's length adds the length of the range. -/
theorem foldl_pieces {β : Type} {s : Nat} (hs : 0 < s) {len : β → Nat} {f : β → Nat × Nat × Nat → β}
    (hf : ∀ b p, len (f b p) = len b + p.2.2) (fuel : Nat) :
    ∀ {a ofs n : Nat} {b : β}, n < fuel → len ((pieces s fuel a ofs n).foldl f b) = len b + n := by
  induction fuel with
  | zero => exact fun h => absurd h (Nat.not_lt_zero _)
  | succ fuel ih =>
    intro a ofs n b hn
    unfold pieces
    split
    next h0 => simp [h0]
    next h0 =>
      have hmod := Nat.mod_lt a hs
      rw [List.foldl_cons, ih (by omega), hf]
      simp only
      omega

theorem wordSize_pos (a : Nat) : 0 < wordSize a := by
  unfold wordSize
  split <;> decide

theorem length_readMem (d : Device) (a n : Nat) : (d.readMem a n).bytes.length = n := by
  have hlen := foldl_pieces (wordSize_pos a) (len := fun r : ReadRes => r.bytes.length)
    (f := fun s p => ⟨(s.dev.seeAs .any (wordBase p.1)).1,
      s.bytes ++ slice (toLe (wordSize (wordBase p.1)) (s.dev.seeAs .any (wordBase p.1)).2.1) (p.1 - wordBase p.1) p.2.2,
      s.poison || (s.dev.seeAs .any (wordBase p.1)).2.2⟩)
    (fun s p => by simp only [List.length_append, length_slice]) (n + 1) (a := a) (ofs := 0) (b := ⟨d.dramEvent 0xC0 a n, [], false⟩)
    (Nat.lt_succ_self n)
  exact hlen.trans (Nat.zero_add n)

/-- Reading with marks reads as many bytes as were asked for. -/
theorem length_readTag (d : Device) (a n : Nat) : (d.readTag a n).2.length = n := by
  refine (foldl_pieces (wordSize_pos a) (len := fun r : Device × Marked => r.2.length) (fun r p => ?_) (n + 1) (b := (d, []))
    (Nat.lt_succ_self n)).trans (Nat.zero_add n)
  split
  · simp
  · exact (List.length_append).trans (congrArg _ ((List.length_map _).trans (length_readMem _ _ _)))
  · exact (List.length_append).trans (congrArg _ ((List.length_map _).trans (length_readMem _ _ _)))

theorem length_packetsOf (e i : Nat) (l : Marked) : (packetsOf e i l).length = ceilDiv l.length 1024 := by
  simp [packetsOf]

/-! ## SEND starts (R135) -/

theorem RunStep.with_apt {a b : Device} (h : RunStep a b) (x : Apt) : RunStep { a with apt := x } { b with apt := x } := by
  have hput := congrArg (fun z : Device => { z with apt := x }) h
  exact hput

/-- A tensor goes to the sender. -/
def Device.sent (d : Device) (ps : List Packet) : Device := { d with apt := { d.apt with packets := d.apt.packets ++ ps } }

theorem sendBody_eq (d : Device) (e : Nat) (h : FCmd) (w : CmdWord) :
    let r := d.readTag (d.phys (mSrc w)) (sendLen w)
    let ps := packetsOf e (sendEntry w) r.2
    Device.sendBody e d h w = ((r.1.notePoison e (countBy (·.2) r.2)).sent ps).push e
      ⟨h.addr, w, 0, 0, [], ps.length, false, h.tag, 0⟩ := rfl

/-- A lone SEND reads its tensor, hands it over, and waits for the acknowledgements of its packets (R133, R135). -/
theorem send_completes {s : State} {e : Nat} {h : FCmd} {w : CmdWord} (hk : engKind e = 3) (hs : s.dev.solo e 0x42 h)
    (hw : w = stepWord h.word (s.dev.engAt e).loops) (hl : hdrCauses h.word = []) (hc : sendCauses e s.dev w = [])
    (hm : s.dev.waitMet e w) :
    Completes (.send e) s fun d => (d.engAt e).queue = [] ∧
      d.apt.packets = s.dev.apt.packets ++
        packetsOf e (sendEntry w) ((s.dev.gate e w).1.readTag (s.dev.phys (mSrc w)) (sendLen w)).2 ∧
      (∃ a : Act, (d.engAt e).acts = [a] ∧ a.word = w ∧ a.addr = h.addr ∧ a.done = false ∧ a.acks = ceilDiv (sendLen w) 1024) ∧
      OtherEnginesRun s.dev d e ∧ d.sigs = s.dev.sigs ∧
      d.sansMem = { s.dev with eng := d.eng, apt := { s.dev.apt with packets := d.apt.packets } }.sansMem := by
  obtain ⟨hstep, heng, -, -⟩ := taken_spec hs hm
  refine .of_act (exec_send e s) (isSe_of_solo hs hk) ?_
  rw [start_taken hs hw hl hc hm, sendBody_eq]
  obtain ⟨-, -, -, hacts, -, -, -, -, -, -⟩ := hs
  have hpop : Alike ((s.dev.gate e w).1.popCmd e) (s.dev.gate e w).1 := (engineStep_setEng _ e _).alike.symm
  have hread := (alike_readTag hpop (s.dev.phys (mSrc w)) (sendLen w)).2
  rw [← hread, hstep.alike.symm.phys]
  generalize (s.dev.gate e w).1.popCmd e = d1 at hstep heng ⊢
  have hsee := memClosed_sensed.readTag d1 (s.dev.phys (mSrc w)) (sendLen w)
  have hlen := length_readTag d1 (s.dev.phys (mSrc w)) (sendLen w)
  generalize d1.readTag (s.dev.phys (mSrc w)) (sendLen w) = r at hsee hlen ⊢
  simp only
  have hps := length_packetsOf e (sendEntry w) r.2
  rw [hlen] at hps
  generalize packetsOf e (sendEntry w) r.2 = ps at hps ⊢
  replace hsee := hsee.trans (sensed_notePoison r.1 e (countBy (·.2) r.2))
  generalize r.1.notePoison e (countBy (·.2) r.2) = u at hsee ⊢
  generalize ha : Act.mk h.addr w 0 0 [] ps.length false h.tag 0 = a
  have hgo : EngineStep (u.sent ps) ((u.sent ps).push e a) e := engineStep_setEng _ e _
  have hend := engAt_push (u.sent ps) e a
  have hapt : u.apt = s.dev.apt := (congrArg (·.apt) hsee.1).trans (congrArg (·.apt) hstep.1)
  generalize (u.sent ps).push e a = v at hgo hend ⊢
  have hvapt : v.apt = { s.dev.apt with packets := s.dev.apt.packets ++ ps } := by
    rw [show v.apt = (u.sent ps).apt from congrArg (·.apt) hgo.1, Device.sent, hapt]
  have hqueue : (v.engAt e).queue = [] := by
    rw [hend]
    exact (queue_of_sansMem hsee.1 e).trans (by rw [heng])
  rw [Device.settle_nil hqueue]
  refine ⟨hqueue, by rw [hvapt], ⟨a, ?_, ?_, ?_, ?_, ?_⟩, ?_, ?_, ?_⟩
  · rw [hend]
    show (u.engAt e).acts ++ [a] = [a]
    rw [acts_nil_of_sansMem hsee.1 (by rw [heng]; exact hacts)]
    rfl
  · rw [← ha]
  · rw [← ha]
  · rw [← ha]
  · rw [← ha]
    exact hps
  · exact (hstep.2.run.trans fun y _ => keepHeld_of_sansMem hsee.1 y).trans hgo.2.run
  · exact ((congrArg (·.sigs) hgo.1).trans (congrArg (·.sigs) hsee.1)).trans (congrArg (·.sigs) hstep.1)
  · rw [hvapt]
    have hsent : u.sent ps = { u with apt := { s.dev.apt with packets := s.dev.apt.packets ++ ps } } := by
      rw [Device.sent, hapt]
    rw [hsent] at hgo
    exact (((RunStep.of_sansRegs hstep.1).trans (.of_sansMem hsee.1)).with_apt _).trans (.of_sansRegs hgo.1)

/-! ## Acknowledgements (R223) -/

/-- The acknowledgement at the head of the list is taken off it. -/
def Device.acked (d : Device) : Device := { d with apt := { d.apt with acks := d.apt.acks.tail } }

/-- The first command of an engine waits for one acknowledgement less. -/
def Device.ackCounted (d : Device) (e : Nat) : Device :=
  d.acked.modEng e fun g => { g with acts := g.acts.modify 0 fun a => { a with acks := a.acks - 1 } }

/-- What an acknowledgement does to an engine with one SEND that waits for more. -/
theorem ackIn_lone {d : Device} {e : Nat} {l : List Nat} {a : Act} (hl : d.apt.acks = e :: l) (ha : (d.engAt e).acts = [a])
    (hop : opcode a.word = 0x42) (hn : 0 < a.acks) :
    d.ackIn e = ((d.ackCounted e).finish e fun a => decide (opcode a.word = 0x42) && decide (a.acks = 0)).settle e := by
  have hfind : (d.acked.engAt e).acts.findIdx? (fun a => decide (opcode a.word = 0x42) && decide (0 < a.acks)) = some 0 := by
    show (d.engAt e).acts.findIdx? _ = _
    simp [ha, hop, hn]
  unfold Device.ackIn
  rw [if_neg (by simp [hl])]
  simp only
  rw [← Device.acked, hfind]
  rfl

theorem engAt_ackCounted {d : Device} {e : Nat} {a : Act} (ha : (d.engAt e).acts = [a]) :
    (d.ackCounted e).engAt e = { d.engAt e with acts := [{ a with acks := a.acks - 1 }] } := by
  have hacts : (d.acked.engAt e).acts = [a] := ha
  rw [Device.ackCounted, Device.engAt_modEng_same, hacts]
  rfl

/-- An acknowledgement that no SEND waits for is taken off the list. -/
theorem ackIn_none {d : Device} {e : Nat} {l : List Nat} {a : Act} (hl : d.apt.acks = e :: l) (ha : (d.engAt e).acts = [a])
    (hn : a.acks = 0) : d.ackIn e = d.acked := by
  have hfind : (d.acked.engAt e).acts.findIdx? (fun a => decide (opcode a.word = 0x42) && decide (0 < a.acks)) = none := by
    show (d.engAt e).acts.findIdx? _ = _
    simp [ha, hn]
  unfold Device.ackIn
  rw [if_neg (by simp [hl])]
  simp only
  rw [← Device.acked, hfind]

/-- The oldest acknowledgement reaches its SE: the SEND waits for one less, and completes with the last (R135, R223). -/
theorem packetAck_completes {s : State} {e : Nat} {l : List Nat} {a : Act} (he : e < 168) (hk : engKind e = 3)
    (hl : s.dev.apt.acks = e :: l) (ha : (s.dev.engAt e).acts = [a]) (hq : (s.dev.engAt e).queue = [])
    (hop : opcode a.word = 0x42) (hd : a.done = false) (ht : a.tag = none) (hab : s.dev.tck.abandoning = false) :
    Completes (.packetAck e) s fun d => d.apt = { s.dev.apt with acks := l } ∧ OtherEngines s.dev d e ∧
      (1 < a.acks → d.engAt e = { s.dev.engAt e with acts := [{ a with acks := a.acks - 1 }] } ∧ d.sigs = s.dev.sigs) ∧
      (a.acks = 1 → d.engAt e = { s.dev.engAt e with acts := [] } ∧ d.sigs = s.dev.signalled e a.word) ∧
      d.sansRegs = { s.dev with eng := d.eng, sigs := d.sigs, apt := d.apt }.sansRegs := by
  refine .of_act (exec_packetAck e s) (by simp [isSe, he, hk]) ?_
  have hacked : s.dev.acked.apt = { s.dev.apt with acks := l } := by rw [Device.acked, hl]; rfl
  by_cases hnone : a.acks = 0
  · rw [ackIn_none hl ha hnone]
    exact ⟨hacked, fun _ _ => rfl, fun h => by omega, fun h => by omega, rfl⟩
  rw [ackIn_lone hl ha hop (by omega)]
  have hu := engAt_ackCounted ha
  have hother : OtherEngines s.dev (s.dev.ackCounted e) e := .setEng s.dev.acked e _
  have hsig : (s.dev.ackCounted e).signalled e a.word = s.dev.signalled e a.word := rfl
  have htck : (s.dev.ackCounted e).tck = s.dev.tck := rfl
  have hapt : (s.dev.ackCounted e).apt = s.dev.acked.apt := rfl
  have hsigs : (s.dev.ackCounted e).sigs = s.dev.sigs := rfl
  have hrest : (s.dev.ackCounted e).sansRegs =
      { s.dev with eng := (s.dev.ackCounted e).eng, apt := (s.dev.ackCounted e).apt }.sansRegs := rfl
  generalize s.dev.ackCounted e = u at *
  by_cases hlast : a.acks = 1
  · obtain ⟨d, hrun, hdeng, hdoth, hdsigs, -, hdrest⟩ := finish_settle_lone (d := u) (e := e) (a := { a with acks := a.acks - 1 })
      (p := fun a => decide (opcode a.word = 0x42) && decide (a.acks = 0)) (by rw [hu]) (by rw [hu]; exact hq) hd
      (by simp [hop, hlast]) ht (by simp only [hop]; decide) (by rw [htck]; exact hab)
    have hdapt : d.apt = u.apt := congrArg (·.apt) hdrest
    rw [← hdsigs] at hdrest
    have hmid := congrArg (fun z : Device => { z with eng := d.eng, sigs := d.sigs }) hrest
    rw [hrun]
    refine ⟨(hdapt.trans hapt).trans hacked, hother.trans hdoth, fun h => by omega,
      fun _ => ⟨by rw [hdeng, hu], hdsigs.trans hsig⟩, ?_⟩
    rw [hdapt]
    exact hdrest.trans hmid
  · rw [finish_none (fun x hx _ => ?_), Device.settle_nil (by rw [hu]; exact hq)]
    · refine ⟨hapt.trans hacked, hother, fun _ => ⟨hu, hsigs⟩, fun h => absurd h hlast, ?_⟩
      rw [hsigs]
      exact hrest
    · rw [hu] at hx
      obtain rfl := List.mem_singleton.mp hx
      simp only [hop, decide_true, Bool.true_and, decide_eq_false_iff_not]
      omega

/-- Settles O52: a SEND starts by `send_completes`, and its acknowledgements come by `packetAck_completes`. -/
theorem sendsLeaveAndComplete : Obligations.SendsLeaveAndComplete := by
  unfold Obligations.SendsLeaveAndComplete
  refine ⟨fun s e h w hk hs hw hl hc hm => send_completes hk hs hw hl hc hm, fun s e he hk hhead => ?_,
    fun s e l a he hk hl ha hq hop hd ht hab => packetAck_completes he hk hl ha hq hop hd ht hab⟩
  exact .of_act (exec_packetAck e s) (by simp [isSe, he, hk]) (if_pos hhead)

end Sys2Proof.Machine
end

section
/-! The canonical form (R146, R391) is kept by every operation. `Device.Formed` says of a device that its memories and its flash are in
canonical form. Each function of the model has one lemma `Device.Formed.f`, named after it: from a formed device it makes a formed one.
A proof then follows the function's definition from the inside out; where the definition branches, so does the proof. -/

namespace Sys2Proof.Machine

/-- The memories of the compute die and the flash are in canonical form. -/
structure Device.Formed (d : Device) : Prop where
  mem : d.mem.wf = true
  flash : tabWf 0xFF d.nvm.flash = true

theorem Device.formed_iff (d : Device) : d.Formed ↔ Memory.wf d = true := by
  rw [Memory.wf, Bool.and_eq_true]
  exact ⟨fun h => ⟨h.mem, h.flash⟩, fun h => ⟨h.1, h.2⟩⟩

namespace Device.Formed

/-! ## Changes of other fields -/

section
variable {d : Device} {q free raceAt : Nat} {regs : Tab Word} {chk : Checker} {boot : Boot} {tck : Tck} {eng : Tab Eng} {me : Tab Me}
  {sigs : List SigMsg} {marks : List MarkMsg} {facet : Tab Facet} {prism : Tab Prism} {bg : Tab Bg} {rsv : Tab Nat}
  {model0 model1 : Model} {load : Option LoadOp} {hif : Hif} {tim : Tim} {ctime : CTime} {lens : Tab Lens} {eth : Eth} {rng : Rng}
  {apt : Apt} {stw : Stw} {core : CorePair} {wdg : Wdg} {ladder : Ladder} {cvu : Cvu} {flt : Flt} {sio : Sio} {prf : Prf} {dsk : Dsk}
  {races : List Race} {evts : List (Nat × Nat × Nat)}

/-- Whatever becomes of the other fields, memories and flash stay as they are. -/
theorem frame (h : d.Formed) : Device.Formed
    { q, free, regs, chk, boot, tck, eng, me, sigs, marks, mem := d.mem, facet, prism, bg, rsv, model0, model1, load, hif, tim, ctime,
      lens, eth, rng, apt, stw, core, wdg, ladder, cvu, flt, sio, prf, nvm := d.nvm, dsk, raceAt, races, evts } :=
  ⟨h.mem, h.flash⟩

/-- Flash stays where the rest of its unit changes. -/
theorem frameNvm (h : d.Formed) {op : Option NvmOp} {due staging : List EventRec}
    {seq blocks blkBytes page lapAt : Nat} {blk : Tab Blk} :
    Device.Formed
    { q, free, regs, chk, boot, tck, eng, me, sigs, marks, mem := d.mem, facet, prism, bg, rsv, model0, model1, load, hif, tim, ctime,
      lens, eth, rng, apt, stw, core, wdg, ladder, cvu, flt, sio, prf, dsk, raceAt, races, evts
      nvm := { flash := d.nvm.flash, op, due, staging, seq, blocks, blkBytes, page, blk, lapAt } } :=
  ⟨h.mem, h.flash⟩

end

variable {d : Device}

/-! ## Branches and folds -/

section
variable {p : Prop} {inst : Decidable p} {a b : Device}

theorem ite (ha : a.Formed) (hb : b.Formed) : (if p then a else b).Formed := by
  split <;> assumption

theorem ifThen (h : d.Formed) (ha : d.Formed → a.Formed) : (if p then a else d).Formed := .ite (ha h) h

theorem ifElse (h : d.Formed) (hb : d.Formed → b.Formed) : (if p then d else b).Formed := .ite h (hb h)

theorem ifBoth (h : d.Formed) (ha : d.Formed → a.Formed) (hb : d.Formed → b.Formed) : (if p then a else b).Formed :=
  .ite (ha h) (hb h)

end

theorem iteSome {p : Prop} {inst : Decidable p} {a : Device} {b : Option Device} (ha : a.Formed) (hb : (b.getD d).Formed) :
    ((if p then some a else b).getD d).Formed := by
  split <;> assumption

theorem iteFst {β : Type} {p : Prop} {inst : Decidable p} {a b : Device × β} (ha : a.1.Formed) (hb : b.1.Formed) :
    (if p then a else b).1.Formed := by
  split <;> assumption

section
variable {α β : Type} {l : List α}

theorem foldl {f : Device → α → Device} (h : d.Formed) (hf : ∀ d a, d.Formed → (f d a).Formed) : (l.foldl f d).Formed :=
  foldl_counted (P := fun _ (d : Device) => d.Formed) (fun _ _ _ h => hf _ _ h) l (n := 0) h

theorem foldlFst {f : Device × β → α → Device × β} {s : Device × β} (h : s.1.Formed) (hf : ∀ s a, s.1.Formed → (f s a).1.Formed) :
    (l.foldl f s).1.Formed :=
  foldl_counted (P := fun _ (s : Device × β) => s.1.Formed) (fun _ _ _ h => hf _ _ h) l (n := 0) h

theorem foldlRead {f : ElemRead → α → ElemRead} {s : ElemRead} (h : s.dev.Formed)
    (hf : ∀ s a, s.dev.Formed → (f s a).dev.Formed) :
    (l.foldl f s).dev.Formed :=
  foldl_counted (P := fun _ (s : ElemRead) => s.dev.Formed) (fun _ _ _ h => hf _ _ h) l (n := 0) h

theorem foldlAcc {f : VAcc → α → VAcc} {s : VAcc} (h : s.dev.Formed) (hf : ∀ s a, s.dev.Formed → (f s a).dev.Formed) :
    (l.foldl f s).dev.Formed :=
  foldl_counted (P := fun _ (s : VAcc) => s.dev.Formed) (fun _ _ _ h => hf _ _ h) l (n := 0) h

end

theorem iterN (h : d.Formed) {f : Nat → Device → Device} {n : Nat} (hf : ∀ n d, d.Formed → (f n d).Formed) :
    (iterN f n d).Formed := by
  induction n with
  | zero => exact h
  | succ n ih => exact hf n _ ih

/-! ## Memory (R146 to R163) -/

/-- An operation of the memory system keeps its canonical form and does not reach flash. -/
theorem memStep (h : d.Formed) {u : Device} (g : MemStep d u) : u.Formed :=
  ⟨g.2 h.mem, (congrArg (fun x : Device => x.nvm.flash) g.1).symm ▸ h.flash⟩

theorem setMem (h : d.Formed) {m : MemSys} (hm : d.mem.wf = true → m.wf = true) : (d.setMem m).Formed := ⟨hm h.mem, h.flash⟩

/-- What the memory system keeps beside the stored data has no canonical form. -/
theorem setNotes (h : d.Formed) {merge : List MergeEnt} {cache : List (Nat × Nat)} {decode : List Nat}
    {scrubPos : Tab Nat} {scrubDone : List Nat} {lapAt : Nat} :
    (d.setMem { d.mem with merge, cache, decode, scrubPos, scrubDone, lapAt }).Formed := ⟨h.mem, h.flash⟩

theorem ceWord (h : d.Formed) {w : Nat} : (d.ceWord w).Formed := h.memStep (memStep_ceWord d w)
theorem fixChecks (h : d.Formed) {b : Nat} : (d.fixChecks b).Formed := h.memStep (memStep_fixChecks d b)
theorem fixWord (h : d.Formed) {w : Nat} {e : DWord} : (d.fixWord w e).Formed := h.memStep (memStep_fixWord d w e)
theorem noteFixed (h : d.Formed) {kind a : Nat} : (d.noteFixed kind a).Formed := h.memStep (memStep_noteFixed d kind a)
theorem memLog (h : d.Formed) {kind ctrl a : Nat} : (d.memLog kind ctrl a).Formed := h.memStep (memStep_memLog d kind ctrl a)
theorem memSrc (h : d.Formed) {base a : Nat} : (d.memSrc base a).Formed := h.memStep (memStep_memSrc d base a)
theorem pageDecode (h : d.Formed) {b : Nat} : (d.pageDecode b).Formed := h.memStep (memStep_pageDecode d b)
theorem decodeSpan (h : d.Formed) {b : Nat} : (d.decodeSpan b).Formed := h.memStep (memStep_decodeSpan d b)
theorem drain (h : d.Formed) {t : MergeEnt} : (d.drain t).Formed := h.memStep (memStep_drain d t)
theorem drainWhere (h : d.Formed) {p : MergeEnt → Bool} : (d.drainWhere p).Formed := h.memStep (memStep_drainWhere d p)
theorem memDrainAll (h : d.Formed) : d.memDrainAll.Formed := h.memStep (memStep_memDrainAll d)
theorem readAs (h : d.Formed) {r : Reader} {a n : Nat} : (d.readAs r a n).dev.Formed := h.memStep (memStep_readAs d r a n)
theorem readMem (h : d.Formed) {a n : Nat} : (d.readMem a n).dev.Formed := h.memStep (memStep_readMem d a n)
theorem sense (h : d.Formed) {a n : Nat} : (d.sense a n).Formed := h.memStep (memStep_sense d a n)
theorem writeMem (h : d.Formed) {a : Nat} {bs : List Byte} {poison : Bool} : (d.writeMem a bs poison).Formed :=
  h.memStep (memStep_writeMem d a bs poison)
theorem zeroMem (h : d.Formed) {a n : Nat} : (d.zeroMem a n).Formed := h.memStep (memStep_zeroMem d a n)
theorem wipeFacet (h : d.Formed) {f : Nat} : (d.wipeFacet f).Formed := h.memStep (memStep_wipeFacet d f)

/-! ## Registers, flags and records of the state -/

theorem setReg (h : d.Formed) {k : Nat} {v : Word} : (d.setReg k v).Formed := h.frame

theorem setFld (h : d.Formed) {k hi lo v : Nat} : (d.setFld k hi lo v).Formed := h.setReg

theorem setBit (h : d.Formed) {k i : Nat} {b : Bool} : (d.setBit k i b).Formed := h.setReg

theorem event (h : d.Formed) {k i : Nat} : (d.event k i).Formed := h.setBit.frame

theorem clearBit (h : d.Formed) {k i : Nat} : (d.clearBit k i).Formed := .ifElse h (·.setBit)

theorem count (h : d.Formed) {k hi lo a : Nat} : (d.count k hi lo a).Formed := h.setFld

theorem incr (h : d.Formed) {k : Nat} : (d.incr k).Formed := h.count

theorem setReg64 (h : d.Formed) {k v : Nat} : (d.setReg64 k v).Formed := h.setReg.setReg

theorem fire (h : d.Formed) {v : Nat} : (d.fire v).Formed := .ite h (.ifBoth h (·.setBit) (·.frame))

theorem flushVec (h : d.Formed) {v : Nat} : (d.flushVec v).Formed := .ifThen h (·.setBit.fire)

theorem raise (h : d.Formed) {k i : Nat} : (d.raise k i).Formed := by
  unfold Device.raise
  split
  · exact .ifThen h.event (·.fire)
  · exact h.event

theorem plainWrite (h : d.Formed) {k : Nat} {v : Word} : (d.plainWrite k v).Formed := by
  unfold Device.plainWrite
  split
  · exact .ifThen h.setReg (·.fire)
  · exact h.setReg

theorem complete (h : d.Formed) {op : Nat} {tag : Byte} {status : Nat} {result : Word} :
    (d.complete op tag status result).Formed :=
  h.setReg.setReg.setReg.setReg.setReg.setReg.fire

theorem stateReject (h : d.Formed) {op : Nat} {tag : Byte} : (d.stateReject op tag).Formed := h.incr.setReg.complete

theorem startReq (h : d.Formed) {op : Nat} {tag : Byte} {a0 : Word} : (d.startReq op tag a0).Formed := h.frame

theorem completeWhere (h : d.Formed) {p : RunReq → Bool} {status : Nat} {result : Word} :
    (d.completeWhere p status result).Formed :=
  .foldl h.frame fun _ _ h => h.complete

theorem abortAll (h : d.Formed) : d.abortAll.Formed := h.completeWhere

theorem setEng (h : d.Formed) {e : Nat} {v : Eng} : (d.setEng e v).Formed := h.frame

theorem modEng (h : d.Formed) {e : Nat} {f : Eng → Eng} : (d.modEng e f).Formed := h.setEng

theorem setMe (h : d.Formed) {e : Nat} {v : Me} : (d.setMe e v).Formed := h.frame

theorem setFacet (h : d.Formed) {f : Nat} {v : Facet} : (d.setFacet f v).Formed := h.frame

theorem modFacet (h : d.Formed) {f : Nat} {g : Facet → Facet} : (d.modFacet f g).Formed := h.setFacet

theorem setPrism (h : d.Formed) {q : Nat} {v : Prism} : (d.setPrism q v).Formed := h.frame

theorem setPair (h : d.Formed) {s : Nat} {v : Pair} : (d.setPair s v).Formed := h.frame

theorem draw (h : d.Formed) : d.draw.Formed := h.frame

/-! ## Fences, device states and the raising of sources -/

theorem dropSigs (h : d.Formed) {e : Nat} : (d.dropSigs e).Formed := h.frame

theorem fenceEngine (h : d.Formed) {e : Nat} : (d.fenceEngine e).Formed := by
  unfold Device.fenceEngine
  exact h.setMe.dropSigs.modEng

theorem fencePrism (h : d.Formed) {q : Nat} : (d.fencePrism q).Formed := .setPrism (.foldl h fun _ _ h => h.fenceEngine)

theorem fenceFacet (h : d.Formed) {f : Nat} : (d.fenceFacet f).Formed := by
  unfold Device.fenceFacet
  exact .modFacet (.foldl h fun _ _ h => h.fenceEngine)

theorem reportEnd (h : d.Formed) : d.reportEnd.Formed := .ifThen h (·.frame)

theorem fence (h : d.Formed) {s : FenceScope} : (d.fence s).Formed := by
  unfold Device.fence
  refine .reportEnd (.frame ?_)
  split
  · exact h.fenceEngine
  · exact h.fencePrism
  · exact h.fenceFacet

theorem blkFence (h : d.Formed) {s : Nat} : (d.blkFence s).Formed := by
  unfold Device.blkFence
  split
  · split
    · exact h.fence
    · exact h.fence
    · exact h.fence
    · exact h.fence
    · exact h
  · exact h

theorem outputsOff (h : d.Formed) : d.outputsOff.Formed := h.frame

theorem withdraw (h : d.Formed) : d.withdraw.Formed := h.frame

theorem cvuSeq (h : d.Formed) : d.cvuSeq.Formed := h.frame

theorem cvuAlive (h : d.Formed) : d.cvuAlive.Formed := h.frame

theorem lockBoot (h : d.Formed) : d.lockBoot.Formed := .ifThen h (·.setBit)

theorem setState (h : d.Formed) {s : DevState} : (d.setState s).Formed := by
  unfold Device.setState
  refine .ite h ?_
  extract_lets _ d1 _ d2 _ d3
  have h1 : d1.Formed := h.lockBoot
  have h2 : d2.Formed := h1.frame
  have h3 : d3.Formed := .ifThen h2 (·.frame)
  exact .ite (.ifThen h3 (·.cvuAlive)) h3.cvuSeq

theorem noteEvent (h : d.Formed) {kind cause : Nat} : (d.noteEvent kind cause).Formed := h.frameNvm

theorem enterSafe (h : d.Formed) {l : List Decision} : (d.enterSafe l).Formed :=
  .ite h (.ifBoth h (·.frame) (·.lockBoot.frame.frame.withdraw.cvuSeq.noteEvent))

theorem decideSafe (h : d.Formed) {cause : Nat} {lockout : Bool} : (d.decideSafe cause lockout).Formed := h.frame

theorem decideFromRun (h : d.Formed) {cause : Nat} {lockout : Bool} : (d.decideFromRun cause lockout).Formed :=
  .ifThen h (·.decideSafe)

theorem safeFromRun (h : d.Formed) {cause : Nat} {lockout : Bool} : (d.safeFromRun cause lockout).Formed :=
  .ifThen h (·.enterSafe)

theorem computeReset (h : d.Formed) : d.computeReset.Formed := ⟨rfl, h.flash⟩

theorem computeOff (h : d.Formed) : d.computeOff.Formed := h.computeReset.frame

theorem enterFatal (h : d.Formed) {source cause : Nat} : (d.enterFatal source cause).Formed :=
  .ite h (.abortAll (.frame (.outputsOff (.setReg (.ifThen h.lockBoot.frame (·.setFld))))))

theorem askWarm (h : d.Formed) {cause : Nat} : (d.askWarm cause).Formed := .ifElse h (·.frame.outputsOff)

theorem chip (h : d.Formed) {s cause : Nat} : (d.chip s cause).Formed := .ifBoth h (·.enterSafe.computeOff) (·.askWarm)

theorem logSwap (h : d.Formed) {i : Nat} : (d.logSwap i).Formed := .ifThen h (·.setReg.setReg)

theorem logSink (h : d.Formed) {i n : Nat} : (d.logSink i n).Formed := by
  induction n generalizing d i with
  | zero => exact h
  | succ n ih => exact ih h.logSwap

theorem logCycle (h : d.Formed) : d.logCycle.1.Formed := h.frame

theorem fltLog (h : d.Formed) {s cls taken : Nat} {forced wire : Bool} : (d.fltLog s cls taken forced wire).Formed :=
  h.setReg.setReg.setReg.logCycle.logSink.setFld

theorem intNmi (h : d.Formed) {r : Nat} : (d.intNmi r).Formed := .ifThen (.ifThen h (·.frame.fire)) (·.frame)

theorem noteSource (h : d.Formed) {s cls cause : Nat} : (d.noteSource s cls cause).Formed := by
  unfold Device.noteSource
  extract_lets d1 d2 d3
  have h1 : d1.Formed := .ifBoth h (·.count) (·.count)
  have h2 : d2.Formed := h1.setReg
  have h3 : d3.Formed := h2.event
  exact .ite h3.event (.ifThen h3 (·.event))

theorem register (h : d.Formed) {s : Nat} {forced wire : Bool} : (d.register s forced wire).Formed := by
  unfold Device.register
  split
  · exact h
  · refine .ite h ?_
    extract_lets _ _ _ d1 d2 d3 _ d5
    have h1 : d1.Formed := h.noteSource
    have h2 : d2.Formed := .ifElse h1 (·.fltLog)
    have h3 : d3.Formed := .ifElse h2 (·.intNmi)
    clear_value d3
    refine .ite h3 ?_
    have h5 : d5.Formed := .ifThen h3 (·.frame)
    clear_value d5
    exact .ite h5.enterFatal (.ite h5.chip (.ifThen h5 (·.blkFence)))

theorem chkRaise (h : d.Formed) {s : Nat} : (d.chkRaise s).Formed := h.register

theorem pairRaise (h : d.Formed) {s : Nat} : (d.pairRaise s).Formed := .ifElse h (·.setPair.setBit)

/-! ## Performance counters (R358 to R374) -/

theorem setCnt (h : d.Formed) {u i : Nat} {c : PrfCnt} : (d.setCnt u i c).Formed := h.frame

theorem irqSeen (h : d.Formed) : d.irqSeen.Formed := .ifElse h (·.frame)

theorem cntAdd (h : d.Formed) {u i n : Nat} : (d.cntAdd u i n).Formed := .ite h (.ifBoth h (·.setCnt) (·.irqSeen.setCnt.raise))

theorem perf (h : d.Formed) {u ev n : Nat} : (d.perf u ev n).Formed := .ite h (.foldl h fun _ _ h => .ifThen h (·.cntAdd))

theorem cntClear (h : d.Formed) {u : Nat} : (d.cntClear u).Formed := .foldl h fun _ _ h => h.setCnt

theorem selWrite (h : d.Formed) {u i : Nat} {v : Word} {wraps : Bool} : (d.selWrite u i v wraps).Formed :=
  .ite h (.ifThen (.setCnt (.setReg (.ifThen h (·.setBit)))) (·.raise))

theorem tagDone (h : d.Formed) {r : TagRec} : (d.tagDone r).Formed := .ifBoth h (·.frame) (·.frame.raise)

theorem stampWith (h : d.Formed) {tag : Option Nat} {pt v : Nat} : (d.stampWith tag pt v).Formed := by
  unfold Device.stampWith
  split
  · exact h
  · exact .ifBoth h (·.frame.tagDone) (·.frame)

theorem stamp (h : d.Formed) {tag : Option Nat} {pt : Nat} : (d.stamp tag pt).Formed := h.stampWith

theorem tagsAbandon (h : d.Formed) : d.tagsAbandon.Formed := .foldl h.frame fun _ _ h => h.tagDone

theorem tagOpen (h : d.Formed) {e op a : Nat} : (d.tagOpen e op a).1.Formed := h.frame

theorem snapLatch (h : d.Formed) {cause delay : Nat} : (d.snapLatch cause delay).Formed := h.frame

theorem snapEnd (h : d.Formed) : d.snapEnd.Formed := by
  unfold Device.snapEnd
  simp only
  refine .ite h ?_
  split
  · exact h.frame.frame
  · exact h.frame

theorem snapJoin (h : d.Formed) {cause : Nat} : (d.snapJoin cause).Formed := by
  unfold Device.snapJoin
  split
  · exact h.frame
  · exact h

theorem tickSnapshot (h : d.Formed) : d.tickSnapshot.Formed := .ite h (.ite h.snapJoin (.ifBoth h (·.frame) (·.snapLatch)))

theorem snapRequest (h : d.Formed) : d.snapRequest.Formed := .ite h (.ite h.snapJoin (.ifBoth h (·.raise) (·.snapLatch)))

theorem snapDone (h : d.Formed) : d.snapDone.Formed := by
  unfold Device.snapDone
  split
  · exact h
  · extract_lets d1 _ d2 _ d3 d4
    have h1 : d1.Formed := h.setReg
    have h2 : d2.Formed := h1.frame
    have h3 : d3.Formed := .ite h2 (.ifBoth h2 (·.writeMem) (·.raise))
    have h4 : d4.Formed := h3.raise
    split
    · exact h4.frame.snapLatch
    · exact h4

/-! ## Flits that leave -/

theorem setPort (h : d.Formed) {p : Nat} {v : DskPort} : (d.setPort p v).Formed := h.frame

theorem putOut (h : d.Formed) {p : Nat} {x : TxFlit} : (d.putOut p x).Formed := h.frame.perf

theorem putSeq (h : d.Formed) {p : Nat} {x : TxFlit} : (d.putSeq p x).Formed := h.setPort.putOut

theorem pushFlit (h : d.Formed) {p : Nat} {x : TxFlit} : (d.pushFlit p x).Formed :=
  .ite h.putOut (.ifBoth h (·.putSeq) (·.setPort))

theorem pushWait (h : d.Formed) {p : Nat} : (d.pushWait p).Formed := by
  unfold Device.pushWait
  simp only
  exact .iterN h (fun _ _ h => by
    split
    · exact .ifThen h (·.setPort.putSeq)
    · exact h
)

theorem sendOn (h : d.Formed) {p type dst addr len : Nat} {poison : BitVec 8} {payload : List Byte} :
    (d.sendOn p type dst addr len poison payload).Formed :=
  h.pushFlit

theorem unreach (h : d.Formed) : d.unreach.Formed := h.incr.raise

theorem sendTo (h : d.Formed) {type dst addr len : Nat} {poison : BitVec 8} {payload : List Byte} :
    (d.sendTo type dst addr len poison payload).Formed := by
  unfold Device.sendTo
  split
  · exact h.sendOn
  · exact h

theorem remoteSignal (h : d.Formed) {dst idx amount : Nat} : (d.remoteSignal dst idx amount).Formed :=
  .ifBoth h (·.sendTo) (·.unreach)

end Device.Formed
end Sys2Proof.Machine
end

section
/-! What the engines do keeps the canonical form of memory: operands, control, the matrix and vector engines and the transfers. -/

namespace Sys2Proof.Machine
namespace Device.Formed
variable {d : Device}

/-! ## Operands, and commands that start and retire -/

theorem readTagAs (h : d.Formed) {k : Reader} {a n : Nat} : (d.readTagAs k a n).1.Formed :=
  .foldlFst h (by
    intro _ _ h
    split
    · exact h
    · exact h.readAs
    · exact h.readAs)

theorem readTag (h : d.Formed) {a n : Nat} : (d.readTag a n).1.Formed := h.readTagAs

theorem writeTag (h : d.Formed) {a : Nat} {l : Marked} : (d.writeTag a l).Formed := .foldl h fun _ _ h => h.writeMem

theorem noteWrite (h : d.Formed) {e w : Nat} : (d.noteWrite e w).Formed := by
  unfold Device.noteWrite
  extract_lets d1
  have h1 : d1.Formed := .ifElse h (·.frame)
  split
  · exact h1.frame
  · exact h1.frame

theorem raceWord (h : d.Formed) {e w : Nat} : (d.raceWord e w).1.Formed := by
  unfold Device.raceWord
  simp only
  have h1 : (d.noteWrite e w).Formed := h.noteWrite
  revert h1
  generalize d.noteWrite e w = d1
  intro h1
  split
  · exact h1
  · split
    · refine .ifElse ?_ (·.writeTag)
      split
      · exact .ifElse h1 (·.raise)
      · exact h1.perf
      · exact h1
    · split
      · exact .ifElse h1 (·.raise)
      · exact h1.perf
      · exact h1

theorem engWrite (h : d.Formed) {e a : Nat} {l : Marked} : (d.engWrite e a l).Formed :=
  .ite h.writeTag (.foldl h fun _ _ h => .ifThen h.raceWord (·.writeTag))

theorem setCtr (h : d.Formed) {c : Ctr} {v : Nat} : (d.setCtr c v).Formed := h.setReg

theorem illegal (h : d.Formed) {e c : Nat} : (d.illegal e c).Formed := h.modEng.setReg.raise.pairRaise

theorem notePoison (h : d.Formed) {e n : Nat} : (d.notePoison e n).Formed := .ifElse h (·.raise.perf)

theorem settle (h : d.Formed) {e : Nat} : (d.settle e).Formed := by
  unfold Device.settle
  refine .ite h ?_
  split
  · exact h
  · exact .ite h.illegal (.ifThen h (·.illegal))

theorem signalOf (h : d.Formed) {e : Nat} {w : CmdWord} : (d.signalOf e w).Formed :=
  .ite h (.ifBoth h (·.remoteSignal) (·.frame))

theorem cmdDone (h : d.Formed) {e : Nat} {tag : Option Nat} {w : CmdWord} : (d.cmdDone e tag w).Formed :=
  .ifElse h.perf.stampWith (·.stampWith)

theorem markLeaves (h : d.Formed) {e : Nat} {w : CmdWord} : (d.markLeaves e w).Formed := .ifElse h (·.frame)

theorem retireAct (h : d.Formed) {e : Nat} {a : Act} : (d.retireAct e a).Formed :=
  .ifThen (.signalOf (.ifThen (.ifThen h (·.cmdDone)) (·.markLeaves))) (·.stampWith)

theorem retireN (h : d.Formed) {e n : Nat} : (d.retireN e n).Formed := by
  induction n generalizing d with
  | zero => exact h
  | succ n ih =>
    unfold Device.retireN
    split
    · exact .ifThen h fun h => ih h.modEng.retireAct
    · exact h

theorem retire (h : d.Formed) {e : Nat} : (d.retire e).Formed := h.retireN

theorem push (h : d.Formed) {e : Nat} {a : Act} : (d.push e a).Formed := h.modEng

theorem pushDone (h : d.Formed) {e : Nat} {g : FCmd} {w : CmdWord} : (d.pushDone e g w).Formed := h.cmdDone.push.retire

theorem finish (h : d.Formed) {e : Nat} {p : Act → Bool} : (d.finish e p).Formed := by
  unfold Device.finish
  split
  · exact h
  · split
    · exact h
    · exact h.modEng.cmdDone.retire

theorem popCmd (h : d.Formed) {e : Nat} : (d.popCmd e).Formed := h.modEng

theorem gate (h : d.Formed) {e : Nat} {w : CmdWord} : (d.gate e w).1.Formed := by
  unfold Device.gate
  split
  · exact h
  · simp only
    split
    · exact h.setCtr
    · simp only
      exact h.modEng

theorem start (h : d.Formed) {e op : Nat} {causes : Device → CmdWord → List Nat} {body : Device → FCmd → CmdWord → Device}
    (hbody : ∀ d g w, d.Formed → (body d g w).Formed) :
    (d.start e op causes body).Formed := by
  unfold Device.start
  simp only
  split
  · exact h
  · split
    · exact .ite (.settle (hbody _ _ _ h.gate.popCmd.stamp.stamp)) h.gate
    · exact h.illegal

/-! ## Control commands -/

theorem enqueue (h : d.Formed) {e a : Nat} {w : CmdWord} {bad : Bool} : (d.enqueue e a w bad).Formed := by
  unfold Device.enqueue
  simp only
  refine .modEng ?_
  split
  · exact h.setEng.tagOpen
  · exact h.setEng

theorem fetchCmd (h : d.Formed) {e : Nat} : (d.fetchCmd e).Formed := by
  unfold Device.fetchCmd
  split
  · exact h.readMem.enqueue.settle
  · exact h

theorem pushOrdered (h : d.Formed) {e : Nat} {g : FCmd} {w : CmdWord} : (d.pushOrdered e g w).Formed := h.push.retire

theorem endBody (h : d.Formed) {e : Nat} {g : FCmd} {w : CmdWord} : (d.endBody e g w).Formed :=
  h.cmdDone.retireAct.modEng.perf.reportEnd

theorem runEnd (h : d.Formed) {e : Nat} : (d.runEnd e).Formed := by
  unfold Device.runEnd
  refine .ite (.start h (fun _ _ _ h => h.endBody)) ?_
  split
  · exact h
  · split
    · exact .ifThen h.gate (·.modEng)
    · exact h.illegal

theorem runWait (h : d.Formed) {e : Nat} : (d.runWait e).Formed := .start h (fun _ _ _ h => h.pushDone)

theorem loopBody (h : d.Formed) {e : Nat} {g : FCmd} {w : CmdWord} : (d.loopBody e g w).Formed := by
  unfold Device.loopBody
  refine .pushDone ?_
  split
  · exact .ite (.ifBoth h (·.setEng) (·.setEng)) (.ifElse h (·.setEng))
  · exact .ifElse h (·.setEng)

theorem runLoop (h : d.Formed) {e : Nat} : (d.runLoop e).Formed := by
  unfold Device.runLoop
  split
  · exact .start h (fun _ _ _ h => h.loopBody)
  · exact h

theorem tokenOvf (h : d.Formed) {l : List SigMsg} : (d.tokenOvf l).Formed := .foldl h fun _ _ h => .ifThen h (·.raise.pairRaise)

theorem addTokens (h : d.Formed) {c : Ctr} {l : List SigMsg} : (d.addTokens c l).Formed :=
  .ifBoth h (·.setCtr.tokenOvf) (·.setCtr)

theorem release (h : d.Formed) {e : Nat} : (d.release e).Formed := by
  unfold Device.release
  refine .ite h.modEng.modEng.setMe ?_
  split
  · exact .ifThen h.modEng (·.runWait)
  · exact h.modEng

theorem retry (h : d.Formed) {e : Nat} : (d.retry e).Formed := by
  unfold Device.retry
  split
  · exact .ifThen h (·.setCtr.release)
  · exact h

theorem releaseAll (h : d.Formed) {c : Ctr} : (d.releaseAll c).Formed := .foldl h fun _ _ h => .ifThen h (·.retry)

theorem tokenArrival (h : d.Formed) {c : Ctr} : (d.tokenArrival c).Formed := by
  unfold Device.tokenArrival
  refine .ite h ?_
  refine .releaseAll ?_
  split
  · exact h.frame.addTokens.perf
  · exact h.frame.addTokens

theorem applyRepair (h : d.Formed) {e : Nat} : (d.applyRepair e).Formed := .ifElse h (·.setReg.modEng)

theorem blockReset (h : d.Formed) {e : Nat} : (d.blockReset e).Formed := .applyRepair (.ifElse h.frame.cntClear (·.setMe.modEng))

/-! ## Matrix engines -/

theorem readElems (h : d.Formed) {f a n : Nat} {want : Nat → Bool} : (d.readElems f a n want).dev.Formed :=
  .foldlFst h (by
    intro _ _ h
    split
    · exact h.readTagAs
    · exact h)

theorem readOne (h : d.Formed) {f a c : Nat} : (d.readOne f a c).dev.Formed := h.readTagAs

theorem readAct (h : d.Formed) {w : CmdWord} {g : Option Agd} {m : Nat} : (d.readAct w g m).dev.Formed := by
  unfold Device.readAct
  split
  · exact h.readElems
  · refine .foldlRead h fun _ _ h => ?_
    split
    · exact h
    · simp only
      exact h.readOne

theorem readWeights (h : d.Formed) {e : Nat} {w : CmdWord} : (d.readWeights e w).1.Formed := by
  unfold Device.readWeights
  simp only
  refine .perf ?_
  refine .foldlFst ?_ fun _ _ h => ?_
  · refine .foldlFst h fun _ _ h => ?_
    simp only
    exact h.readElems
  · simp only
    exact h.readElems

theorem formRow (h : d.Formed) {e : Nat} {x : MeCmd} {g : Weights} {biasBad : Bool} {m : Nat} :
    (d.formRow e x g biasBad m).1.Formed := by
  unfold Device.formRow
  refine .perf ?_
  split
  · exact h.readAct.readElems
  · exact h.readAct

theorem readBias (h : d.Formed) {e : Nat} {w : CmdWord} : (d.readBias e w).1.Formed := by
  unfold Device.readBias
  split
  · exact h
  · exact h.readElems.perf

theorem meBody (h : d.Formed) {e : Nat} {g : FCmd} {w : CmdWord} : (Device.meBody e d g w).Formed := by
  unfold Device.meBody
  extract_lets _ _ _ _ _ _ d1
  have h1 : d1.Formed := .ifThen h (·.setCtr)
  clear_value d1
  simp only
  refine .ifElse (.stampWith (.push (.setMe ?_))) (·.modEng)
  split
  · exact h1.readWeights
  · exact h1

theorem runMm (h : d.Formed) {e op : Nat} : (d.runMm e op).Formed := by
  unfold Device.runMm
  simp only
  refine .ite h ?_
  split
  · exact h
  · split
    · exact h.popCmd.meBody.settle
    · exact h.illegal

theorem agdBody (h : d.Formed) {e : Nat} {g : FCmd} {w : CmdWord} : (Device.agdBody e d g w).Formed := h.setMe.pushDone

theorem startStream (h : d.Formed) {e i : Nat} {x : MeCmd} : (d.startStream e i x).Formed := by
  unfold Device.startStream
  simp only
  refine .stampWith (.stampWith (.stampWith (.ifThen (.setMe ?_) (·.perf))))
  refine .foldlFst ?_ fun _ _ h => ?_
  · exact h.readBias
  · simp only
    exact h.formRow

theorem streamStart (h : d.Formed) {e : Nat} : (d.streamStart e).Formed := by
  unfold Device.streamStart
  simp only
  split
  · exact h
  · split
    · exact .ifThen h (·.startStream.settle)
    · exact h

theorem drainWord (h : d.Formed) {e mode r n : Nat} {int : Bool} {bias y : Word} {bad keep : Bool} :
    (d.drainWord e mode r n int bias y bad keep).Formed := by
  unfold Device.drainWord
  refine .engWrite ?_
  split
  · exact h.readAs
  · exact h

theorem drainRow (h : d.Formed) {e : Nat} {w : CmdWord} {bias : List Word} {r : Nat} {y : RowRes} {init : Bool} :
    (d.drainRow e w bias r y init).Formed :=
  .drainWord (.foldl h fun _ _ h => h.drainWord)

theorem mismatch (h : d.Formed) {e : Nat} {x : MeCmd} {r : Nat} : (d.mismatch e x r).Formed :=
  .ifElse (.raise (.incr (.incr (.ifThen h (·.setReg.setReg))))) (·.pairRaise)

theorem compare (h : d.Formed) {e : Nat} {x : MeCmd} {r : Nat} {y : RowRes} : (d.compare e x r y).1.Formed := by
  unfold Device.compare
  simp only
  split
  · exact h.incr.raise
  · split
    · exact h.incr
    · exact h.perf
    · exact h.perf.mismatch

theorem rowWrite (h : d.Formed) {e : Nat} : (d.rowWrite e).Formed := by
  unfold Device.rowWrite
  simp only
  split
  · exact h
  · split
    · split
      · exact h.compare.drainRow.setMe
      · exact h
    · exact h

theorem initRows (h : d.Formed) {e : Nat} {x : MeCmd} : (d.initRows e x).Formed := by
  unfold Device.initRows
  simp only
  refine .ite h (.perf ?_)
  refine .foldlFst ?_ fun _ _ h => ?_
  · exact h.readBias
  · exact h.compare.drainRow

theorem meCommandDone (h : d.Formed) {e : Nat} : (d.meCommandDone e).Formed := by
  unfold Device.meCommandDone
  simp only
  split
  · exact h
  · exact .ite h (.settle (.finish (.ifThen h.initRows.setMe (·.clearBit))))

theorem armInjection (h : d.Formed) {e : Nat} : (d.armInjection e).Formed := .ifBoth h (·.event) (·.raise)

/-! ## Vector engines -/

theorem vRead (h : d.Formed) {e : Nat} {int : Bool} {f a n : Nat} : (d.vRead e int f a n).1.Formed := h.readTag.notePoison

theorem vWords (h : d.Formed) {e : Nat} {int : Bool} {a n : Nat} : (d.vWords e int a n).1.Formed := h.vRead

theorem vWordsIf (h : d.Formed) {p : Prop} {inst : Decidable p} {e a n : Nat} {int : Bool} {l : List VElem} :
    ((if p then d.vWords e int a n else (d, l)).1).Formed := by
  split
  · exact h.vWords
  · exact h

theorem vPredRow (h : d.Formed) {e a n : Nat} : (d.vPredRow e a n).1.Formed := h.readTag.notePoison

theorem part {x : VAcc} (h : x.dev.Formed) {a mask v : Nat} {bad : Bool} : (x.part a mask v bad).dev.Formed := by
  unfold VAcc.part
  split
  · exact h
  · split
    · exact h
    · exact h.readMem

theorem elems {x : VAcc} (h : x.dev.Formed) {int : Bool} {t : Nat} {sat : Bool} {a : Nat} {l : List (Option VElem)} :
    (x.elems int t sat a l).dev.Formed := by
  unfold VAcc.elems
  split
  · exact .foldlAcc h fun _ _ h => h.part
  · exact .foldlAcc h (by
    intro _ _ h
    split
    · exact h
    · exact h)

theorem mask {x : VAcc} (h : x.dev.Formed) {a : Nat} {l : List (Option (Bool × Bool))} : (x.mask a l).dev.Formed :=
  .foldlAcc h fun _ _ h => h.part

theorem ints {x : VAcc} (h : x.dev.Formed) {a : Nat} {l : List (ℤ × Bool)} : (x.ints a l).dev.Formed := h.elems

theorem vRow (h : d.Formed) {e : Nat} {w : CmdWord} {r : Nat} : (d.vRow e w r).1.Formed := h.vRead

theorem vS1 (h : d.Formed) {e : Nat} {w : CmdWord} {r : Nat} : (d.vS1 e w r).1.Formed := by
  unfold Device.vS1
  split
  · exact h
  · split
    · exact h.vWords
    · exact h.vWords

theorem vPreds (h : d.Formed) {e : Nat} {w : CmdWord} {r : Nat} : (d.vPreds e w r).1.Formed := by
  unfold Device.vPreds
  split
  · exact h.vPredRow
  · exact h

theorem vewRow {x : VAcc} (h : x.dev.Formed) {e : Nat} {w : CmdWord} {r : Nat} : (vewRow e w r x).dev.Formed := by
  unfold Machine.vewRow
  simp only
  split
  · exact .mask h.vRow.vS1.vPreds
  · exact .elems h.vRow.vS1.vPreds

theorem vactRow {x : VAcc} (h : x.dev.Formed) {e : Nat} {w : CmdWord} {tbl : Marked} {r : Nat} :
    (vactRow e w tbl r x).dev.Formed := by
  unfold Machine.vactRow
  exact .elems (.vPreds (.vWordsIf h.vRow))

theorem vnormRow {x : VAcc} (h : x.dev.Formed) {e : Nat} {w : CmdWord} {r : Nat} : (vnormRow e w r x).dev.Formed := by
  unfold Machine.vnormRow
  exact .elems (.vWordsIf (.vWordsIf h.vRow))

theorem vAll (h : d.Formed) {e : Nat} {w : CmdWord} : (d.vAll e w).1.Formed := .foldlFst h fun _ _ h => h.vRow

theorem vpoolAll {x : VAcc} (h : x.dev.Formed) {e : Nat} {w : CmdWord} : (vpoolAll e w x).dev.Formed :=
  .foldlAcc h.vAll fun _ _ h => h.elems

theorem vresizeAll {x : VAcc} (h : x.dev.Formed) {e : Nat} {w : CmdWord} : (vresizeAll e w x).dev.Formed :=
  .foldlAcc h.vAll fun _ _ h => h.elems

theorem vredRow {x : VAcc} (h : x.dev.Formed) {e : Nat} {w : CmdWord} {r : Nat} : (vredRow e w r x).dev.Formed := h.vRow.elems

theorem vargmaxRow {x : VAcc} (h : x.dev.Formed) {e : Nat} {w : CmdWord} {r : Nat} : (vargmaxRow e w r x).dev.Formed :=
  h.vRow.elems

theorem vtopkRow {x : VAcc} (h : x.dev.Formed) {e : Nat} {w : CmdWord} {r : Nat} : (vtopkRow e w r x).dev.Formed :=
  h.vRow.elems.ints

theorem vcompactAll {x : VAcc} (h : x.dev.Formed) {e : Nat} {w : CmdWord} : (Machine.vcompactAll e w x).dev.Formed := by
  unfold Machine.vcompactAll
  simp only
  refine .ints ?_
  refine .foldlAcc ?_ fun _ _ h => h.elems
  simp only
  refine .foldlFst ?_ fun _ _ h => ?_
  · exact h.vAll
  · simp only
    exact h.vPredRow

theorem vqmxRow {x : VAcc} (h : x.dev.Formed) {e : Nat} {w : CmdWord} {r : Nat} : (vqmxRow e w r x).dev.Formed := h.vRow

theorem overRows {x : VAcc} (h : x.dev.Formed) {w : CmdWord} {row : Nat → VAcc → VAcc} (hrow : ∀ r x, x.dev.Formed →
    (row r x).dev.Formed) :
    (overRows w row x).dev.Formed :=
  .foldlAcc h fun _ _ h => hrow _ _ h

theorem veBody (h : d.Formed) {e : Nat} {f : CmdWord → VAcc → VAcc} {g : FCmd} {w : CmdWord} (hf : ∀ w x, x.dev.Formed →
    (f w x).dev.Formed) :
    (Device.veBody e f d g w).Formed :=
  .push (.modEng (.perf (hf _ _ h)))

theorem runVe (h : d.Formed) {e op : Nat} {f : CmdWord → VAcc → VAcc} (hf : ∀ w x, x.dev.Formed → (f w x).dev.Formed) :
    (d.runVe e op f).Formed :=
  .start h (fun _ _ _ h => .veBody h hf)

theorem veWrite (h : d.Formed) {e : Nat} {out : List OutByte} : (d.veWrite e out).Formed := .foldl h fun _ _ h => h.engWrite

theorem veComplete (h : d.Formed) {e : Nat} : (d.veComplete e).Formed := .ifElse h (·.veWrite.modEng.finish.settle)

/-! ## Transfers -/

theorem convRow (h : d.Formed) {e : Nat} {w : CmdWord} {r lo n : Nat} : (d.convRow e w r lo n).1.Formed :=
  h.readTag.perf.notePoison

theorem gatherIdx (h : d.Formed) {e : Nat} {w : CmdWord} {r : Nat} {first : Bool} : (d.gatherIdx e w r first).1.Formed := by
  unfold Device.gatherIdx
  simp only
  split
  · exact .ifThen (.ifThen h (·.sense)) (·.notePoison)
  · split
    · exact .ifThen (.ifThen h (·.sense)) (·.raise.pairRaise)
    · exact .ifThen h (·.sense)

theorem reqData (h : d.Formed) {e : Nat} {w : CmdWord} {i : Nat} : (d.reqData e w i).1.Formed := by
  unfold Device.reqData
  have hidx := h.gatherIdx (e := e) (w := w) (r := (reqAt w i).1) (first := decide ((reqAt w i).2.1 = 0))
  revert hidx
  simp only
  generalize d.gatherIdx e w (reqAt w i).1 (decide ((reqAt w i).2.1 = 0)) = y
  intro hidx
  obtain ⟨u, j⟩ := y
  split
  · exact h.convRow
  · split
    · refine .foldlFst h fun _ _ h => ?_
      simp only
      exact h.convRow
    · split
      · cases j with
        | none => 
          simp only
          exact hidx
        | some j =>
          simp only
          exact hidx.readTag.notePoison
      · split
        · exact h.readTag.notePoison
        · exact h

theorem reqWrite (h : d.Formed) {e : Nat} {w : CmdWord} {i : Nat} {l : Marked} : (d.reqWrite e w i l).Formed :=
  .foldl h fun _ _ h => h.engWrite

theorem noteIssue (h : d.Formed) {e k i : Nat} {keep remote : Bool} {ready : Option Marked} :
    (d.noteIssue e k i keep remote ready).Formed :=
  h.modEng.perf

theorem dropReq (h : d.Formed) {e k : Nat} {r : Request} : (d.dropReq e k r).Formed := h.modEng.perf

theorem flushReady (h : d.Formed) {e n : Nat} : (d.flushReady e n).Formed := by
  induction n generalizing d with
  | zero => exact h
  | succ n ih =>
    unfold Device.flushReady
    simp only
    split
    · exact h
    · exact ih h.reqWrite.dropReq

theorem issueOne (h : d.Formed) {e k : Nat} {a : Act} : (d.issueOne e k a).Formed := by
  unfold Device.issueOne
  simp only
  split
  · exact h.noteIssue
  · exact .ite (.ifBoth (.unreach (.ifThen h (·.sense))) (·.noteIssue.flushReady) (·.noteIssue)) (.ifBoth (.frame
      (.noteIssue (.ifThen h (·.sense)))) (·.sendTo) (·.reqData.sendTo))

theorem issueN (h : d.Formed) {e n : Nat} : (d.issueN e n).Formed := by
  induction n generalizing d with
  | zero => exact h
  | succ n ih =>
    unfold Device.issueN
    refine .ite h ?_
    split
    · exact h
    · split
      · exact ih h.issueOne
      · exact h

theorem finishXfers (h : d.Formed) {e n : Nat} : (d.finishXfers e n).Formed := by
  induction n generalizing d with
  | zero => exact h
  | succ n ih => exact .ifThen h fun h => ih h.finish

theorem finishDue (h : d.Formed) {e : Nat} : (d.finishDue e).Formed := h.finishXfers.settle

theorem issue (h : d.Formed) {e : Nat} : (d.issue e).Formed := .finishDue (.ifElse h (·.issueN))

theorem moverBody (h : d.Formed) {e : Nat} {g : FCmd} {w : CmdWord} : (Device.moverBody e d g w).Formed := h.push.issue

theorem reqDone (h : d.Formed) {e k : Nat} {r : Request} : (d.reqDone e k r).Formed := h.dropReq.flushReady.issue

theorem requestComplete (h : d.Formed) {e i : Nat} : (d.requestComplete e i).Formed := by
  unfold Device.requestComplete
  simp only
  split
  · exact h
  · refine .ite h ?_
    split
    · exact h.reqData.reqWrite.reqDone
    · exact h.setNotes.modEng

theorem decodeComplete (h : d.Formed) {b : Nat} : (d.decodeComplete b).Formed := .ifThen h (·.decodeSpan)

theorem remoteDone (h : d.Formed) {q : RemReq} {l : Marked} : (d.remoteDone q l).Formed := by
  unfold Device.remoteDone
  split
  · exact h
  · exact .ifBoth h (·.notePoison.modEng.flushReady.issue) (·.reqDone)

end Device.Formed
end Sys2Proof.Machine
end

section
/-! Background work, the host's requests, check values, the core pair and time keep the canonical form of memory and flash. -/

namespace Sys2Proof.Machine
namespace Device.Formed
variable {d : Device}

/-! ## Wear of the flash -/

theorem setBlk (h : d.Formed) {p : Nat} {b : Blk} : (d.setBlk p b).Formed := h.frameNvm

theorem eraseBlk (h : d.Formed) {p : Nat} : (d.eraseBlk p).Formed := h.setBlk

theorem putBlk (h : d.Formed) {n : Nat} : (d.putBlk n).Formed := by
  unfold Device.putBlk
  split
  · exact h
  · refine .setBlk ?_
    split
    · exact h.eraseBlk
    · exact h

theorem levelWear (h : d.Formed) : d.levelWear.Formed := by
  unfold Device.levelWear
  split
  · exact h
  · split
    · exact .ifThen h (·.putBlk)
    · exact h

theorem wearPut (h : d.Formed) {a n : Nat} : (d.wearPut a n).Formed := .foldl h fun _ _ h => h.putBlk.levelWear

theorem wearErase (h : d.Formed) {a n : Nat} : (d.wearErase a n).Formed :=
  .foldl h (by
    intro _ _ h
    refine .ite ?_ h
    split
    · exact h.eraseBlk
    · exact h)

theorem retireBlk (h : d.Formed) {p : Nat} : (d.retireBlk p).Formed := by
  unfold Device.retireBlk
  refine .ite h ?_
  refine .raise (.count ?_)
  split
  · exact h.setBlk.putBlk
  · exact h.setBlk

theorem retireBlks (h : d.Formed) {l : List Nat} : (d.retireBlks l).Formed := .foldl h fun _ _ h => h.retireBlk

theorem flashFirst (h : d.Formed) {fl : FlashTrain} : (d.flashFirst fl).Formed :=
  .ite h (.foldl h.frameNvm fun _ _ h => h.setBlk)

/-! ## Background work -/

theorem setBg (h : d.Formed) {c : BgClass} {b : Bg} : (d.setBg c b).Formed := h.frame

theorem bgUrgent (h : d.Formed) {c : BgClass} {hot : Bool} : (d.bgUrgent c hot).Formed := .ifElse h (·.setBg.raise)

theorem bgForce (h : d.Formed) {c : BgClass} {hot : Bool} : (d.bgForce c hot).Formed := .ifElse h (·.setBg.raise.incr.pairRaise)

theorem bgDone (h : d.Formed) {c : BgClass} : (d.bgDone c).Formed := h.setBg

theorem lapDone (h : d.Formed) : d.lapDone.Formed := h.setReg.setNotes.bgDone

theorem passDone (h : d.Formed) {q : Nat} : (d.passDone q).Formed := h.setPrism.incr.bgDone

theorem nvmUe (h : d.Formed) : d.nvmUe.Formed := h.incr.raise.pairRaise

theorem flashMet (h : d.Formed) {r : FlashRead} : (d.flashMet r).Formed := .ifThen (.ifThen h.count.perf (·.raise)) (·.nvmUe)

theorem flashReport (h : d.Formed) {r : BgReport} : (d.flashReport r).Formed :=
  .ifThen (.ite h.flashMet.retireBlks (.raise (.foldl h.flashMet.retireBlks fun _ _ h => h.putBlk.levelWear))) (·.setReg.frameNvm)

theorem unitDone (h : d.Formed) {c : BgClass} {r : BgReport} : (d.unitDone c r).Formed := by
  unfold Device.unitDone
  split
  · exact .ifThen h (·.lapDone)
  · exact h.passDone
  · exact h.flashReport.bgDone
  · exact h.bgDone

theorem segBegin (h : d.Formed) {q : Nat} : (d.segBegin q).Formed := h.setPrism

theorem segStart (h : d.Formed) {q : Nat} : (d.segStart q).Formed := by
  unfold Device.segStart
  refine .ite h ?_
  refine .ite h.incr ?_
  split
  · exact .ifThen h (·.segBegin)
  · exact .ite h.segBegin (.ifThen h (·.segBegin.frame))
  · exact .ifElse h (·.segBegin.setPrism)

theorem segFence (h : d.Formed) {q n : Nat} : (d.segFence q n).Formed := by
  unfold Device.segFence
  refine .ite h.fenceEngine.raise.pairRaise (.pairRaise ?_)
  exact .ite h.fencePrism (.ite h.fenceEngine h.fenceEngine.fenceEngine)

theorem segEnd (h : d.Formed) {q : Nat} {r : SegResult} : (d.segEnd q r).Formed := by
  unfold Device.segEnd
  split
  · exact h
  · refine .foldl ?_ fun _ _ h => h.retry.issue
    split
    · exact .ifBoth h.setPrism (·.passDone) (·.setPrism)
    · exact h.setPrism.setPrism.segFence.reportEnd

/-! ## Facets, scrubbing and the memory of the host -/

theorem facetLose (h : d.Formed) {f : Nat} : (d.facetLose f).Formed :=
  .cntClear (.foldl (.foldl (.frame (.foldl (.setNotes (.frame (.wipeFacet (.foldl h fun _ _ h => h.setPair.setBit))))
    fun _ _ h => h.dropSigs)) fun _ _ h => h.setPrism.cntClear) fun _ _ h => h.cntClear.modEng)

theorem ringStop (h : d.Formed) {f : Nat} : (d.ringStop f).Formed := .ifThen h (·.frame.raise)

theorem facetOff (h : d.Formed) {f : Nat} : (d.facetOff f).Formed := h.ringStop.facetLose.modFacet

theorem facetOn (h : d.Formed) {f : Nat} : (d.facetOn f).Formed := .foldl h.facetLose.modFacet fun _ _ h => h.applyRepair

theorem facetZeroed (h : d.Formed) {f : Nat} : (d.facetZeroed f).Formed := .ifThen h (·.modFacet)

theorem drainOldest (h : d.Formed) {c : Nat} : (d.drainOldest c).Formed := by
  unfold Device.drainOldest
  split
  · exact h.drain
  · exact h

theorem fenceStart (h : d.Formed) : d.fenceStart.Formed := h.setBit

theorem fenceEnd (h : d.Formed) : d.fenceEnd.Formed := .ifThen h (·.memDrainAll.setBit)

theorem poisonSpan (h : d.Formed) {b : Nat} : (d.poisonSpan b).Formed := by
  have hsyn (l : List Nat) (hm : d.mem.wf = true) :
      (l.foldl (fun m k => m.setSyn (spanAddr b k) (patAt (spanAddr b k))) d.mem).wf = true :=
    foldl_counted (P := fun _ (m : MemSys) => m.wf = true) (fun _ _ _ => MemSys.wf_setSyn _ _) l (n := 0) hm
  exact .memSrc (.memLog (.raise (.raise (.count (h.setMem fun hm => MemSys.wf_setSpan _ _ (hsyn _ hm))))))

theorem scrubClean (h : d.Formed) {b : Nat} : (d.scrubClean b).Formed := by
  unfold Device.scrubClean
  refine .ite h.pageDecode ?_
  split
  · exact h
  · exact .ifBoth h (·.fixWord) fun h => .noteFixed (h.setMem (MemSys.wf_setSpan _ _))
  · exact h.poisonSpan

theorem scrubSpan (h : d.Formed) {b : Nat} : (d.scrubSpan b).Formed := by
  unfold Device.scrubSpan
  extract_lets d1 _
  have h1 : d1.Formed := .ifBoth h (·.decodeSpan) (·.drainWhere)
  exact .ite h1.pageDecode (.ifThen (.fixChecks (.foldl h1 fun _ _ h => h.ceWord)) (·.scrubClean))

theorem scrubVisit (h : d.Formed) {c : Nat} : (d.scrubVisit c).Formed := .ifThen h.scrubSpan.setNotes (·.lapDone)

theorem testWrite (h : d.Formed) {v : Word} : (d.testWrite v).Formed :=
  .ite h.plainWrite.setFld (.ite (.ifBoth h.plainWrite (·.setFld) (·.raise)) h.plainWrite)

theorem rawStore (h : d.Formed) {w v chk : Nat} : (d.rawStore w v chk).Formed := by
  unfold Device.rawStore
  extract_lets d1
  have h1 : d1.Formed := .ifThen h (·.decodeSpan)
  exact h1.setMem fun hm => MemSys.wf_setSyn _ _ (MemSys.wf_residue _ _ (MemSys.wf_putBytes _ _ _ hm))

theorem rawWrite (h : d.Formed) {a : Nat} {bs : List Byte} : (d.rawWrite a bs).Formed :=
  .ite h.raise (.foldl h fun _ _ h => h.rawStore)

theorem rawRead (h : d.Formed) {a n : Nat} : (d.rawRead a n).1.Formed := h.setFld

theorem hostWrite (h : d.Formed) {y : Nat} {bs : List Byte} {ep : Bool} : (d.hostWrite y bs ep).Formed :=
  .ite h.perf.raise.memLog (.ite h.perf.raise (.ite h.perf.event (.ite h.perf (.ifBoth h.perf (·.rawWrite) (·.writeMem)))))

theorem hostRead (h : d.Formed) {y n : Nat} : (d.hostRead y n).Formed :=
  .ite h.perf.raise.memLog.raise.frame (.ifBoth h.perf (·.rawRead.frame) (·.readTag.frame))

/-! ## Host requests -/

theorem setArgs (h : d.Formed) {a : ReqArgs} : (d.setArgs a).Formed := h.setReg.setReg.setReg.setReg

theorem submission (h : d.Formed) {f : Device → Device} (hf : ∀ d, d.Formed → (f d).Formed) : (d.submission f).Formed :=
  .ite h.setBit (hf _ h.setBit.frame)

theorem request (h : d.Formed) {op : Nat} {tag : Byte} {a : ReqArgs} {argsOk stateOk : Bool} {body : Device → Device}
    (hbody : ∀ d, d.Formed → (body d).Formed) :
    (d.request op tag a argsOk stateOk body).Formed :=
  .submission h (fun _ h => .ite h.setArgs.complete (.ite h.setArgs.stateReject (hbody _ h.setArgs)))

theorem reqSwap (h : d.Formed) {tag : Byte} {a : ReqArgs} : (d.reqSwap tag a).Formed := .request h (fun _ h => h.startReq.frame)

theorem setModel (h : d.Formed) {n : Nat} {m : Model} : (d.setModel n m).Formed := .ifBoth h (·.frame) (·.frame)

theorem loadInto (h : d.Formed) {op : Nat} {tag : Byte} {a : ReqArgs} {n : Nat} : (d.loadInto op tag a n).Formed :=
  h.frame.setModel

theorem reqLoad (h : d.Formed) {tag : Byte} {a : ReqArgs} : (d.reqLoad tag a).Formed :=
  .request h (fun _ h => h.startReq.loadInto)

theorem heldRead (h : d.Formed) : d.heldRead.Formed := by
  unfold Device.heldRead
  split
  · exact h.sense
  · exact h

theorem reqUnload (h : d.Formed) {tag : Byte} {a : ReqArgs} : (d.reqUnload tag a).Formed :=
  .request h (fun _ h => h.heldRead.startReq.frame)

theorem reqReplace (h : d.Formed) {tag : Byte} {a : ReqArgs} : (d.reqReplace tag a).Formed :=
  .request h (fun _ h => h.startReq.frame.decideSafe)

theorem enterMaint (h : d.Formed) : d.enterMaint.Formed := h.setState.fenceStart.frame.withdraw.completeWhere

theorem reqMaint (h : d.Formed) {tag : Byte} {a : ReqArgs} : (d.reqMaint tag a).Formed :=
  .request h (fun _ h => .ifElse h.startReq (·.enterMaint))

theorem reqWarm (h : d.Formed) {tag : Byte} {a : ReqArgs} : (d.reqWarm tag a).Formed :=
  .request h (fun _ h => h.complete.askWarm)

theorem reqReturn (h : d.Formed) {tag : Byte} {a : ReqArgs} : (d.reqReturn tag a).Formed :=
  .request h (fun _ h => h.startReq.modFacet)

theorem hostVer (h : d.Formed) {v : Word} : (d.hostVer v).Formed := .ifBoth h (·.setReg.setFld.setBit) (·.raise)

theorem bar2Write (h : d.Formed) {hi : Bool} {v : Word} : (d.bar2Write hi v).Formed := .ifBoth h (·.setReg.setReg) (·.raise)

/-! ## Check values -/

theorem setCtx (h : d.Formed) {c : Nat} {x : Ctx} : (d.setCtx c x).Formed := h.frame

theorem enableCtx (h : d.Formed) {c : Nat} {o : Owner} {cap : Bool} {seed : Word} {gap : Nat} {dest : Word} :
    (d.enableCtx c o cap seed gap dest).Formed :=
  h.setCtx

theorem dropCtxs (h : d.Formed) {o : Owner} : (d.dropCtxs o).Formed := h.frame

theorem imageCtxs (h : d.Formed) {l : List CtxEntry} {p : SafetySet} : (d.imageCtxs l p).Formed :=
  .foldl h fun _ _ h => h.enableCtx

theorem modelCtxs (h : d.Formed) {n : Nat} : (d.modelCtxs n).Formed := .foldl h fun _ _ h => h.enableCtx

theorem cvuFailLog (h : d.Formed) {ctx alive : Nat} {o : PktOut} {f : Word} : (d.cvuFailLog ctx alive o f).Formed :=
  h.incr.setReg.setReg.setFld.event

theorem addCause (h : d.Formed) {b : Nat} : (d.addCause b).Formed := .ifBoth h (·.frame) (·.frame)

theorem cvuCharge (h : d.Formed) {next : Bool} : (d.cvuCharge next).Formed :=
  .ite (.ifThen h.frame (·.chkRaise)) (.ifThen h.addCause.frame (·.chkRaise))

theorem keepCtx (h : d.Formed) {k : Nat} : (d.keepCtx k).Formed := h.frame

theorem judge (h : d.Formed) {ctx : Nat} {bs : List Byte} {max : Nat} {dest : Word} {next : Bool} {lead : Nat} :
    (d.judge ctx bs max dest next lead).1.Formed := by
  unfold Device.judge
  extract_lets d1 _ _ d2 
  have h1 : d1.Formed := h.keepCtx
  have h2 : d2.Formed := .ifElse h1 (·.incr.event)
  clear_value d2
  split
  exact .iteFst h2.setCtx.incr h2.setCtx.cvuFailLog.cvuCharge

theorem modeWrite (h : d.Formed) {v : Word} : (d.modeWrite v).Formed := .ifBoth h (·.setCtx.setBit) (·.event)

theorem reqMode (h : d.Formed) {tag : Byte} {a : ReqArgs} : (d.reqMode tag a).Formed := by
  unfold Device.reqMode
  exact .request h (fun _ h => h.setCtx.complete)

theorem cvuSnap (h : d.Formed) {x : Nat} {v : Word} : (d.cvuSnap x v).Formed :=
  h.setReg.setReg.setReg.setReg.setReg.setReg.setReg.setReg

/-! ## The core pair and its watchdog -/

theorem dropA (h : d.Formed) : d.dropA.Formed := h.frame

theorem restartCause (h : d.Formed) {k cause : Nat} : (d.restartCause k cause).Formed := h.setFld.count.frame.dropA.safeFromRun

theorem channelFail (h : d.Formed) {src cause k : Nat} : (d.channelFail src cause k).Formed :=
  .ite h (.ite h.frame.enterFatal (.ifBoth h.frame (·.askWarm) (·.restartCause)))

theorem evidence (h : d.Formed) {pc : Word} {kind : Nat} : (d.evidence pc kind).Formed := h.setReg.frame

theorem cmpMismatch (h : d.Formed) {k : Nat} {lo hi : Word} {retired : Nat} {pc : Word} :
    (d.cmpMismatch k lo hi retired pc).Formed :=
  h.event.setFld.setReg.setReg.setReg.evidence.chkRaise.channelFail

theorem tcmRead (h : d.Formed) {flips : BitVec 39} : (d.tcmRead flips).Formed := .ite h (.ifBoth h (·.incr) (·.chkRaise))

theorem coreStep (h : d.Formed) {s : CoreStep} : (d.coreStep s).Formed := by
  unfold Device.coreStep
  split
  · refine .ite h ?_
    split
    · exact h.frame.tcmRead
    · exact h.frame
  · split
    · exact .ifThen h (·.frame)
    · exact .ifThen h (·.frame)
    · exact h

theorem coreSteps (h : d.Formed) {l : List CoreStep} : (d.coreSteps l).Formed := .foldl h fun _ _ h => h.coreStep

theorem tcmPut (h : d.Formed) {a : Nat} {bs : List Byte} : (d.tcmPut a bs).Formed := h.frame

theorem storeRelease (h : d.Formed) {x : StoreEntry} : (d.storeRelease x).Formed := by
  unfold Device.storeRelease
  split
  · exact h
  · exact .foldl h fun _ _ h => .ifThen h (·.tcmPut)

theorem compareCkpt (h : d.Formed) {m x : Checkpoint} : (d.compareCkpt m x).Formed :=
  .ite h.incr.frame.cmpMismatch (.ifThen h.incr.frame (·.cmpMismatch))

theorem ckptTimeout (h : d.Formed) {pc : Word} : (d.ckptTimeout pc).Formed := h.frame.draw.draw.cmpMismatch

theorem storesIn (h : d.Formed) {m : List StoreEntry} : (d.storesIn m).Formed := h.frame

theorem compareStore (h : d.Formed) {x : StoreEntry} {pc : Word} {retired : Nat} : (d.compareStore x pc retired).Formed := by
  unfold Device.compareStore
  simp only
  split
  · exact h.frame
  · exact .ite h.frame.frame.cmpMismatch (.ifBoth h.frame (·.frame.cmpMismatch) (·.frame.storeRelease))

theorem cmpTest (h : d.Formed) {t : Option Nat} : (d.cmpTest t).Formed := h.setReg.count.frame

theorem chanRestart (h : d.Formed) {t : Option Nat} : (d.chanRestart t).Formed :=
  .ite h (.ifThen h.frame.dropA.cmpTest (·.chkRaise))

theorem wdgStart (h : d.Formed) {first : Bool} : (d.wdgStart first).Formed := h.setReg.setReg.frame

theorem wdgFailure (h : d.Formed) {kind : Nat} : (d.wdgFailure kind).Formed := h.evidence.chkRaise.channelFail

theorem wdgAccept (h : d.Formed) : d.wdgAccept.Formed := h.setReg.setReg.setReg.setReg.setReg.setBit.frame

theorem wdgServe (h : d.Formed) {tok : Word} : (d.wdgServe tok).Formed :=
  .ite h (.ite h.wdgFailure (.ite h.wdgFailure (.ifBoth h (·.wdgAccept) (·.wdgFailure))))

theorem wdgEn (h : d.Formed) : d.wdgEn.Formed := .ifElse h (·.setBit.setBit.wdgStart)

theorem wdgConfig (h : d.Formed) {isOpen : Bool} {v : Word} : (d.wdgConfig isOpen v).Formed :=
  .ite h (.ifBoth h (·.event) (·.setReg))

theorem wdgReset (h : d.Formed) : d.wdgReset.Formed := .frame (.setBit (.foldl h fun _ _ h => h.setReg))

theorem fwCheck (h : d.Formed) {reload : List Byte} : (d.fwCheck reload).1.Formed := by
  unfold Device.fwCheck
  simp only
  split
  · exact h
  · exact h.tcmPut

theorem release' (h : d.Formed) {vec : Word} {reload : List Byte} : (d.release' vec reload).Formed :=
  .ite h (.ite h.fwCheck.chkRaise (.ifThen h.fwCheck.setReg.wdgReset.frame (·.wdgStart)))

theorem fwInit (h : d.Formed) : d.fwInit.Formed := .ite h (.ifThen h.frame (·.completeWhere))

theorem debugHalt (h : d.Formed) {c : Chan} : (d.debugHalt c).Formed :=
  .ite h (.safeFromRun (.dropA (.chkRaise (.ifThen h.frame (·.frame)))))

theorem debugResume (h : d.Formed) {c : Chan} : (d.debugResume c).Formed := by
  unfold Device.debugResume
  simp only
  split
  · exact h.frame.frame
  · exact h.frame

theorem reqRestart (h : d.Formed) {tag : Byte} {a : ReqArgs} : (d.reqRestart tag a).Formed :=
  .request h (fun _ h => h.startReq.restartCause)

theorem atPc (h : d.Formed) {pc : Word} : (d.atPc pc).Formed := h.frame

/-! ## Time -/

theorem answer (h : d.Formed) {bs : List Byte} : (d.answer bs).Formed := h.frame

theorem readTimNs (h : d.Formed) : d.readTimNs.Formed := h.setReg.setReg.answer

theorem readCapNs (h : d.Formed) {n : Nat} : (d.readCapNs n).Formed := h.setReg.setReg.answer

theorem readChkNs (h : d.Formed) : d.readChkNs.Formed := h.setReg.answer

theorem capture (h : d.Formed) {n : Nat} : (d.capture n).Formed := h.frame

theorem popTs (h : d.Formed) {k : Nat} {q : List TxStamp} : (d.popTs k q).Formed := by
  unfold Device.popTs
  split
  · exact h.setBit
  · exact h.setReg.setReg.setReg

theorem popEth (h : d.Formed) {m : Nat} : (d.popEth m).Formed := h.popTs.frame

theorem popRng (h : d.Formed) {n : Nat} : (d.popRng n).Formed := h.popTs.frame

theorem incrWrite (h : d.Formed) {v : Word} : (d.incrWrite v).Formed := .ite h.raise (.ifBoth h (·.setReg) (·.raise))

theorem applyStep (h : d.Formed) {o : ℤ} : (d.applyStep o).Formed := h.frame

theorem refuseStep (h : d.Formed) : d.refuseStep.Formed := h.raise.incr.pairRaise

theorem tryStep (h : d.Formed) {o : ℤ} : (d.tryStep o).Formed :=
  .ite h.refuseStep (.ifThen h.applyStep.raise (·.raise.frame.addCause))

theorem stepGo (h : d.Formed) : d.stepGo.Formed := .ifBoth h (·.raise) (·.tryStep)

theorem reqGrant (h : d.Formed) {tag : Byte} {a : ReqArgs} : (d.reqGrant tag a).Formed :=
  .request h (fun _ h => h.frame.complete)

theorem grantLapse (h : d.Formed) : d.grantLapse.Formed := h.frame

theorem setTrg (h : d.Formed) {n : Nat} {t : Trigger} : (d.setTrg n t).Formed := h.frame

theorem pulseStart (h : d.Formed) {n : Nat} : (d.pulseStart n).Formed := .ite h (.ifBoth h (·.setTrg) (·.setTrg.raise))

theorem pulseEnd (h : d.Formed) {n : Nat} : (d.pulseEnd n).Formed := h.setTrg

theorem tickTriggers (h : d.Formed) : d.tickTriggers.Formed := .foldl h fun _ _ h => .setTrg (.ifThen h (·.raise))

theorem setCopy (h : d.Formed) {t : ℤ} : (d.setCopy t).Formed := h.frame

theorem copyFree (h : d.Formed) : d.copyFree.Formed := .ifElse h (·.frame.chkRaise)

theorem refuseMsg (h : d.Formed) : d.refuseMsg.Formed := .ifElse h.incr.frame (·.copyFree)

theorem disciplined (h : d.Formed) : d.disciplined.Formed := h.frame

theorem timeMsg (h : d.Formed) {c : Nat} : (d.timeMsg c).Formed :=
  .ite h.setReg.setCopy.disciplined (.ite (.ifBoth h.setReg (·.copyFree) (·.frame.disciplined))
    (.ite h.setReg.setCopy.disciplined (.ifBoth h.setReg (·.setCopy.disciplined.frame) (·.refuseMsg))))

theorem timeArrives (h : d.Formed) {c : Nat} : (d.timeArrives c).Formed := .ifThen h (·.frame.timeMsg)

end Device.Formed
end Sys2Proof.Machine
end

section
/-! Sensors, links, stages, the safety inputs and outputs and the operations of flash keep the canonical form. -/

namespace Sys2Proof.Machine
namespace Device.Formed
variable {d : Device}

/-! ## Lenses -/

theorem setLens (h : d.Formed) {s : Nat} {l : Lens} : (d.setLens s l).Formed := h.frame

theorem lensStore (h : d.Formed) {l : LensFrame} {r : LensRec} {seq i f : Nat} : (d.lensStore l r seq i f).Formed :=
  .foldl h.writeMem fun _ _ h => h.writeMem

theorem badLines (h : d.Formed) {s n : Nat} : (d.badLines s n).Formed := .ifElse h (·.count.raise)

theorem lensStatus (h : d.Formed) {s : Nat} : (d.lensStatus s).Formed := h.setReg

theorem lensComplete (h : d.Formed) {s : Nat} {r : LensRec} : (d.lensComplete s r).Formed := by
  unfold Device.lensComplete
  simp only
  split
  · split
    · exact .ifThen (.lensStatus (.incr (.setLens (.foldl h fun _ _ h => h.lensStore)))) (·.pairRaise)
    · exact h
  · exact h

theorem lensClose (h : d.Formed) {s : Nat} {r : LensRec} {x : LensFrame} : (d.lensClose s r x).Formed := h.setLens.badLines

theorem lensCut (h : d.Formed) {s : Nat} {r : LensRec} : (d.lensCut s r).Formed := by
  unfold Device.lensCut
  split
  · exact h
  · exact h.draw.draw.count.lensClose

theorem lensOpen (h : d.Formed) {s num : Nat} : (d.lensOpen s num).Formed := h.setLens

theorem portHeard (h : d.Formed) {p : Nat} : (d.portHeard p).Formed := h.setReg.draw

theorem lensHeader (h : d.Formed) {p : Nat} {ok fixed : Bool} {body : Device → Device} (hbody : ∀ d, d.Formed → (body d).Formed) :
    (d.lensHeader p ok fixed body).Formed :=
  .ite h.portHeard.count.raise (hbody _ (.ifThen h.portHeard (·.count)))

theorem frameStart (h : d.Formed) {p vc num : Nat} : (d.frameStart p vc num).Formed :=
  .foldl h fun _ _ h => .ifThen h (·.lensCut.lensOpen)

theorem frameEnd (h : d.Formed) {p vc : Nat} : (d.frameEnd p vc).Formed :=
  .foldl h (by
    intro _ _ h
    split
    · exact .ifThen h (·.lensClose)
    · exact h)

theorem lensLine (h : d.Formed) {s : Nat} {r : LensRec} {crcOk : Bool} {pl : List Byte} : (d.lensLine s r crcOk pl).Formed := by
  unfold Device.lensLine
  simp only
  split
  · exact h
  · exact .ite h.setLens (.ite h.setLens.badLines (.ifBoth h (·.setLens.badLines) (·.setLens.raise.badLines)))

theorem csiPacket (h : d.Formed) {p : Nat} {g : Csi2Header} {crcOk : Bool} {pl : List Byte} : (d.csiPacket p g crcOk pl).Formed :=
  .lensHeader h.perf (fun _ h => by
    split
    · exact h.lensLine
    · exact h.count.raise
)

theorem lensTick (h : d.Formed) {s : Nat} {r : LensRec} : (d.lensTick s r).Formed := by
  unfold Device.lensTick
  simp only
  split
  · exact h.setLens.lensStatus
  · exact .ifThen h.setLens.lensStatus.setReg.setReg (·.raise.incr.pairRaise)

theorem tickLens (h : d.Formed) : d.tickLens.Formed := .foldl h fun _ _ h => h.lensTick

theorem restartLens (h : d.Formed) : d.restartLens.Formed := .foldl h fun _ _ h => h.setLens

/-! ## Ethernet -/

theorem setView (h : d.Formed) {v : Nat} {x : EthView} : (d.setView v x).Formed := h.frame

theorem ethDrop (h : d.Formed) {p : Nat} : (d.ethDrop p).Formed := h.count.perf

theorem writeAll (h : d.Formed) {o : Nat} {bs : List Byte} : (d.writeAll o bs).Formed :=
  .foldl h fun _ _ h => .ifThen h (·.writeMem)

theorem viewAppend (h : d.Formed) {v : Nat} {rec : List Byte} : (d.viewAppend v rec).Formed :=
  .ifBoth h (·.setView.ethDrop.raise) (·.writeAll.setView)

theorem viewFrame (h : d.Formed) {v : Nat} {rec : List Byte} : (d.viewFrame v rec).Formed := .ifBoth h (·.setView) (·.viewAppend)

theorem viewTick (h : d.Formed) {v : Nat} {r : EthViewRec} : (d.viewTick v r).Formed := h.writeAll.setView

theorem tickEth (h : d.Formed) : d.tickEth.Formed := .foldl h fun _ _ h => h.viewTick

theorem restartEth (h : d.Formed) : d.restartEth.Formed := by
  unfold Device.restartEth
  simp only
  exact .foldl h (by
    intro _ _ h
    split
    · exact h
    · exact .foldl h.setView fun _ _ h => h.viewAppend)

theorem descRead (h : d.Formed) {p : Nat} {tx : Bool} {k : Nat} : (d.descRead p tx k).Formed := .ifThen h (·.sense)

theorem headOn (h : d.Formed) {p : Nat} {tx : Bool} : (d.headOn p tx).Formed := h.setReg

theorem writeBack (h : d.Formed) {a : Nat} {old : List Byte} {err chk : Bool} : (d.writeBack a old err chk).Formed := h.writeMem

theorem hostFrame (h : d.Formed) {p x : Nat} {chk : Bool} {t : Nat × Nat} {bs : List Byte} :
    (d.hostFrame p x chk t bs).Formed := by
  unfold Device.hostFrame
  split
  · exact h.descRead.ethDrop
  · exact .ifBoth h.descRead (·.ethDrop) (·.writeMem.writeBack.headOn.fire)

theorem ethDeliver (h : d.Formed) {p : Nat} {chk : Bool} {t : Nat × Nat} {bs : List Byte} : (d.ethDeliver p chk t bs).Formed :=
  .ite h.incr.perf.ethDrop (.ite h.incr.perf.ethDrop (.ifBoth h.incr.perf (·.viewFrame) (·.hostFrame)))

theorem ethReceive (h : d.Formed) {p : Nat} {fcsOk : Bool} {bs : List Byte} : (d.ethReceive p fcsOk bs).Formed :=
  .ite h.count.perf (.ifElse h (·.ethDeliver))

theorem ethSend (h : d.Formed) {p : Nat} {bs : List Byte} : (d.ethSend p bs).Formed := h.setFld.perf.frame

theorem ethStamp (h : d.Formed) {p id : Nat} {t : Nat × Nat} : (d.ethStamp p id t).Formed := .ifThen h.frame (·.count.raise)

theorem txDone (h : d.Formed) {p a : Nat} {old : List Byte} {err chk : Bool} : (d.txDone p a old err chk).Formed :=
  h.writeBack.headOn.fire

theorem txFrame (h : d.Formed) {p a : Nat} {old bs : List Byte} : (d.txFrame p a old bs).Formed :=
  .txDone (.ifThen (.ethSend (.ifThen h (·.count))) (·.ethStamp))

theorem ethTransmit (h : d.Formed) {p : Nat} : (d.ethTransmit p).Formed := by
  unfold Device.ethTransmit
  extract_lets q k d1
  have h1 : d1.Formed := h.descRead
  split
  · exact h1
  · extract_lets _ _ _ _ _ d2
    have h2 : d2.Formed := .ifElse h1 (·.sense)
    clear_value d2
    refine .ite (.ifBoth h2 (·.txDone) (·.txFrame)) ?_
    exact h2.frame

theorem ringFacet (h : d.Formed) {v : Word} : (d.ringFacet v).Formed :=
  .foldl h.setReg.frame fun _ _ h => h.setReg.setReg.setReg.setReg

theorem ethLink (h : d.Formed) {p : Nat} {up : Bool} {speed : Nat} : (d.ethLink p up speed).Formed :=
  .ifThen (.ifThen h (·.setReg)) (·.setReg.raise)

/-! ## Range sensors -/

theorem showGrid (h : d.Formed) {binned : Nat} : (d.showGrid binned).Formed := h.setReg.setReg

theorem sensorFrame (h : d.Formed) {r : SensorRec} {s : Nat} {pl : List Byte} {late : Bool} {lead : Nat} :
    (d.sensorFrame r s pl late lead).Formed :=
  .ifBoth (.ifThen h (·.judge)) (·.frame.showGrid) (·.frame)

theorem notForwarded (h : d.Formed) {n : Nat} : (d.notForwarded n).Formed := h.count

theorem rngReceive (h : d.Formed) {n : Nat} {fcsOk : Bool} {bs : List Byte} {lead : Nat} :
    (d.rngReceive n fcsOk bs lead).Formed := by
  unfold Device.rngReceive
  refine .ite h.count ?_
  refine .ifBoth ?_ (·.notForwarded) (·.frame)
  split
  · exact h.incr.sensorFrame
  · exact h.incr

theorem rngForward (h : d.Formed) {n : Nat} : (d.rngForward n).Formed := by
  unfold Device.rngForward
  split
  · exact h
  · exact .ite h (.ifBoth h.frame (·.ethDeliver) (·.notForwarded))

theorem rngStamp (h : d.Formed) {n id : Nat} : (d.rngStamp n id).Formed := .ifThen h.frame (·.incr.raise)

theorem rngTransmit (h : d.Formed) {n : Nat} : (d.rngTransmit n).Formed := by
  unfold Device.rngTransmit
  split
  · exact h
  · exact .ite h.frame.sense.txDone (.ite h.frame.sense.incr.txDone (.txDone (.ifThen h.frame.sense.frame.setFld (·.rngStamp))))

theorem closeGrid (h : d.Formed) : d.closeGrid.Formed := h.frame.showGrid

/-! ## Links between devices -/

theorem showPort (h : d.Formed) {p : Nat} {t : DskPort} : (d.showPort p t).Formed := h.setPort.setReg

theorem dropRemote (h : d.Formed) : d.dropRemote.Formed := .foldl h.frame fun _ _ h => h.unreach.remoteDone

theorem portDown (h : d.Formed) {p : Nat} : (d.portDown p).Formed := h.showPort.raise.pairRaise.dropRemote

theorem sendStatus (h : d.Formed) : d.sendStatus.Formed := .foldl h fun _ _ h => h.sendTo

theorem claim (h : d.Formed) : d.claim.Formed := .ite h (.sendStatus (.ifElse h (·.frame)))

theorem linkClaim (h : d.Formed) {p : Nat} : (d.linkClaim p).Formed := .ifElse h.claim (·.sendOn)

theorem trained (h : d.Formed) {p : Nat} {f : Flit} {major minor lanes : Nat} : (d.trained p f major minor lanes).Formed :=
  .ite h (.ite h.showPort.raise (.ifBoth h (·.showPort) (·.showPort.linkClaim)))

theorem retrain (h : d.Formed) {p : Nat} : (d.retrain p).Formed := .ifElse h (·.showPort.sendOn)

theorem takeAck (h : d.Formed) {p a : Nat} : (d.takeAck p a).Formed := h.setPort.pushWait

theorem sendNak (h : d.Formed) {p : Nat} : (d.sendNak p).Formed := h.sendOn

theorem crcError (h : d.Formed) {p : Nat} : (d.crcError p).Formed := h.count.sendNak

theorem replay (h : d.Formed) {p a : Nat} : (d.replay p a).Formed := .ifThen h.takeAck.setPort.count.perf.frame (·.portDown)

theorem relay (h : d.Formed) {type : Nat} {f : Flit} : (d.relay type f).Formed := by
  unfold Device.relay
  split
  · exact h
  · exact h.pushFlit

theorem ackIdle (h : d.Formed) {p sent : Nat} : (d.ackIdle p sent).Formed := .ifThen h (·.sendOn)

theorem receive (h : d.Formed) {p type : Nat} {f : Flit} {own : Bool} {body : Device → Device} (hbody : ∀ d, d.Formed →
    (body d).Formed) :
    (d.receive p type f own body).Formed :=
  .ite h (.ite h.crcError (.ite h.sendNak (.ackIdle (.ite (hbody _ h.setPort.takeAck.perf) h.setPort.takeAck.perf.relay))))

theorem control (h : d.Formed) {p type : Nat} {f : Flit} {body : Device → Device} (hbody : ∀ d, d.Formed → (body d).Formed) :
    (d.control p type f body).Formed :=
  .ite h.crcError (hbody _ h)

theorem tickRoutes (h : d.Formed) : d.tickRoutes.Formed := h.frame

theorem inbRej (h : d.Formed) : d.inbRej.Formed := h.incr.raise.pairRaise

theorem staleFlit (h : d.Formed) : d.staleFlit.Formed := h.incr.raise

theorem ackWr (h : d.Formed) {f : Flit} {dropped : Bool} : (d.ackWr f dropped).Formed := h.sendTo

theorem inWr (h : d.Formed) {f : Flit} : (d.inWr f).Formed :=
  .ite h.staleFlit.ackWr (.ifBoth h (·.writeTag.ackWr) (·.inbRej.ackWr))

theorem inRd (h : d.Formed) {f : Flit} : (d.inRd f).Formed := by
  unfold Device.inRd
  simp only
  refine .sendTo ?_
  split
  · exact h.readTag
  · exact h.inbRej

theorem answered (h : d.Formed) {f : Flit} {rd : Bool} : (d.answered f rd).Formed := by
  unfold Device.answered
  split
  · exact h
  · exact h.frame.remoteDone

theorem inSig (h : d.Formed) {f : Flit} : (d.inSig f).Formed := .ifBoth h (·.staleFlit) (·.addTokens.releaseAll)

theorem inTick (h : d.Formed) {f : Flit} : (d.inTick f).Formed := .ifElse h (·.frame)

theorem sendTick (h : d.Formed) : d.sendTick.Formed := .foldl h fun _ _ h => h.sendTo

theorem tickMissing (h : d.Formed) : d.tickMissing.Formed := .ifElse h.raise.frame (·.raise.frame.frame.claim)

theorem inTime (h : d.Formed) {p : Nat} {f : Flit} {delay : Nat} : (d.inTime p f delay).Formed := .ifThen h.setPort (·.tryStep)

theorem sendTime (h : d.Formed) {p : Nat} : (d.sendTime p).Formed := h.sendOn

theorem setSys (h : d.Formed) {n : Nat} {v : SysDev} : (d.setSys n v).Formed := h.frame

theorem setMaster (h : d.Formed) {m : Nat} : (d.setMaster m).Formed := h.setFld.setBit.frame

theorem inStatus (h : d.Formed) {f : Flit} : (d.inStatus f).Formed := .ifThen h.setSys (·.setMaster.raise.pairRaise)

theorem elect (h : d.Formed) : d.elect.Formed := by
  unfold Device.elect
  simp only
  split
  · exact h.setMaster
  · exact .ifThen h.setBit.frame (·.enterSafe)

theorem formPresent (h : d.Formed) : d.formPresent.Formed := by
  unfold Device.formPresent
  refine .ite h ?_
  extract_lets _ d1 _ d2 d3
  have h1 : d1.Formed := .foldl h fun _ _ h => h.setSys
  have h2 : d2.Formed := h1.frame
  have h3 : d3.Formed := h2.setFld
  split
  · refine .ite ?_ h3.frame
    split
    · exact h3.frame
    · exact h3.frame
  · exact h3.frame

/-! ## Stages -/

theorem modWin (h : d.Formed) {n : Nat} {f : StwWin → StwWin} : (d.modWin n f).Formed := h.frame

theorem stwPublish (h : d.Formed) : d.stwPublish.Formed := h.setReg.setReg64.setReg64.setReg64

theorem stageFault (h : d.Formed) {flag : Nat} : (d.stageFault flag).Formed :=
  .chkRaise (.addCause (.ifThen (.frame (.ifThen h (·.incr))) (·.stwPublish)))

theorem checkIn (h : d.Formed) {n : Nat} : (d.checkIn n).Formed := by
  unfold Device.checkIn
  split
  · exact .ifBoth h (·.incr) (·.stageFault)
  · exact .ite h.modWin.stageFault (.ite (.ifThen h.modWin (·.modWin.stageFault)) h.modWin.stageFault)

theorem lateCheckIn (h : d.Formed) {known : Bool} {n : Nat} : (d.lateCheckIn known n).Formed :=
  .chkRaise (.addCause (.ifThen (.setBit (.ifThen h (·.incr))) (·.setBit)))

theorem prevCheckIn (h : d.Formed) {n : Nat} : (d.prevCheckIn n).Formed := by
  unfold Device.prevCheckIn
  split
  · exact h.incr
  · exact .ifBoth h (·.incr) (·.lateCheckIn)

theorem markIn (h : d.Formed) : d.markIn.Formed := by
  unfold Device.markIn
  split
  · exact h
  · exact .ite h.frame.incr (.ite h.frame.checkIn (.ifBoth h.frame (·.prevCheckIn) (·.stageFault)))

theorem winClose (h : d.Formed) {n : Nat} : (d.winClose n).Formed := by
  unfold Device.winClose
  split
  · exact h
  · exact .ite h (.ite h.modWin.stageFault (.ifThen h.modWin (·.stwPublish)))

theorem winDue (h : d.Formed) {n : Nat} : (d.winDue n).Formed := by
  unfold Device.winDue
  split
  · exact h
  · exact .ifThen h (·.winClose)

theorem winsEnd (h : d.Formed) : d.winsEnd.Formed := .ite h (.stwPublish (.foldl h fun _ _ h => h.winClose))

theorem winsKeep (h : d.Formed) : d.winsKeep.Formed := h.frame

theorem winsStart (h : d.Formed) {test : Bool} : (d.winsStart test).Formed := h.frame

/-! ## Packets, comparison and verdict -/

theorem sendBody (h : d.Formed) {e : Nat} {g : FCmd} {w : CmdWord} : (Device.sendBody e d g w).Formed :=
  h.readTag.notePoison.frame.push

theorem setRecv (h : d.Formed) {i : Nat} {r : Recv} : (d.setRecv i r).Formed := h.frame

theorem storePacket (h : d.Formed) {m : ManEntry} {p : Packet} : (d.storePacket m p).Formed :=
  .ite h.addCause (.ifThen (.ifThen h.setRecv (·.addCause)) (·.addCause))

theorem packetIn (h : d.Formed) {bs : Option (List Byte)} {lead : Nat} : (d.packetIn bs lead).Formed := by
  unfold Device.packetIn
  simp only
  refine .ite h ?_
  split
  · exact h
  · split
    · exact h.frame.perf.perf
    · exact h.frame.perf.perf.setCtx.judge.storePacket

theorem ackIn (h : d.Formed) {e : Nat} : (d.ackIn e).Formed := by
  unfold Device.ackIn
  simp only
  refine .ite h ?_
  split
  · exact h.frame
  · exact h.frame.modEng.finish.settle

theorem compareEntry (h : d.Formed) {i : Nat} : (d.compareEntry i).Formed := by
  unfold Device.compareEntry
  simp only
  split
  · exact h
  · refine .ite (.ifElse h.setRecv.setRecv (·.addCause.frame)) ?_
    split
    · exact .ifElse h.setRecv (·.addCause.frame)
    · exact h.setRecv

theorem compareNext (h : d.Formed) : d.compareNext.Formed := by
  unfold Device.compareNext
  split
  · exact h.compareEntry
  · exact h

theorem spliceStart (h : d.Formed) {draws : List Nat} : (d.spliceStart draws).Formed := .ifThen h (·.frame)

theorem slotDone (h : d.Formed) : d.slotDone.Formed := by
  unfold Device.slotDone
  split
  · exact .ite h (.ifElse (.frame (.ifThen h.readMem.writeMem (·.addCause))) (·.addTokens.releaseAll))
  · exact h

theorem judgeOcc (h : d.Formed) : d.judgeOcc.Formed := by
  unfold Device.judgeOcc
  split
  · exact h
  · split
    · exact h
    · exact h.setReg.addCause

theorem judgeSilent (h : d.Formed) : d.judgeSilent.Formed := .ifThen h (·.addCause)

theorem judgeZone (h : d.Formed) : d.judgeZone.Formed := by
  unfold Device.judgeZone
  split
  · exact h
  · exact .ifThen (.ifThen h (·.addCause)) (·.addCause)

theorem followVerdict (h : d.Formed) {v : Verdict} : (d.followVerdict v).Formed := .ifThen h.frame (·.decideSafe)

theorem showVerdict (h : d.Formed) {v : Verdict} : (d.showVerdict v).Formed := by
  unfold Device.showVerdict
  split
  · exact h.setReg
  · exact h.setReg.incr
  · exact h.setReg.incr
  · exact h.setReg.incr
  · exact h.setReg.incr

theorem showCauses (h : d.Formed) : d.showCauses.Formed := h.setReg.setReg.setReg.setReg

theorem queueRecord (h : d.Formed) {v : Verdict} : (d.queueRecord v).Formed := h.frame

theorem issueVerdict (h : d.Formed) : d.issueVerdict.Formed :=
  .ifThen (.ifThen (.ifElse (.queueRecord (.showVerdict (.followVerdict
    (.ifElse h (·.judgeOcc.judgeSilent.judgeZone))))) (·.showCauses)) (·.chkRaise)) (·.noteEvent)

theorem verdictDue (h : d.Formed) : d.verdictDue.Formed := .ifThen h (·.issueVerdict)

theorem verdictAtTick (h : d.Formed) {overrun : Bool} : (d.verdictAtTick overrun).Formed :=
  .ite h (.ite h.issueVerdict (.issueVerdict (.ifThen (.ifElse (.ifThen h (·.addCause)) (·.addCause)) (·.addCause))))

theorem endReport (h : d.Formed) : d.endReport.Formed := .ifThen h (·.frame)

theorem publish (h : d.Formed) : d.publish.Formed := by
  unfold Device.publish
  split
  · exact h
  · exact .fire (.frame (.setReg (.foldl h fun _ _ h => h.writeMem)))

/-! ## Flash -/

theorem flashPut (h : d.Formed) {a : Nat} {bs : List Byte} : (d.flashPut a bs).Formed :=
  ⟨h.wearPut.mem, wf_foldl_tabSet 0xFF (fun b : Byte × Nat => a + b.2) (fun b => b.1) _ _ h.wearPut.flash⟩

theorem flashErase (h : d.Formed) {a n : Nat} : (d.flashErase a n).Formed :=
  ⟨h.wearErase.mem, tabWf_tabDrop _ _ _ _ h.wearErase.flash⟩

theorem freeBytes (h : d.Formed) {n : Nat} : (d.freeBytes n).1.Formed := h.frame

theorem readTable (h : d.Formed) : d.readTable.Formed := by
  unfold Device.readTable
  simp only
  split
  · exact .ifBoth h (·.frame) (·.frame)
  · exact h.frame
  · exact h.frame
  · exact h.frame

theorem setPart (h : d.Formed) {i : Nat} {f : Partition → Partition} : (d.setPart i f).Formed := h.frame.flashPut

theorem nvmStatus (h : d.Formed) {busy : Bool} {op tag status : Nat} : (d.nvmStatus busy op tag status).Formed := h.setReg

theorem nvmEnd (h : d.Formed) {op tag status : Nat} : (d.nvmEnd op tag status).Formed := h.nvmStatus.raise

theorem nvmReject (h : d.Formed) {op tag : Nat} : (d.nvmReject op tag).Formed := h.nvmStatus.raise

theorem nvmOp (h : d.Formed) {op : Nat} {v : Word} : (d.nvmOp op v).Formed :=
  .ite h.raise (.ite h.nvmEnd (.ite h.nvmReject (.frameNvm (.ifThen h.nvmStatus (·.setPart)))))

theorem nvmFinish (h : d.Formed) {x : FlashRead} {cut : Bool} {failed : List Nat} : (d.nvmFinish x cut failed).Formed := by
  unfold Device.nvmFinish
  split
  · exact h
  · exact .ite (.ifBoth h.frameNvm.retireBlks.perf.flashMet (·.freeBytes.writeMem.nvmEnd) (·.writeMem.nvmEnd)) (.ite
      (.ifBoth h.frameNvm.retireBlks.perf (·.freeBytes.flashPut.nvmEnd) (·.readMem.flashPut.setPart.nvmEnd))
      (.ifBoth h.frameNvm.retireBlks (·.nvmEnd) (·.flashErase.frameNvm.nvmEnd)))

theorem nvmStop (h : d.Formed) : d.nvmStop.Formed := by
  unfold Device.nvmStop
  split
  · exact h
  · exact .draw (.frameNvm (.ite h.writeMem (.ifBoth h (·.readMem.flashPut) (·.flashErase))))

theorem nvmDone (h : d.Formed) {r : FlashEnd} : (d.nvmDone r).Formed := .ite h.nvmStop (.ifElse h (·.nvmFinish))

theorem nvmAbort (h : d.Formed) : d.nvmAbort.Formed := .ifThen h (·.nvmFinish)

theorem useRepair (h : d.Formed) {c gen : Nat} {ws : List Word} {fl : List (BitVec 3)} : (d.useRepair c gen ws fl).Formed :=
  h.frame.setReg

theorem readRepair (h : d.Formed) : d.readRepair.Formed := by
  unfold Device.readRepair
  split
  · exact .ifBoth h (·.useRepair) (·.useRepair)
  · exact h.useRepair
  · exact h.useRepair
  · exact h.useRepair.chkRaise

theorem updateRepair (h : d.Formed) {j : Nat} {f : ArrayFault} {ok : Bool} : (d.updateRepair j f ok).Formed :=
  .ifBoth (.ifThen h (·.frame)) (·.flashPut.useRepair) (·.freeBytes.flashPut.frame.modEng)

theorem stageEvent (h : d.Formed) : d.stageEvent.Formed := by
  unfold Device.stageEvent
  split
  · exact h
  · exact .ifThen h.frameNvm (·.raise)

theorem lensSense (h : d.Formed) {s : Nat} : (d.lensSense s).Formed := by
  unfold Device.lensSense
  split
  · exact h.sense
  · exact h

theorem appendLens (h : d.Formed) {claimed : Bool} : (d.appendLens claimed).Formed := by
  unfold Device.appendLens
  split
  · exact h
  · exact .frameNvm (.ifThen (.foldl h fun _ _ h => h.lensSense) (·.draw))

theorem writeEvent (h : d.Formed) {failed : List Nat} : (d.writeEvent failed).Formed := by
  unfold Device.writeEvent
  split
  · exact h
  · exact .ite h (.ite h.frameNvm.retireBlks (.ifBoth h.frameNvm.retireBlks (·.draw.flashPut) (·.flashPut.frameNvm)))

theorem fatalAck (h : d.Formed) : d.fatalAck.Formed := .computeOff (.frame (.ifElse h (·.flashPut)))

/-! ## Safety inputs and outputs -/

theorem setChan (h : d.Formed) {c : Chan} {v : Channel} : (d.setChan c v).Formed := .ifBoth h (·.frame) (·.frame)

theorem setOut (h : d.Formed) {o : Chan} {v : Output} : (d.setOut o v).Formed := .ifBoth h (·.frame) (·.frame)

theorem setEnc (h : d.Formed) {c : Chan} {n : Nat} {v : Encoder} : (d.setEnc c n v).Formed := h.setChan

theorem setLock (h : d.Formed) {i : Nat} : (d.setLock i).Formed := h.frame.withdraw

theorem encDiscRaise (h : d.Formed) : d.encDiscRaise.Formed := h.frame.setLock.chkRaise

theorem refPulse (h : d.Formed) {c : Chan} {rise : Bool} : (d.refPulse c rise).Formed := .ifThen h (·.setChan)

theorem encErr (h : d.Formed) {c : Chan} {n : Nat} : (d.encErr c n).Formed := .ite h (.ifBoth h (·.count) (·.count))

theorem encEdge (h : d.Formed) {c : Chan} {n : Nat} {a b z : Bool} {held : Nat} : (d.encEdge c n a b z held).Formed :=
  .ite h (.ite (.refPulse (.ifThen h.setEnc.encErr (·.encDiscRaise))) h.setEnc.refPulse)

theorem takeCounts (h : d.Formed) {c : Chan} : (d.takeCounts c).Formed := h.setChan

theorem limitHit (h : d.Formed) {i was : Nat} {b : Bool} : (d.limitHit i was b).Formed := .ifThen h (·.setLock.chkRaise)

theorem speedSample (h : d.Formed) {c : Chan} : (d.speedSample c).Formed :=
  .ifThen h.takeCounts.setChan.setChan.limitHit.limitHit.limitHit (·.encDiscRaise)

theorem dropEnable (h : d.Formed) {c : Chan} : (d.dropEnable c).Formed := h.setChan.frame

theorem classChange (h : d.Formed) {c : Chan} : (d.classChange c).Formed :=
  .ite h (.ifThen (.ifThen h.setChan (·.dropEnable)) (·.setLock))

theorem estopIn (h : d.Formed) {c : Chan} {second closed : Bool} : (d.estopIn c second closed).Formed := by
  unfold Device.estopIn
  extract_lets _ _ d1 _ d2
  have h1 : d1.Formed := h.setChan
  have h2 : d2.Formed := .ifThen h1 (·.frame)
  exact .ite h2.frame (.ifElse h2 (·.frame.incr.withdraw.decideFromRun))

theorem estopDiscRaise (h : d.Formed) : d.estopDiscRaise.Formed := h.frame.setLock.chkRaise

theorem estopDiffer (h : d.Formed) {c : Chan} : (d.estopDiffer c).Formed := .ifThen h (·.estopDiscRaise)

theorem enableChange (h : d.Formed) {c o : Chan} : (d.enableChange c o).Formed :=
  .ite (.ite h.setChan (.ifBoth h.setChan (·.setOut) (·.setOut))) h.dropEnable.setOut

theorem pulseOn (h : d.Formed) {o : Chan} : (d.pulseOn o).Formed := by
  unfold Device.pulseOn
  simp only
  split
  · exact .ifThen h (·.setOut)
  · exact h

theorem pulseOff (h : d.Formed) {o : Chan} : (d.pulseOff o).Formed := .ifElse h (·.setOut)

theorem feedbackRaise (h : d.Formed) : d.feedbackRaise.Formed := h.count.event.setLock.chkRaise

theorem readback (h : d.Formed) {c o : Chan} {level : Bool} : (d.readback c o level).Formed :=
  .ifThen (.ifThen h.setOut (·.count)) (·.feedbackRaise)

theorem showSeal (h : d.Formed) {x : SealSample} : (d.showSeal x).Formed := h.setFld

theorem sealRaise (h : d.Formed) : d.sealRaise.Formed := h.event.chkRaise.decideFromRun

theorem sealCheck (h : d.Formed) {r : SealRead} : (d.sealCheck r).Formed := .ifElse h.showSeal.frame (·.sealRaise)

theorem pressIgnored (h : d.Formed) : d.pressIgnored.Formed := h.count

theorem pressJudge (h : d.Formed) : d.pressJudge.Formed := .ite h (.ifBoth h.frame (·.frame.count) (·.pressIgnored))

theorem stuckRaise (h : d.Formed) : d.stuckRaise.Formed := h.event.chkRaise

theorem releaseLost (h : d.Formed) {c : Chan} : (d.releaseLost c).Formed := .ifThen h (·.setChan.pressIgnored)

theorem pressStuck (h : d.Formed) {c : Chan} : (d.pressStuck c).Formed := .ifThen h.setChan.releaseLost (·.count.stuckRaise)

theorem validRelease (h : d.Formed) {c : Chan} : (d.validRelease c).Formed := by
  unfold Device.validRelease
  refine .ite h.setChan ?_
  split
  · exact .ifBoth h.setChan (·.frame) (·.pressIgnored)
  · exact h.setChan.pressIgnored

theorem shortRelease (h : d.Formed) {c : Chan} : (d.shortRelease c).Formed := .ifBoth h (·.setChan) (·.setChan.count.releaseLost)

theorem resetLevel (h : d.Formed) {c : Chan} {closed : Bool} : (d.resetLevel c closed).Formed := by
  unfold Device.resetLevel
  refine .ite h ?_
  refine .ite h.releaseLost.setChan.setChan ?_
  extract_lets _ _ d2 _ d3
  have h2 : d2.Formed := .ifThen h (·.pressStuck)
  have h3 : d3.Formed := h2.setChan
  exact .ite h3 (.ifBoth h3 (·.shortRelease) (·.validRelease))

theorem takeReset (h : d.Formed) : d.takeReset.Formed := h.frame

/-! ## The passing of time -/

theorem meSlot (h : d.Formed) {e : Nat} : (d.meSlot e).Formed := by
  unfold Device.meSlot
  refine .ite h ?_
  refine .ite h.setMe.perf ?_
  refine .ite h.setMe.perf.perf ?_
  split
  · exact .ifBoth h (·.perf) (·.perf.perf)
  · exact .ite h.perf (.ite h.perf.perf (.ifThen h.perf (·.perf)))

theorem engCycle (h : d.Formed) {e : Nat} : (d.engCycle e).Formed :=
  .ite h (.meSlot (.ifThen (.ifThen h.perf (·.perf)) (·.perf)))

theorem aCycle (h : d.Formed) : d.aCycle.Formed :=
  .foldl (.foldl (.foldl (.foldl h.drainWhere fun _ _ h => .ifElse h (·.finishDue)) fun _ _ h => h.engCycle)
    fun _ _ h => h.perf) fun _ _ h => .ifThen h (·.perf)

theorem sendMsg (h : d.Formed) : d.sendMsg.Formed := .ifThen h (·.frame)

theorem passTime (h : d.Formed) : d.passTime.Formed :=
  .ifThen (.ifThen (.ifThen (.sendMsg (.ifThen h.frame (·.frame))) (·.frame)) (·.pressJudge)) (·.snapEnd.aCycle)

/-! ## Faults and repair -/

theorem pairRegister (h : d.Formed) {s : Nat} {wire : Bool} : (d.pairRegister s wire).Formed :=
  .ifThen h.register (·.frame.addCause)

theorem pairIn (h : d.Formed) {s : Nat} : (d.pairIn s).Formed := .ifElse h (·.setPair.setBit.pairRegister)

theorem pairBroken (h : d.Formed) {s : Nat} : (d.pairBroken s).Formed :=
  .ifElse h (·.setPair.setBit.event.event.pairRegister.register)

theorem pairClear (h : d.Formed) {s : Nat} : (d.pairClear s).Formed := h.setPair.setBit

theorem checkerRaise (h : d.Formed) {s : Nat} : (d.checkerRaise s).Formed :=
  .ite h.encDiscRaise (.ite h.estopDiscRaise (.ite h.feedbackRaise (.ite h.sealRaise (.ite h.stuckRaise
    (.ite h.draw.setLock.chkRaise (.ite h.chkRaise.channelFail (.ite h.chkRaise.channelFail
    (.ifThen h.chkRaise (·.frame.dropA.safeFromRun)))))))))

theorem fenceDone (h : d.Formed) {n : Nat} : (d.fenceDone n).Formed := h.frame

theorem fenceLate (h : d.Formed) {n : Nat} : (d.fenceLate n).Formed := .ifThen h (·.fenceDone.chkRaise)

theorem force (h : d.Formed) {s kind : Nat} : (d.force s kind).Formed :=
  .ite h.register (.ite h (.ite h.setPair.setBit (.ifThen h (·.setPair.setBit))))

theorem forceWrite (h : d.Formed) {v : Word} : (d.forceWrite v).Formed := .ifBoth h (·.force) (·.event)

theorem reqForce (h : d.Formed) {tag : Byte} {a : ReqArgs} : (d.reqForce tag a).Formed :=
  .request h (fun _ h => h.force.complete)

theorem reqClear (h : d.Formed) {tag : Byte} {a : ReqArgs} : (d.reqClear tag a).Formed :=
  .request h (fun _ h => h.clearBit.complete)

theorem freeFacet (h : d.Formed) {f : Nat} : (d.freeFacet f).Formed :=
  .foldl (.foldl h fun _ _ h => h.modEng) fun _ _ h => h.setPrism

theorem facetFail (h : d.Formed) {f : Nat} : (d.facetFail f).Formed := h.facetOff.modFacet

theorem testPass (h : d.Formed) {q : Nat} {fails : List Nat} : (d.testPass q fails).Formed := by
  unfold Device.testPass
  split
  · exact h.passDone
  · exact h.setPrism.segFence

theorem facetTested (h : d.Formed) {f : Nat} {fails : List (Nat × Nat)} {march : Bool} : (d.facetTested f fails march).Formed :=
  .ite h (.ifBoth (.foldl h fun _ _ h => .ifElse h (·.testPass)) (·.modFacet) (·.facetFail))

theorem copySection (h : d.Formed) {f g : Nat} {s : Section} : (d.copySection f g s).Formed :=
  .ite h.readMem.writeMem (.ifThen h (·.zeroMem))

theorem copyRead (h : d.Formed) {f : Nat} {s : Section} : (d.copyRead f s).Formed := .ifThen h (·.sense)

theorem copyTry (h : d.Formed) {f : Nat} {s : Section} {l : List Nat} : (d.copyTry f s l).1.Formed := by
  induction l generalizing d with
  | nil => exact h
  | cons g l ih =>
    unfold Device.copyTry
    simp only
    split
    · exact h.copySection.copyRead
    · exact ih h.copySection.copyRead

theorem replaced (h : d.Formed) {f first : Nat} : (d.replaced f first).Formed :=
  .ite h (.ifBoth (.foldlFst h (by
    intro _ _ h
    split
    · exact h.copyTry
    · exact h)) (·.modFacet) (·.facetFail))

end Device.Formed
end Sys2Proof.Machine
end

section
/-! Plans, models, the tick, boot and reset, and the registers keep the canonical form. -/

namespace Sys2Proof.Machine
namespace Device.Formed
variable {d : Device}

/-! ## Plans -/

theorem planRead (h : d.Formed) {base : Nat} : (d.planRead base).Formed := h.sense.sense

theorem slotSense (h : d.Formed) {slot : Nat} : (d.slotSense slot).Formed := .foldl h.sense fun _ _ h => h.planRead

theorem swapEnd (h : d.Formed) {status : Nat} : (d.swapEnd status).Formed := by
  unfold Device.swapEnd
  split
  · exact h
  · exact h.frame.completeWhere

theorem planChecked (h : d.Formed) : d.planChecked.Formed := by
  unfold Device.planChecked
  split
  · exact .ite h (.ifBoth h.slotSense (·.frame) (·.swapEnd))
  · exact h

theorem planCompared (h : d.Formed) : d.planCompared.Formed := by
  unfold Device.planCompared
  split
  · exact .ite h (.ifBoth h.slotSense (·.frame) (·.swapEnd))
  · exact h

theorem takePlan (h : d.Formed) {slot : Nat} : (d.takePlan slot).Formed := .frame (.foldl h fun _ _ h => h.planRead)

theorem chooseVar (h : d.Formed) {l : List Nat} {sv : Nat} : (d.chooseVar l sv).Formed := by
  unfold Device.chooseVar
  split
  · exact h.frame
  · exact .ifBoth h.planRead (·.frame) (·.frame)

/-! ## Models -/

theorem admReport (h : d.Formed) {l : List (Nat × Want)} : (d.admReport l).Formed := by
  unfold Device.admReport
  split
  · exact h.setReg.setReg.setReg.setReg
  · exact h.setReg.setReg.setReg.setReg

theorem placeIn (h : d.Formed) {g : Img} {f : Nat} {s : Section} : (d.placeIn g f s).Formed := .ifBoth h (·.writeMem) (·.zeroMem)

theorem placeAll (h : d.Formed) {g : Img} {l : List Section} : (d.placeAll g l).Formed :=
  .foldl h fun _ _ h => .foldl h fun _ _ h => h.placeIn

theorem releaseAt (h : d.Formed) {l : List Section} : (d.releaseAt l).Formed :=
  .foldl h fun _ _ h => .foldl h fun _ _ h => h.zeroMem

theorem copiesRead (h : d.Formed) {l : List Section} : (d.copiesRead l).Formed :=
  .foldl h fun _ _ h => .foldl h fun _ _ h => h.copyRead

theorem fenceNarrow (h : d.Formed) : d.fenceNarrow.Formed := .foldl h fun _ _ h => .ifThen h (·.fenceEngine.modEng)

theorem unloadEntry (h : d.Formed) {n : Nat} : (d.unloadEntry n).Formed := h.releaseAt.dropCtxs.setModel

theorem loadEnd (h : d.Formed) {l : LoadOp} {status : Nat} {result : Word} : (d.loadEnd l status result).Formed :=
  h.frame.completeWhere

theorem loadFail (h : d.Formed) {l : LoadOp} {status : Nat} : (d.loadFail l status).Formed := h.setModel.loadEnd

theorem srcRead (h : d.Formed) {a : ReqArgs} {n : Nat} : (d.srcRead a n).Formed := .ifThen h (·.sense)

theorem loadPlace (h : d.Formed) {l : LoadOp} {g : Img} : (d.loadPlace l g).Formed :=
  .ifBoth h.placeAll.copiesRead (·.setModel.modelCtxs.fenceNarrow.loadEnd) (·.releaseAt.loadFail)

theorem loadDone (h : d.Formed) {x : FlashRead} : (d.loadDone x).Formed := by
  unfold Device.loadDone
  split
  · exact h
  · refine .ite h ?_
    extract_lets 
    split
    extract_lets _ _ _ d1 d2 _ d3
    have h1 : d1.Formed := h.srcRead
    have h2 : d2.Formed := .ifThen h1 (·.flashMet)
    refine .ite h2.loadFail ?_
    refine .ite h2.loadFail ?_
    have h3 : d3.Formed := h2.admReport
    exact .ite h3.loadFail (.ifBoth h3 (·.loadFail) (·.loadPlace))

theorem unloadDone (h : d.Formed) : d.unloadDone.Formed := by
  unfold Device.unloadDone
  split
  · exact .ifThen h (·.unloadEntry.loadEnd)
  · exact h

/-! ## The tick -/

theorem checkInterval (h : d.Formed) {acq : Bool} : (d.checkInterval acq).Formed :=
  .ifThen (.ifThen h (·.addCause.chkRaise)) (·.addCause)

theorem witness (h : d.Formed) : d.witness.Formed := .foldl h fun _ _ h => .setReg (.ifThen h (·.frame.chkRaise))

theorem nextCauses (h : d.Formed) {first : Bool} : (d.nextCauses first).Formed := h.frame

theorem tickFront (h : d.Formed) {acq cut : Bool} : (d.tickFront acq cut).Formed :=
  .tickSnapshot (.sendStatus (.formPresent (.tickRoutes (.tickEth (.tickLens (.tickTriggers (.ifThen (.frame (.raise
    (.setReg (.setReg (.setReg (.nextCauses (.closeGrid (.verdictAtTick (.winsKeep (.winsEnd (.witness (.checkInterval
    (.ifThen h (·.addCause)))))))))))))) (·.decideSafe))))))))

theorem endTests (h : d.Formed) : d.endTests.Formed := .ifThen h (·.setState.frame.setReg)

theorem tickSafe (h : d.Formed) : d.tickSafe.Formed := by
  unfold Device.tickSafe
  simp only
  refine .ite h.frame ?_
  split
  · exact .ifThen h.frame.enterSafe (·.swapEnd)
  · exact h.frame.enterSafe

theorem tickMaint (h : d.Formed) : d.tickMaint.Formed := .ifThen h (·.swapEnd.enterMaint.frame)

theorem tickReplace (h : d.Formed) : d.tickReplace.Formed := by
  unfold Device.tickReplace
  split
  · exact .ifElse h (·.unloadEntry.unloadEntry.swapEnd.frame.frame.setModel)
  · exact h

theorem reinstate (h : d.Formed) {f : Nat} : (d.reinstate f).Formed := .ifThen h (·.freeFacet.modFacet.completeWhere)

theorem fenceStep (h : d.Formed) {f : Nat} : (d.fenceStep f).Formed := by
  unfold Device.fenceStep
  extract_lets d1 _
  have h1 : d1.Formed := .ifThen h (·.fenceFacet)
  exact .ite h1 (.ite h1.facetOff.facetOn.modFacet (.ifThen h1 (·.facetOff)))

theorem facetStep (h : d.Formed) : d.facetStep.Formed :=
  .frame (.foldl (.foldl h fun _ _ h => h.fenceStep) fun _ _ h => h.reinstate)

theorem swapStep (h : d.Formed) : d.swapStep.Formed := by
  unfold Device.swapStep
  split
  · exact .ifThen h (·.takePlan.swapEnd.frame)
  · exact h

theorem variantStep (h : d.Formed) {l : List Nat} {entered : Bool} : (d.variantStep l entered).Formed :=
  .ite (.ifThen h.chooseVar.enterSafe (·.frame)) h.chooseVar

theorem commit (h : d.Formed) : d.commit.Formed := .ite h (.ifElse h.frame (·.frame.setBit))

theorem enterRunning (h : d.Formed) : d.enterRunning.Formed := .ifBoth h (·.setState.commit) (·.setState)

theorem runStep (h : d.Formed) : d.runStep.Formed :=
  .ite (.ifElse h (·.enterRunning)) (.ite (.ifThen h.frame.enterRunning (·.decideSafe)) h)

theorem safeExit (h : d.Formed) {reset : Bool} : (d.safeExit reset).Formed := .ifThen h (·.setState.frame)

theorem restartAll (h : d.Formed) {start : Nat → Nat} : (d.restartAll start).Formed := .frame (.foldl h fun _ _ h => h.modEng)

theorem clearTokens (h : d.Formed) : d.clearTokens.Formed :=
  .foldl (.foldl (.foldl h fun _ _ h => .foldl h fun _ _ h => h.setCtr) fun _ _ h => .foldl h fun _ _ h => h.setCtr)
    fun _ _ h => h.setCtr

theorem noFrame (h : d.Formed) : d.noFrame.Formed := h.clearTokens.restartAll.frame

theorem startFrame (h : d.Formed) : d.startFrame.Formed :=
  .reportEnd (.restartEth (.restartLens (.restartAll (.clearTokens (.winsStart (.frame (.ifThen h (·.frame))))))))

theorem tickBack (h : d.Formed) : d.tickBack.Formed := by
  unfold Device.tickBack
  extract_lets _ _ d1 d2 _ d3 _
  have h1 : d1.Formed := .ifThen h (·.takeReset)
  have h2 : d2.Formed := h1.endTests.tickSafe
  have h3 : d3.Formed := h2.tickMaint.tickReplace.facetStep
  exact .ite h3.frame.noFrame (.startFrame (.safeExit (.runStep (.ifElse h3 (·.swapStep.variantStep)))))

theorem abandonEngine (h : d.Formed) {e : Nat} : (d.abandonEngine e).Formed :=
  .ite h (.modEng (.ifElse (.ifElse h (·.setMe)) (·.veWrite.draw)))

theorem abandonStart (h : d.Formed) {low : Nat} {k : Word} : (d.abandonStart low k).Formed :=
  .frame (.foldl h.snapEnd fun _ _ h => h.abandonEngine)

theorem drainStreams (h : d.Formed) : d.drainStreams.Formed :=
  .foldl h fun _ _ h => .iterN (.iterN h (fun _ _ h => h.rowWrite)) (fun _ _ h => h.meCommandDone)

theorem abandonEnd (h : d.Formed) : d.abandonEnd.Formed := by
  unfold Device.abandonEnd
  exact h.drainStreams.tagsAbandon.raise.incr.setReg.pairRaise.frame.tickBack

theorem tickNow (h : d.Formed) {acq : Bool} : (d.tickNow acq).Formed :=
  .ifBoth h.tickFront.memDrainAll (·.abandonStart) (·.tickBack)

theorem edgeOut (h : d.Formed) : d.edgeOut.Formed := .ifThen h.raise.count.frame (·.frame.raise)

theorem edgeApply (h : d.Formed) {o : ℤ} : (d.edgeApply o).Formed :=
  .ite h.setReg.frame (.ite (.ifThen h.setReg.frame (·.tickNow)) h.setReg.frame.frame)

theorem edgeJudge (h : d.Formed) : d.edgeJudge.Formed :=
  .ite h.edgeOut (.ite h.frame.edgeApply (.ifBoth h.frame (·.frame) (·.edgeApply)))

theorem edgeAcquire (h : d.Formed) : d.edgeAcquire.Formed := by
  unfold Device.edgeAcquire
  exact .ite h.frame.frame (.ifThen (.ifThen h.frame (·.abandonEnd)) (·.tickNow))

theorem syncEdge (h : d.Formed) : d.syncEdge.Formed := by
  unfold Device.syncEdge
  split
  · exact h
  · exact h.edgeAcquire
  · exact h.edgeJudge
  · exact h.edgeJudge

theorem windowClose (h : d.Formed) : d.windowClose.Formed := .ite h (.ifElse h.frame (·.raise.count))

theorem syncAcq (h : d.Formed) : d.syncAcq.Formed := .ifBoth h (·.frame) (·.raise)

theorem testRunWrite (h : d.Formed) {run : Bool} : (d.testRunWrite run).Formed :=
  .ite (.ite h (.ifBoth h (·.frame.setBit) (·.raise))) (.ifThen h.setBit (·.frame))

theorem placeTest (h : d.Formed) {parts : List (List Byte)} : (d.placeTest parts).Formed :=
  .foldl h fun _ _ h => .foldl h fun _ _ h => h.writeMem

theorem testSense (h : d.Formed) : d.testSense.Formed := .foldl h fun _ _ h => .foldl h fun _ _ h => h.sense

theorem testVerified (h : d.Formed) {parts : List (List Byte)} {read : FlashRead} : (d.testVerified parts read).Formed :=
  .ite h (.ifBoth (.testSense (.ifElse h.flashMet (·.placeTest))) (·.frame) (·.frame))

/-! ## Boot and reset -/

theorem unpowered (h : d.Formed) : d.unpowered.Formed := ⟨rfl, h.flash⟩

theorem supplyOn (h : d.Formed) : d.supplyOn.Formed := h.unpowered

theorem supplyOff (h : d.Formed) : d.supplyOff.Formed := h.unpowered.frame

theorem noteSingle (h : d.Formed) {ra rb : Nat} : (d.noteSingle ra rb).Formed := .ifElse h (·.chkRaise)

theorem enterRomOnly (h : d.Formed) : d.enterRomOnly.Formed := .foldl h.enterSafe.setBit.frame.facetOn fun _ _ h => h.setPrism

theorem slotsMet (h : d.Formed) {a b : ImageSlot} {pa : Nat} : (d.slotsMet a b pa).Formed :=
  .ifThen (.ifThen h (·.flashMet)) (·.flashMet)

theorem verifyBoot (h : d.Formed) {a b : ImageSlot} {pa pb : BootParts} : (d.verifyBoot a b pa pb).Formed := by
  unfold Device.verifyBoot
  simp only
  split
  · exact h.slotsMet.setFld.setFld.enterRomOnly
  · exact h.slotsMet.setFld.setFld.setFld.setFld.frame.tcmPut.noteSingle

theorem loadReactions (h : d.Formed) {l : List (BitVec 16)} : (d.loadReactions l).Formed :=
  .setBit (.foldl h fun _ _ h => h.setReg)

theorem judgeSeal (h : d.Formed) {sw : SealRead} : (d.judgeSeal sw).Formed :=
  .ifBoth h.showSeal.frame (·.imageCtxs) (·.enterSafe)

theorem verifyStruct (h : d.Formed) {a b : ImageSlot} {oa ob : OpenSecs} {sw : SealRead} :
    (d.verifyStruct a b oa ob sw).Formed := by
  unfold Device.verifyStruct
  simp only
  split
  · exact h.slotsMet.setFld.setFld.enterRomOnly
  · exact h.slotsMet.setFld.setFld.setFld.setFld.frame.loadReactions.noteSingle.judgeSeal

theorem releaseCompute (h : d.Formed) {ok : Bool} {fl : FlashTrain} : (d.releaseCompute ok fl).Formed :=
  .ifBoth h (·.chkRaise) (·.frame.frame.setReg.flashFirst.setReg.setFld)

theorem loadS (h : d.Formed) : d.loadS.Formed :=
  .foldl (.foldl h.setReg.setReg.setReg.setReg.setBit.setBit.setReg.setReg fun _ _ h => h.setReg)
    fun _ _ h => h.setReg.setReg.setReg.setReg

theorem setLocks (h : d.Formed) : d.setLocks.Formed := .foldl (.foldl h fun _ _ h => h.setBit) fun _ _ h => h.setBit

theorem configure (h : d.Formed) : d.configure.Formed := by
  unfold Device.configure
  extract_lets _ d1 d2 d3
  have h1 : d1.Formed := .foldl h fun _ _ h => h.setPrism
  have h2 : d2.Formed :=
    .foldl h1 fun _ _ h => .ite h.facetOn.facetZeroed.freeFacet (.foldl h fun _ _ h => h.modEng)
  have h3 : d3.Formed := h2.loadS.setLocks
  clear_value d3
  refine .setState ?_
  exact ⟨h3.mem, h3.flash⟩

theorem testFenced (h : d.Formed) {e : Nat} : (d.testFenced e).Formed := .ifThen h.fenceEngine.modFacet (·.raise.pairRaise)

theorem raiseFound (h : d.Formed) {s : Option Nat} : (d.raiseFound s).Formed := by
  unfold Device.raiseFound
  split
  · exact h.chkRaise
  · exact h

theorem testsEnd (h : d.Formed) {r : StartupResult} : (d.testsEnd r).Formed :=
  .ite h.cmpTest.enterFatal.chkRaise (.ite h.cmpTest.enterFatal.raiseFound (.ite h.cmpTest.enterFatal
    (.ite h.cmpTest.enterSafe.frame (.frame (.foldl (.foldl h.cmpTest fun _ _ h => h.testFenced) fun _ _ h => h.modFacet)))))

theorem warmed (h : d.Formed) : d.warmed.Formed := by
  unfold Device.warmed
  refine .setFld ?_
  exact ⟨rfl, h.flash⟩

theorem warmReset (h : d.Formed) : d.warmReset.Formed := h.memDrainAll.abortAll.nvmAbort.warmed

theorem pcieReset (h : d.Formed) : d.pcieReset.Formed := h.frame

theorem linkLoss (h : d.Formed) {aer : Bool} : (d.linkLoss aer).Formed := .ite h (.pairRaise (.ifElse h (·.raise)))

/-! ## Register writes -/

theorem codeWrite (h : d.Formed) {k : Nat} {v : Word} : (d.codeWrite k v).Formed := h.plainWrite

theorem engCtrlWrite (h : d.Formed) {e : Nat} {v : Word} : (d.engCtrlWrite e v).Formed :=
  .ifThen (.codeWrite (.ifThen h (·.blockReset))) (·.armInjection)

theorem tckCtrlWrite (h : d.Formed) {v : Word} : (d.tckCtrlWrite v).Formed :=
  .ifElse (.ifThen h.codeWrite (·.syncAcq)) (·.testRunWrite)

theorem tailWrite (h : d.Formed) {k : Nat} {v : Word} : (d.tailWrite k v).Formed := h.setReg

theorem actWrite (h : d.Formed) {k : Nat} {v : Word} : ((d.actWrite k v).getD (d.codeWrite k v)).Formed := by
  unfold Device.actWrite
  refine .iteSome h.tckCtrlWrite (.iteSome (.ifThen h.codeWrite (·.fenceStart)) (.iteSome h.testWrite (.iteSome h.hostVer ?_)))
  refine .iteSome h.bar2Write (.iteSome h.bar2Write (.iteSome h.ringFacet (.iteSome h.tailWrite ?_)))
  refine .iteSome (.ifThen h (·.popEth)) (.iteSome (.ifThen h.codeWrite (·.stepGo)) (.iteSome h.incrWrite ?_))
  refine .iteSome (.ifThen h.codeWrite (·.snapRequest)) (.iteSome h.selWrite (.iteSome h.raise (.iteSome h.nvmOp ?_)))
  exact .iteSome h.codeWrite.flushVec h.codeWrite

theorem cmpWrite (h : d.Formed) {k : Nat} {v : Word} : (d.cmpWrite k v).Formed := by
  unfold Device.cmpWrite
  split
  · exact .ifBoth h (·.engCtrlWrite) (·.codeWrite)
  · exact h.actWrite

theorem submit (h : d.Formed) {v : Word} : (d.submit v).Formed := by
  unfold Device.submit
  exact .ite h.reqSwap (.ite h.reqLoad (.ite h.reqUnload (.ite h.reqReplace (.ite h.reqGrant (.ite h.reqRestart
    (.ite h.reqMode (.ite h.reqMaint (.ite h.reqWarm (.ite h.reqReturn (.ite h.reqForce (.ite h.reqClear
    (.submission h (fun _ h => h.complete)))))))))))))

theorem bar4Write (h : d.Formed) {k : Nat} {v : Word} : (d.bar4Write k v).Formed :=
  .ite (.ifBoth h (·.setBit) (·.setReg)) (.ite h.submit (.ite h.cvuSnap (.ite (.ifThen h (·.popRng)) h)))

theorem chkWrite (h : d.Formed) {k : Nat} {v : Word} : (d.chkWrite k v).Formed :=
  .ite (.ifThen h (·.wdgEn)) (.ite h.wdgConfig (.ite h.wdgConfig (.ite h.wdgServe (.ite h.cvuSnap (.ite h.modeWrite
    (.ite h.forceWrite (.ifElse h (·.codeWrite))))))))

theorem hostReg (h : d.Formed) {bar4 : Bool} {ofs : Nat} {v : Word} : (d.hostReg bar4 ofs v).Formed :=
  .ite h.bar4Write (.ifElse h (·.cmpWrite))

theorem hostRegWrite (h : d.Formed) {bar4 : Bool} {ofs : Nat} {bs : List Byte} : (d.hostRegWrite bar4 ofs bs).Formed := by
  unfold Device.hostRegWrite
  extract_lets d1
  have h1 : d1.Formed := .ifThen h (·.raise)
  exact .ite h1 (.ite h1.hostReg (.ifBoth h1 (·.hostReg.hostReg) (·.raise)))

theorem cfgSet (h : d.Formed) {o : Nat} {v : Word} : (d.cfgSet o v).Formed :=
  .ite h.pcieReset (.ite h (.foldl h.frame fun _ _ h => h.flushVec))

theorem cfgWrite (h : d.Formed) {ofs : Nat} {bs : List Byte} : (d.cfgWrite ofs bs).Formed := h.cfgSet

/-! ## Register reads -/

theorem regRead (h : d.Formed) {k : Nat} : (d.regRead k).1.Formed := by
  unfold Device.regRead
  split
  · exact h.readTimNs
  · split
    · exact h.readCapNs
    · split
      · exact h.readChkNs
      · exact h

theorem regReads (h : d.Formed) {k n : Nat} : (d.regReads k n).1.Formed := by
  induction n generalizing d k with
  | zero => exact h
  | succ n ih => exact ih h.regRead

theorem unsupported (h : d.Formed) : d.unsupported.Formed := h.raise.frame

theorem hostRegRead (h : d.Formed) {bar4 : Bool} {ofs n : Nat} : (d.hostRegRead bar4 ofs n).Formed :=
  .ifBoth h (·.unsupported) (·.regReads.answer)

end Device.Formed
end Sys2Proof.Machine
end

section
/-! Every step keeps the canonical form: each command acts by one function of the device, and `LeavesFormed.exec` names its lemma. -/

namespace Sys2Proof.Machine

/-- An outcome that leaves the memories and the flash of the device in canonical form. -/
structure LeavesFormed (o : Host.Outcome State Fault Refusal) : Prop where
  dev : ∀ t, o = .next t → t.dev.Formed

theorem LeavesFormed.act {s : State} (h : s.dev.Formed) {ok : Bool} {f : Device → Device} (hf : (f s.dev).Formed) :
    LeavesFormed (Machine.act ok f s) := by
  refine ⟨fun t ht => ?_⟩
  cases ht
  split
  · exact hf
  · exact h

section
variable {s : State}

theorem LeavesFormed.execHostMemoryRead (h : s.dev.Formed) {a : HostAt} {n : Nat} : LeavesFormed (Machine.execHostMemoryRead a n s) := by
  unfold Machine.execHostMemoryRead
  simp only
  split
  · exact .act h h.answer
  · split
    · exact .act h h.unsupported
    · exact .act h h.hostRead
  · exact .act h (.ifBoth h (·.unsupported) (·.hostRegRead))

theorem LeavesFormed.execRegisterWrite (h : s.dev.Formed) {m : Master} {sp : Space} {ofs : Nat} {bs : List Byte} :
    LeavesFormed (Machine.execRegisterWrite m sp ofs bs s) := by
  unfold Machine.execRegisterWrite
  split
  · exact .act h h.cfgWrite
  · exact .act h h.hostRegWrite
  · exact .act h h.chkWrite

theorem LeavesFormed.execCvuSnapshot (h : s.dev.Formed) {m : Master} {v : Word} : LeavesFormed (Machine.execCvuSnapshot m v s) := by
  unfold Machine.execCvuSnapshot
  cases m with
  | host => exact .act h h.cvuSnap
  | channelA => exact .act h h.cvuSnap

theorem LeavesFormed.exec (h : s.dev.Formed) {c : Instr} : LeavesFormed (Machine.exec c s) := by
  unfold Machine.exec
  cases c with
  | checkerSupplyValid => exact .act h h.supplyOn
  | checkerSupplyRemoved => exact .act h h.supplyOff
  | checkerRailLow => exact .act h h.supplyOff
  | computePowerEnable => exact .act h h.frame
  | computeResetRelease _ _ => exact .act h h.releaseCompute
  | partitionTableRead => exact .act h h.readTable
  | bootImageVerify _ _ => exact .act h h.verifyBoot
  | structureImageVerify _ _ _ _ _ => exact .act h h.verifyStruct
  | repairRecordVerify => exact .act h h.readRepair
  | computeConfigured => exact .act h h.configure
  | startupTestComplete _ => exact .act h h.testsEnd
  | warmResetBegin => exact .act h h.warmReset
  | perstN => exact .act h h.pcieReset
  | functionLevelReset => exact .act h h.pcieReset
  | hotReset => exact .act h h.pcieReset
  | pcieLinkLoss _ => exact .act h h.linkLoss
  | tick => exact .act h h.tickNow
  | abandonmentComplete => exact .act h h.abandonEnd
  | frameSyncEdge => exact .act h h.syncEdge
  | syncWindowClose => exact .act h h.windowClose
  | syncAcq => exact .act h h.syncAcq
  | testRun _ => exact .act h h.testRunWrite
  | testPlanVerified _ _ => exact .act h h.testVerified
  | commandFetch _ => exact .act h h.fetchCmd
  | nop _ => exact .act h (.start h fun _ _ _ h => h.pushDone)
  | endCmd _ => exact .act h h.runEnd
  | wait _ => exact .act h h.runWait
  | signal _ => exact .act h (.start h fun _ _ _ h => h.pushOrdered)
  | mark _ => exact .act h (.start h fun _ _ _ h => h.pushOrdered)
  | loop _ => exact .act h h.runLoop
  | mm _ => exact .act h h.runMm
  | mmc _ => exact .act h h.runMm
  | agd _ => exact .act h (.start h fun _ _ _ h => h.agdBody)
  | meStreamStart _ => exact .act h h.streamStart
  | meRowWrite _ => exact .act h h.rowWrite
  | meCommandDone _ => exact .act h h.meCommandDone
  | vew _ => exact .act h (.runVe h fun _ _ h => .overRows h fun _ _ h => h.vewRow)
  | vact _ =>
    refine .act h (.runVe h fun _ _ h => .overRows ?_ fun _ _ h => h.vactRow)
    exact .iteFst h.readTag h
  | vnorm _ => exact .act h (.runVe h fun _ _ h => .overRows h fun _ _ h => h.vnormRow)
  | vsmax _ => exact .act h (.runVe h fun _ _ h => .overRows h fun _ _ h => h.vnormRow)
  | vpool _ => exact .act h (.runVe h fun _ _ h => h.vpoolAll)
  | vresize _ => exact .act h (.runVe h fun _ _ h => h.vresizeAll)
  | vred _ => exact .act h (.runVe h fun _ _ h => .overRows h fun _ _ h => h.vredRow)
  | vargmax _ => exact .act h (.runVe h fun _ _ h => .overRows h fun _ _ h => h.vargmaxRow)
  | vtopk _ => exact .act h (.runVe h fun _ _ h => .overRows h fun _ _ h => h.vtopkRow)
  | vcompact _ => exact .act h (.runVe h fun _ _ h => h.vcompactAll)
  | vqmx _ => exact .act h (.runVe h fun _ _ h => .overRows h fun _ _ h => h.vqmxRow)
  | veCommandComplete _ => exact .act h h.veComplete
  | copy _ => exact .act h (.start h fun _ _ _ h => h.moverBody)
  | fetch2d _ => exact .act h (.start h fun _ _ _ h => h.moverBody)
  | gather _ => exact .act h (.start h fun _ _ _ h => h.moverBody)
  | store _ => exact .act h (.start h fun _ _ _ h => h.moverBody)
  | storeT _ => exact .act h (.start h fun _ _ _ h => h.moverBody)
  | send _ => exact .act h (.start h fun _ _ _ h => h.sendBody)
  | memoryRequestComplete _ _ => exact .act h h.requestComplete
  | pageDecodeComplete _ => exact .act h h.decodeComplete
  | tokenSignalArrival _ => exact .act h h.tokenArrival
  | engineBlockReset _ => exact .act h h.blockReset
  | abftInj _ => exact .act h h.armInjection
  | mergeDrain _ => exact .act h h.drainOldest
  | facetZeroingComplete _ => exact .act h h.facetZeroed
  | scrubSpanVisit _ => exact .act h h.scrubVisit
  | memFence => exact .act h h.fenceStart
  | fenceComplete => exact .act h h.fenceEnd
  | memTestModeWrite _ => exact .act h h.testWrite
  | hostMemoryWrite _ _ _ => exact .act h h.hostWrite
  | hostMemoryRead _ _ => exact .execHostMemoryRead h
  | bgLevelUrgent _ => exact .act h h.bgUrgent
  | bgLevelForced _ => exact .act h h.bgForce
  | bgUnitComplete _ _ => exact .act h h.unitDone
  | selftestSegmentStart _ => exact .act h h.segStart
  | selftestSegmentEnd _ _ => exact .act h h.segEnd
  | swap _ _ => exact .act h h.reqSwap
  | planValidationDone => exact .act h h.planChecked
  | planDigestCompareDone => exact .act h h.planCompared
  | load _ _ => exact .act h h.reqLoad
  | loadComplete _ => exact .act h h.loadDone
  | unload _ _ => exact .act h h.reqUnload
  | unloadComplete => exact .act h h.unloadDone
  | replace _ _ => exact .act h h.reqReplace
  | timeGrant _ _ => exact .act h h.reqGrant
  | timeGrantLapse => exact .act h h.grantLapse
  | chkRestart _ _ => exact .act h h.reqRestart
  | cvuMode _ _ => exact .act h h.reqMode
  | maint _ _ => exact .act h h.reqMaint
  | warmReset _ _ => exact .act h h.reqWarm
  | facetReturn _ _ => exact .act h h.reqReturn
  | faultForce _ _ => exact .act h h.reqForce
  | faultClear _ _ => exact .act h h.reqClear
  | hifHostVerWrite _ => exact .act h h.hostVer
  | hifBar2BaseWrite _ _ => exact .act h h.bar2Write
  | registerWrite _ _ _ _ => exact .execRegisterWrite h
  | timNsRead => exact .act h h.readTimNs
  | timCapNsRead _ => exact .act h h.readCapNs
  | chkTimeNsRead => exact .act h h.readChkNs
  | ethTsqPop _ => exact .act h h.popEth
  | chkRngTsqPop _ => exact .act h h.popRng
  | timIncrWrite _ => exact .act h h.incrWrite
  | stepGo => exact .act h h.stepGo
  | captureEvent _ => exact .act h h.capture
  | triggerPulseStart _ => exact .act h h.pulseStart
  | triggerPulseEnd _ => exact .act h h.pulseEnd
  | timeMessage _ _ => exact .act h h.timeArrives
  | timeCopyTimeout => exact .act h h.copyFree
  | csi2LongPacket _ _ _ _ => exact .act h h.csiPacket
  | frameStart _ _ _ => exact .act h (.lensHeader h fun _ h => h.frameStart)
  | frameEnd _ _ => exact .act h (.lensHeader h fun _ h => h.frameEnd)
  | lensFrameComplete _ =>
    refine .act h ?_
    split
    · exact h.lensComplete
    · exact h
  | ethFrameReceive _ _ _ => exact .act h h.ethReceive
  | ethTailWrite _ _ _ => exact .act h h.setReg
  | ethTransmit _ => exact .act h h.ethTransmit
  | ringFacetWrite _ => exact .act h h.ringFacet
  | rangeFrameReceive _ _ _ => exact .act h h.rngReceive
  | rangeFrameForward _ => exact .act h h.rngForward
  | rangeTransmit _ => exact .act h h.rngTransmit
  | wr _ _ => exact .act h (.receive h fun _ h => h.inWr)
  | wrAck _ _ => exact .act h (.receive h fun _ h => h.answered)
  | rdReq _ _ => exact .act h (.receive h fun _ h => h.inRd)
  | rdResp _ _ => exact .act h (.receive h fun _ h => h.answered)
  | sig _ _ => exact .act h (.receive h fun _ h => h.inSig)
  | tickFlit _ _ => exact .act h (.receive h fun _ h => h.inTick)
  | tickFlitSend => exact .act h h.sendTick
  | tickFlitMissing => exact .act h h.tickMissing
  | timeFlit _ _ _ => exact .act h (.receive h fun _ h => h.inTime)
  | timeFlitSend _ => exact .act h h.sendTime
  | statusFlit _ _ _ => exact .act h (.receive h fun _ h => h.inStatus)
  | masterElection => exact .act h h.elect
  | train _ _ _ _ _ => exact .act h (.control h fun _ h => h.trained)
  | nak _ _ => exact .act h (.control h fun _ h => h.replay)
  | idle _ _ => exact .act h (.control h fun _ h => h.takeAck)
  | dskPortRetrain _ => exact .act h h.retrain
  | markCheckin => exact .act h h.markIn
  | stageWindowClose _ => exact .act h h.winDue
  | allEndReport => exact .act h h.endReport
  | aperturePacket _ => exact .act h h.packetIn
  | packetAck _ => exact .act h h.ackIn
  | comparisonComplete => exact .act h h.compareNext
  | challengeSplice _ => exact .act h h.spliceStart
  | challengeSlotDone => exact .act h h.slotDone
  | verdict => exact .act h h.verdictDue
  | resultRecordPublish => exact .act h h.publish
  | eventStaging => exact .act h h.stageEvent
  | eventLensAppend _ => exact .act h h.appendLens
  | eventFlashWrite _ => exact .act h h.writeEvent
  | speedClassChange _ => exact .act h h.classChange
  | faultPairRegistration _ => exact .act h h.pairIn
  | brokenPair _ => exact .act h h.pairBroken
  | checkerSourceRaise _ => exact .act h h.checkerRaise
  | fenceConfirm _ => exact .act h h.fenceDone
  | fenceConfirmTimeout _ => exact .act h h.fenceLate
  | fatalRecordAck => exact .act h h.fatalAck
  | fatalAckTimeout => exact .act h h.frame.computeOff
  | errOutHoldExpiry => exact .act h h.frame
  | vmonCmp => exact .act h h.chkRaise
  | fmonCmp => exact .act h h.chkRaise
  | chkSupply => exact .act h h.chkRaise
  | fltForce _ => exact .act h h.forceWrite
  | facetTestComplete _ _ => exact .act h h.facetTested
  | replacementComplete _ _ => exact .act h h.replaced
  | repairRecordUpdate _ _ _ => exact .act h h.updateRepair
  | checkpoint _ _ => exact .act h h.coreSteps.compareCkpt
  | checkpointTimeout _ => exact .act h h.coreSteps.ckptTimeout
  | storeCompare _ _ => exact .act h h.coreSteps.storesIn.compareStore
  | channelARestart _ => exact .act h h.chanRestart
  | corePairRelease _ _ => exact .act h h.release'
  | firmwareInitComplete => exact .act h h.fwInit
  | debugHalt _ => exact .act h h.debugHalt
  | debugResume _ => exact .act h h.debugResume
  | wdgService _ => exact .act h h.atPc.wdgServe
  | wdgPhaseOpen => exact .act h h.frame
  | wdgMissed => exact .act h h.wdgFailure
  | wdgEnable => exact .act h h.wdgEn
  | wdgPhaseConfig _ _ => exact .act h h.wdgConfig
  | ladderTimerExpiry => exact .act h h.frame
  | expCntClear => exact .act h h.frame
  | cvuModeWrite _ => exact .act h h.modeWrite
  | cvuSnapshot _ _ => exact .execCvuSnapshot h
  | prfSelWrite _ _ _ _ => exact .act h h.selWrite
  | snapshotRequest => exact .act h h.snapRequest
  | snapshotWriteComplete => exact .act h h.snapDone
  | read _ => exact .act h h.nvmOp
  | program _ => exact .act h h.nvmOp
  | erase _ => exact .act h h.nvmOp
  | nvmOpComplete _ => exact .act h h.nvmDone
  | encoderEdge _ _ _ _ => exact .act h h.encEdge
  | speedSampleB => exact .act h h.speedSample
  | speedSampleA => exact .act h h.speedSample
  | estopInput _ _ _ => exact .act h h.estopIn
  | estopDiscrepancy _ => exact .act h h.estopDiffer
  | sresetInLevel _ _ => exact .act h h.resetLevel
  | resetHeld3s _ => exact .act h h.pressStuck
  | armedResetLapse => exact .act h h.frame
  | sealRead _ => exact .act h h.sealCheck
  | testPulseStart _ => exact .act h h.pulseOn
  | testPulseEnd _ => exact .act h h.pulseOff
  | readbackSample _ _ _ => exact .act h h.readback
  | enableRequestChange _ _ => exact .act h h.enableChange
  | faultPairClear _ => exact .act h h.pairClear
  | flitCrcError _ => exact .act h h.crcError
  | counterWrap _ _ => exact .act h h.cntAdd
  | ethLinkChange _ _ _ => exact .act h h.ethLink

theorem LeavesFormed.step (h : s.dev.Formed) : LeavesFormed (Machine.step s) := by
  unfold Machine.step
  split
  · refine ⟨fun t ht => ?_⟩
    cases ht
    exact h.passTime
  next c rest _ => exact .exec (s := { s with pending := rest }) h

end

/-- Settles O4: each command is one arm of `exec`, and the lemma of its meaning keeps the form; so does the passing of time. -/
theorem memoryFormKept : Obligations.MemoryFormKept := by
  intro s t hst hs
  rw [← Device.formed_iff] at hs ⊢
  exact (LeavesFormed.step hs).dev t hst

end Sys2Proof.Machine
end

section
/-! The host reads and writes memory through BAR2 (R343): what turns an access away, and what an access to an aligned, clean word of DRAM
reads and stores (R142, R147, R154, R158). -/

namespace Sys2Proof.Machine

/-! ## Bytes and words -/

/-- Bytes that spell a number are spelled by it again. -/
theorem toLe_leNat {l : List Byte} {n : Nat} (h : l.length = n) : toLe n (leNat l) = l := by
  subst h
  induction l with
  | nil => rfl
  | cons b l ih =>
    have hlt := b.isLt
    have hlow : BitVec.ofNat 8 (leNat (b :: l)) = b := BitVec.eq_of_toNat_eq (by
      rw [BitVec.toNat_ofNat, leNat]
      omega)
    have hhigh : leNat (b :: l) / 256 = leNat l := by
      rw [leNat]
      omega
    rw [List.length_cons, toLe, hlow, hhigh, ih]

theorem slice_all {l : List Byte} {n : Nat} (h : l.length = n) : slice l 0 n = l := by
  subst h
  simp [slice]

/-- A range that is one aligned unit of `k` bytes is one piece. -/
theorem pieces_aligned {a k s : Nat} (ha : a % k = 0) (hs : s % k = 0) (hk : 0 < k) (hks : k ≤ s) :
    pieces s (k + 1) a 0 k = [(a, 0, k)] := by
  have hmin : min k (s - a % s) = k := by
    have hlt : a % s < s := Nat.mod_lt _ (by omega)
    have hdvd : k ∣ s - a % s :=
      Nat.dvd_sub (Nat.dvd_of_mod_eq_zero hs) ((Nat.dvd_mod_iff (Nat.dvd_of_mod_eq_zero hs)).2 (Nat.dvd_of_mod_eq_zero ha))
    exact Nat.min_eq_left (Nat.le_of_dvd (by omega) hdvd)
  cases k with
  | zero => exact absurd hk (Nat.lt_irrefl 0)
  | succ k => simp [pieces, hmin]

namespace MemSys

theorem data_touch (m : MemSys) (w : Nat) : (m.touch w).data = m.data := by
  unfold touch
  split <;> rfl

theorem syn_touch (m : MemSys) (w : Nat) : (m.touch w).syn = m.syn := by
  unfold touch
  split <;> rfl

theorem data_setSyn (m : MemSys) (w s : Nat) : (m.setSyn w s).data = m.data := rfl

theorem synAt_touch (m : MemSys) (w a : Nat) : (m.touch w).synAt a = m.synAt a := by rw [synAt, syn_touch, synAt]

theorem synAt_setSyn_same (m : MemSys) (w s : Nat) : (m.setSyn w s).synAt w = s % 256 := by
  rw [synAt, setSyn, tabGet_tabSet_same, BitVec.toNat_ofNat]

end MemSys

/-! ## Clean words of DRAM -/

/-- The word at `w` is an aligned word of DRAM without a syndrome, its span is not being decoded, and no entry of a merge buffer holds
bytes of its line. -/
structure Device.DramWord (d : Device) (w : Nat) : Prop where
  dram : w < 0x400000000
  aligned : w % 8 = 0
  syn : d.mem.synAt w = 0
  decode : spanBase w ∉ d.mem.decode
  merge : ∀ t ∈ d.mem.merge, t.line ≠ w / 64 * 64

namespace Device.DramWord
variable {d : Device} {w : Nat} (h : d.DramWord w)
include h

theorem isAcc : isAcc w = false := by
  have := h.dram
  simp only [Machine.isAcc, accBase, Bool.and_eq_false_iff, decide_eq_false_iff_not]
  omega

theorem wordSize : wordSize w = 8 := by rw [Machine.wordSize, h.isAcc]; rfl

theorem wordBase : wordBase w = w := by
  rw [Machine.wordBase, h.wordSize]
  exact Nat.div_mul_cancel (Nat.dvd_of_mod_eq_zero h.aligned)

theorem accHole : accHole w = false := by rw [Machine.accHole, h.isAcc]; rfl

theorem wordDec : wordDec w (d.mem.synAt w) = .clean := by rw [h.syn]; rfl

theorem needsDecode : d.needsDecode w = false := by simp [Device.needsDecode, h.wordDec, h.decode]

theorem noEntry : (d.mem.merge.find? fun t => decide (t.line = w / 64 * 64)) = none := by
  simpa using h.merge

theorem pieces {s : Nat} (hs : s % 8 = 0) (h8 : 8 ≤ s) : pieces s (8 + 1) w 0 8 = [(w, 0, 8)] :=
  pieces_aligned h.aligned hs (by decide) h8

/-- Counting leaves the word as it is. -/
theorem of_mem {u : Device} (hu : u.mem = d.mem) : u.DramWord w := by
  refine ⟨h.dram, h.aligned, ?_, ?_, ?_⟩ <;> rw [hu]
  · exact h.syn
  · exact h.decode
  · exact h.merge

theorem loadWord : d.loadWord w = (d, d.mem.word w, false) := by
  have hce : d.ceWord w = d := by rw [Device.ceWord, h.wordDec]
  simp [Device.loadWord, Device.loadWith, h.accHole, h.needsDecode, hce, h.syn]

/-- Storing the word: its bytes and its mark. -/
theorem storeWord (v : Nat) (p : Bool) : d.storeWord w v p =
    d.setMem (((d.mem.putBytes w 8 v).setSyn w (if p then patAt w else 0)).touch w) := by
  simp [Device.storeWord, Device.storeWith, h.accHole, h.needsDecode, h.wordDec, MemSys.residue, h.wordSize]

theorem seeAs_any (ho : d.oldAt w = none) : d.seeAs .any w = (d, d.mem.word w, false) := by
  simp [Device.seeAs, h.loadWord, h.noEntry, ho]

/-- Reading the word counts and returns its bytes. -/
theorem readAs_any (ho : d.oldAt w = none) :
    d.readAs .any w 8 = ⟨d.dramEvent 0xC0 w 8, toLe 8 (d.mem.word w), false⟩ := by
  have hlow := lowRegs_dramEvent d 0xC0 w 8
  have hu := h.of_mem (mem_of_lowRegs hlow)
  have hold : (d.dramEvent 0xC0 w 8).oldAt w = none := (Twin.read hlow.1 (·.oldAt w) fun _ => rfl).trans ho
  rw [Device.readAs, h.wordSize, h.pieces rfl le_rfl]
  simp [h.wordBase, hu.seeAs_any hold, h.wordSize, slice_toLe, mem_of_lowRegs hlow]

theorem readTag (hv : d.viewOf w = none) (ho : d.oldAt w = none) :
    d.readTag w 8 = (d.dramEvent 0xC0 w 8, (toLe 8 (d.mem.word w)).map fun b => (b, false)) := by
  rw [Device.readTag, Device.readTagAs, h.wordSize, h.pieces rfl le_rfl]
  simp [hv, h.readAs_any ho]

theorem writeLine {bs : List Byte} (hb : bs.length = 8) (p : Bool) : d.writeLine w bs p = d.storeWord w (leNat bs) p := by
  rw [Device.writeLine, h.noEntry]
  simp [h.aligned, hb, leAt, slice_all hb]

/-- Writing all bytes of the word counts and stores them. -/
theorem writeMem (hm : d.mapped w = true) {bs : List Byte} (hb : bs.length = 8) (p : Bool) :
    d.writeMem w bs p = (d.dramEvent 0xC1 w 8).setMem
      (((d.mem.putBytes w 8 (leNat bs)).setSyn w (if p then patAt w else 0)).touch w) := by
  have hmem := mem_of_lowRegs (lowRegs_dramEvent d 0xC1 w 8)
  have hu := h.of_mem hmem
  rw [Device.writeMem, hb, h.pieces rfl (by decide)]
  simp [h.decode, hm, h.isAcc, slice_all hb, hu.writeLine hb, hu.storeWord, hmem]

theorem allMapped : d.allMapped w 8 = d.mapped w := by simp [Device.allMapped, h.pieces]

/-- What the word's bytes spell. -/
theorem toLe_word : toLe 8 (d.mem.word w) = (List.range 8).map fun i => tabGet 0 d.mem.data (w + i) := by
  have hspell : d.mem.word w = leNat ((List.range 8).map fun i => tabGet 0 d.mem.data (w + i)) := by
    rw [MemSys.word, h.wordSize]
  rw [hspell, toLe_leNat (by simp)]

end Device.DramWord

/-! ## What counting leaves alone -/

namespace OnlyRegs
variable {d u : Device} (h : OnlyRegs d u [])
include h

theorem reg_eq {k : Nat} (hk : k ∉ irqRegs) : u.reg k = d.reg k := h.2 k List.not_mem_nil hk

/-- What reads no register is the same. -/
theorem read {α : Sort*} (g : Device → α) (hg : ∀ d : Device, g d.sansRegs = g d) : g u = g d := Twin.read h.1 g hg

theorem hostAddr (y : Nat) : u.hostAddr y = d.hostAddr y := by
  have hbase : u.bar2Base = d.bar2Base := by
    rw [Device.bar2Base, h.reg_eq (by decide), h.reg_eq (by decide), Device.bar2Base]
  rw [Device.hostAddr, hbase, Device.hostAddr]

theorem slotArea (i : Nat) : u.slotArea i = d.slotArea i := by
  simp only [Device.slotArea, Device.slotBase, h.reg_eq (k := Reg.tckSlotAHi) (by decide),
    h.reg_eq (k := Reg.tckSlotALo) (by decide), h.reg_eq (k := Reg.tckSlotBHi) (by decide),
    h.reg_eq (k := Reg.tckSlotBLo) (by decide)]

theorem rawAt (a : Nat) : u.rawAt a = d.rawAt a := by
  rw [Device.rawAt, Device.fld_congr (h.reg_eq (by decide)) 1 0, Device.rawAt]

theorem mapped (a : Nat) : u.mapped a = d.mapped a := h.read (·.mapped a) fun _ => rfl
theorem allMapped (a n : Nat) : u.allMapped a n = d.allMapped a n := h.read (·.allMapped a n) fun _ => rfl
theorem heldSlots : u.heldSlots = d.heldSlots := h.read Device.heldSlots fun _ => rfl
theorem protRanges : u.protRanges = d.protRanges := h.read Device.protRanges fun _ => rfl
theorem viewRanges : u.viewRanges = d.viewRanges := h.read Device.viewRanges fun _ => rfl
theorem viewOf (a : Nat) : u.viewOf a = d.viewOf a := h.read (·.viewOf a) fun _ => rfl
theorem oldAt (w : Nat) : u.oldAt w = d.oldAt w := h.read (·.oldAt w) fun _ => rfl
theorem mem : u.mem = d.mem := h.read Device.mem fun _ => rfl

end OnlyRegs

theorem onlyRegs_dramEvent (d : Device) (ev a n : Nat) : OnlyRegs d (d.dramEvent ev a n) [] := by
  refine .of_ite ?_ (.refl d _)
  unfold Device.memEvent
  split
  · exact onlyRegs_perf d _ _ _
  · exact .refl d _

theorem sansMem_of_sansRegs {d u : Device} (h : u.sansRegs = d.sansRegs) : u.sansMem = d.sansMem :=
  Twin.read h Device.sansMem fun _ => rfl

theorem SameRegs.setMem {d u : Device} {l : List Nat} (h : SameRegs d u l) (m : MemSys) : SameRegs d (u.setMem m) l := h

theorem SameRegs.withRsp {d u : Device} {l : List Nat} (h : SameRegs d u l) (r : ReadRsp) :
    SameRegs d { u with hif := { u.hif with rsp := r } } l := h

theorem Device.mem_setMem (d : Device) (m : MemSys) : (d.setMem m).mem = m := rfl

theorem sansMem_setMem (d : Device) (m : MemSys) : (d.setMem m).sansMem = d.sansMem := rfl

/-- An entry of the error log leaves the status alone. -/
theorem memStatus_memLog (d : Device) (kind ctrl a : Nat) : (d.memLog kind ctrl a).reg Reg.memStatus = d.reg Reg.memStatus := by
  have hset (u : Device) {k : Nat} (v : Word) (hk : 0x30100 ≤ k) : (u.setReg k v).reg Reg.memStatus = u.reg Reg.memStatus :=
    Device.reg_setReg_ne _ _ (by simp only [Reg.memStatus]; omega)
  unfold Device.memLog
  extract_lets i d1 d2 d3 d4
  have h1 : d1.reg Reg.memStatus = d.reg Reg.memStatus := hset d _ (by simp only [Reg.memLogAddr]; omega)
  have h2 : d2.reg Reg.memStatus = d1.reg Reg.memStatus := hset d1 _ (by simp only [Reg.memLogInfo]; omega)
  have h3 : d3.reg Reg.memStatus = d2.reg Reg.memStatus := hset d2 _ (by simp only [Reg.memLogNs]; omega)
  have h4 : d4.reg Reg.memStatus = d3.reg Reg.memStatus := hset d3 _ (by simp only [Reg.memLogFrame]; omega)
  calc _ = (d4.setFld Reg.memLogHead 4 0 ((i + 1) % 32)).reg Reg.memStatus := Device.reg_setReg_ne _ _ (by decide)
    _ = d4.reg Reg.memStatus := Device.reg_setReg_ne _ _ (by decide)
    _ = d.reg Reg.memStatus := h4.trans (h3.trans (h2.trans h1))

theorem patAt_lt (a : Nat) : patAt a < 256 := by
  unfold patAt
  split <;> decide

/-! ## The host writes -/

section
variable {d : Device} {y : Nat} {bs : List Byte} {ep : Bool}

/-- A write to addresses without storage is reported (R142). -/
theorem hostWrite_unmapped (hm : d.allMapped (d.hostAddr y) bs.length = false) :
    (d.hostWrite y bs ep).bitAt Reg.memStatus 6 = true ∧ (d.hostWrite y bs ep).sansRegs = d.sansRegs := by
  have hc := onlyRegs_perf d 196 0x100 (ceilDiv bs.length 64)
  have heq : d.hostWrite y bs ep =
      ((d.perf 196 0x100 (ceilDiv bs.length 64)).raise Reg.memStatus 6).memLog 6 0 (d.hostAddr y) := by
    simp [Device.hostWrite, hc.hostAddr, hc.allMapped, hm]
  rw [heq]
  refine ⟨?_, (lowRegs_memLog _ _ _ _).1.trans ((onlyRegs_raise _ _ _).1.trans hc.1)⟩
  rw [Device.bitAt_congr (memStatus_memLog _ _ _ _)]
  exact bitAt_raise_same _ _ _ (by decide) (by decide) (by decide)

section
variable (hm : d.allMapped (d.hostAddr y) bs.length = true)
include hm

/-- A write to a held plan slot is reported (R48, R50). -/
theorem hostWrite_held (hh : ∃ i, i ∈ d.heldSlots ∧ overlaps (d.hostAddr y) bs.length (d.slotArea i) = true) :
    (d.hostWrite y bs ep).bitAt Reg.tckStatus 7 = true ∧ OnlyRegs d (d.hostWrite y bs ep) [Reg.tckStatus] := by
  have hc := onlyRegs_perf d 196 0x100 (ceilDiv bs.length 64)
  have heq : d.hostWrite y bs ep = (d.perf 196 0x100 (ceilDiv bs.length 64)).raise Reg.tckStatus 7 := by
    simp [Device.hostWrite, hc.hostAddr, hc.allMapped, hc.heldSlots, hc.slotArea, hm, hh]
  rw [heq]
  exact ⟨bitAt_raise_same _ _ _ (by decide) (by decide) (by decide),
    (hc.mono fun _ hk => absurd hk List.not_mem_nil).trans (onlyRegs_raise _ _ _)⟩

variable (hh : ∀ i, i ∈ d.heldSlots → overlaps (d.hostAddr y) bs.length (d.slotArea i) = false)
include hh

/-- A write to a protected section is reported (R169). -/
theorem hostWrite_protected (ha : d.hostAddr y < 0x400000000)
    (hp : ∃ r, r ∈ d.protRanges ∧ overlaps (d.hostAddr y % 2 ^ 32) bs.length r = true) :
    (d.hostWrite y bs ep).bitAt Reg.hifModelState 31 = true ∧ OnlyRegs d (d.hostWrite y bs ep) [Reg.hifModelState] := by
  have hc := onlyRegs_perf d 196 0x100 (ceilDiv bs.length 64)
  have hfree : (d.heldSlots.any fun i => overlaps (d.hostAddr y) bs.length (d.slotArea i)) = false := by simpa using hh
  have hprot : d.protRanges.any (overlaps (d.hostAddr y % 2 ^ 32) bs.length) = true := List.any_eq_true.2 hp
  have heq : d.hostWrite y bs ep = (d.perf 196 0x100 (ceilDiv bs.length 64)).event Reg.hifModelState 31 := by
    simp only [Device.hostWrite, hc.hostAddr, hc.allMapped, hc.heldSlots, hc.slotArea, hc.protRanges, hm, hfree, ha, hprot,
      decide_true, Bool.not_true, Bool.false_eq_true, Bool.and_self, if_true, if_false]
  rw [heq]
  exact ⟨bitAt_event_same _ _ (by decide), (hc.mono fun _ hk => absurd hk List.not_mem_nil).trans (onlyRegs_event _ _ _)⟩

/-- Any other write to DRAM goes to memory, with its mark (R158). -/
theorem hostWrite_dram (hr : ∀ r, r ∈ d.protRanges ++ d.viewRanges → overlaps (d.hostAddr y % 2 ^ 32) bs.length r = false)
    (ht : d.fld Reg.memTest 1 0 ≠ 1) :
    d.hostWrite y bs ep = (d.perf 196 0x100 (ceilDiv bs.length 64)).writeMem (d.hostAddr y) bs ep := by
  have hc := onlyRegs_perf d 196 0x100 (ceilDiv bs.length 64)
  have hfree : (d.heldSlots.any fun i => overlaps (d.hostAddr y) bs.length (d.slotArea i)) = false := by simpa using hh
  have hprot : d.protRanges.any (overlaps (d.hostAddr y % 2 ^ 32) bs.length) = false := by
    simpa using fun a b hab => hr (a, b) (List.mem_append_left _ hab)
  have hview : d.viewRanges.any (overlaps (d.hostAddr y % 2 ^ 32) bs.length) = false := by
    simpa using fun a b hab => hr (a, b) (List.mem_append_right _ hab)
  have hraw : d.rawAt (d.hostAddr y) = false := by simp [Device.rawAt, ht]
  simp only [Device.hostWrite, hc.hostAddr, hc.allMapped, hc.heldSlots, hc.slotArea, hc.protRanges, hc.viewRanges, hc.rawAt,
    hm, hfree, hprot, hview, hraw, Bool.not_true, Bool.false_eq_true, Bool.and_false, if_false]

end

/-- A whole clean word of DRAM takes the bytes of the write and its mark (R158). -/
theorem hostWrite_word (h : d.DramWord (d.hostAddr y)) (hb : bs.length = 8) (hm : d.allMapped (d.hostAddr y) 8 = true)
    (hh : ∀ i, i ∈ d.heldSlots → overlaps (d.hostAddr y) 8 (d.slotArea i) = false)
    (hr : ∀ r, r ∈ d.protRanges ++ d.viewRanges → overlaps (d.hostAddr y % 2 ^ 32) 8 r = false)
    (ht : d.fld Reg.memTest 1 0 ≠ 1) :
    ∃ u, OnlyRegs d u [] ∧ d.hostWrite y bs ep = u.setMem
      (((d.mem.putBytes (d.hostAddr y) 8 (leNat bs)).setSyn (d.hostAddr y) (if ep then patAt (d.hostAddr y) else 0)).touch
        (d.hostAddr y)) := by
  have hc := onlyRegs_perf d 196 0x100 (ceilDiv bs.length 64)
  refine ⟨_, hc.trans (onlyRegs_dramEvent _ 0xC1 (d.hostAddr y) 8), ?_⟩
  rw [hostWrite_dram (hb ▸ hm) (hb ▸ hh) (hb ▸ hr) ht,
    (h.of_mem hc.mem).writeMem ((hc.mapped _).trans (h.allMapped.symm.trans hm)) hb, hc.mem]

end

/-! ## The host reads -/

section
variable {d : Device} {y n : Nat}

/-- A read of addresses without storage ends with Unsupported Request (R142). -/
theorem hostRead_unmapped (hm : d.allMapped (d.hostAddr y) n = false) :
    (d.hostRead y n).hif.rsp = { data := [], ep := false, ur := true } ∧ (d.hostRead y n).bitAt Reg.hifStatus 0 = true ∧
      (d.hostRead y n).bitAt Reg.memStatus 6 = true ∧ (d.hostRead y n).mem = d.mem := by
  have hc := onlyRegs_perf d 196 0x101 (ceilDiv n 64)
  have hlogged : ∃ u, u.bitAt Reg.memStatus 6 = true ∧ u.mem = d.mem ∧
      ((d.perf 196 0x101 (ceilDiv n 64)).raise Reg.memStatus 6).memLog 6 0 (d.hostAddr y) = u := by
    refine ⟨_, ?_, (mem_memLog _ _ _ _).trans ((mem_raise _ _ _).trans hc.mem), rfl⟩
    rw [Device.bitAt_congr (memStatus_memLog _ _ _ _)]
    exact bitAt_raise_same _ _ _ (by decide) (by decide) (by decide)
  obtain ⟨u, hstatus, hmem, hu⟩ := hlogged
  have heq : d.hostRead y n =
      { u.raise Reg.hifStatus 0 with hif := { (u.raise Reg.hifStatus 0).hif with rsp := ⟨[], false, true⟩ } } := by
    simp only [Device.hostRead, hc.hostAddr, hc.allMapped, hm, hu, Bool.not_false, if_true]
  rw [heq]
  refine ⟨rfl, bitAt_raise_same u Reg.hifStatus 0 (by decide) (by decide) (by decide), ?_, (mem_raise u _ _).trans hmem⟩
  exact (Device.bitAt_congr (reg_raise_ne u 0 (by decide) (by decide) (by decide)) 6).trans hstatus

/-- Any other read goes to memory (R158, R160). -/
theorem hostRead_dram (hm : d.allMapped (d.hostAddr y) n = true) (ht : d.fld Reg.memTest 1 0 ≠ 1) {u : Device} {l : Marked}
    (hread : (d.perf 196 0x101 (ceilDiv n 64)).readTag (d.hostAddr y) n = (u, l)) :
    d.hostRead y n = { u with hif := { u.hif with rsp := ⟨unmark l, anyMark l, false⟩ } } := by
  have hc := onlyRegs_perf d 196 0x101 (ceilDiv n 64)
  have hraw : d.rawAt (d.hostAddr y) = false := by simp [Device.rawAt, ht]
  simp only [Device.hostRead, hc.hostAddr, hc.allMapped, hm, hc.rawAt, hraw, hread, Bool.not_true, Bool.false_eq_true, if_false]

/-- A whole clean word of DRAM is answered with its bytes, without EP. -/
theorem hostRead_word (h : d.DramWord (d.hostAddr y)) (hm : d.allMapped (d.hostAddr y) 8 = true)
    (ht : d.fld Reg.memTest 1 0 ≠ 1) (hv : d.viewOf (d.hostAddr y) = none) (ho : d.oldAt (d.hostAddr y) = none) :
    ∃ u, OnlyRegs d u [] ∧ d.hostRead y 8 = { u with hif := { u.hif with rsp :=
      ⟨(List.range 8).map fun i => tabGet 0 d.mem.data (d.hostAddr y + i), false, false⟩ } } := by
  have hc := onlyRegs_perf d 196 0x101 (ceilDiv 8 64)
  have hread := (h.of_mem hc.mem).readTag ((hc.viewOf _).trans hv) ((hc.oldAt _).trans ho)
  rw [(h.of_mem hc.mem).toLe_word, hc.mem] at hread
  refine ⟨_, hc.trans (onlyRegs_dramEvent _ 0xC0 (d.hostAddr y) 8), ?_⟩
  rw [hostRead_dram hm ht hread]
  simp [unmark, anyMark]

theorem exec_hostMemoryRead_bar2 {s : State} (h : s.dev.bar2Ok y n = true) :
    exec (.hostMemoryRead ⟨.bar2, y⟩ n) s = act (s.dev.bar2Ok y n) (fun d => d.hostRead y n) s := by
  have hd3 : s.dev.hif.d3 = false := by
    simp only [Device.bar2Ok, Bool.and_eq_true, Bool.not_eq_true'] at h
    exact h.1.2
  show (if s.dev.hif.d3 then _ else _) = _
  rw [hd3]
  rfl

theorem exec_hostMemoryWrite (s : State) (y : Nat) (bs : List Byte) (ep : Bool) :
    exec (.hostMemoryWrite y bs ep) s = act (s.dev.bar2Ok y bs.length) (fun d => d.hostWrite y bs ep) s := rfl

end

theorem hostMemoryWrite_word {s : State} {y : Nat} {bs : List Byte} (ep : Bool) (h : s.dev.DramWord (s.dev.hostAddr y))
    (hok : s.dev.bar2Ok y 8 = true) (hb : bs.length = 8) (hm : s.dev.allMapped (s.dev.hostAddr y) 8 = true)
    (hh : ∀ i, i ∈ s.dev.heldSlots → overlaps (s.dev.hostAddr y) 8 (s.dev.slotArea i) = false)
    (hr : ∀ r, r ∈ s.dev.protRanges ++ s.dev.viewRanges → overlaps (s.dev.hostAddr y % 2 ^ 32) 8 r = false)
    (ht : s.dev.fld Reg.memTest 1 0 ≠ 1) :
    Completes (.hostMemoryWrite y bs ep) s fun d =>
      (∀ i, i < 8 → tabGet 0 d.mem.data (s.dev.hostAddr y + i) = bs.getD i 0) ∧
      (∀ a, a < s.dev.hostAddr y ∨ s.dev.hostAddr y + 8 ≤ a → tabGet 0 d.mem.data a = tabGet 0 s.dev.mem.data a) ∧
      d.mem.synAt (s.dev.hostAddr y) = (if ep then patAt (s.dev.hostAddr y) else 0) ∧
      SameRegs s.dev d [] ∧ d.sansMem = s.dev.sansMem := by
  obtain ⟨u, hu, heq⟩ := hostWrite_word (ep := ep) h hb hm hh hr ht
  refine (Completes.of_act (P := (· = _)) (exec_hostMemoryWrite s y bs ep) (hb ▸ hok) heq).mono fun d hd => ?_
  generalize s.dev.hostAddr y = w at hd ⊢
  subst hd
  refine ⟨fun i hi => ?_, fun a hout => ?_, ?_, hu.2.setMem _, (sansMem_setMem u _).trans (sansMem_of_sansRegs hu.1)⟩
  · rw [Device.mem_setMem, MemSys.data_touch, MemSys.data_setSyn, MemSys.data_putBytes, if_pos (by omega),
      Nat.add_sub_cancel_left, toLe_leNat hb]
  · rw [Device.mem_setMem, MemSys.data_touch, MemSys.data_setSyn, MemSys.data_putBytes, if_neg (by omega)]
  · have hlt : (if ep = true then patAt w else 0) < 256 := by
      split
      · exact patAt_lt w
      · decide
    rw [Device.mem_setMem, MemSys.synAt_touch, MemSys.synAt_setSyn_same, Nat.mod_eq_of_lt hlt]

theorem hostMemoryRead_word {s : State} {y : Nat} (h : s.dev.DramWord (s.dev.hostAddr y)) (hok : s.dev.bar2Ok y 8 = true)
    (hm : s.dev.allMapped (s.dev.hostAddr y) 8 = true) (ht : s.dev.fld Reg.memTest 1 0 ≠ 1)
    (hv : s.dev.viewOf (s.dev.hostAddr y) = none) (ho : s.dev.oldAt (s.dev.hostAddr y) = none) :
    Completes (.hostMemoryRead ⟨.bar2, y⟩ 8) s fun d =>
      d.hif.rsp.ep = false ∧ d.hif.rsp.ur = false ∧ d.hif.rsp.data.length = 8 ∧
      (∀ i, i < 8 → d.hif.rsp.data.getD i 0 = tabGet 0 s.dev.mem.data (s.dev.hostAddr y + i)) ∧
      d.mem = s.dev.mem ∧ SameRegs s.dev d [] := by
  obtain ⟨u, hu, heq⟩ := hostRead_word h hm ht hv ho
  refine (Completes.of_act (P := (· = _)) (exec_hostMemoryRead_bar2 hok) hok heq).mono fun d hd => ?_
  subst hd
  refine ⟨rfl, rfl, by simp, fun i hi => ?_, hu.mem, hu.2.withRsp _⟩
  simp [hi]

/-- Settles O20: each clause names the branch that the access takes; a write or a read that reaches a clean word of DRAM is the one
piece that `Device.DramWord` describes. -/
theorem hostAccessesMemory : Obligations.HostAccessesMemory := by
  refine ⟨⟨fun s y bs ep hok hm => ?_, fun s y bs ep hok hm hh => ?_, fun s y bs ep hok hm hh ha hp => ?_,
    fun s y bs ep hb hok h8 hm ha hh hr ht hs hdec hmerge => ?_⟩, fun s y n hok hm => ?_,
    fun s y hok h8 hm ha ht hv ho hs hdec hmerge => ?_⟩
  · exact .of_act (exec_hostMemoryWrite s y bs ep) hok (hostWrite_unmapped hm)
  · exact .of_act (exec_hostMemoryWrite s y bs ep) hok (hostWrite_held hm hh)
  · exact .of_act (exec_hostMemoryWrite s y bs ep) hok (hostWrite_protected hm hh ha hp)
  · exact hostMemoryWrite_word ep ⟨ha, h8, hs, hdec, hmerge⟩ hok hb hm hh hr ht
  · exact .of_act (exec_hostMemoryRead_bar2 hok) hok (hostRead_unmapped hm)
  · exact hostMemoryRead_word ⟨ha, h8, hs, hdec, hmerge⟩ hok hm ht hv ho

end Sys2Proof.Machine
end

section
/-! What a flit that is sent changes (R182, R183, R185): the port it leaves on and what has gone out. -/

namespace Sys2Proof.Machine

/-! ## Ports -/

@[simp] theorem Device.portAt_setPort_same (d : Device) (p : Nat) (t : DskPort) : (d.setPort p t).portAt p = t :=
  tabGet_tabSet_same _ _ _ _

theorem Device.portAt_setPort_ne (d : Device) {p o : Nat} (t : DskPort) (h : o ≠ p) : (d.setPort p t).portAt o = d.portAt o :=
  tabGet_tabSet_ne _ _ _ h

/-- A port without what sending changes: its sequence number, its replay buffer and what waits. -/
def DskPort.link (t : DskPort) : DskPort := { t with txSeq := 0, replay := [], wait := [] }

theorem link_setPort {d : Device} {p : Nat} {t : DskPort} (h : t.link = (d.portAt p).link) (o : Nat) :
    ((d.setPort p t).portAt o).link = (d.portAt o).link := by
  by_cases ho : o = p
  · subst ho
    rw [Device.portAt_setPort_same, h]
  · rw [Device.portAt_setPort_ne d t ho]

/-! ## Steps of a link -/

/-- The device without its registers, its Diesk ports and what has gone out on them. -/
def Device.sansLinks (d : Device) : Device := { d.sansRegs with dsk := { d.dsk with port := [], out := [] } }

/-- From `d` to `d'` only Diesk ports and what has gone out on them change, with interrupts and performance counters. -/
structure LinkStep (d d' : Device) : Prop where
  rest : d'.sansLinks = d.sansLinks
  regs : SameRegs d d' []

namespace LinkStep

theorem refl (d : Device) : LinkStep d d := ⟨rfl, fun _ _ _ => rfl⟩

theorem trans {a b c : Device} (h : LinkStep a b) (g : LinkStep b c) : LinkStep a c :=
  ⟨g.rest.trans h.rest, fun k hk hi => (g.regs k hk hi).trans (h.regs k hk hi)⟩

theorem of_onlyRegs {a b : Device} (h : OnlyRegs a b []) : LinkStep a b :=
  ⟨congrArg (fun z : Device => { z with dsk := { z.dsk with port := [], out := [] } }) h.1, h.2⟩

theorem perf (d : Device) (u ev n : Nat) : LinkStep d (d.perf u ev n) := .of_onlyRegs (onlyRegs_perf d u ev n)

theorem setPort (d : Device) (p : Nat) (t : DskPort) : LinkStep d (d.setPort p t) := ⟨rfl, fun _ _ _ => rfl⟩

variable {d d' : Device} (h : LinkStep d d')
include h

/-- What looks neither at registers nor at ports and what has gone out is the same. -/
theorem read {α : Sort*} (g : Device → α) (hg : ∀ d : Device, g d.sansLinks = g d) : g d' = g d := by
  rw [← hg d', h.rest, hg d]

theorem reg {k : Nat} (hk : k ∉ irqRegs) : d'.reg k = d.reg k := h.regs k List.not_mem_nil hk

/-- The frame as the statements put it. -/
theorem sansRegs : d'.sansRegs = { d with dsk := { d.dsk with port := d'.dsk.port, out := d'.dsk.out } }.sansRegs :=
  congrArg (fun z : Device => { z with dsk := { z.dsk with port := d'.dsk.port, out := d'.dsk.out } }) h.rest

theorem devId : d'.devId = d.devId := Device.fld_congr (h.reg (by decide)) 3 0
theorem topo : d'.topo = d.topo := Device.fld_congr (h.reg (by decide)) 11 10
theorem masterId : d'.masterId = d.masterId := Device.fld_congr (h.reg (by decide)) 31 28
theorem frame : d'.frame = d.frame := h.reg (by decide)
theorem routes : d'.dsk.routes = d.dsk.routes := h.read (·.dsk.routes) fun _ => rfl
theorem mem : d'.mem = d.mem := h.read Device.mem fun _ => rfl
theorem chk : d'.chk = d.chk := h.read Device.chk fun _ => rfl
theorem eng : d'.eng = d.eng := h.read Device.eng fun _ => rfl
theorem cmpAlive : d'.cmpAlive = d.cmpAlive := h.read Device.cmpAlive fun _ => rfl

theorem isMaster : d'.isMaster = d.isMaster := by
  rw [Device.isMaster, h.topo, Device.bitAt_congr (h.reg (by decide)), ← Device.isMaster]

theorem follower : d'.follower = d.follower := by
  rw [Device.follower, h.isMaster, h.read (·.dsk.hasMaster) fun _ => rfl, ← Device.follower]

end LinkStep

/-- A route leads to the same port where the same ports are up. -/
theorem route_of_up {d d' : Device} (hr : d'.dsk.routes = d.dsk.routes) (hu : ∀ o, (d'.portAt o).up = (d.portAt o).up) (j : Nat) :
    d'.route j = d.route j := by
  simp only [Device.route, hr, hu]

/-- A step of a link that leaves every port but for what sending changes. -/
structure SendStep (d d' : Device) : Prop extends LinkStep d d' where
  link : ∀ o, (d'.portAt o).link = (d.portAt o).link

namespace SendStep

theorem refl (d : Device) : SendStep d d := ⟨.refl d, fun _ => rfl⟩

theorem trans {a b c : Device} (h : SendStep a b) (g : SendStep b c) : SendStep a c :=
  ⟨h.toLinkStep.trans g.toLinkStep, fun o => (g.link o).trans (h.link o)⟩

theorem of_ite {a b c : Device} {p : Prop} [Decidable p] (h : SendStep a b) (g : SendStep a c) : SendStep a (if p then b else c) := by
  split <;> assumption

theorem foldl {α : Type} {f : Device → α → Device} (hf : ∀ d x, SendStep d (f d x)) (l : List α) (d : Device) :
    SendStep d (l.foldl f d) :=
  foldl_counted (P := fun _ u => SendStep d u) (fun _ _ _ h => h.trans (hf _ _)) l (n := 0) (.refl d)

theorem perf (d : Device) (u ev n : Nat) : SendStep d (d.perf u ev n) :=
  ⟨.perf d u ev n, fun o => congrArg DskPort.link (portAt_congr (congrArg (·.dsk) (onlyRegs_perf d u ev n).1) o)⟩

theorem setPort {d : Device} {p : Nat} {t : DskPort} (h : t.link = (d.portAt p).link) : SendStep d (d.setPort p t) :=
  ⟨.setPort d p t, link_setPort h⟩

variable {d d' : Device} (h : SendStep d d')
include h

theorem up (o : Nat) : (d'.portAt o).up = (d.portAt o).up := congrArg (·.up) (h.link o)
theorem rxSeq (o : Nat) : (d'.portAt o).rxSeq = (d.portAt o).rxSeq := congrArg (·.rxSeq) (h.link o)
theorem partner (o : Nat) : (d'.portAt o).partner = (d.portAt o).partner := congrArg (·.partner) (h.link o)
theorem route (j : Nat) : d'.route j = d.route j := route_of_up h.routes h.up j

end SendStep

/-! ## Sending one flit -/

/-- Putting a flit on the wire. -/
theorem dsk_putOut (d : Device) (p : Nat) (x : TxFlit) : (d.putOut p x).dsk = { d.dsk with out := d.dsk.out ++ [(p, x)] } :=
  congrArg (·.dsk) (onlyRegs_perf { d with dsk := { d.dsk with out := d.dsk.out ++ [(p, x)] } } 197 0x101 1).1

theorem portAt_putOut (d : Device) (p o : Nat) (x : TxFlit) : (d.putOut p x).portAt o = d.portAt o := by
  rw [Device.portAt, dsk_putOut]
  rfl

theorem sendStep_putOut (d : Device) (p : Nat) (x : TxFlit) : SendStep d (d.putOut p x) :=
  SendStep.trans (b := { d with dsk := { d.dsk with out := d.dsk.out ++ [(p, x)] } }) ⟨⟨rfl, fun _ _ _ => rfl⟩, fun _ => rfl⟩
    (.perf _ _ _ _)

/-- Flit `x` as it leaves port `p`: with the port's SEQ and ACK and its CRC (R183). -/
def Device.sealed (d : Device) (p : Nat) (x : TxFlit) : TxFlit :=
  { x with flit := Flit.seal x.type { x.flit with seq := (d.portAt p).txSeq, ack := (d.portAt p).rxSeq } }

theorem putSeq_eq (d : Device) (p : Nat) (x : TxFlit) : d.putSeq p x = (d.setPort p { d.portAt p with
    txSeq := ((d.portAt p).txSeq + 1) % 4096, replay := (d.portAt p).replay ++ [d.sealed p x] }).putOut p (d.sealed p x) := rfl

theorem sendStep_putSeq (d : Device) (p : Nat) (x : TxFlit) : SendStep d (d.putSeq p x) := by
  rw [putSeq_eq]
  refine .trans (.setPort ?_) (sendStep_putOut _ _ _)
  rfl

/-- A flit of link control leaves at once, and no port changes (log 16). -/
theorem pushFlit_control (d : Device) (p : Nat) {x : TxFlit} (h : FT.control x.type = true) :
    d.pushFlit p x = d.putOut p (d.sealed p x) := if_pos h

/-- A flit that the replay buffer takes leaves at once. -/
theorem pushFlit_free {d : Device} {p : Nat} {x : TxFlit} (h : FT.control x.type = false) (hf : d.linkFree p) :
    d.pushFlit p x = d.putSeq p x := by
  rw [Device.pushFlit, h]
  exact if_pos hf

/-- One that it does not take waits. -/
theorem pushFlit_full {d : Device} {p : Nat} {x : TxFlit} (h : FT.control x.type = false) (hf : ¬ d.linkFree p) :
    d.pushFlit p x = d.setPort p { d.portAt p with wait := (d.portAt p).wait ++ [x] } := by
  rw [Device.pushFlit, h]
  exact if_neg hf

theorem sendStep_pushFlit (d : Device) (p : Nat) (x : TxFlit) : SendStep d (d.pushFlit p x) := by
  unfold Device.pushFlit
  exact .of_ite (sendStep_putOut _ _ _) (.of_ite (sendStep_putSeq _ _ _) (.setPort rfl))

theorem sendStep_sendOn (d : Device) (p type dst addr len : Nat) (poison : BitVec 8) (bs : List Byte) :
    SendStep d (d.sendOn p type dst addr len poison bs) := sendStep_pushFlit _ _ _

theorem sendStep_sendTo (d : Device) (type dst addr len : Nat) (poison : BitVec 8) (bs : List Byte) :
    SendStep d (d.sendTo type dst addr len poison bs) := by
  unfold Device.sendTo
  split
  · exact sendStep_sendOn _ _ _ _ _ _ _ _
  · exact .refl d

/-- A flit that is sent on a port leaves the others. -/
theorem portAt_putSeq_ne (d : Device) {p o : Nat} (x : TxFlit) (h : o ≠ p) : (d.putSeq p x).portAt o = d.portAt o := by
  rw [putSeq_eq, portAt_putOut, Device.portAt_setPort_ne d _ h]

theorem portAt_putSeq_same (d : Device) (p : Nat) (x : TxFlit) : (d.putSeq p x).portAt p = { d.portAt p with
    txSeq := ((d.portAt p).txSeq + 1) % 4096, replay := (d.portAt p).replay ++ [d.sealed p x] } := by
  rw [putSeq_eq, portAt_putOut, Device.portAt_setPort_same]

theorem portAt_pushFlit_ne (d : Device) {p o : Nat} (x : TxFlit) (h : o ≠ p) : (d.pushFlit p x).portAt o = d.portAt o := by
  unfold Device.pushFlit
  simp only
  split
  · exact portAt_putOut _ _ _ _
  · split
    · exact portAt_putSeq_ne d x h
    · exact d.portAt_setPort_ne _ h

theorem out_putSeq (d : Device) (p : Nat) (x : TxFlit) : (d.putSeq p x).dsk.out = d.dsk.out ++ [(p, d.sealed p x)] := by
  rw [putSeq_eq, dsk_putOut]
  rfl

/-! ## Acknowledgements (R183) -/

theorem pushWait_eq (d : Device) (p : Nat) : d.pushWait p = iterN (fun _ d =>
    match (d.portAt p).wait with
    | x :: l => if (d.portAt p).replay.length < 512 then (d.setPort p { d.portAt p with wait := l }).putSeq p x else d
    | [] => d) (d.portAt p).wait.length d := rfl

/-- What waits for room changes the port's sequence and buffers as it is sent. -/
theorem sendStep_pushWait (d : Device) (p : Nat) : SendStep d (d.pushWait p) ∧ ∀ o, o ≠ p → (d.pushWait p).portAt o = d.portAt o := by
  rw [pushWait_eq]
  generalize (d.portAt p).wait.length = n
  induction n with
  | zero => exact ⟨.refl d, fun _ _ => rfl⟩
  | succ n ih =>
    rw [iterN]
    generalize iterN _ n d = u at ih ⊢
    obtain ⟨hu, hne⟩ := ih
    split
    · split
      · refine ⟨hu.trans (.trans (.setPort ?_) (sendStep_putSeq _ _ _)), fun o ho => ?_⟩
        · rfl
        · rw [portAt_putSeq_ne _ _ ho, Device.portAt_setPort_ne u _ ho, hne o ho]
      · exact ⟨hu, hne⟩
    · exact ⟨hu, hne⟩

theorem pushWait_nil {d : Device} {p : Nat} (h : (d.portAt p).wait = []) : d.pushWait p = d := by
  rw [pushWait_eq, h]
  rfl

theorem sendStep_takeAck (d : Device) (p a : Nat) : SendStep d (d.takeAck p a) := by
  refine .trans (.setPort ?_) (sendStep_pushWait _ p).1
  rfl

theorem portAt_takeAck_ne (d : Device) {p o : Nat} (a : Nat) (h : o ≠ p) : (d.takeAck p a).portAt o = d.portAt o := by
  rw [Device.takeAck, (sendStep_pushWait _ p).2 o h, d.portAt_setPort_ne _ h]

theorem takeAck_of_wait_nil {d : Device} {p : Nat} (h : (d.portAt p).wait = []) (a : Nat) :
    d.takeAck p a = d.setPort p { d.portAt p with replay := acked (d.portAt p).replay a } :=
  pushWait_nil (by rw [Device.portAt_setPort_same, h])

/-! ## A flit in turn -/

theorem linkStep_took (d : Device) (p : Nat) (f : Flit) : LinkStep d (d.took p f) :=
  (LinkStep.setPort d p _).trans (sendStep_takeAck _ _ _).toLinkStep

theorem up_took (d : Device) (p : Nat) (f : Flit) (o : Nat) : ((d.took p f).portAt o).up = (d.portAt o).up := by
  rw [Device.took, (sendStep_takeAck _ _ _).up]
  by_cases ho : o = p
  · subst ho
    rw [Device.portAt_setPort_same]
  · rw [d.portAt_setPort_ne _ ho]

theorem route_took (d : Device) (p : Nat) (f : Flit) (j : Nat) : (d.took p f).route j = d.route j :=
  route_of_up (linkStep_took d p f).routes (up_took d p f) j

theorem rxSeq_took (d : Device) (p : Nat) (f : Flit) : ((d.took p f).portAt p).rxSeq = f.seq := by
  rw [Device.took, (sendStep_takeAck _ _ _).rxSeq, Device.portAt_setPort_same]

/-- What acts on a flit in turn acts on: the link has taken it, and it is counted. -/
def Device.tookCounted (d : Device) (p : Nat) (f : Flit) : Device := (d.took p f).perf 197 0x100 1

theorem sendStep_tookCounted (d : Device) (p : Nat) (f : Flit) : SendStep (d.took p f) (d.tookCounted p f) := .perf _ _ _ _

theorem dsk_tookCounted (d : Device) (p : Nat) (f : Flit) : (d.tookCounted p f).dsk = (d.took p f).dsk :=
  congrArg (·.dsk) (onlyRegs_perf _ _ _ _).1

theorem linkStep_tookCounted (d : Device) (p : Nat) (f : Flit) : LinkStep d (d.tookCounted p f) :=
  (linkStep_took d p f).trans (sendStep_tookCounted d p f).toLinkStep

theorem receive_inTurn {d : Device} {p type : Nat} {f : Flit} (h : d.inTurn p type f) (own : Bool) (body : Device → Device) :
    d.receive p type f own body = (if (own || decide (f.dst = d.devId)) = true then body (d.tookCounted p f)
      else (d.tookCounted p f).relay type f).ackIdle p (d.sentOn p) := by
  obtain ⟨hon, -, hcrc, hseq⟩ := h
  rw [← (linkStep_tookCounted d p f).devId, Device.receive]
  simp only [hon, Bool.not_true, Bool.false_eq_true, if_false]
  rw [if_neg (not_not.mpr hcrc), if_neg (not_not.mpr hseq)]
  rfl

/-- The flit that takes an ACK back (log 142). -/
theorem sendOn_idle (d : Device) (p : Nat) : ∃ x : TxFlit, x.type = FT.idle ∧ x.flit.ack = (d.portAt p).rxSeq ∧
    d.sendOn p FT.idle (d.portAt p).partner 0 0 0 [] = d.putOut p x :=
  ⟨_, rfl, rfl, pushFlit_control d p rfl⟩

theorem sendStep_ackIdle (d : Device) (p n : Nat) : SendStep d (d.ackIdle p n) := .of_ite (sendStep_sendOn _ _ _ _ _ _ _ _) (.refl d)

theorem portAt_ackIdle (d : Device) (p n o : Nat) : (d.ackIdle p n).portAt o = d.portAt o := by
  unfold Device.ackIdle
  split
  · obtain ⟨x, -, -, hx⟩ := sendOn_idle d p
    rw [hx, portAt_putOut]
  · rfl

/-- A flit is handled where what acted on it has sent the flits of `l` and left the last good SEQ of its port. -/
theorem handled_ackIdle {d v : Device} {p : Nat} {f : Flit} {l : List (Nat × TxFlit)} (ho : v.dsk.out = (d.took p f).dsk.out ++ l)
    (hs : (v.portAt p).rxSeq = f.seq) : Handled d (v.ackIdle p (d.sentOn p)) p f l := by
  obtain ⟨x, ht, ha, hx⟩ := sendOn_idle v p
  refine ⟨x, ht, ha.trans hs, ?_⟩
  rw [Device.ackIdle, hx, ← ho]
  change _ = v.dsk.out ++ if v.sentOn p = d.sentOn p then [(p, x)] else []
  by_cases hc : v.sentOn p = d.sentOn p
  · rw [if_pos hc, if_pos hc, dsk_putOut]
  · rw [if_neg hc, if_neg hc, List.append_nil]

end Sys2Proof.Machine
end

section
/-! Training and claims (R181, R183, R184, R190): what a port shows, and the STATUS flits that a claim sends. -/

namespace Sys2Proof.Machine

theorem exec_train (s : State) (p : Nat) (f : Flit) (major minor lanes : Nat) : exec (.train p f major minor lanes) s =
    act (f.wf && s.dev.portOn p) (fun d => d.control p FT.train f fun d => d.trained p f major minor lanes) s := rfl

theorem exec_dskPortRetrain (s : State) (p : Nat) : exec (.dskPortRetrain p) s = act (s.dev.portOn p) (fun d => d.retrain p) s := rfl

/-- A TRAIN flit with its CRC trains. -/
theorem exec_train_crc (s : State) (p major minor lanes : Nat) {f : Flit} (h : f.crc = flitCrc FT.train f) :
    exec (.train p f major minor lanes) s = act (f.wf && s.dev.portOn p) (fun d => d.trained p f major minor lanes) s := by
  rw [exec_train]
  exact congrArg (act _ · s) (funext fun d => if_neg (not_not.mpr h))

/-- A flit of link control with its CRC acts. -/
theorem control_crc {d : Device} {p type : Nat} {f : Flit} {body : Device → Device} (h : f.crc = flitCrc type f) :
    d.control p type f body = body d := if_neg (not_not.mpr h)

theorem SameRegs.trans {a b c : Device} {l m : List Nat} (h : SameRegs a b l) (g : SameRegs b c m) : SameRegs a c (l ++ m) :=
  fun k hk hi => (g k (fun x => hk (List.mem_append_right _ x)) hi).trans (h k (fun x => hk (List.mem_append_left _ x)) hi)

theorem SameRegs.trans_nil {a b c : Device} {l : List Nat} (h : SameRegs a b l) (g : SameRegs b c []) : SameRegs a c l :=
  fun k hk hi => (g k List.not_mem_nil hi).trans (h k hk hi)

/-! ## What a port shows (Table 7.18) -/

theorem bits_word (v hi lo : Nat) : bits (word v) hi lo = v % 2 ^ 32 / 2 ^ lo % 2 ^ (hi + 1 - lo) := by
  rw [bits, word, BitVec.toNat_ofNat, natBits]

theorem dskPortStatus_not_irq {p : Nat} (h : p < 4) : Reg.dskPortStatus p ∉ irqRegs := by
  have : p = 0 ∨ p = 1 ∨ p = 2 ∨ p = 3 := by omega
  rcases this with rfl | rfl | rfl | rfl <;> decide

theorem portOn_lt {d : Device} {p : Nat} (h : d.portOn p = true) : p < 4 := by
  simp only [Device.portOn, Bool.and_eq_true, decide_eq_true_eq] at h
  exact h.1.2

theorem cmpAlive_of_portOn {d : Device} {p : Nat} (h : d.portOn p = true) : d.cmpAlive = true := by
  simp only [Device.portOn, Bool.and_eq_true] at h
  exact h.1.1

theorem portOn_of_linkOn {d : Device} {p : Nat} (h : d.linkOn p = true) : d.portOn p = true := by
  simp only [Device.linkOn, Bool.and_eq_true] at h
  exact h.1

/-- `u` is `d` with port `p` replaced by `t` and shown. -/
structure Shown (d u : Device) (p : Nat) (t : DskPort) : Prop where
  dsk : u.dsk = (d.setPort p t).dsk
  reg : u.reg (Reg.dskPortStatus p) = portWord t
  regs : SameRegs d u [Reg.dskPortStatus p]
  rest : u.sansRegs = (d.setPort p t).sansRegs

theorem shown_showPort (d : Device) (p : Nat) (t : DskPort) : Shown d (d.showPort p t) p t where
  dsk := Device.setReg_dsk _ _ _
  reg := Device.reg_setReg_same _ _ _
  regs := (onlyRegs_setReg (d.setPort p t) _ _).2
  rest := sansRegs_setReg _ _ _

namespace Shown

variable {d u : Device} {p : Nat} {t : DskPort} (h : Shown d u p t)
include h

theorem port : u.portAt p = t := (portAt_congr h.dsk p).trans (d.portAt_setPort_same p t)

theorem other {o : Nat} (ho : o ≠ p) : u.portAt o = d.portAt o := (portAt_congr h.dsk o).trans (d.portAt_setPort_ne t ho)

theorem out : u.dsk.out = d.dsk.out := congrArg (·.out) h.dsk

theorem devId : u.devId = d.devId :=
  Device.fld_congr (h.regs _ (by simp only [List.mem_singleton, Reg.dskCfg, Reg.dskPortStatus]; omega) (by decide)) 3 0

theorem topo : u.topo = d.topo :=
  Device.fld_congr (h.regs _ (by simp only [List.mem_singleton, Reg.dskCfg, Reg.dskPortStatus]; omega) (by decide)) 11 10

/-- The frame as the statements put it. -/
theorem sansRegs : u.sansRegs = { d with dsk := { d.dsk with port := u.dsk.port } }.sansRegs := by
  rw [h.rest, h.dsk]
  rfl

end Shown

/-- The status of a port that is up, with its partner. -/
theorem portWord_up {t : DskPort} (hu : t.up = true) (hj : t.major = 1) (hn : t.minor = 0) (hp : t.partner < 16) :
    bits (portWord t) 1 0 = 2 ∧ bits (portWord t) 31 28 = t.partner := by
  simp only [portWord, bits_word, hu, hj, hn, if_true]
  cases t.x8 <;> simp only [if_true, Bool.false_eq_true, if_false] <;> omega

theorem portWord_training : bits (portWord { DskPort.reset with training := true }) 1 0 = 1 := by decide

/-! ## Claims (R190) -/

/-- The device with its claim in force: since when. -/
def Device.claimed (d : Device) : Device := { d with dsk := { d.dsk with claimAt := some (d.dsk.claimAt.getD d.q) } }

theorem claim_eq {d : Device} (h : d.topo ≠ 0) : d.claim = d.claimed.sendStatus := by
  rw [Device.claim, if_neg h]
  refine congrArg Device.sendStatus ?_
  unfold Device.claimed
  split
  next hs =>
    obtain ⟨t, ht⟩ := Option.isSome_iff_exists.mp hs
    rw [ht, Option.getD_some, ← ht]
  next hs =>
    rw [Option.not_isSome_iff_eq_none.mp hs]
    rfl

theorem sendStep_sendStatus (d : Device) : SendStep d d.sendStatus := .foldl (fun _ _ => sendStep_sendTo _ _ _ _ _ _ _) _ d

/-- The replay buffer of port `o` holds at most `n` flits, and none waits. -/
def Device.holds (d : Device) (o n : Nat) : Prop := (d.portAt o).replay.length ≤ n ∧ (d.portAt o).wait = []

theorem holds_pushFlit {d : Device} {o n : Nat} (p : Nat) {x : TxFlit} (h : d.holds o n) (hn : n < 512)
    (hx : FT.control x.type = false) : (d.pushFlit p x).holds o (n + 1) := by
  obtain ⟨hr, hw⟩ := h
  by_cases ho : o = p
  · subst ho
    rw [pushFlit_free hx ⟨by omega, hw⟩, Device.holds, portAt_putSeq_same]
    exact ⟨by simpa using hr, hw⟩
  · rw [Device.holds, portAt_pushFlit_ne _ _ ho]
    exact ⟨by omega, hw⟩

theorem holds_sendTo {d : Device} {o n type : Nat} (h : d.holds o n) (hn : n < 512) (hx : FT.control type = false)
    (dst addr len : Nat) (poison : BitVec 8) (bs : List Byte) : (d.sendTo type dst addr len poison bs).holds o (n + 1) := by
  unfold Device.sendTo
  split
  · exact holds_pushFlit _ h hn hx
  · exact ⟨Nat.le_succ_of_le h.1, h.2⟩

theorem holds_sendStatus {d : Device} {o n : Nat} (h : d.holds o n) (hn : n + 16 ≤ 512) : d.sendStatus.holds o (n + 16) := by
  have := foldl_counted (P := fun k (u : Device) => n + k ≤ 512 → u.holds o (n + k))
    (f := fun d j => d.sendTo FT.status j 0 10 0 d.statusBytes)
    (fun k u j hu hk => holds_sendTo (hu (by omega)) (by omega) rfl _ _ _ _ _) (List.range 16) (n := 0) (b := d) (fun _ => h)
  exact this hn

/-- What a STATUS flit reports does not change with what is sent. -/
theorem LinkStep.statusBytes {d d' : Device} (h : LinkStep d d') : d'.statusBytes = d.statusBytes := by
  rw [Device.statusBytes, Device.statusBytes, h.chk, Device.mayClaim, Device.mayClaim, Device.bitAt_congr (h.reg (by decide)),
    h.isMaster, h.read (·.dsk.claimAt) fun _ => rfl, h.read Device.sysTag fun _ => rfl]

/-- Without a system there is nothing to claim. -/
theorem linkClaim_alone {d : Device} (p : Nat) (h : d.topo = 0) : d.linkClaim p = d := by
  rw [Device.linkClaim, Device.claim, if_pos h]
  exact if_pos (.inl h)

/-- A claim at link-up: it is in force, and the partner is told, over the link where no route leads to it yet. -/
theorem linkClaim_spec {d : Device} {p : Nat} (h : d.topo ≠ 0) (hfree : d.holds p 0) : SendStep d.claimed (d.linkClaim p) ∧
    ((d.linkClaim p).route (d.portAt p).partner = none → ∃ x : TxFlit, (p, x) ∈ (d.linkClaim p).dsk.out ∧ x.type = FT.status ∧
      x.flit.dst = (d.portAt p).partner ∧ x.flit.payload = padFlit (d.linkClaim p).statusBytes) := by
  have hsent : SendStep d.claimed d.claim := claim_eq h ▸ sendStep_sendStatus _
  have hroom : d.claim.holds p 16 := claim_eq h ▸ holds_sendStatus (d := d.claimed) hfree (by decide)
  have hpart : (d.claim.portAt p).partner = (d.portAt p).partner := hsent.partner p
  have htopo : d.claim.topo ≠ 0 := hsent.topo ▸ h
  rw [Device.linkClaim]
  simp only [htopo, false_or]
  split
  next hr => exact ⟨hsent, fun hn => by rw [hpart, hn] at hr; simp at hr⟩
  next hr =>
    have hstep := sendStep_sendOn d.claim p FT.status (d.claim.portAt p).partner 0 10 0 d.claim.statusBytes
    refine ⟨hsent.trans hstep, fun _ => ?_⟩
    rw [hstep.statusBytes, Device.sendOn, pushFlit_free rfl ⟨Nat.lt_of_le_of_lt hroom.1 (by decide), hroom.2⟩, out_putSeq]
    exact ⟨_, List.mem_append_right _ (List.mem_singleton_self _), rfl, hpart, rfl⟩

/-! ## Training (R181, R184) -/

/-- A retraining shows the port training and sends a TRAIN flit that names version 1.0. -/
theorem retrain_eq {d : Device} {p : Nat} (hd : (d.portAt p).up = false) :
    d.retrain p = (d.showPort p { DskPort.reset with training := true }).sendOn p FT.train (d.portAt p).partner 0 3 0
      (toLe 1 1 ++ toLe 1 0 ++ toLe 1 d.devId) := by
  rw [Device.retrain, hd]
  rfl

theorem retrain_spec {d : Device} {p : Nat} (hp : p < 4) (hd : (d.portAt p).up = false) :
    (d.retrain p).portAt p = { DskPort.reset with training := true } ∧
    (d.retrain p).fld (Reg.dskPortStatus p) 1 0 = 1 ∧ SameRegs d (d.retrain p) [Reg.dskPortStatus p] ∧
    (∃ x : TxFlit, (d.retrain p).dsk.out = d.dsk.out ++ [(p, x)] ∧ x.type = FT.train ∧ x.flit.src = d.devId ∧
      x.flit.payload.take 2 = [1, 0]) ∧
    (d.retrain p).sansRegs =
      { d with dsk := { d.dsk with port := (d.retrain p).dsk.port, out := (d.retrain p).dsk.out } }.sansRegs := by
  rw [retrain_eq hd]
  have hshown := shown_showPort d p { DskPort.reset with training := true }
  generalize d.showPort p { DskPort.reset with training := true } = u at hshown ⊢
  have hstep := sendStep_sendOn u p FT.train (d.portAt p).partner 0 3 0 (toLe 1 1 ++ toLe 1 0 ++ toLe 1 d.devId)
  refine ⟨?_, ?_, hshown.regs.trans_nil hstep.regs, ?_, ?_⟩
  · rw [Device.sendOn, pushFlit_control _ _ rfl, portAt_putOut, hshown.port]
  · rw [Device.fld, hstep.reg (dskPortStatus_not_irq hp), hshown.reg, portWord_training]
  · rw [Device.sendOn, pushFlit_control _ _ rfl, dsk_putOut, ← hshown.out]
    exact ⟨_, rfl, rfl, hshown.devId, rfl⟩
  · rw [hstep.sansRegs]
    exact congrArg (fun z : Device => { z with dsk := { z.dsk with
      port := (u.sendOn p FT.train (d.portAt p).partner 0 3 0 (toLe 1 1 ++ toLe 1 0 ++ toLe 1 d.devId)).dsk.port,
      out := (u.sendOn p FT.train (d.portAt p).partner 0 3 0 (toLe 1 1 ++ toLe 1 0 ++ toLe 1 d.devId)).dsk.out } }) hshown.sansRegs

/-- The port that a partner of major version 1 brings up. -/
def portUp (f : Flit) (minor lanes : Nat) : DskPort := { DskPort.reset with
  up := true, x8 := decide (lanes = 8), partner := f.src, major := 1, minor := min 0 minor, rxSeq := 4095 }

theorem trained_up {d : Device} {p lanes : Nat} {f : Flit} (minor : Nat) (hd : (d.portAt p).up = false) (hl : lanes = 8 ∨ lanes = 4) :
    d.trained p f 1 minor lanes = (d.showPort p (portUp f minor lanes)).linkClaim p := by
  rw [Device.trained, hd]
  simp only [Bool.false_eq_true, if_false, ne_eq, not_true_eq_false]
  rw [if_neg (by omega)]
  rfl

theorem src_lt_of_wf {f : Flit} (h : f.wf = true) : f.src < 16 := by
  simp only [Flit.wf, Bool.and_eq_true, decide_eq_true_eq] at h
  obtain ⟨⟨⟨⟨⟨⟨-, hsrc⟩, -⟩, -⟩, -⟩, -⟩, -⟩ := h
  exact hsrc

/-- What O49 says of a port that has come up, of the port as it is shown. -/
def CameUp (d v : Device) (p : Nat) (t : DskPort) : Prop := (v.portAt p).link = t.link ∧
  v.reg (Reg.dskPortStatus p) = portWord t ∧ SameRegs d v [Reg.dskPortStatus p] ∧
  (d.topo = 0 → (v.portAt p).txSeq = t.txSeq ∧ (v.portAt p).replay = t.replay ∧ v.dsk.out = d.dsk.out ∧
    ∀ o, o ≠ p → v.portAt o = d.portAt o) ∧
  (d.topo ≠ 0 → v.dsk.claimAt.isSome = true ∧ (v.route t.partner = none → ∃ x : TxFlit, (p, x) ∈ v.dsk.out ∧
    x.type = FT.status ∧ x.flit.dst = t.partner ∧ x.flit.payload = padFlit v.statusBytes)) ∧
  v.sansRegs = { d with dsk := { d.dsk with port := v.dsk.port, out := v.dsk.out, claimAt := v.dsk.claimAt } }.sansRegs

theorem cameUp_alone {d u : Device} {p : Nat} {t : DskPort} (h : Shown d u p t) (ht : d.topo = 0) : CameUp d (u.linkClaim p) p t := by
  rw [linkClaim_alone p (h.topo.trans ht)]
  refine ⟨by rw [h.port], h.reg, h.regs, fun _ => ⟨by rw [h.port], by rw [h.port], h.out, fun o ho => h.other ho⟩,
    fun hn => absurd ht hn, ?_⟩
  rw [h.rest, h.dsk]
  rfl

theorem cameUp_claiming {d u : Device} {p : Nat} {t : DskPort} (h : Shown d u p t) (ht : d.topo ≠ 0) (hp : p < 4)
    (hr : t.replay = []) (hw : t.wait = []) : CameUp d (u.linkClaim p) p t := by
  have hfree : u.holds p 0 := by
    rw [Device.holds, h.port, hr, hw]
    exact ⟨Nat.le_refl 0, rfl⟩
  obtain ⟨hstep, htold⟩ := linkClaim_spec (h.topo ▸ ht) hfree
  rw [h.port] at htold
  have hclaim : (u.linkClaim p).dsk.claimAt = some (u.dsk.claimAt.getD u.q) := hstep.read (·.dsk.claimAt) fun _ => rfl
  refine ⟨(hstep.link p).trans (congrArg DskPort.link h.port), (hstep.reg (dskPortStatus_not_irq hp)).trans h.reg,
    h.regs.trans_nil (b := u) hstep.regs, fun hn => absurd hn ht, fun _ => ⟨by rw [hclaim]; rfl, htold⟩, ?_⟩
  rw [hstep.sansRegs, hclaim]
  exact congrArg (fun z : Device => { z with dsk := { z.dsk with
    port := (u.linkClaim p).dsk.port, out := (u.linkClaim p).dsk.out, claimAt := some (u.dsk.claimAt.getD u.q) } }) h.sansRegs

theorem cameUp_linkClaim {d u : Device} {p : Nat} {t : DskPort} (h : Shown d u p t) (hp : p < 4)
    (hr : t.replay = []) (hw : t.wait = []) : CameUp d (u.linkClaim p) p t := by
  by_cases ht : d.topo = 0
  · exact cameUp_alone h ht
  · exact cameUp_claiming h ht hp hr hw

theorem cameUp_trained {d : Device} {p lanes : Nat} {f : Flit} (minor : Nat) (hp : p < 4) (hd : (d.portAt p).up = false)
    (hl : lanes = 8 ∨ lanes = 4) : CameUp d (d.trained p f 1 minor lanes) p (portUp f minor lanes) := by
  rw [trained_up minor hd hl]
  exact cameUp_linkClaim (shown_showPort _ _ _) hp rfl rfl

/-- A port that has come up at version 1.0, field by field. -/
theorem CameUp.fields {d v : Device} {p minor lanes : Nat} {f : Flit} (h : CameUp d v p (portUp f minor lanes)) (hf : f.wf = true) :
    (v.portAt p).up = true ∧ (v.portAt p).x8 = decide (lanes = 8) ∧ (v.portAt p).partner = f.src ∧ (v.portAt p).major = 1 ∧
    (v.portAt p).minor = 0 ∧ (v.portAt p).rxSeq = 4095 ∧ v.fld (Reg.dskPortStatus p) 1 0 = 2 ∧
    v.fld (Reg.dskPortStatus p) 31 28 = f.src := by
  obtain ⟨hlink, hreg, -⟩ := h
  obtain ⟨hstatus, hpartner⟩ := portWord_up (t := portUp f minor lanes) rfl rfl (Nat.zero_min _) (src_lt_of_wf hf)
  exact ⟨congrArg DskPort.up hlink, congrArg DskPort.x8 hlink, congrArg DskPort.partner hlink, congrArg DskPort.major hlink,
    (congrArg DskPort.minor hlink).trans (Nat.zero_min _), congrArg DskPort.rxSeq hlink,
    (congrArg (bits · 1 0) hreg).trans hstatus, (congrArg (bits · 31 28) hreg).trans hpartner⟩

theorem train_completes {s : State} {p minor lanes : Nat} {f : Flit} (hon : s.dev.portOn p = true) (hwf : f.wf = true)
    (hcrc : f.crc = flitCrc FT.train f) (hd : (s.dev.portAt p).up = false) (hl : lanes = 8 ∨ lanes = 4) :
    Completes (.train p f 1 minor lanes) s fun d => CameUp s.dev d p (portUp f minor lanes) :=
  .of_act (exec_train_crc s p 1 minor lanes hcrc) (by rw [hwf, hon]; rfl) (cameUp_trained minor (portOn_lt hon) hd hl)

/-- A partner of another major version, or of other lanes, leaves the port down. -/
theorem trained_down {d : Device} {p major minor lanes : Nat} {f : Flit} (hd : (d.portAt p).up = false)
    (hl : major ≠ 1 ∨ (lanes ≠ 8 ∧ lanes ≠ 4)) : d.trained p f major minor lanes =
      if major ≠ 1 then (d.showPort p { DskPort.reset with partner := f.src }).raise Reg.dskStatus 1
      else d.showPort p { DskPort.reset with partner := f.src } := by
  rw [Device.trained, hd, if_neg Bool.false_ne_true]
  split
  · rfl
  next hm => exact if_pos (hl.resolve_left hm)


/-- What O49 says of a port that stays down. -/
def StaysDown (d v : Device) (p major : Nat) (t : DskPort) : Prop := v.portAt p = t ∧
  (major ≠ 1 → v.bitAt Reg.dskStatus 1 = true) ∧ (∀ o, o ≠ p → v.portAt o = d.portAt o) ∧
  SameRegs d v [Reg.dskPortStatus p, Reg.dskStatus] ∧ v.sansRegs = { d with dsk := { d.dsk with port := v.dsk.port } }.sansRegs

theorem staysDown_raise {d u : Device} {p major : Nat} {t : DskPort} (h : Shown d u p t) :
    StaysDown d (u.raise Reg.dskStatus 1) p major t := by
  have hraise := onlyRegs_raise u Reg.dskStatus 1
  have hsame : (u.raise Reg.dskStatus 1).dsk = u.dsk := congrArg (·.dsk) hraise.1
  refine ⟨(portAt_congr hsame p).trans h.port, fun _ => bitAt_raise_same _ _ _ (by decide) (by decide) (by decide),
    fun o ho => (portAt_congr hsame o).trans (h.other ho), h.regs.trans hraise.2, ?_⟩
  rw [hraise.1, hsame, h.sansRegs]

theorem staysDown_lanes {d u : Device} {p major : Nat} {t : DskPort} (h : Shown d u p t) (hm : major = 1) :
    StaysDown d u p major t :=
  ⟨h.port, fun hn => absurd hm hn, fun _ ho => h.other ho,
    fun k hk => h.regs k fun hx => hk (List.mem_append_left [Reg.dskStatus] hx), h.sansRegs⟩

theorem staysDown_trained {d : Device} {p major minor lanes : Nat} {f : Flit} (hd : (d.portAt p).up = false)
    (hl : major ≠ 1 ∨ (lanes ≠ 8 ∧ lanes ≠ 4)) :
    StaysDown d (d.trained p f major minor lanes) p major { DskPort.reset with partner := f.src } := by
  rw [trained_down hd hl]
  split
  next hm => exact staysDown_raise (shown_showPort _ _ _)
  next hm => exact staysDown_lanes (shown_showPort _ _ _) (not_not.mp hm)

theorem train_refused {s : State} {p major minor lanes : Nat} {f : Flit} (hon : s.dev.portOn p = true) (hwf : f.wf = true)
    (hcrc : f.crc = flitCrc FT.train f) (hd : (s.dev.portAt p).up = false) (hl : major ≠ 1 ∨ (lanes ≠ 8 ∧ lanes ≠ 4)) :
    Completes (.train p f major minor lanes) s fun d => StaysDown s.dev d p major { DskPort.reset with partner := f.src } :=
  .of_act (exec_train_crc s p major minor lanes hcrc) (by rw [hwf, hon]; rfl) (staysDown_trained hd hl)

/-- Settles O49: a retraining, a training that comes up, with the claim that it sends, and one that does not, each by its branch. -/
theorem portsTrain : Obligations.PortsTrain := by
  refine ⟨fun s p hon hd => .of_act (exec_dskPortRetrain s p) hon (retrain_spec (portOn_lt hon) hd),
    fun s p f minor lanes hon hwf hcrc hd hl => (train_completes hon hwf hcrc hd hl).mono fun d h => ?_,
    fun _ _ _ _ _ _ hon hwf hcrc hd hl => train_refused hon hwf hcrc hd hl⟩
  obtain ⟨hup, hx8, hpartner, hmajor, hminor, hseq, hstatus, hshown⟩ := h.fields hwf
  obtain ⟨-, -, hregs, halone, hclaim, hrest⟩ := h
  exact ⟨hup, hx8, hpartner, hmajor, hminor, hseq, hstatus, hshown, hregs, halone, hclaim, hrest⟩

end Sys2Proof.Machine
end

section
/-! The master's ticks and the time on a link (R189). -/

namespace Sys2Proof.Machine

theorem exec_tickFlitSend (s : State) : exec .tickFlitSend s =
    act (s.dev.cmpAlive && decide (s.dev.topo ≠ 0) && s.dev.isMaster) Device.sendTick s := rfl

theorem exec_tickFlit (s : State) (p : Nat) (f : Flit) : exec (.tickFlit p f) s =
    act f.wf (fun d => d.receive p FT.tick f false fun d => d.inTick f) s := rfl

theorem exec_tickFlitMissing (s : State) : exec .tickFlitMissing s =
    act (s.dev.cmpAlive && s.dev.follower && s.dev.dsk.nextTick.isNone) Device.tickMissing s := rfl

theorem exec_timeFlit (s : State) (p w : Nat) (f : Flit) : exec (.timeFlit p f w) s =
    act f.wf (fun d => d.receive p FT.time f true fun d => d.inTime p f w) s := rfl

theorem exec_timeFlitSend (s : State) (p : Nat) : exec (.timeFlitSend p) s = act (s.dev.linkOn p) (fun d => d.sendTime p) s := rfl

/-- A flit in turn for this device, or for whoever receives it, completes with what acts on it and the ACK that goes back. -/
theorem Completes.of_inTurn {c : Instr} {s : State} {p type : Nat} {f : Flit} {own : Bool} {body : Device → Device}
    {P : Device → Prop} (hc : exec c s = act f.wf (fun d => d.receive p type f own body) s) (h : s.dev.inTurn p type f)
    (ho : own = true ∨ f.dst = s.dev.devId) (hP : P ((body (s.dev.tookCounted p f)).ackIdle p (s.dev.sentOn p))) : Completes c s P := by
  refine .of_act hc h.2.1 ?_
  rw [receive_inTurn h, if_pos]
  · exact hP
  · simpa using ho

/-! ## TICK flits to every device -/

/-- A flit of a type for device `j` with payload `b` has gone out on port `o`, or waits there. -/
def Device.carries (d : Device) (o type j : Nat) (b : List Byte) : Prop :=
  ∃ x : TxFlit, ((o, x) ∈ d.dsk.out ∨ x ∈ (d.portAt o).wait) ∧ x.type = type ∧ x.flit.dst = j ∧ x.flit.payload = b

theorem Device.carries.mono {d v : Device} {o type j : Nat} {b : List Byte} (h : d.carries o type j b)
    (hout : ∀ x, x ∈ d.dsk.out → x ∈ v.dsk.out) (hwait : ∀ x, x ∈ (d.portAt o).wait → x ∈ (v.portAt o).wait) :
    v.carries o type j b := by
  obtain ⟨x, hx, hrest⟩ := h
  exact ⟨x, hx.imp (hout _) (hwait x), hrest⟩

/-- Sending a flit takes none back. -/
theorem carries_pushFlit {d : Device} {o type j : Nat} {b : List Byte} (h : d.carries o type j b) (p : Nat) {x : TxFlit}
    (hx : FT.control x.type = false) : (d.pushFlit p x).carries o type j b := by
  by_cases hf : d.linkFree p
  · rw [pushFlit_free hx hf]
    refine h.mono (fun y hy => ?_) fun y hy => ?_
    · rw [out_putSeq]
      exact List.mem_append_left _ hy
    · by_cases ho : o = p
      · rwa [ho, portAt_putSeq_same, ← ho]
      · rwa [portAt_putSeq_ne _ _ ho]
  · rw [pushFlit_full hx hf]
    refine h.mono (fun _ hy => hy) fun y hy => ?_
    by_cases ho : o = p
    · rw [ho, Device.portAt_setPort_same, ← ho]
      exact List.mem_append_left _ hy
    · rwa [Device.portAt_setPort_ne _ _ ho]

theorem carries_sendTo {d : Device} {o type j : Nat} {b : List Byte} (h : d.carries o type j b) {t : Nat}
    (ht : FT.control t = false) (dst addr len : Nat) (poison : BitVec 8) (bs : List Byte) :
    (d.sendTo t dst addr len poison bs).carries o type j b := by
  unfold Device.sendTo
  split
  · exact carries_pushFlit h _ ht
  · exact h

/-- A flit that is sent goes out or waits on the port of its route. -/
theorem carries_sendTo_self {d : Device} {o type j : Nat} (ht : FT.control type = false) (hr : d.route j = some o)
    (addr len : Nat) (poison : BitVec 8) (bs : List Byte) :
    (d.sendTo type j addr len poison bs).carries o type j (padFlit bs) := by
  rw [Device.sendTo, hr]
  dsimp only
  by_cases hf : d.linkFree o
  · rw [Device.sendOn, pushFlit_free (by exact ht) hf, Device.carries, out_putSeq]
    exact ⟨_, .inl (List.mem_append_right _ (List.mem_singleton_self _)), rfl, rfl, rfl⟩
  · rw [Device.sendOn, pushFlit_full (by exact ht) hf, Device.carries, Device.portAt_setPort_same]
    exact ⟨_, .inr (List.mem_append_right _ (List.mem_singleton_self _)), rfl, rfl, rfl⟩

/-- TICK flits with payload `b` to the devices of `l`. -/
def Device.ticksTo (d : Device) (l : List Nat) (b : List Byte) : Device := l.foldl (fun d j => d.sendTo FT.tick j 0 19 0 b) d

theorem sendStep_ticksTo (d : Device) (l : List Nat) (b : List Byte) : SendStep d (d.ticksTo l b) :=
  .foldl (fun _ _ => sendStep_sendTo _ _ _ _ _ _ _) l d

theorem carries_ticksTo_of_carries {d : Device} {o type j : Nat} {c : List Byte} (h : d.carries o type j c) (l : List Nat)
    (b : List Byte) : (d.ticksTo l b).carries o type j c :=
  foldl_counted (P := fun _ (u : Device) => u.carries o type j c) (fun _ _ _ hu => carries_sendTo hu rfl _ _ _ _ _) l (n := 0) h

theorem carries_ticksTo {d : Device} {o j : Nat} {l : List Nat} (hj : j ∈ l) (hr : d.route j = some o) (b : List Byte) :
    (d.ticksTo l b).carries o FT.tick j (padFlit b) := by
  induction l generalizing d with
  | nil => cases hj
  | cons i l ih =>
    rw [Device.ticksTo, List.foldl_cons, ← Device.ticksTo]
    rcases List.mem_cons.mp hj with rfl | hj
    · exact carries_ticksTo_of_carries (carries_sendTo_self rfl hr _ _ _ _) l b
    · exact ih hj (((sendStep_sendTo _ _ _ _ _ _ _).route j).trans hr)

/-- Where every port on a route has room, the TICK flits go out in turn. -/
theorem out_ticksTo {d : Device} {n : Nat} (l : List Nat) (b : List Byte) (hroom : ∀ j o, d.route j = some o → d.holds o n)
    (hn : n + l.length ≤ 512) : ∃ r : List (Nat × TxFlit), (d.ticksTo l b).dsk.out = d.dsk.out ++ r ∧
      (∀ x, x ∈ r → x.2.flit.payload = padFlit b) ∧ r.map (fun x => (x.2.type, x.2.flit.dst)) =
        (l.filter fun j => (d.route j).isSome).map fun j => (FT.tick, j) := by
  induction l generalizing d n with
  | nil => exact ⟨[], (List.append_nil _).symm, fun _ h => absurd h List.not_mem_nil, rfl⟩
  | cons i l ih =>
    rw [List.length_cons] at hn
    have hstep := sendStep_sendTo d FT.tick i 0 19 0 b
    obtain ⟨r, hout, hpay, hmap⟩ := ih (d := d.sendTo FT.tick i 0 19 0 b) (n := n + 1)
      (fun j o hr => holds_sendTo (hroom j o ((hstep.route j).symm.trans hr)) (by omega) rfl _ _ _ _ _) (by omega)
    simp only [hstep.route] at hmap
    rw [Device.ticksTo, List.foldl_cons, ← Device.ticksTo, hout, List.filter_cons]
    cases hi : d.route i with
    | none =>
      rw [Device.sendTo, hi]
      exact ⟨r, rfl, hpay, hmap⟩
    | some o =>
      obtain ⟨hlen, hwait⟩ := hroom i o hi
      simp only [Device.sendTo, hi]
      rw [Device.sendOn, pushFlit_free rfl ⟨by omega, hwait⟩, out_putSeq, List.append_assoc]
      refine ⟨_ :: r, rfl, fun x hx => ?_, ?_⟩
      · rcases List.mem_cons.mp hx with rfl | hx
        · rfl
        · exact hpay x hx
      · rw [List.map_cons, hmap]
        rfl

/-! ## The TICK flit of the master at a follower -/

/-- What a follower holds for its next tick. -/
def Device.heldTick (d : Device) (f : Flit) : Device := { d with dsk := { d.dsk with
  nextTick := some (leAt f.payload 0 6 * secNs + leAt f.payload 6 4, leAt f.payload 10 4, leAt f.payload 14 4,
    leAt f.payload 18 1 % 16, decide (128 ≤ leAt f.payload 18 1))
  periodUs := leAt f.payload 14 4, lost := 0 } }

theorem inTick_held {d : Device} {f : Flit} (hf : d.follower = true) (hs : f.src = d.masterId) : d.inTick f = d.heldTick f := by
  rw [Device.inTick, if_neg (by simp [hf, hs])]
  rfl

theorem inTick_other {d : Device} {f : Flit} (h : d.follower = false ∨ f.src ≠ d.masterId) : d.inTick f = d :=
  if_pos (by simpa using h)

theorem tickFlit_completes {s : State} {p : Nat} {f : Flit} (h : s.dev.inTurn p FT.tick f) (hd : f.dst = s.dev.devId) :
    Completes (.tickFlit p f) s fun d => Handled s.dev d p f [] ∧
      (s.dev.follower = true → f.src = s.dev.masterId → d.dsk.lost = 0 ∧ d.dsk.periodUs = leAt f.payload 14 4 ∧
        d.dsk.nextTick = some (leAt f.payload 0 6 * 1000000000 + leAt f.payload 6 4, leAt f.payload 10 4, leAt f.payload 14 4,
          leAt f.payload 18 1 % 16, decide (128 ≤ leAt f.payload 18 1))) ∧
      (s.dev.follower = false ∨ f.src ≠ s.dev.masterId →
        d.dsk.nextTick = s.dev.dsk.nextTick ∧ d.dsk.lost = s.dev.dsk.lost ∧ d.dsk.periodUs = s.dev.dsk.periodUs) ∧
      SameRegs s.dev d [] ∧ d.sansRegs = { s.dev with dsk := { s.dev.dsk with
        port := d.dsk.port, out := d.dsk.out, nextTick := d.dsk.nextTick, lost := d.dsk.lost, periodUs := d.dsk.periodUs } }.sansRegs := by
  refine .of_inTurn (exec_tickFlit s p f) h (.inr hd) ?_
  have hlink := linkStep_tookCounted s.dev p f
  have hdsk := dsk_tookCounted s.dev p f
  have hseq : ((s.dev.tookCounted p f).portAt p).rxSeq = f.seq := (congrArg _ (portAt_congr hdsk p)).trans (rxSeq_took s.dev p f)
  rw [← hlink.follower, ← hlink.masterId]
  generalize s.dev.tookCounted p f = u at hlink hdsk hseq ⊢
  by_cases hm : u.follower = true ∧ f.src = u.masterId
  · obtain ⟨hfol, hsrc⟩ := hm
    rw [inTick_held hfol hsrc]
    have hstep := sendStep_ackIdle (u.heldTick f) p (s.dev.sentOn p)
    have hlost : ((u.heldTick f).ackIdle p (s.dev.sentOn p)).dsk.lost = 0 := hstep.read (·.dsk.lost) fun _ => rfl
    have hper : ((u.heldTick f).ackIdle p (s.dev.sentOn p)).dsk.periodUs = leAt f.payload 14 4 :=
      hstep.read (·.dsk.periodUs) fun _ => rfl
    have hnext : ((u.heldTick f).ackIdle p (s.dev.sentOn p)).dsk.nextTick = (u.heldTick f).dsk.nextTick :=
      hstep.read (·.dsk.nextTick) fun _ => rfl
    refine ⟨handled_ackIdle (by rw [List.append_nil]; exact congrArg (·.out) hdsk) hseq, fun _ _ => ⟨hlost, hper, hnext⟩,
      fun hn => absurd hn (by simp [hfol, hsrc]), hlink.regs.trans_nil (b := u) hstep.regs, ?_⟩
    rw [hstep.sansRegs, hlost, hper, hnext]
    exact congrArg (fun z : Device => { z with dsk := { z.dsk with
      port := ((u.heldTick f).ackIdle p (s.dev.sentOn p)).dsk.port, out := ((u.heldTick f).ackIdle p (s.dev.sentOn p)).dsk.out
      nextTick := (u.heldTick f).dsk.nextTick, lost := 0, periodUs := leAt f.payload 14 4 } }) hlink.rest
  · have hother : u.follower = false ∨ f.src ≠ u.masterId := by
      rcases Bool.eq_false_or_eq_true u.follower with hfol | hfol
      · exact .inr fun hsrc => hm ⟨hfol, hsrc⟩
      · exact .inl hfol
    rw [inTick_other hother]
    have hstep := hlink.trans (sendStep_ackIdle u p (s.dev.sentOn p)).toLinkStep
    have hnext := hstep.read (·.dsk.nextTick) fun _ => rfl
    have hlost := hstep.read (·.dsk.lost) fun _ => rfl
    have hper := hstep.read (·.dsk.periodUs) fun _ => rfl
    refine ⟨handled_ackIdle (by rw [List.append_nil]; exact congrArg (·.out) hdsk) hseq, fun hfol hsrc => absurd ⟨hfol, hsrc⟩ hm,
      fun _ => ⟨hnext, hlost, hper⟩, hstep.regs, ?_⟩
    rw [hnext, hlost, hper]
    exact hstep.sansRegs

/-! ## A tick flit that is missing -/

theorem topo_ne_zero_of_follower {d : Device} (h : d.follower = true) : d.topo ≠ 0 := fun ht => by
  simp [Device.follower, Device.isMaster, ht] at h

/-- A frame whose TICK flit is missing is marked. -/
def Device.unticked (d : Device) : Device :=
  { d.raise Reg.dskStatus 5 with dsk := { (d.raise Reg.dskStatus 5).dsk with
      sysCause := true, lost := (d.raise Reg.dskStatus 5).dsk.lost + 1 } }

/-- The master is lost. -/
def Device.masterLost (d : Device) : Device :=
  { d.raise Reg.dskStatus 7 with dsk := { (d.raise Reg.dskStatus 7).dsk with
      hasMaster := false, lost := 0
      sys := (d.raise Reg.dskStatus 7).dsk.sys.map fun (x : Nat × SysDev) =>
        if x.1 = (d.raise Reg.dskStatus 7).masterId then (x.1, { x.2 with claim := false }) else x } }

theorem tickMissing_eq (d : Device) : d.tickMissing = if d.unticked.dsk.lost < 2 then d.unticked else d.unticked.masterLost.claim := rfl

theorem dsk_raise (d : Device) (k i : Nat) : (d.raise k i).dsk = d.dsk := congrArg (·.dsk) (onlyRegs_raise d k i).1

theorem fld_raise_other (d : Device) {k i hi lo : Nat} (h : hi < i ∨ i < lo) (hk : k ≠ 0x4800) (hk' : k ≠ 0x4804) :
    (d.raise k i).fld k hi lo = d.fld k hi lo := by
  rw [Device.fld, reg_raise_same d k i hk hk']
  exact bits_putBits_other _ _ _ _ _ _ h

/-- A claim that an entry of the system makes is taken back where `m` names it. -/
theorem claim_unclaimed (t : Tab SysDev) (m : Nat) :
    (tabGet default (t.map fun (x : Nat × SysDev) => if x.1 = m then (x.1, { x.2 with claim := false }) else x) m).claim = false := by
  induction t with
  | nil => rfl
  | cons x t ih =>
    by_cases hx : x.1 = m
    · simp [tabGet, hx]
    · simpa [tabGet, hx, Ne.symm hx] using ih

theorem onlyRegs_unticked (d : Device) : OnlyRegs { d with dsk := d.unticked.dsk } d.unticked [Reg.dskStatus] := by
  obtain ⟨hrest, hregs⟩ := onlyRegs_raise d Reg.dskStatus 5
  exact ⟨congrArg (fun z : Device => { z with dsk := d.unticked.dsk }) hrest, hregs⟩

theorem onlyRegs_masterLost (d : Device) : OnlyRegs { d with dsk := d.masterLost.dsk } d.masterLost [Reg.dskStatus] := by
  obtain ⟨hrest, hregs⟩ := onlyRegs_raise d Reg.dskStatus 7
  exact ⟨congrArg (fun z : Device => { z with dsk := d.masterLost.dsk }) hrest, hregs⟩

/-- From `d` to `v` only the links and the system change, with registers. -/
def DskOnly (d v : Device) : Prop := v.sansRegs = { d with dsk := v.dsk }.sansRegs

theorem DskOnly.trans {a b c : Device} (h : DskOnly a b) (g : DskOnly b c) : DskOnly a c :=
  Eq.trans g (congrArg (fun z : Device => { z with dsk := c.dsk }) h)

theorem LinkStep.dskOnly {d v : Device} (h : LinkStep d v) : DskOnly d v := by
  unfold DskOnly
  exact congrArg (fun z : Device => { z with dsk := v.dsk }) h.rest

theorem lost_unticked (d : Device) : d.unticked.dsk.lost = d.dsk.lost + 1 := by rw [Device.unticked, dsk_raise]

theorem hasMaster_unticked (d : Device) : d.unticked.dsk.hasMaster = d.dsk.hasMaster := by rw [Device.unticked, dsk_raise]

theorem sysCause_masterLost (d : Device) : d.masterLost.dsk.sysCause = d.dsk.sysCause := by rw [Device.masterLost, dsk_raise]

/-- The first missing TICK flit marks the frame. -/
theorem tickMissing_first {d : Device} (h : d.dsk.lost = 0) : d.tickMissing = d.unticked := by
  rw [tickMissing_eq, if_pos (by rw [lost_unticked, h]; decide)]

/-- The second in a row loses the master. -/
theorem tickMissing_second {d : Device} (h : 1 ≤ d.dsk.lost) : d.tickMissing = d.unticked.masterLost.claim := by
  rw [tickMissing_eq, if_neg (by rw [lost_unticked]; omega)]

theorem masterId_unticked (d : Device) : d.unticked.masterId = d.masterId :=
  fld_raise_other d (.inr (by decide)) (by decide) (by decide)

theorem topo_unticked (d : Device) : d.unticked.topo = d.topo :=
  Device.fld_congr (reg_raise_ne d 5 (by decide) (by decide) (by decide)) 11 10

theorem topo_masterLost (d : Device) : d.masterLost.topo = d.topo :=
  Device.fld_congr (reg_raise_ne d 7 (by decide) (by decide) (by decide)) 11 10

theorem bitAt_unticked (d : Device) : d.unticked.bitAt Reg.dskStatus 5 = true :=
  bitAt_raise_same d Reg.dskStatus 5 (by decide) (by decide) (by decide)

theorem bitAt_masterLost (d : Device) : d.masterLost.bitAt Reg.dskStatus 7 = true ∧
    (d.bitAt Reg.dskStatus 5 = true → d.masterLost.bitAt Reg.dskStatus 5 = true) :=
  ⟨bitAt_raise_same d _ _ (by decide) (by decide) (by decide), bitAt_raise_of_bitAt _ (by decide) (by decide) (by decide)⟩

theorem sysAt_masterLost (d : Device) : (d.masterLost.sysAt d.masterId).claim = false := by
  have hm : (d.raise Reg.dskStatus 7).masterId = d.masterId := fld_raise_other d (.inr (by decide)) (by decide) (by decide)
  rw [← hm]
  exact claim_unclaimed _ _

/-- With the master lost this device claims. -/
theorem masterLost_claim {d : Device} (h : d.topo ≠ 0) : SendStep d.masterLost.claimed d.masterLost.claim := by
  rw [claim_eq (topo_masterLost d ▸ h)]
  exact sendStep_sendStatus _

/-- What O51 says where the master is lost, of the device that is marked. -/
theorem masterLost_claimed {d v : Device} (h : SendStep d.masterLost.claimed v) : v.dsk.sysCause = d.dsk.sysCause ∧
    (d.bitAt Reg.dskStatus 5 = true → v.bitAt Reg.dskStatus 5 = true) ∧ v.dsk.lost = 0 ∧ v.dsk.hasMaster = false ∧
    v.bitAt Reg.dskStatus 7 = true ∧ v.dsk.claimAt.isSome = true ∧ (v.sysAt d.masterId).claim = false ∧
    SameRegs d v [Reg.dskStatus] ∧ DskOnly d v := by
  obtain ⟨h7, h5⟩ := bitAt_masterLost d
  obtain ⟨hrest, hregs⟩ := onlyRegs_masterLost d
  have hbit : ∀ i, v.bitAt Reg.dskStatus i = d.masterLost.bitAt Reg.dskStatus i := Device.bitAt_congr (h.reg (by decide))
  have hclaim : v.dsk.claimAt = d.masterLost.claimed.dsk.claimAt := h.read (·.dsk.claimAt) fun _ => rfl
  have hsys : v.sysAt d.masterId = d.masterLost.sysAt d.masterId := h.read (·.sysAt d.masterId) fun _ => rfl
  refine ⟨(h.read (·.dsk.sysCause) fun _ => rfl).trans (sysCause_masterLost d), fun h => (hbit 5).trans (h5 h),
    h.read (·.dsk.lost) fun _ => rfl, h.read (·.dsk.hasMaster) fun _ => rfl, (hbit 7).trans h7, by rw [hclaim]; rfl,
    by rw [hsys, sysAt_masterLost], hregs.trans_nil (b := d.masterLost) h.regs, ?_⟩
  exact DskOnly.trans (b := d.masterLost) hrest (DskOnly.trans (b := d.masterLost.claimed) rfl h.dskOnly)

theorem tickMissing_completes {s : State} (ha : s.dev.cmpAlive = true) (hf : s.dev.follower = true) (hn : s.dev.dsk.nextTick = none) :
    Completes .tickFlitMissing s fun d => d.dsk.sysCause = true ∧ d.bitAt Reg.dskStatus 5 = true ∧
      (s.dev.dsk.lost = 0 → d.dsk.lost = 1 ∧ d.dsk.hasMaster = s.dev.dsk.hasMaster) ∧
      (1 ≤ s.dev.dsk.lost → d.dsk.lost = 0 ∧ d.dsk.hasMaster = false ∧ d.bitAt Reg.dskStatus 7 = true ∧
        d.dsk.claimAt.isSome = true ∧ (d.sysAt s.dev.masterId).claim = false) ∧ SameRegs s.dev d [Reg.dskStatus] ∧
      d.sansRegs = { s.dev with dsk := d.dsk }.sansRegs := by
  refine .of_act (exec_tickFlitMissing s) (by rw [ha, hf, hn]; rfl) ?_
  obtain ⟨hrest, hregs⟩ := onlyRegs_unticked s.dev
  rcases Nat.eq_zero_or_pos s.dev.dsk.lost with h0 | h1
  · rw [tickMissing_first h0]
    exact ⟨rfl, bitAt_unticked _, fun _ => ⟨by rw [lost_unticked, h0], hasMaster_unticked _⟩, fun h => absurd h (by omega), hregs, hrest⟩
  · rw [tickMissing_second h1]
    have htopo : s.dev.unticked.topo ≠ 0 := topo_unticked s.dev ▸ topo_ne_zero_of_follower hf
    obtain ⟨hcause, h5, hlost, hmaster, h7, hclaim, hsys, hregs', hrest'⟩ := masterLost_claimed (masterLost_claim htopo)
    rw [masterId_unticked] at hsys
    exact ⟨hcause, h5 (bitAt_unticked _), fun h => absurd h (by omega), fun _ => ⟨hlost, hmaster, h7, hclaim, hsys⟩,
      fun k hk hi => (hregs' k hk hi).trans (hregs k hk hi), DskOnly.trans (b := s.dev.unticked) hrest hrest'⟩

/-! ## TIME -/

/-- From `d` to `v` only the time, what the tick and the verdict keep of it, and the fault pairs change, with registers. -/
def TimeOnly (d v : Device) : Prop := v.sansRegs = { d with tim := v.tim, tck := v.tck, apt := v.apt, flt := v.flt }.sansRegs

theorem TimeOnly.trans {a b c : Device} (h : TimeOnly a b) (g : TimeOnly b c) : TimeOnly a c :=
  Eq.trans g (congrArg (fun z : Device => { z with tim := c.tim, tck := c.tck, apt := c.apt, flt := c.flt }) h)

theorem TimeOnly.of_onlyRegs {a b : Device} {l : List Nat} (h : OnlyRegs a b l) : TimeOnly a b := by
  unfold TimeOnly
  exact congrArg (fun z : Device => { z with tim := b.tim, tck := b.tck, apt := b.apt, flt := b.flt }) h.1

theorem TimeOnly.dsk {d v : Device} (h : TimeOnly d v) : v.dsk = d.dsk := by
  unfold TimeOnly at h
  have e := congrArg Device.dsk h
  exact e

theorem TimeOnly.eng {d v : Device} (h : TimeOnly d v) : v.eng = d.eng := by
  unfold TimeOnly at h
  have e := congrArg Device.eng h
  exact e

theorem TimeOnly.mem {d v : Device} (h : TimeOnly d v) : v.mem = d.mem := by
  unfold TimeOnly at h
  have e := congrArg Device.mem h
  exact e


theorem timeOnly_raise (d : Device) (k i : Nat) : TimeOnly d (d.raise k i) := .of_onlyRegs (onlyRegs_raise d k i)

theorem timeOnly_pairRaise (d : Device) (s : Nat) : TimeOnly d (d.pairRaise s) := by
  unfold Device.pairRaise
  split <;> exact rfl

theorem timeOnly_refuseStep (d : Device) : TimeOnly d d.refuseStep :=
  ((timeOnly_raise d _ _).trans (.of_onlyRegs (onlyRegs_incr _ _))).trans (timeOnly_pairRaise _ _)

theorem timeOnly_addCause (d : Device) (b : Nat) : TimeOnly d (d.addCause b) := by
  unfold Device.addCause
  split <;> exact rfl

theorem tim_raise (d : Device) (k i : Nat) : (d.raise k i).tim = d.tim := congrArg (·.tim) (onlyRegs_raise d k i).1

/-- The step is refused: before time 0, or over the limit without a grant (R213). -/
def Device.stepRefused (d : Device) (o : Int) : Prop :=
  (d.timNs : Int) + o < 0 ∨ (!d.tim.grantAt.isSome ∧ (d.reg Reg.timStepMax).toNat < o.natAbs)

/-- A step that is applied, with its bit. -/
def Device.stepNoted (d : Device) (o : Int) : Device := (d.applyStep o).raise Reg.timStatus 2

/-- A grant that is used up. -/
def Device.grantUsed (d : Device) : Device :=
  ({ d.raise Reg.timStatus 1 with
      tim := { d.tim with grantAt := none }, tck := { d.tck with grantedStep := true } } : Device).addCause 13

theorem tryStep_refused {d : Device} {o : Int} (h : d.stepRefused o) : d.tryStep o = d.refuseStep := if_pos h

theorem tryStep_applied {d : Device} {o : Int} (h : ¬ d.stepRefused o) :
    d.tryStep o = if d.tim.grantAt.isSome then (d.stepNoted o).grantUsed else d.stepNoted o := if_neg h

theorem timeOnly_stepNoted (d : Device) (o : Int) : TimeOnly d (d.stepNoted o) :=
  TimeOnly.trans (b := d.applyStep o) rfl (timeOnly_raise _ _ _)

theorem timeOnly_grantUsed (d : Device) : TimeOnly d d.grantUsed :=
  (timeOnly_raise d Reg.timStatus 1).trans (TimeOnly.trans rfl (timeOnly_addCause _ 13))

/-- A step of the time, or its refusal, leaves links, engines and memories. -/
theorem timeOnly_tryStep (d : Device) (o : Int) : TimeOnly d (d.tryStep o) := by
  by_cases h : d.stepRefused o
  · rw [tryStep_refused h]
    exact timeOnly_refuseStep d
  · rw [tryStep_applied h]
    split
    · exact (timeOnly_stepNoted d o).trans (timeOnly_grantUsed _)
    · exact timeOnly_stepNoted d o

theorem tim_stepNoted (d : Device) (o : Int) : (d.stepNoted o).tim = (d.applyStep o).tim := tim_raise _ _ _

theorem tim_grantUsed (d : Device) : d.grantUsed.tim = { d.tim with grantAt := none } := by
  rw [Device.grantUsed, addCause_frame]

theorem tim_refuseStep (d : Device) : d.refuseStep.tim = d.tim := by
  have h : ∀ (u : Device) (x : Nat), (u.pairRaise x).tim = u.tim := fun u x => congrArg (·.tim) (sansRegs_pairRaise u x)
  rw [Device.refuseStep, h]
  exact tim_raise _ _ _

/-- A step does to the time what the time and the limit say. -/
theorem tim_tryStep_congr {d u : Device} (ht : u.tim = d.tim) (hr : u.reg Reg.timStepMax = d.reg Reg.timStepMax) (o : Int) :
    (u.tryStep o).tim = (d.tryStep o).tim := by
  have href : u.stepRefused o ↔ d.stepRefused o := by
    unfold Device.stepRefused Device.timNs
    rw [ht, hr]
  have happ : (u.applyStep o).tim = (d.applyStep o).tim := by
    unfold Device.applyStep Device.timNs
    rw [ht]
  by_cases h : d.stepRefused o
  · rw [tryStep_refused h, tryStep_refused (href.mpr h), tim_refuseStep, tim_refuseStep, ht]
  · rw [tryStep_applied h, tryStep_applied (fun hu => h (href.mp hu)), ht]
    split
    · rw [tim_grantUsed, tim_grantUsed, tim_stepNoted, tim_stepNoted, happ]
    · rw [tim_stepNoted, tim_stepNoted, happ]

/-- The device with the peer delay measured on a port. -/
def Device.delayed (d : Device) (p w : Nat) : Device := d.setPort p { d.portAt p with peerDelay := w }

/-- The offset that a TIME flit gives (log 143). -/
def Device.timeOfs (d : Device) (f : Flit) (w : Nat) : Int :=
  ((leAt f.payload 0 6 * secNs + leAt f.payload 6 4 + w : Nat) : Int) - d.timNs

theorem sendStep_delayed (d : Device) (p w : Nat) : LinkStep d (d.delayed p w) := .setPort d p _

theorem up_delayed (d : Device) (p w o : Nat) : ((d.delayed p w).portAt o).up = (d.portAt o).up := by
  by_cases h : o = p
  · rw [h, Device.delayed, Device.portAt_setPort_same]
  · rw [Device.delayed, Device.portAt_setPort_ne _ _ h]

theorem inTime_eq (d : Device) (p w : Nat) (f : Flit) : d.inTime p f w =
    if d.follower && decide (d.route d.masterId = some p) && decide (d.timeOfs f w ≠ 0) then (d.delayed p w).tryStep (d.timeOfs f w)
    else d.delayed p w := by
  have hroute : (d.delayed p w).route d.masterId = d.route d.masterId :=
    route_of_up (d := d) (d' := d.delayed p w) rfl (up_delayed d p w) _
  rw [← hroute]
  rfl

/-- What TIME leaves: all but the time, where it steps it. -/
theorem timeOnly_inTime (d : Device) (p w : Nat) (f : Flit) : TimeOnly (d.delayed p w) (d.inTime p f w) := by
  rw [inTime_eq]
  split
  · exact timeOnly_tryStep _ _
  · exact rfl

theorem inTime_unmoved {d : Device} {p w : Nat} {f : Flit}
    (h : d.follower = false ∨ d.route d.masterId ≠ some p ∨ d.timeOfs f w = 0) : d.inTime p f w = d.delayed p w := by
  rw [inTime_eq, if_neg]
  rcases h with h | h | h <;> simp [h]

theorem inTime_stepped {d : Device} {p w : Nat} {f : Flit} (hf : d.follower = true) (hr : d.route d.masterId = some p)
    (ho : d.timeOfs f w ≠ 0) : d.inTime p f w = (d.delayed p w).tryStep (d.timeOfs f w) := by
  rw [inTime_eq, if_pos (by simp [hf, hr, ho])]

theorem timeFlit_completes {s : State} {p w : Nat} {f : Flit} {ofs : Int} (h : s.dev.inTurn p FT.time f)
    (ho : ofs = ((leAt f.payload 0 6 * 1000000000 + leAt f.payload 6 4 + w : Nat) : Int) - s.dev.timNs) :
    Completes (.timeFlit p f w) s fun d => (d.portAt p).peerDelay = w ∧ Handled s.dev d p f [] ∧
      (s.dev.follower = false ∨ s.dev.route s.dev.masterId ≠ some p ∨ ofs = 0 → d.tim = s.dev.tim ∧ SameRegs s.dev d []) ∧
      (s.dev.follower = true → s.dev.route s.dev.masterId = some p → ofs ≠ 0 → d.tim = (s.dev.tryStep ofs).tim) ∧
      d.eng = s.dev.eng ∧ d.mem = s.dev.mem := by
  refine .of_inTurn (exec_timeFlit s p w f) h (.inl rfl) ?_
  have hlink := linkStep_tookCounted s.dev p f
  have hdsk := dsk_tookCounted s.dev p f
  have hseq : ((s.dev.tookCounted p f).portAt p).rxSeq = f.seq := (congrArg _ (portAt_congr hdsk p)).trans (rxSeq_took s.dev p f)
  have hroute : (s.dev.tookCounted p f).route s.dev.masterId = s.dev.route s.dev.masterId :=
    ((sendStep_tookCounted s.dev p f).route _).trans (route_took s.dev p f _)
  have hofs : ofs = (s.dev.tookCounted p f).timeOfs f w := by
    rw [ho, Device.timeOfs, hlink.read Device.timNs fun _ => rfl]
  rw [← hlink.follower, ← hroute, ← hlink.masterId]
  generalize s.dev.tookCounted p f = u at hlink hdsk hseq hofs ⊢
  have htim := timeOnly_inTime u p w f
  have hack := sendStep_ackIdle (u.inTime p f w) p (s.dev.sentOn p)
  have hlink' := hlink.trans (sendStep_delayed u p w)
  have hport : (u.inTime p f w).portAt p = { u.portAt p with peerDelay := w } :=
    (portAt_congr htim.dsk p).trans (Device.portAt_setPort_same _ _ _)
  have hmax : (u.delayed p w).reg Reg.timStepMax = s.dev.reg Reg.timStepMax := hlink'.reg (by decide)
  have htime : (u.delayed p w).tim = s.dev.tim := hlink'.read Device.tim fun _ => rfl
  refine ⟨?_, handled_ackIdle ?_ ?_, fun hn => ?_, fun hf hr hn => ?_, hack.eng.trans (htim.eng.trans hlink'.eng),
    hack.mem.trans (htim.mem.trans hlink'.mem)⟩
  · rw [portAt_ackIdle, hport]
  · rw [List.append_nil, htim.dsk, ← hdsk]
    exact rfl
  · rw [hport, ← hseq]
  · rw [hofs] at hn
    rw [inTime_unmoved hn]
    have hall := hlink'.trans (sendStep_ackIdle (u.delayed p w) p (s.dev.sentOn p)).toLinkStep
    exact ⟨hall.read Device.tim fun _ => rfl, hall.regs⟩
  · rw [hofs] at hn ⊢
    rw [hack.read Device.tim fun _ => rfl, inTime_stepped hf hr hn]
    exact tim_tryStep_congr htime hmax _

/-! ## What the master and a device send of their own -/

theorem tickFlitSend_completes {s : State} {b : List Byte} (ha : s.dev.cmpAlive = true) (ht : s.dev.topo ≠ 0)
    (hm : s.dev.isMaster = true)
    (hb : b = toLe 6 (s.dev.tck.expected / 1000000000) ++ toLe 4 (s.dev.tck.expected % 1000000000) ++ toLe 4 (s.dev.frame + 1).toNat ++
      toLe 4 s.dev.tck.period ++ toLe 1 (s.dev.dsk.annSv.getD 0 + 128 * b2n s.dev.dsk.annSafe)) :
    Completes .tickFlitSend s fun d =>
      (∀ j o, j < 16 → s.dev.route j = some o → ∃ x : TxFlit, ((o, x) ∈ d.dsk.out ∨ x ∈ (d.portAt o).wait) ∧ x.type = FT.tick ∧
        x.flit.dst = j ∧ x.flit.payload = padFlit b) ∧
      ((∀ j o, s.dev.route j = some o → (s.dev.portAt o).replay.length + 16 ≤ 512 ∧ (s.dev.portAt o).wait = []) →
        ∃ l : List (Nat × TxFlit), d.dsk.out = s.dev.dsk.out ++ l ∧ (∀ x, x ∈ l → x.2.flit.payload = padFlit b) ∧
          l.map (fun x => (x.2.type, x.2.flit.dst)) =
            ((List.range 16).filter fun j => (s.dev.route j).isSome).map (fun j => (FT.tick, j))) ∧
      SameRegs s.dev d [] ∧ d.sansRegs = { s.dev with dsk := { s.dev.dsk with port := d.dsk.port, out := d.dsk.out } }.sansRegs := by
  refine .of_act (exec_tickFlitSend s) (by rw [ha, hm]; simp [ht]) ?_
  have hsend : s.dev.sendTick = s.dev.ticksTo (List.range 16) b := by
    rw [hb]
    rfl
  have hstep := sendStep_ticksTo s.dev (List.range 16) b
  rw [hsend]
  refine ⟨fun j o hj hr => carries_ticksTo (List.mem_range.mpr hj) hr b, fun hroom => out_ticksTo (n := 496) _ b
    (fun j o hr => ?_) (by decide), hstep.regs, hstep.sansRegs⟩
  obtain ⟨hlen, hwait⟩ := hroom j o hr
  exact ⟨by omega, hwait⟩

theorem timeFlitSend_completes {s : State} {p : Nat} (h : s.dev.linkOn p = true) :
    Completes (.timeFlitSend p) s fun d =>
      (∃ x : TxFlit, x.type = FT.time ∧ x.flit.payload = padFlit (toLe 6 s.dev.tim.sec ++ toLe 4 s.dev.tim.ns) ∧
        (s.dev.linkFree p → d.dsk.out = s.dev.dsk.out ++ [(p, x)]) ∧
        (¬ s.dev.linkFree p → d.dsk.out = s.dev.dsk.out ∧ (d.portAt p).wait = (s.dev.portAt p).wait ++ [x])) ∧
      SameRegs s.dev d [] ∧ d.sansRegs = { s.dev with dsk := { s.dev.dsk with port := d.dsk.port, out := d.dsk.out } }.sansRegs := by
  refine .of_act (exec_timeFlitSend s p) h ?_
  have hstep : SendStep s.dev (s.dev.sendTime p) := sendStep_sendOn _ _ _ _ _ _ _ _
  refine ⟨?_, hstep.regs, hstep.sansRegs⟩
  rw [Device.sendTime, Device.sendOn]
  by_cases hf : s.dev.linkFree p
  · rw [pushFlit_free rfl hf, out_putSeq]
    exact ⟨_, rfl, rfl, fun _ => rfl, fun hn => absurd hf hn⟩
  · rw [pushFlit_full rfl hf, Device.portAt_setPort_same]
    exact ⟨_, rfl, rfl, fun hy => absurd hy hf, fun _ => ⟨rfl, rfl⟩⟩

end Sys2Proof.Machine
end

section
/-! STATUS flits, mastership and its election (R190, R191). -/

namespace Sys2Proof.Machine

theorem exec_statusFlit (s : State) (p : Nat) (f : Flit) (r : StatusRep) : exec (.statusFlit p f r) s =
    act (f.wf && decide (r = flitReport f)) (fun d => d.receive p FT.status f false fun d => d.inStatus f) s := rfl

theorem exec_masterElection (s : State) : exec .masterElection s =
    act (s.dev.cmpAlive && decide (s.dev.topo ≠ 0) && s.dev.dsk.claimAt.isSome) Device.elect s := rfl

/-! ## The system -/

/-- An entry without its claim. -/
def SysDev.unclaimed (x : SysDev) : SysDev := { x with claim := false }

@[simp] theorem sysAt_setSys_same (d : Device) (n : Nat) (v : SysDev) : (d.setSys n v).sysAt n = v := tabGet_tabSet_same _ _ _ _

theorem sysAt_setSys_ne (d : Device) {n k : Nat} (v : SysDev) (h : k ≠ n) : (d.setSys n v).sysAt k = d.sysAt k :=
  tabGet_tabSet_ne _ _ _ h

/-- The claims are settled when a master is. -/
theorem sysAt_setMaster (d : Device) (m n : Nat) : (d.setMaster m).sysAt n = (d.sysAt n).unclaimed :=
  tabGet_map default SysDev.unclaimed rfl d.dsk.sys n

theorem OnlyRegs.withDsk {d v : Device} {l : List Nat} (h : OnlyRegs d v l) (x : Dsk) :
    OnlyRegs { d with dsk := x } { v with dsk := x } l :=
  ⟨congrArg (fun z : Device => { z with dsk := x }) h.1, h.2⟩

theorem onlyRegs_setMaster (d : Device) (m : Nat) : OnlyRegs { d with dsk := (d.setMaster m).dsk } (d.setMaster m) [Reg.dskStatus] := by
  unfold Device.setMaster
  exact ((onlyRegs_setFld d Reg.dskStatus 31 28 m).trans (onlyRegs_setBit _ _ _ _)).withDsk _

theorem reg_withDsk (d : Device) (x : Dsk) (k : Nat) : ({ d with dsk := x } : Device).reg k = d.reg k := rfl

/-- DSK_STATUS with a master. -/
theorem reg_setMaster (d : Device) (m : Nat) : (d.setMaster m).reg Reg.dskStatus =
    putBit (putBits (d.reg Reg.dskStatus) 31 28 m) 27 (decide (m = d.devId)) := by
  unfold Device.setMaster
  rw [reg_withDsk, Device.reg_setBit, if_pos rfl, Device.reg_setFld, if_pos rfl]

theorem masterId_setMaster (d : Device) {m : Nat} (h : m < 16) : (d.setMaster m).masterId = m := by
  rw [Device.masterId, Device.fld, reg_setMaster, putBit, bits_putBits_other _ _ _ _ _ _ (by decide),
    bits_putBits_same _ _ _ _ (by decide)]
  exact Nat.mod_eq_of_lt h

theorem bitAt_setMaster (d : Device) (m : Nat) : (d.setMaster m).bitAt Reg.dskStatus 27 = decide (m = d.devId) := by
  rw [Device.bitAt, reg_setMaster, bit_putBit _ _ _ _ (by decide), if_pos rfl]

/-! ## STATUS of another device -/

/-- What a STATUS flit makes of the entry of its device. -/
def Device.reported (d : Device) (f : Flit) : SysDev := { d.sysAt f.src with
  state := flitState f, sysTag := flitTag f, claim := flitClaim f, fresh := true
  streak := if stQual (flitState f) && decide (flitTag f = d.sysTag) then (d.sysAt f.src).streak + 1 else 0 }

/-- This device is master and yields to the claim of a lower ID. -/
def Device.yields (d : Device) (f : Flit) : Bool :=
  decide (d.topo ≠ 0) && d.isMaster && flitClaim f && decide (f.src < d.devId)

/-- Another device is master. -/
def Device.yielded (d : Device) (m : Nat) : Device := ((d.setMaster m).raise Reg.dskStatus 6).pairRaise Src.dskMaster

theorem inStatus_eq (d : Device) (f : Flit) : d.inStatus f =
    if d.yields f then (d.setSys f.src (d.reported f)).yielded f.src else d.setSys f.src (d.reported f) := rfl

theorem dsk_pairRaise (d : Device) (x : Nat) : (d.pairRaise x).dsk = d.dsk := by
  unfold Device.pairRaise
  split <;> rfl

theorem dsk_yielded (d : Device) (m : Nat) : (d.yielded m).dsk = (d.setMaster m).dsk := (dsk_pairRaise _ _).trans (dsk_raise _ _ _)

/-- The registers of a device that yields. -/
theorem yielded_status {d : Device} {m : Nat} (hm : m < d.devId) (ha : d.cmpAlive = true) : (d.yielded m).masterId = m ∧
    (d.yielded m).bitAt Reg.dskStatus 27 = false ∧ (d.yielded m).bitAt Reg.dskStatus 6 = true ∧
    ((d.yielded m).pairAt Src.dskMaster).level = 1 := by
  have hreg : (d.yielded m).reg Reg.dskStatus = ((d.setMaster m).raise Reg.dskStatus 6).reg Reg.dskStatus :=
    Device.reg_pairRaise_ne _ (by decide)
  have hid : d.devId < 16 := bits_lt _ 3 0
  have h27 : ((d.setMaster m).raise Reg.dskStatus 6).bitAt Reg.dskStatus 27 = (d.setMaster m).bitAt Reg.dskStatus 27 := by
    rw [Device.bitAt, reg_raise_same _ _ _ (by decide) (by decide), bit_putBit _ _ _ _ (by decide)]
    rfl
  refine ⟨?_, ?_, ?_, Device.level_pairRaise ?_ _⟩
  · rw [Device.masterId, Device.fld_congr hreg, fld_raise_other _ (.inr (by decide)) (by decide) (by decide)]
    exact masterId_setMaster d (hm.trans hid)
  · rw [Device.bitAt_congr hreg, h27, bitAt_setMaster]
    exact decide_eq_false (Nat.ne_of_lt hm)
  · rw [Device.bitAt_congr hreg]
    exact bitAt_raise_same _ _ _ (by decide) (by decide) (by decide)
  · exact (cmpAlive_of_onlyRegs (onlyRegs_raise _ _ _)).trans ha

/-- The registers and the pair of a device that has yielded and sent its ACK. -/
theorem yields_status {d v : Device} {f : Flit} (h : LinkStep (d.inStatus f) v) (hy : d.yields f = true) (ha : d.cmpAlive = true) :
    v.masterId = f.src ∧ v.bitAt Reg.dskStatus 27 = false ∧ v.bitAt Reg.dskStatus 6 = true ∧
    (v.pairAt Src.dskMaster).level = 1 := by
  rw [inStatus_eq, if_pos hy] at h
  have hlt : f.src < d.devId := by
    simp only [Device.yields, Bool.and_eq_true, decide_eq_true_eq] at hy
    exact hy.2
  obtain ⟨hmaster, h27, h6, hpair⟩ := yielded_status (d := d.setSys f.src (d.reported f)) hlt ha
  have hreg := h.reg (k := Reg.dskStatus) (by decide)
  have hlevel := h.read (fun z => (z.pairAt Src.dskMaster).level) fun _ => rfl
  exact ⟨(Device.fld_congr hreg 31 28).trans hmaster, (Device.bitAt_congr hreg 27).trans h27, (Device.bitAt_congr hreg 6).trans h6,
    hlevel.trans hpair⟩

/-- From `d` to `v` only the links and the system change, with registers and the fault pairs. -/
def SystemOnly (d v : Device) : Prop := v.sansMem = { d with dsk := v.dsk }.sansMem ∧ v.mem = d.mem

theorem SystemOnly.trans {a b c : Device} (h : SystemOnly a b) (g : SystemOnly b c) : SystemOnly a c :=
  ⟨Eq.trans g.1 (congrArg (fun z : Device => { z with dsk := c.dsk }) h.1), g.2.trans h.2⟩

theorem SystemOnly.of_dskOnly {d v : Device} (h : DskOnly d v) : SystemOnly d v := by
  unfold DskOnly at h
  have hmem := congrArg Device.mem h
  have hrest := congrArg Device.sansMem h
  exact ⟨hrest, hmem⟩

theorem systemOnly_pairRaise (d : Device) (x : Nat) : SystemOnly d (d.pairRaise x) := by
  unfold Device.pairRaise
  split <;> exact ⟨rfl, rfl⟩

theorem systemOnly_raise (d : Device) (k i : Nat) : SystemOnly d (d.raise k i) := by
  refine .of_dskOnly ?_
  have h := (onlyRegs_raise d k i).1
  unfold DskOnly
  rw [dsk_raise, h]

theorem systemOnly_yielded (d : Device) (m : Nat) : SystemOnly d (d.yielded m) :=
  (SystemOnly.of_dskOnly (v := d.setMaster m) rfl).trans ((systemOnly_raise _ _ _).trans (systemOnly_pairRaise _ _))

theorem systemOnly_inStatus (d : Device) (f : Flit) : SystemOnly d (d.inStatus f) := by
  have hset : SystemOnly d (d.setSys f.src (d.reported f)) := .of_dskOnly rfl
  rw [inStatus_eq]
  split
  · exact hset.trans (systemOnly_yielded _ _)
  · exact hset

theorem sameRegs_inStatus {d : Device} {f : Flit} (h : d.yields f = false) : SameRegs d (d.inStatus f) [] := by
  rw [inStatus_eq, if_neg (by simp [h])]
  exact fun k _ _ => reg_withDsk d _ k

theorem port_inStatus (d : Device) (f : Flit) : (d.inStatus f).dsk.port = d.dsk.port ∧ (d.inStatus f).dsk.out = d.dsk.out := by
  rw [inStatus_eq]
  split
  · rw [dsk_yielded]
    exact ⟨rfl, rfl⟩
  · exact ⟨rfl, rfl⟩

/-- Each entry after a STATUS flit. -/
theorem sysAt_inStatus (d : Device) (f : Flit) :
    (d.inStatus f).sysAt f.src = { d.reported f with claim := flitClaim f && !d.yields f } ∧
    ∀ n, n ≠ f.src → (d.inStatus f).sysAt n = { d.sysAt n with claim := (d.sysAt n).claim && !d.yields f } := by
  have hsys : ∀ (u : Device) (m n : Nat), (u.yielded m).sysAt n = (u.sysAt n).unclaimed := fun u m n => by
    rw [Device.sysAt, dsk_yielded]
    exact sysAt_setMaster u m n
  rw [inStatus_eq]
  cases hy : d.yields f with
  | true =>
    simp only [if_true, Bool.not_true, Bool.and_false, hsys]
    refine ⟨by rw [sysAt_setSys_same]; rfl, fun n hn => by rw [sysAt_setSys_ne _ _ hn]; rfl⟩
  | false =>
    simp only [Bool.false_eq_true, if_false, Bool.not_false, Bool.and_true]
    exact ⟨sysAt_setSys_same _ _ _, fun n hn => sysAt_setSys_ne _ _ hn⟩

theorem statusFlit_completes {s : State} {p : Nat} {f : Flit} {v : SysDev} {yield : Bool} (h : s.dev.inTurn p FT.status f)
    (hd : f.dst = s.dev.devId) (hv : v = s.dev.sysAt f.src)
    (hy : yield = (decide (s.dev.topo ≠ 0) && s.dev.isMaster && flitClaim f && decide (f.src < s.dev.devId))) :
    Completes (.statusFlit p f (flitReport f)) s fun d =>
      d.sysAt f.src = { v with
        state := flitState f, sysTag := flitTag f, claim := flitClaim f && !yield, fresh := true
        streak := if stQual (flitState f) && decide (flitTag f = s.dev.sysTag) then v.streak + 1 else 0 } ∧
      (∀ n, n ≠ f.src → d.sysAt n = { s.dev.sysAt n with claim := (s.dev.sysAt n).claim && !yield }) ∧
      (yield = true → d.masterId = f.src ∧ d.bitAt Reg.dskStatus 27 = false ∧ d.bitAt Reg.dskStatus 6 = true ∧
        (d.pairAt Src.dskMaster).level = 1) ∧
      (yield = false → SameRegs s.dev d []) ∧ Handled s.dev d p f [] ∧
      d.sansMem = { s.dev with dsk := d.dsk }.sansMem ∧ d.mem = s.dev.mem := by
  have hexec : exec (.statusFlit p f (flitReport f)) s = act f.wf (fun d => d.receive p FT.status f false fun d => d.inStatus f) s := by
    rw [exec_statusFlit, decide_eq_true rfl, Bool.and_true]
  refine .of_inTurn hexec h (.inr hd) ?_
  have hlink := linkStep_tookCounted s.dev p f
  have hdsk := dsk_tookCounted s.dev p f
  have hseq : ((s.dev.tookCounted p f).portAt p).rxSeq = f.seq := (congrArg _ (portAt_congr hdsk p)).trans (rxSeq_took s.dev p f)
  have halive : (s.dev.tookCounted p f).cmpAlive = true := hlink.cmpAlive.trans (cmpAlive_of_portOn (portOn_of_linkOn h.1))
  have hyield : yield = (s.dev.tookCounted p f).yields f := by
    rw [hy, Device.yields, hlink.topo, hlink.isMaster, hlink.devId]
  have hsysAt : ∀ n, (s.dev.tookCounted p f).sysAt n = s.dev.sysAt n := fun n => hlink.read (·.sysAt n) fun _ => rfl
  have htag : (s.dev.tookCounted p f).sysTag = s.dev.sysTag := hlink.read Device.sysTag fun _ => rfl
  obtain ⟨hsrc, hother⟩ := sysAt_inStatus (s.dev.tookCounted p f) f
  rw [Device.reported, hsysAt, htag] at hsrc
  simp only [hsysAt] at hother
  obtain ⟨hports, hout⟩ := port_inStatus (s.dev.tookCounted p f) f
  have hport : ((s.dev.tookCounted p f).inStatus f).portAt p = (s.dev.tookCounted p f).portAt p := by
    rw [Device.portAt, hports, ← Device.portAt]
  have hack := sendStep_ackIdle ((s.dev.tookCounted p f).inStatus f) p (s.dev.sentOn p)
  have hentry : ∀ n, (((s.dev.tookCounted p f).inStatus f).ackIdle p (s.dev.sentOn p)).sysAt n =
    ((s.dev.tookCounted p f).inStatus f).sysAt n := fun n => hack.read (·.sysAt n) fun _ => rfl
  have hstep : SystemOnly s.dev (((s.dev.tookCounted p f).inStatus f).ackIdle p (s.dev.sentOn p)) :=
    (SystemOnly.of_dskOnly hlink.dskOnly).trans ((systemOnly_inStatus _ f).trans (.of_dskOnly hack.dskOnly))
  rw [hyield, hv]
  refine ⟨(hentry _).trans hsrc, fun n hn => (hentry n).trans (hother n hn), fun h => yields_status hack.toLinkStep h halive,
    fun h => ?_, handled_ackIdle ?_ ?_, hstep⟩
  · exact hlink.regs.trans_nil (SameRegs.trans_nil (sameRegs_inStatus h) hack.regs)
  · rw [hout, hdsk, List.append_nil]
  · rw [hport, hseq]

/-! ## The election -/

/-- The devices that claim, of this device and the reachable ones. -/
def Device.claimants (d : Device) : List Nat :=
  (List.range 16).filter fun n => if n = d.devId then d.mayClaim else (d.route n).isSome && (d.sysAt n).claim

/-- A device that knows of no master. -/
def Device.masterless (d : Device) : Device :=
  { d.setBit Reg.dskStatus 27 false with dsk := { d.dsk with hasMaster := false, claimAt := none } }

theorem elect_nil {d : Device} (h : d.claimants = []) : d.elect = if d.chk.dev = .configured ∨ d.chk.dev.running ∨ d.chk.dev = .safe
    then d.masterless.enterSafe [⟨0xE2, false⟩] else d.masterless := by
  unfold Device.elect
  rw [← Device.claimants, h]
  rfl

theorem elect_cons {d : Device} {m : Nat} {l : List Nat} (h : d.claimants = m :: l) : d.elect = d.setMaster m := by
  unfold Device.elect
  rw [← Device.claimants, h]

/-- The claimants stand in order, so that the lowest comes first. -/
theorem elect_lowest {d : Device} {m : Nat} (hm : m ∈ d.claimants) (hmin : ∀ n, n ∈ d.claimants → m ≤ n) : d.elect = d.setMaster m := by
  have hsorted : d.claimants.Pairwise (· < ·) := List.pairwise_lt_range.filter _
  cases hl : d.claimants with
  | nil => rw [hl] at hm; exact absurd hm List.not_mem_nil
  | cons k l =>
    rw [hl] at hm hmin hsorted
    rcases List.mem_cons.mp hm with rfl | hm
    · exact elect_cons hl
    · exact absurd (hmin k List.mem_cons_self) (Nat.not_le.mpr (List.rel_of_pairwise_cons hsorted hm))

/-- An entry into SAFE, or another cause for it, leaves the links and every register but FLT_CTRL. -/
theorem enterSafe_frame (d : Device) (l : List Decision) : (d.enterSafe l).dsk = d.dsk ∧
    ∀ k, k ≠ Reg.fltCtrl → (d.enterSafe l).reg k = d.reg k := by
  unfold Device.enterSafe
  split
  · exact ⟨rfl, fun _ _ => rfl⟩
  · split
    · exact ⟨rfl, fun _ _ => rfl⟩
    · have hlock : d.lockBoot.dsk = d.dsk ∧ ∀ k, k ≠ Reg.fltCtrl → d.lockBoot.reg k = d.reg k := by
        unfold Device.lockBoot
        split
        · exact ⟨rfl, fun k hk => Device.reg_setReg_ne _ _ hk⟩
        · exact ⟨rfl, fun _ _ => rfl⟩
      exact hlock

theorem enterSafe_new {d : Device} {c : Nat} {b : Bool} (hf : d.chk.dev ≠ .fatal) (hs : d.chk.dev ≠ .safe) :
    (d.enterSafe [⟨c, b⟩]).chk.dev = .safe ∧ (d.enterSafe [⟨c, b⟩]).chk.cause = min 0xFF c ∧
    (d.enterSafe [⟨c, b⟩]).chk.lockout = b := by
  rw [Device.enterSafe, if_neg (by simp [hf]), if_neg hs]
  exact ⟨rfl, rfl, Bool.or_false b⟩

theorem enterSafe_more {d : Device} {c : Nat} {b : Bool} (hs : d.chk.dev = .safe) : c ∈ (d.enterSafe [⟨c, b⟩]).chk.causes := by
  rw [Device.enterSafe, if_neg (by simp [hs]), if_pos hs]
  exact List.mem_dedup.mpr (List.mem_append_right _ (List.mem_singleton_self c))

theorem not_safe_of_active {x : DevState} (h : x = .configured ∨ x.running = true) : x ≠ .fatal ∧ x ≠ .safe := by
  cases x <;> simp_all [DevState.running]

theorem bitAt_masterless (d : Device) : d.masterless.bitAt Reg.dskStatus 27 = false :=
  (Device.bitAt_setBit d Reg.dskStatus 27 Reg.dskStatus 27 false (by decide)).trans (if_pos ⟨rfl, rfl⟩)

/-- What an election without a claimant leaves. -/
theorem elect_none {d : Device} (h : d.claimants = []) : d.elect.dsk.hasMaster = false ∧ d.elect.bitAt Reg.dskStatus 27 = false ∧
    d.elect.dsk.claimAt = none ∧
    (d.chk.dev = .configured ∨ d.chk.dev.running = true → d.elect.chk.dev = .safe ∧ d.elect.chk.cause = 0xE2 ∧
      d.elect.chk.lockout = false) ∧
    (d.chk.dev = .safe → 0xE2 ∈ d.elect.chk.causes) := by
  rw [elect_nil h]
  by_cases hs : d.chk.dev = .configured ∨ d.chk.dev.running = true ∨ d.chk.dev = .safe
  · rw [if_pos hs]
    obtain ⟨hdsk, hreg⟩ := enterSafe_frame d.masterless [⟨0xE2, false⟩]
    refine ⟨by rw [hdsk]; rfl, (Device.bitAt_congr (hreg _ (by decide)) 27).trans (bitAt_masterless d), by rw [hdsk]; rfl,
      fun ha => ?_, fun hsafe => enterSafe_more hsafe⟩
    obtain ⟨hfatal, hsafe⟩ := not_safe_of_active ha
    exact enterSafe_new (d := d.masterless) hfatal hsafe
  · rw [if_neg hs]
    exact ⟨rfl, bitAt_masterless d, rfl, fun ha => absurd (ha.imp_right .inl) hs, fun hsafe => absurd (.inr (.inr hsafe)) hs⟩

theorem masterElection_completes {s : State} {m : Nat} {l : List Nat} (ha : s.dev.cmpAlive = true) (ht : s.dev.topo ≠ 0)
    (hc : s.dev.dsk.claimAt.isSome = true) (hl : l = s.dev.claimants) :
    Completes .masterElection s fun d =>
      (m ∈ l → (∀ n, n ∈ l → m ≤ n) → d.masterId = m ∧ d.dsk.hasMaster = true ∧ d.dsk.claimAt = none ∧
        d.bitAt Reg.dskStatus 27 = decide (m = s.dev.devId) ∧ OnlyRegs { s.dev with dsk := d.dsk } d [Reg.dskStatus]) ∧
      (l = [] → d.dsk.hasMaster = false ∧ d.bitAt Reg.dskStatus 27 = false ∧ d.dsk.claimAt = none ∧
        (s.dev.chk.dev = .configured ∨ s.dev.chk.dev.running = true → d.chk.dev = .safe ∧ d.chk.cause = 0xE2 ∧
          d.chk.lockout = false) ∧
        (s.dev.chk.dev = .safe → 0xE2 ∈ d.chk.causes)) := by
  refine .of_act (exec_masterElection s) (by rw [ha, hc]; simp [ht]) ⟨fun hm hmin => ?_, fun hnil => elect_none (hl.symm.trans hnil)⟩
  rw [hl] at hm hmin
  rw [elect_lowest hm hmin]
  have hlt : m < 16 := List.mem_range.mp (List.mem_of_mem_filter hm)
  exact ⟨masterId_setMaster _ hlt, rfl, rfl, bitAt_setMaster _ _, onlyRegs_setMaster _ _⟩

/-- Settles O51: a clause for each message of the master and of the system, and the election, by whether anyone claims. -/
theorem tickMasterAndElection : Obligations.TickMasterAndElection :=
  ⟨⟨fun _ _ ha ht hm hb => tickFlitSend_completes ha ht hm hb, fun _ _ _ h hd => tickFlit_completes h hd,
      fun _ ha hf hn => tickMissing_completes ha hf hn, fun _ _ _ _ _ h ho => timeFlit_completes h ho,
      fun _ _ h => timeFlitSend_completes h⟩,
    fun _ _ _ _ _ h hd hv hy => statusFlit_completes h hd hv hy, fun _ _ _ ha ht hc hl => masterElection_completes ha ht hc hl⟩

end Sys2Proof.Machine
end

section
/-! Fences that are confirmed or late, and the ERR_OUT hold (R285, R292, R295, R301). -/

namespace Sys2Proof.Machine

theorem exec_fenceConfirm (s : State) (n : Nat) : exec (.fenceConfirm n) s = act s.dev.chk.power (fun d => d.fenceDone n) s := rfl

theorem exec_fenceConfirmTimeout (s : State) (n : Nat) :
    exec (.fenceConfirmTimeout n) s = act s.dev.chk.power (fun d => d.fenceLate n) s := rfl

theorem exec_errOutHoldExpiry (s : State) : exec .errOutHoldExpiry s =
    act s.dev.chk.power (fun d => { d with chk := { d.chk with pinAt := none } }) s := rfl

/-! ## Registering a source with the reaction CHIP (R292) -/

/-- Register `k`, the checker's state, the safety outputs and the fences that wait for a confirmation stay. -/
structure NoteStep (k : Nat) (d v : Device) : Prop where
  reg : v.reg k = d.reg k
  chk : v.chk = d.chk
  sio : v.sio = d.sio
  fences : v.flt.fences = d.flt.fences

namespace NoteStep

variable {k : Nat}

theorem refl (d : Device) : NoteStep k d d := ⟨rfl, rfl, rfl, rfl⟩

theorem trans {a b c : Device} (h : NoteStep k a b) (g : NoteStep k b c) : NoteStep k a c :=
  ⟨g.reg.trans h.reg, g.chk.trans h.chk, g.sio.trans h.sio, g.fences.trans h.fences⟩

theorem of_ite {a b c : Device} {p : Prop} [Decidable p] (h : NoteStep k a b) (g : NoteStep k a c) :
    NoteStep k a (if p then b else c) := by
  split <;> assumption

theorem setReg (d : Device) {j : Nat} (v : Word) (h : k ≠ j) : NoteStep k d (d.setReg j v) := ⟨d.reg_setReg_ne v h, rfl, rfl, rfl⟩

theorem event (d : Device) {j : Nat} (i : Nat) (h : k ≠ j) : NoteStep k d (d.event j i) :=
  ⟨(d.reg_event j k i).trans (if_neg h), rfl, rfl, rfl⟩

theorem flt (d : Device) {x : Flt} (h : x.fences = d.flt.fences) : NoteStep k d { d with flt := x } := ⟨rfl, rfl, rfl, h⟩

/-- An interrupt touches the pending bits of the vectors alone. -/
theorem fire (d : Device) {v : Nat} (hv : v < 64) (h : k ≠ 0x4800) (h' : k ≠ 0x4804) : NoteStep k d (d.fire v) := by
  have hreg := reg_fire d hv h h'
  have hkept : (d.fire v).chk = d.chk ∧ (d.fire v).sio = d.sio ∧ (d.fire v).flt = d.flt := by
    unfold Device.fire
    split
    · exact ⟨rfl, rfl, rfl⟩
    · split <;> exact ⟨rfl, rfl, rfl⟩
  obtain ⟨hchk, hsio, hflt⟩ := hkept
  exact ⟨hreg, hchk, hsio, congrArg (·.fences) hflt⟩

end NoteStep

section
variable {k : Nat} (hk : k < 0x2008A00)
include hk

theorem noteStep_logSink (d : Device) (i n : Nat) : NoteStep k d (d.logSink i n) := by
  induction n generalizing d i with
  | zero => exact .refl d
  | succ n ih =>
    have hswap : NoteStep k d (d.logSwap i) := by
      unfold Device.logSwap
      refine .of_ite ((NoteStep.setReg d _ ?_).trans (.setReg _ _ ?_)) (.refl d)
      all_goals simp only [Reg.fltLogSrc]; omega
    exact hswap.trans (ih _ _)

omit hk in
theorem noteStep_logCycle (d : Device) : NoteStep k d d.logCycle.1 := .flt d rfl

theorem noteStep_fltLog (d : Device) (s cls taken : Nat) (forced wire : Bool) (hh : k ≠ Reg.fltLogHead) :
    NoteStep k d (d.fltLog s cls taken forced wire) := by
  have hlog : ∀ (v : Device) (j : Nat) (w : Word), 0x2008A00 ≤ j → NoteStep k v (v.setReg j w) := fun v j w hj =>
    .setReg v w (Nat.ne_of_lt (Nat.lt_of_lt_of_le hk hj))
  unfold Device.fltLog
  simp only
  refine NoteStep.trans ?_ (.setReg _ _ hh)
  refine NoteStep.trans ?_ (noteStep_logSink hk _ _ _)
  refine NoteStep.trans (((hlog d _ _ ?_).trans (hlog _ _ _ ?_)).trans (hlog _ _ _ ?_)) (noteStep_logCycle _)
  all_goals simp only [Reg.fltLogSrc, Reg.fltLogNs, Reg.fltLogFrame]; omega

end

theorem noteStep_intNmi {k : Nat} (d : Device) (r : Nat) (h : k ≠ 0x4800) (h' : k ≠ 0x4804) : NoteStep k d (d.intNmi r) := by
  unfold Device.intNmi
  simp only
  have hint : NoteStep k d (if r % 2 = 1 then ({ d with flt := { d.flt with irq := d.flt.irq + 1 } } : Device).fire 1 else d) :=
    .of_ite (NoteStep.trans (b := { d with flt := { d.flt with irq := d.flt.irq + 1 } }) ⟨rfl, rfl, rfl, rfl⟩ (.fire (v := 1) _ (by decide) h h')) (.refl d)
  generalize (if r % 2 = 1 then ({ d with flt := { d.flt with irq := d.flt.irq + 1 } } : Device).fire 1 else d) = v at hint ⊢
  exact .of_ite (hint.trans (.flt v rfl)) hint

theorem keeps_setReg (d : Device) (k : Nat) (v : Word) :
    (d.setReg k v).chk = d.chk ∧ (d.setReg k v).sio = d.sio ∧ (d.setReg k v).flt = d.flt := ⟨rfl, rfl, rfl⟩

theorem keeps_event (d : Device) (k i : Nat) :
    (d.event k i).chk = d.chk ∧ (d.event k i).sio = d.sio ∧ (d.event k i).flt = d.flt := ⟨rfl, rfl, rfl⟩

theorem pend_event (d : Device) (s : Nat) : (d.event (Reg.fltPend (s / 32)) (s % 32)).pend s = true :=
  (d.bitAt_setBit (Reg.fltPend (s / 32)) (s % 32) _ _ true (Nat.mod_lt _ (by decide))).trans (if_pos ⟨rfl, rfl⟩)

/-- A registration counts and sets the pending bit (R292). -/
theorem noteSource_spec (d : Device) (s cls cause : Nat) : (d.noteSource s cls cause).pend s = true ∧
    (d.noteSource s cls cause).chk = d.chk ∧ (d.noteSource s cls cause).flt.fences = d.flt.fences := by
  have hne : Reg.fltPend (s / 32) ≠ Reg.fltStatus := by
    simp only [Reg.fltPend, Reg.fltStatus]
    omega
  unfold Device.noteSource
  extract_lets counted last pending
  have hcounted : counted.chk = d.chk ∧ counted.sio = d.sio ∧ counted.flt = d.flt := by
    unfold counted
    split <;> exact keeps_setReg d _ _
  obtain ⟨hchk, -, hflt⟩ := hcounted
  obtain ⟨hchk', -, hflt'⟩ : last.chk = counted.chk ∧ last.sio = counted.sio ∧ last.flt = counted.flt := keeps_setReg _ _ _
  obtain ⟨hchk'', -, hflt''⟩ : pending.chk = last.chk ∧ pending.sio = last.sio ∧ pending.flt = last.flt := keeps_event _ _ _
  have hpend : pending.pend s = true := pend_event last s
  clear_value counted last pending
  have hstep : NoteStep (Reg.fltPend (s / 32)) pending
      (if cls = 1 then pending.event Reg.fltStatus 0 else if cls = 2 then pending.event Reg.fltStatus 1 else pending) :=
    .of_ite (.event _ 0 hne) (.of_ite (.event _ 1 hne) (.refl _))
  exact ⟨(Device.bitAt_congr hstep.reg _).trans hpend, hstep.chk.trans (hchk''.trans (hchk'.trans hchk)),
    hstep.fences.trans (congrArg (·.fences) (hflt''.trans (hflt'.trans hflt)))⟩

theorem swA_off (o : Output) (i : Chan) (q : Nat) : (o.off i q).swA = false := by
  unfold Output.off Output.open_
  extract_lets u v
  have hv : v.swA = false := Bool.and_false _
  split <;> exact hv

/-- A request for a warm reset (R292): the safety outputs are off. -/
theorem askWarm_spec {d : Device} (cause : Nat) (hf : d.chk.dev ≠ .fatal) (hw : d.chk.warm = none) :
    (d.askWarm cause).chk.warm = some cause ∧ (d.askWarm cause).outputsOpen ∧ (d.askWarm cause).regs = d.regs ∧
    (d.askWarm cause).flt = d.flt := by
  rw [Device.askWarm, if_neg (by simp [hf, hw])]
  exact ⟨rfl, Device.outputsOpen_of_swA (swA_off _ _ _) (swA_off _ _ _), rfl, rfl⟩

theorem natBits_of_testBit {n i : Nat} (h : n.testBit i = true) : natBits n i i = 1 := by
  rw [Nat.testBit_eq_decide_div_mod_eq, decide_eq_true_eq] at h
  rw [natBits, Nat.add_sub_cancel_left, pow_one, h]

/-- A fixed reaction is taken whatever the table says (R291). -/
theorem reactions_fixed {d : Device} {s i : Nat} {r : SrcRow} (hr : srcRow s = some r) (hx : r.fixed = true)
    (hb : r.react.testBit i = true) : natBits (d.reactions s) i i = 1 := by
  refine natBits_of_testBit ?_
  unfold Device.reactions
  rw [hr]
  simp only [hx, if_true]
  split <;> simp [Nat.testBit_or, hb]

/-- The ERR_OUT pin is held from now on where the reactions name it (R301). -/
def Device.pinHeld (d : Device) (act : Nat) : Device := if 16 ≤ act then { d with chk := { d.chk with pinAt := some d.q } } else d

theorem pinHeld_keeps (d : Device) (act : Nat) : (d.pinHeld act).chk.dev = d.chk.dev ∧ (d.pinHeld act).chk.warm = d.chk.warm ∧
    (d.pinHeld act).regs = d.regs ∧ (d.pinHeld act).flt = d.flt := by
  unfold Device.pinHeld
  split <;> exact ⟨rfl, rfl, rfl, rfl⟩

/-- What a registration with the reaction CHIP leaves, of the device that has noted the source. -/
theorem chip_spec {d : Device} {s : Nat} (cause act : Nat) (hm : s ≠ Src.vmonCmp ∧ s ≠ Src.fmonCmp) (hf : d.chk.dev ≠ .fatal)
    (hw : d.chk.warm = none) (hp : d.pend s = true) : ((d.pinHeld act).chip s cause).pend s = true ∧
    ((d.pinHeld act).chip s cause).flt.fences = d.flt.fences ∧ ((d.pinHeld act).chip s cause).chk.warm = some cause ∧
    ((d.pinHeld act).chip s cause).outputsOpen := by
  obtain ⟨hdev, hwarm, hregs, hflt⟩ := pinHeld_keeps d act
  obtain ⟨hasked, hopen, hregs', hflt'⟩ := askWarm_spec (d := d.pinHeld act) cause (hdev ▸ hf) (hwarm.trans hw)
  rw [Device.chip, if_neg (by simp [hm])]
  exact ⟨(Device.bitAt_congr (Device.reg_congr (hregs'.trans hregs) _) _).trans hp, congrArg (·.fences) (hflt'.trans hflt), hasked, hopen⟩

/-- A source with the fixed reaction CHIP asks for a warm reset as it registers (R292). -/
theorem chkRaise_chip {d : Device} {s : Nat} {r : SrcRow} (hr : srcRow s = some r) (hs : s < 0x200) (hc : r.cls ≠ 3)
    (hx : r.fixed = true) (hb : r.react.testBit 3 = true) (hm : s ≠ Src.vmonCmp ∧ s ≠ Src.fmonCmp) (hp : d.chk.power = true)
    (hf : d.chk.dev ≠ .fatal) (hw : d.chk.warm = none) : (d.chkRaise s).pend s = true ∧ (d.chkRaise s).flt.fences = d.flt.fences ∧
    (d.chkRaise s).chk.warm = some r.cause ∧ (d.chkRaise s).outputsOpen := by
  have hreact : natBits (d.reactions s) 3 3 = 1 := reactions_fixed hr hx hb
  obtain ⟨hpend, hchk, hfences⟩ := noteSource_spec d s r.cls r.cause
  have hk : Reg.fltPend (s / 32) < 0x2008A00 ∧ Reg.fltPend (s / 32) ≠ Reg.fltLogHead ∧ Reg.fltPend (s / 32) ≠ 0x4800 ∧
      Reg.fltPend (s / 32) ≠ 0x4804 := by
    simp only [Reg.fltPend, Reg.fltLogHead]
    omega
  obtain ⟨hlow, hhead, h1, h2⟩ := hk
  unfold Device.chkRaise Device.register
  rw [hr]
  simp only [hp, Bool.not_true, Bool.false_eq_true, if_false, hf, hc, hreact, if_true]
  generalize d.noteSource s r.cls r.cause = v at hpend hchk hfences ⊢
  have hlog : NoteStep (Reg.fltPend (s / 32)) v (if d.pend s = true then v else v.fltLog s r.cls (d.reactions s) false false) :=
    .of_ite (.refl v) (noteStep_fltLog hlow _ _ _ _ _ _ hhead)
  generalize (if d.pend s = true then v else v.fltLog s r.cls (d.reactions s) false false) = u at hlog ⊢
  have hnmi : NoteStep (Reg.fltPend (s / 32)) v (if d.pend s = true then u else u.intNmi (d.reactions s)) :=
    .of_ite hlog (hlog.trans (noteStep_intNmi _ _ h1 h2))
  generalize (if d.pend s = true then u else u.intNmi (d.reactions s)) = w at hnmi ⊢
  have hwchk : w.chk = d.chk := hnmi.chk.trans hchk
  obtain ⟨hpend', hfences', hwarm, hopen⟩ := chip_spec (d := w) r.cause (d.reactions s) hm (by rw [hwchk]; exact hf)
    (by rw [hwchk]; exact hw) ((Device.bitAt_congr hnmi.reg _).trans hpend)
  rw [if_neg (by simpa [hwchk] using hf)]
  exact ⟨hpend', hfences'.trans (hnmi.fences.trans hfences), hwarm, hopen⟩

/-! ## Fences -/

theorem fenceConfirmTimeout_completes {s : State} {n : Nat} (hp : s.dev.chk.power = true) (hn : n < s.dev.flt.fences.length)
    (hf : s.dev.chk.dev ≠ .fatal) (hw : s.dev.chk.warm = none) :
    Completes (.fenceConfirmTimeout n) s fun d => d.pend Src.fenceFail = true ∧
      d.flt.fences = s.dev.flt.fences.eraseIdx n ∧ d.chk.warm = some 0x58 ∧ d.outputsOpen := by
  refine .of_act (exec_fenceConfirmTimeout s n) hp ?_
  have hlate : s.dev.fenceLate n = (s.dev.fenceDone n).chkRaise Src.fenceFail := if_pos hn
  rw [hlate]
  exact chkRaise_chip (d := s.dev.fenceDone n) (r := ⟨0x198, 0x198, 2, 0x58, .checker, true, 0b11001⟩) (by decide) (by decide)
    (by decide) rfl (by decide) (by decide) hp hf hw

end Sys2Proof.Machine
end

section
/-! The test of a Facet on its way back to service (R297, R309, R311). -/

namespace Sys2Proof.Machine

theorem exec_facetTestComplete (s : State) (f : Nat) (t : FacetTest) : exec (.facetTestComplete f t) s =
    act (decide (f < 4) && s.dev.cmpAlive) (fun d => d.facetTested f t.fails t.march) s := rfl

/-! ## Facets -/

@[simp] theorem Device.facetAt_modFacet_same (d : Device) (f : Nat) (g : Facet → Facet) : (d.modFacet f g).facetAt f = g (d.facetAt f) :=
  tabGet_tabSet_same _ _ _ _

theorem Device.facetAt_modFacet_ne (d : Device) {f x : Nat} (g : Facet → Facet) (h : x ≠ f) :
    (d.modFacet f g).facetAt x = d.facetAt x := tabGet_tabSet_ne _ _ _ h

theorem facet_of_onlyRegs {a b : Device} {l : List Nat} (h : OnlyRegs a b l) : b.facet = a.facet :=
  congrArg (a₁ := b.sansRegs) (a₂ := a.sansRegs) Device.facet h.1

theorem facet_cntClear (d : Device) (u : Nat) : (d.cntClear u).facet = d.facet := facet_of_onlyRegs (onlyRegs_cntClear d u)

/-- What a Facet loses with its power leaves the Facets' own states. -/
theorem facet_facetLose (d : Device) (f : Nat) : (d.facetLose f).facet = d.facet := by
  unfold Device.facetLose
  extract_lets lo tol mine pairs wiped lens mem scrub sigs regs fresh prisms
  have hpairs : pairs.facet = d.facet := by
    unfold pairs
    refine foldl_keeps Device.facet _ (fun u x => ?_) _ _
    rfl
  clear_value pairs
  have hwiped : scrub.facet = pairs.facet := rfl
  clear_value scrub
  have hsigs : sigs.facet = scrub.facet := by
    unfold sigs
    refine foldl_keeps Device.facet _ (fun u x => ?_) _ _
    rfl
  clear_value sigs
  have hregs : regs.facet = sigs.facet := rfl
  clear_value regs
  have hprisms : prisms.facet = regs.facet := by
    unfold prisms
    exact foldl_keeps Device.facet _ (fun d p => facet_cntClear (d.setPrism _ _) _) _ _
  clear_value prisms
  have hengines : ∀ (u : Device) (i : Nat), (u.modEng i fun g => { g with fenced := true }).facet = u.facet := fun _ _ => rfl
  rw [facet_cntClear, foldl_keeps Device.facet _ (fun u i => (hengines _ _).trans (facet_cntClear u _)), hprisms, hregs, hsigs, hwiped, hpairs]

theorem facet_ringStop (d : Device) (f : Nat) : (d.ringStop f).facet = d.facet := by
  unfold Device.ringStop
  split
  · exact (facet_of_onlyRegs (onlyRegs_raise _ _ _)).trans rfl
  · rfl

/-- A Facet that fails has no power, and the others stay. -/
theorem facetFail_spec (d : Device) (f : Nat) : ((d.facetFail f).facetAt f).st = .failed ∧ ((d.facetFail f).facetAt f).powered = false ∧
    ∀ g, g ≠ f → (d.facetFail f).facetAt g = d.facetAt g := by
  have hlost : ∀ g, ((d.ringStop f).facetLose f).facetAt g = d.facetAt g := fun g =>
    congrArg (fun t => tabGet Facet.reset t g) ((facet_facetLose _ f).trans (facet_ringStop d f))
  unfold Device.facetFail Device.facetOff
  refine ⟨?_, ?_, fun g hg => ?_⟩
  · rw [Device.facetAt_modFacet_same]
  · rw [Device.facetAt_modFacet_same, Device.facetAt_modFacet_same]
  · rw [Device.facetAt_modFacet_ne _ _ hg, Device.facetAt_modFacet_ne _ _ hg, hlost]

/-! ## A pass over one Prism -/

/-- Engine `e` is fenced for a fault. -/
def Device.faultAt (d : Device) (e : Nat) : Prop := ((d.engAt e).fenced && (d.engAt e).faulted) = true

/-- A pass of the test leaves the Facets and which Prisms are disabled, and takes no fence back. -/
structure TestStep (d v : Device) : Prop where
  facet : v.facet = d.facet
  disabled : ∀ q, (v.prismAt q).disabled = (d.prismAt q).disabled
  faults : ∀ e, d.faultAt e → v.faultAt e

namespace TestStep

theorem refl (d : Device) : TestStep d d := ⟨rfl, fun _ => rfl, fun _ => id⟩

theorem trans {a b c : Device} (h : TestStep a b) (g : TestStep b c) : TestStep a c :=
  ⟨g.facet.trans h.facet, fun q => (g.disabled q).trans (h.disabled q), fun e he => g.faults e (h.faults e he)⟩

theorem of_raiseStep {a b : Device} (h : RaiseStep a b) : TestStep a b where
  facet := congrArg (a₁ := b.sansRaise) (a₂ := a.sansRaise) (·.facet) h
  disabled q := congrArg (fun t => (tabGet Prism.reset t q).disabled) h.prism
  faults e he := by
    rwa [Device.faultAt, show b.engAt e = a.engAt e from congrArg (fun t => tabGet Eng.reset t e) h.eng]

theorem setPrism (d : Device) (q : Nat) {v : Prism} (h : v.disabled = (d.prismAt q).disabled) : TestStep d (d.setPrism q v) where
  facet := rfl
  disabled x := by
    by_cases hx : x = q
    · rw [hx, Device.prismAt_setPrism_same, h]
    · rw [Device.prismAt_setPrism_ne _ _ hx]
  faults _ he := he

theorem fenceEngine (d : Device) (e : Nat) : TestStep d (d.fenceEngine e) where
  facet := rfl
  disabled _ := rfl
  faults x hx := by
    by_cases he : x = e
    · rw [Device.faultAt, he, engAt_fenceEngine_same]
      rfl
    · rwa [Device.faultAt, (OtherEngines.fenceEngine d e) x he]

theorem foldl {f : Device → Nat → Device} (hf : ∀ d x, TestStep d (f d x)) (l : List Nat) (d : Device) : TestStep d (l.foldl f d) :=
  foldl_counted (P := fun _ u => TestStep d u) (fun _ _ _ h => h.trans (hf _ _)) l (n := 0) (.refl d)

end TestStep

theorem faultAt_fenceEngine (d : Device) (e : Nat) : (d.fenceEngine e).faultAt e := by
  rw [Device.faultAt, engAt_fenceEngine_same]
  rfl

theorem testStep_bgDone (d : Device) (c : BgClass) : TestStep d (d.bgDone c) := ⟨rfl, fun _ => rfl, fun _ h => h⟩

theorem testStep_passDone (d : Device) (q : Nat) : TestStep d (d.passDone q) := by
  have hprism : TestStep d (d.setPrism q { d.prismAt q with nextSeg := 0 }) := .setPrism d q rfl
  have hcount := TestStep.of_raiseStep (raiseStep_incr (d.setPrism q { d.prismAt q with nextSeg := 0 }) Reg.fltStPassCnt)
  exact (hprism.trans hcount).trans (testStep_bgDone _ _)

/-- The engines of `l` on Prism `q` are fenced. -/
theorem faultAt_fenceEngines {d : Device} {q i : Nat} {l : List Nat} (h : i ∈ l) :
    (l.foldl (fun d i => d.fenceEngine (7 * q + i)) d).faultAt (7 * q + i) := by
  induction l generalizing d with
  | nil => exact absurd h List.not_mem_nil
  | cons j l ih =>
    rw [List.foldl_cons]
    rcases List.mem_cons.mp h with rfl | h
    · exact (TestStep.foldl (fun d i => .fenceEngine d (7 * q + i)) l _).faults _ (faultAt_fenceEngine d _)
    · exact ih h

/-- Fencing a Prism fences its engines. -/
theorem testStep_fencePrism (d : Device) (q : Nat) : TestStep d (d.fencePrism q) ∧ (d.fencePrism q).faultAt (7 * q + 0) := by
  have hengines : TestStep d ((List.range 7).foldl (fun d i => d.fenceEngine (7 * q + i)) d) :=
    .foldl (fun d i => .fenceEngine d (7 * q + i)) _ d
  have hfault : ((List.range 7).foldl (fun d i => d.fenceEngine (7 * q + i)) d).faultAt (7 * q + 0) :=
    faultAt_fenceEngines (List.mem_range.mpr (by decide))
  unfold Device.fencePrism
  generalize (List.range 7).foldl (fun d i => d.fenceEngine (7 * q + i)) d = v at hengines hfault ⊢
  have hprism : TestStep v (v.setPrism q { v.prismAt q with fenced := true, seg := none }) := .setPrism v q rfl
  exact ⟨hengines.trans hprism, hprism.faults _ hfault⟩

theorem testStep_segFence (d : Device) (q n : Nat) : TestStep d (d.segFence q n) ∧ ∃ i, i < 7 ∧ (d.segFence q n).faultAt (7 * q + i) := by
  have hraised : ∀ (u : Device) (x : Nat), TestStep u (u.pairRaise x) := fun u x => .of_raiseStep (raiseStep_pairRaise u x)
  unfold Device.segFence
  split
  next h4 =>
    have hmark := (TestStep.of_raiseStep (.of_onlyRegs (onlyRegs_raise (d.fenceEngine (7 * q + n)) (Reg.meErr (7 * q + n)) 3))).trans
      (hraised _ (Src.meSelftest q))
    exact ⟨(TestStep.fenceEngine d _).trans hmark, n, by omega, hmark.faults _ (faultAt_fenceEngine d _)⟩
  next h4 =>
    simp only
    split
    next h8 =>
      exact ⟨(testStep_fencePrism d q).1.trans (hraised _ _), 0, by decide, (hraised _ _).faults _ (testStep_fencePrism d q).2⟩
    next h8 =>
      split
      next h9 =>
        exact ⟨(TestStep.fenceEngine d _).trans (hraised _ _), 4, by decide, (hraised _ _).faults _ (faultAt_fenceEngine d _)⟩
      next h9 =>
        exact ⟨((TestStep.fenceEngine d _).trans (.fenceEngine _ _)).trans (hraised _ _), 6, by decide,
          (hraised _ _).faults _ (faultAt_fenceEngine _ _)⟩

theorem testStep_testPass (d : Device) (q : Nat) (fails : List Nat) : TestStep d (d.testPass q fails) := by
  unfold Device.testPass
  split
  · exact testStep_passDone d q
  · refine (TestStep.setPrism d q ?_).trans (testStep_segFence _ q _).1
    rfl

/-- A pass with a failing segment fences an engine of its Prism (R309). -/
theorem testPass_fails {d : Device} {n : Nat} {fails : List Nat} (q : Nat) (hn : n < 10) (hf : n ∈ fails) :
    ∃ i, i < 7 ∧ (d.testPass q fails).faultAt (7 * q + i) := by
  unfold Device.testPass
  split
  next hnone =>
    have := List.find?_eq_none.mp hnone n (List.mem_range.mpr hn)
    simp [hf] at this
  · exact (testStep_segFence _ q _).2

/-! ## The passes over a Facet -/

/-- The failing segments of Prism `p`. -/
def failsOf (fails : List (Nat × Nat)) (p : Nat) : List Nat := (fails.filter fun t => decide (t.1 = p)).map (·.2)

/-- The pass over Prism `p` of Facet `f`, unless it is disabled. -/
def Device.facetPass (f : Nat) (fails : List (Nat × Nat)) (d : Device) (p : Nat) : Device :=
  if (d.prismAt (6 * f + p)).disabled then d else d.testPass (6 * f + p) (failsOf fails p)

theorem facetTested_eq {d : Device} {f : Nat} (fails : List (Nat × Nat)) (march : Bool) (hs : (d.facetAt f).st = .testing)
    (hp : (d.facetAt f).powered = true) (hz : (d.facetAt f).zeroing = false) : d.facetTested f fails march =
      if march && !((List.range 6).foldl (Device.facetPass f fails) d).faultFenced f && ((List.range 6).foldl (Device.facetPass f fails) d).usedOk f
      then ((List.range 6).foldl (Device.facetPass f fails) d).modFacet f fun x => { x with st := .replacing }
      else ((List.range 6).foldl (Device.facetPass f fails) d).facetFail f := by
  unfold Device.facetTested
  simp only [hs, hp, hz]
  rfl

theorem testStep_facetPass (f : Nat) (fails : List (Nat × Nat)) (d : Device) (p : Nat) : TestStep d (d.facetPass f fails p) := by
  unfold Device.facetPass
  split
  · exact .refl d
  · exact testStep_testPass d _ _

theorem faultFenced_iff (d : Device) (f : Nat) : d.faultFenced f = true ↔ ∃ x, x < 42 ∧ d.faultAt (42 * f + x) := by
  simp only [Device.faultFenced, List.any_eq_true, List.mem_range, Device.faultAt]

theorem TestStep.faultFenced {d v : Device} (h : TestStep d v) {f : Nat} (hf : d.faultFenced f = true) : v.faultFenced f = true := by
  obtain ⟨x, hx, hd⟩ := (faultFenced_iff d f).mp hf
  exact (faultFenced_iff v f).mpr ⟨x, hx, h.faults _ hd⟩

/-- A failing segment of a Prism that is tested leaves the Facet fenced for a fault. -/
theorem faultFenced_passes {d : Device} {f p n : Nat} {fails : List (Nat × Nat)} {l : List Nat} (hl : p ∈ l) (hp : p < 6) (hn : n < 10)
    (hf : (p, n) ∈ fails) (hd : (d.prismAt (6 * f + p)).disabled = false) : (l.foldl (Device.facetPass f fails) d).faultFenced f = true := by
  induction l generalizing d with
  | nil => exact absurd hl List.not_mem_nil
  | cons i l ih =>
    rw [List.foldl_cons]
    rcases List.mem_cons.mp hl with rfl | hl
    · refine TestStep.faultFenced (.foldl (testStep_facetPass f fails) l _) ((faultFenced_iff _ f).mpr ?_)
      have hpass : d.facetPass f fails p = d.testPass (6 * f + p) (failsOf fails p) := if_neg (by simp [hd])
      have hmem : n ∈ failsOf fails p := List.mem_map.mpr ⟨(p, n), List.mem_filter.mpr ⟨hf, decide_eq_true rfl⟩, rfl⟩
      obtain ⟨i, hi, hfault⟩ := testPass_fails (d := d) (6 * f + p) hn hmem
      exact ⟨7 * p + i, by omega, hpass ▸ (by rwa [show 42 * f + (7 * p + i) = 7 * (6 * f + p) + i by omega])⟩
    · exact ih hl (((testStep_facetPass f fails d i).disabled _).trans hd)

theorem facetTestComplete_fails {s : State} {f : Nat} {fails : List (Nat × Nat)} {march : Bool} (hf : f < 4) (ha : s.dev.cmpAlive = true)
    (hs : (s.dev.facetAt f).st = .testing) (hp : (s.dev.facetAt f).powered = true) (hz : (s.dev.facetAt f).zeroing = false)
    (hbad : march = false ∨ s.dev.faultFenced f = true ∨
      (∃ p n, p < 6 ∧ n < 10 ∧ (p, n) ∈ fails ∧ (s.dev.prismAt (6 * f + p)).disabled = false)) :
    Completes (.facetTestComplete f ⟨fails, march⟩) s fun d => (d.facetAt f).st = .failed ∧ (d.facetAt f).powered = false ∧
      (∀ g, g < 4 → g ≠ f → d.facetAt g = s.dev.facetAt g) := by
  refine .of_act (exec_facetTestComplete s f _) (by simp [hf, ha]) ?_
  have hstep : TestStep s.dev ((List.range 6).foldl (Device.facetPass f fails) s.dev) := .foldl (testStep_facetPass f fails) _ _
  have hfail : march = false ∨ ((List.range 6).foldl (Device.facetPass f fails) s.dev).faultFenced f = true := by
    rcases hbad with hmarch | hfault | ⟨p, n, hp6, hn, hmem, hd⟩
    · exact .inl hmarch
    · exact .inr (hstep.faultFenced hfault)
    · exact .inr (faultFenced_passes (List.mem_range.mpr hp6) hp6 hn hmem hd)
  rw [facetTested_eq fails march hs hp hz, if_neg (by rcases hfail with h | h <;> simp [h])]
  obtain ⟨hst, hpow, hother⟩ := facetFail_spec ((List.range 6).foldl (Device.facetPass f fails) s.dev) f
  exact ⟨hst, hpow, fun g _ hg => (hother g hg).trans (congrArg (fun t => tabGet Facet.reset t g) hstep.facet)⟩

/-! ## A test without a failing segment -/

/-- Only a counter, the Prisms and the classes change. -/
def PassOnly (d v : Device) : Prop := v.sansRegs = { d with prism := v.prism, bg := v.bg }.sansRegs

theorem PassOnly.trans {a b c : Device} (h : PassOnly a b) (g : PassOnly b c) : PassOnly a c :=
  Eq.trans g (congrArg (fun z : Device => { z with prism := c.prism, bg := c.bg }) h)

/-- What does not look at registers, Prisms and classes is the same. -/
theorem PassOnly.read {d v : Device} (h : PassOnly d v) {α : Sort*} (g : Device → α) (hr : ∀ d : Device, g d.sansRegs = g d)
    (hp : ∀ (d : Device) p b, g { d with prism := p, bg := b } = g d) : g v = g d := by
  unfold PassOnly at h
  rw [← hr v, h, hr, hp]

/-- What passes over the first `n` Prisms of Facet `f` leave. -/
structure Passed (f n : Nat) (d v : Device) : Prop where
  done : ∀ p, p < n → (d.prismAt (6 * f + p)).disabled = false →
    v.prismAt (6 * f + p) = { d.prismAt (6 * f + p) with nextSeg := 0 } ∧ v.bgAt (.selftest (6 * f + p)) = Bg.mk .normal d.q
  ahead : ∀ p, n ≤ p → v.prismAt (6 * f + p) = d.prismAt (6 * f + p)
  count : v.fld Reg.fltStPassCnt 31 0 =
    satAdd 32 (d.fld Reg.fltStPassCnt 31 0) (countBy (fun p => !(d.prismAt (6 * f + p)).disabled) (List.range n))
  regs : SameRegs d v [Reg.fltStPassCnt]
  rest : PassOnly d v

theorem satAdd_zero {n v : Nat} (h : v < 2 ^ n) : satAdd n v 0 = v := by
  rw [satAdd]
  omega

theorem satAdd_satAdd (n v a b : Nat) : satAdd n (satAdd n v a) b = satAdd n v (a + b) := by
  simp only [satAdd]
  omega

theorem bgAt_setBg_ne (d : Device) {c x : BgClass} (b : Bg) (h : bgKey x ≠ bgKey c) : (d.setBg c b).bgAt x = d.bgAt x :=
  tabGet_tabSet_ne _ _ _ h

theorem passed_zero (f : Nat) (d : Device) : Passed f 0 d d where
  done _ h := absurd h (Nat.not_lt_zero _)
  ahead _ _ := rfl
  count := (satAdd_zero (bits_lt _ 31 0)).symm
  regs _ _ _ := rfl
  rest := rfl

theorem passed_succ {f n : Nat} {d v : Device} (h : Passed f n d v) : Passed f (n + 1) d (v.facetPass f [] n) := by
  have hahead := h.ahead n (Nat.le_refl n)
  have hcount : countBy (fun p => !(d.prismAt (6 * f + p)).disabled) (List.range (n + 1)) =
      countBy (fun p => !(d.prismAt (6 * f + p)).disabled) (List.range n) + if (d.prismAt (6 * f + n)).disabled then 0 else 1 := by
    rw [countBy, countBy, List.range_succ, List.filter_append, List.length_append]
    cases hd : (d.prismAt (6 * f + n)).disabled <;> simp [hd]
  cases hd : (d.prismAt (6 * f + n)).disabled with
  | true =>
    rw [hd, if_pos rfl, Nat.add_zero] at hcount
    have hskip : v.facetPass f [] n = v := if_pos (by rw [hahead, hd])
    rw [hskip]
    refine ⟨fun p hp hen => h.done p (Nat.lt_of_le_of_ne (Nat.le_of_lt_succ hp) fun he => ?_) hen, fun p hp => h.ahead p (by omega),
      hcount ▸ h.count, h.regs, h.rest⟩
    rw [he, hd] at hen
    exact Bool.noConfusion hen
  | false =>
    rw [hd, if_neg Bool.false_ne_true] at hcount
    have hpass : v.facetPass f [] n = v.passDone (6 * f + n) := if_neg (by rw [hahead, hd]; decide)
    have hq : v.q = d.q := h.rest.read Device.q (fun _ => rfl) fun _ _ _ => rfl
    rw [hpass]
    refine ⟨fun p hp hen => ?_, fun p hp => ?_, ?_, ?_, h.rest.trans rfl⟩
    · by_cases he : p = n
      · rw [he, ← hahead, ← hq]
        exact ⟨Device.prismAt_setPrism_same _ _ _, bgAt_bgDone _ _⟩
      · obtain ⟨hprism, hbg⟩ := h.done p (by omega) hen
        refine ⟨(Device.prismAt_setPrism_ne v _ (by omega)).trans hprism, (bgAt_setBg_ne _ _ ?_).trans hbg⟩
        simp only [bgKey]
        omega
    · exact (Device.prismAt_setPrism_ne v _ (by omega)).trans (h.ahead p (by omega))
    · rw [hcount, ← satAdd_satAdd, ← h.count]
      exact Device.fld_incr_same (v.setPrism (6 * f + n) _) _
    · exact fun k hk hi => (Device.reg_setReg_ne _ _ (by simpa using hk)).trans (h.regs k hk hi)

theorem passed_range (f n : Nat) (d : Device) : Passed f n d ((List.range n).foldl (Device.facetPass f []) d) := by
  induction n with
  | zero => exact passed_zero f d
  | succ n ih =>
    rw [List.range_succ, List.foldl_append]
    exact passed_succ ih

theorem meGeom_ne (e : Nat) : Reg.meGeom e ∉ [Reg.fltStPassCnt] ∧ Reg.meGeom e ∉ irqRegs := by
  have hhigh : 0x1000000 ≤ Reg.meGeom e := by
    simp only [Reg.meGeom, engBase]
    omega
  refine ⟨fun h => ?_, fun h => ?_⟩
  · have := List.mem_singleton.mp h
    simp only [this] at hhigh
    exact absurd hhigh (by decide)
  · have hlow : ∀ k ∈ irqRegs, k < 0x1000000 := by decide
    exact absurd (hlow _ h) (Nat.not_lt.mpr hhigh)

/-- What a Facet's engines could do does not change with the passes. -/
theorem Passed.usedOk {f n : Nat} {d v : Device} (h : Passed f n d v) (hs : TestStep d v) : v.usedOk f = d.usedOk f ∧
    v.faultFenced f = d.faultFenced f := by
  have heng : v.eng = d.eng := h.rest.read Device.eng (fun _ => rfl) fun _ _ _ => rfl
  have hboot : v.boot = d.boot := h.rest.read Device.boot (fun _ => rfl) fun _ _ _ => rfl
  have htck : v.tck = d.tck := h.rest.read Device.tck (fun _ => rfl) fun _ _ _ => rfl
  have hmodel : v.activeModel = d.activeModel := h.rest.read Device.activeModel (fun _ => rfl) fun _ _ _ => rfl
  have h0 : v.model0 = d.model0 := h.rest.read Device.model0 (fun _ => rfl) fun _ _ _ => rfl
  have h1 : v.model1 = d.model1 := h.rest.read Device.model1 (fun _ => rfl) fun _ _ _ => rfl
  have hgeom : ∀ e, v.reg (Reg.meGeom e) = d.reg (Reg.meGeom e) := fun e => h.regs _ (meGeom_ne e).1 (meGeom_ne e).2
  have hnarrow : ∀ e, v.narrowed e = d.narrowed e := fun e => by rw [Device.narrowed, Device.fld, hgeom, ← Device.fld, ← Device.narrowed]
  have hfenced : ∀ e, v.bootFenced e = d.bootFenced e := fun e => by
    simp only [Device.bootFenced, Device.unitFlagged, Device.narrowFenced, Device.engAt, heng, hboot, h0, h1, hnarrow, hs.disabled]
  have hcould : ∀ e, v.couldRun e = d.couldRun e := fun e => by rw [Device.couldRun, hfenced, hnarrow, hmodel, ← Device.couldRun]
  exact ⟨by simp only [Device.usedOk, htck, hcould], by simp only [Device.faultFenced, Device.engAt, heng]⟩

theorem facetTestComplete_passes {s : State} {f : Nat} (hf : f < 4) (ha : s.dev.cmpAlive = true)
    (hs : (s.dev.facetAt f).st = .testing) (hp : (s.dev.facetAt f).powered = true) (hz : (s.dev.facetAt f).zeroing = false)
    (hfault : s.dev.faultFenced f = false) (hused : s.dev.usedOk f = true) :
    Completes (.facetTestComplete f ⟨[], true⟩) s fun d => d.facetAt f = { s.dev.facetAt f with st := .replacing } ∧
      (∀ p, p < 6 → (s.dev.prismAt (6 * f + p)).disabled = false →
        d.prismAt (6 * f + p) = { s.dev.prismAt (6 * f + p) with nextSeg := 0 } ∧
        d.bgAt (.selftest (6 * f + p)) = Bg.mk .normal s.dev.q) ∧
      d.fld Reg.fltStPassCnt 31 0 = satAdd 32 (s.dev.fld Reg.fltStPassCnt 31 0)
        (countBy (fun p => !(s.dev.prismAt (6 * f + p)).disabled) (List.range 6)) ∧
      SameRegs s.dev d [Reg.fltStPassCnt] ∧
      d.sansRegs = { s.dev with facet := d.facet, prism := d.prism, bg := d.bg }.sansRegs := by
  refine .of_act (exec_facetTestComplete s f _) (by simp [hf, ha]) ?_
  have hstep : TestStep s.dev ((List.range 6).foldl (Device.facetPass f []) s.dev) := .foldl (testStep_facetPass f []) _ _
  have hpassed := passed_range f 6 s.dev
  obtain ⟨hu, hff⟩ := hpassed.usedOk hstep
  rw [facetTested_eq [] true hs hp hz, if_pos (by simp [hu, hff, hfault, hused])]
  generalize (List.range 6).foldl (Device.facetPass f []) s.dev = v at hstep hpassed ⊢
  refine ⟨?_, hpassed.done, hpassed.count, hpassed.regs, ?_⟩
  · rw [Device.facetAt_modFacet_same, Device.facetAt, hstep.facet, ← Device.facetAt]
  · exact congrArg (fun z : Device => { z with facet := (v.modFacet f fun x => { x with st := .replacing }).facet }) hpassed.rest

end Sys2Proof.Machine
end

section
/-! The re-placement of a Facet (R173, log 157). -/

namespace Sys2Proof.Machine

theorem exec_replacementComplete (s : State) (f k : Nat) : exec (.replacementComplete f k) s =
    act (decide (f < 4) && s.dev.cmpAlive) (fun d => d.replaced f k) s := rfl

/-- The copy of a section, with whether it has its digest, unless one before it has not. -/
def copyNext (f : Nat) (src : List Nat) (x : Device × Bool) (s : Section) : Device × Bool := if x.2 then x.1.copyTry f s src else x

/-- The end of a re-placement. -/
def Device.replacedAs (f : Nat) (x : Device × Bool) : Device :=
  if x.2 then x.1.modFacet f fun x => { x with st := .ready } else x.1.facetFail f

theorem replaced_eq {d : Device} {f : Nat} (k : Nat) (h : (d.facetAt f).st = .replacing) :
    d.replaced f k = Device.replacedAs f (d.placedSections.foldl (copyNext f (copySources d.healthyFacets k)) (d, true)) :=
  if_neg (not_not.mpr h)

/-- The first source is the healthy Facet of number `k` (log 157). -/
theorem copySources_cons {l : List Nat} {k g : Nat} (h : l[k % l.length]? = some g) : ∃ r, copySources l k = g :: r := by
  have hne : l.isEmpty = false := by
    cases l with
    | nil => simp at h
    | cons a l => rfl
  rw [copySources, hne, if_neg Bool.false_ne_true]
  refine ⟨_, congrArg (· :: _) ?_⟩
  beta_reduce
  rw [nth, List.getD_eq_getElem?_getD, Nat.add_zero, h, Option.getD_some]

theorem memStep_copySection (d : Device) (f g : Nat) (s : Section) : MemStep d (d.copySection f g s) := by
  unfold Device.copySection
  split
  · exact (memStep_readMem d _ _).trans (memStep_writeMem _ _ _ _)
  · split
    · exact memStep_zeroMem d _ _
    · exact .refl d

theorem memStep_copyRead (d : Device) (f : Nat) (s : Section) : MemStep d (d.copyRead f s) := by
  unfold Device.copyRead
  split
  · exact memStep_sense d _ _
  · exact .refl d

/-- A copy that has its digest at the first source is the last. -/
theorem copyTry_ok {d : Device} {f g : Nat} {s : Section} {r : List Nat} (h : (d.copySection f g s).copyOk f s = true) :
    d.copyTry f s (g :: r) = ((d.copySection f g s).copyRead f s, true) := by
  rw [Device.copyTry, if_pos h]

theorem replacement_copies {s : State} {f k g : Nat} {x : Section} (hf : f < 4) (ha : s.dev.cmpAlive = true)
    (hst : (s.dev.facetAt f).st = .replacing) (hg : s.dev.healthyFacets[k % s.dev.healthyFacets.length]? = some g)
    (hx : s.dev.placedSections = [x]) (hok : (s.dev.copySection f g x).copyOk f x = true) :
    Completes (.replacementComplete f k) s fun d => d.facetAt f = { s.dev.facetAt f with st := .ready } ∧
      d.mem = ((s.dev.copySection f g x).copyRead f x).mem ∧ d.sansMem = { s.dev with facet := d.facet }.sansMem := by
  refine .of_act (exec_replacementComplete s f k) (by simp [hf, ha]) ?_
  obtain ⟨r, hsrc⟩ := copySources_cons hg
  have hstep := (memStep_copySection s.dev f g x).trans (memStep_copyRead _ f x)
  have hrun : s.dev.replaced f k = ((s.dev.copySection f g x).copyRead f x).modFacet f fun x => { x with st := .ready } := by
    rw [replaced_eq k hst, hx, hsrc, List.foldl_cons, List.foldl_nil, copyNext, if_pos rfl, copyTry_ok hok]
    rfl
  rw [hrun]
  generalize (s.dev.copySection f g x).copyRead f x = v at hstep ⊢
  have hfacet : v.facetAt f = s.dev.facetAt f := hstep.read (·.facetAt f) fun _ => rfl
  refine ⟨by rw [Device.facetAt_modFacet_same, hfacet], rfl, ?_⟩
  exact congrArg (fun z : Device => { z with facet := (v.modFacet f fun x => { x with st := .ready }).facet }) hstep.1

theorem replacement_empty {s : State} {f k : Nat} (hf : f < 4) (ha : s.dev.cmpAlive = true)
    (hst : (s.dev.facetAt f).st = .replacing) (hx : s.dev.placedSections = []) :
    Completes (.replacementComplete f k) s fun d => d.facetAt f = { s.dev.facetAt f with st := .ready } ∧
      d = { s.dev with facet := d.facet } := by
  refine .of_act (exec_replacementComplete s f k) (by simp [hf, ha]) ?_
  have hrun : s.dev.replaced f k = s.dev.modFacet f fun x => { x with st := .ready } := by
    rw [replaced_eq k hst, hx]
    rfl
  rw [hrun]
  exact ⟨Device.facetAt_modFacet_same _ _ _, rfl⟩

/-- A copy that has failed ends the copying. -/
theorem foldl_copyNext_false (f : Nat) (src : List Nat) (l : List Section) (d : Device) :
    l.foldl (copyNext f src) (d, false) = (d, false) := by
  induction l with
  | nil => rfl
  | cons x l ih => exact ih

/-- Without a healthy Facet no section is copied. -/
theorem foldl_copyNext_nil {f : Nat} {l : List Section} (h : l ≠ []) (d : Device) :
    l.foldl (copyNext f []) (d, true) = (d, false) := by
  cases l with
  | nil => exact absurd rfl h
  | cons x l => exact foldl_copyNext_false f [] l d

theorem replacedAs_failed (d : Device) (f : Nat) :
    ((Device.replacedAs f (d, false)).facetAt f).st = .failed ∧ ((Device.replacedAs f (d, false)).facetAt f).powered = false := by
  obtain ⟨hst, hpow, -⟩ := facetFail_spec d f
  exact ⟨hst, hpow⟩

theorem replacement_alone {s : State} {f k : Nat} (hf : f < 4) (ha : s.dev.cmpAlive = true)
    (hst : (s.dev.facetAt f).st = .replacing) (hh : s.dev.healthyFacets = []) (hx : s.dev.placedSections ≠ []) :
    Completes (.replacementComplete f k) s fun d => (d.facetAt f).st = .failed ∧ (d.facetAt f).powered = false := by
  refine .of_act (exec_replacementComplete s f k) (by simp [hf, ha]) ?_
  have hrun : s.dev.replaced f k = Device.replacedAs f (s.dev, false) := by
    rw [replaced_eq k hst, hh]
    exact congrArg (Device.replacedAs f) (foldl_copyNext_nil hx s.dev)
  rw [hrun]
  exact replacedAs_failed s.dev f

theorem replacement_ends {s : State} {f k : Nat} (hf : f < 4) (ha : s.dev.cmpAlive = true)
    (hst : (s.dev.facetAt f).st = .replacing) : Completes (.replacementComplete f k) s fun d =>
      (d.facetAt f).st = .ready ∨ ((d.facetAt f).st = .failed ∧ (d.facetAt f).powered = false) := by
  refine .of_act (exec_replacementComplete s f k) (by simp [hf, ha]) ?_
  rw [replaced_eq k hst]
  generalize s.dev.placedSections.foldl (copyNext f (copySources s.dev.healthyFacets k)) (s.dev, true) = r
  obtain ⟨d, b⟩ := r
  cases b with
  | true => exact .inl (congrArg Facet.st (Device.facetAt_modFacet_same d f fun x => { x with st := .ready }))
  | false => exact .inr (replacedAs_failed d f)

/-- Settles O27: the fences, the test of a Facet and its re-placement, each by how it ends. -/
theorem fencesAndFacetReturn : Obligations.FencesAndFacetReturn :=
  ⟨⟨fun s n hp => .of_act (exec_fenceConfirm s n) hp rfl, fun _ _ hp hn hf hw => fenceConfirmTimeout_completes hp hn hf hw,
      fun s hp => .of_act (exec_errOutHoldExpiry s) hp rfl⟩,
    ⟨fun _ _ hf ha hs hp hz hfault hused => facetTestComplete_passes hf ha hs hp hz hfault hused,
      fun _ _ _ _ hf ha hs hp hz hbad => facetTestComplete_fails hf ha hs hp hz hbad⟩,
    fun _ _ _ _ _ hf ha hst hg hx hok => replacement_copies hf ha hst hg hx hok,
    fun _ _ _ hf ha hst hx => replacement_empty hf ha hst hx,
    fun _ _ _ hf ha hst hh hx => replacement_alone hf ha hst hh hx, fun _ _ _ hf ha hst => replacement_ends hf ha hst⟩

end Sys2Proof.Machine
end

section
/-! Memory operations look at no link: two devices whose memories agree, and that differ otherwise in registers, fault pairs, engines
and links alone, read and write the same (R149 to R161). -/

namespace Sys2Proof.Machine

/-- A device without its registers, memories, fault pairs, engines and links. -/
def Device.unlinked (d : Device) : Device := { d.around with dsk := Device.reset.dsk }

/-- The memories agree, and the devices differ in registers, fault pairs, engines and links alone. -/
structure Viewed (a b : Device) : Prop where
  mem : a.mem = b.mem
  rest : a.unlinked = b.unlinked

namespace Viewed

theorem refl (d : Device) : Viewed d d := ⟨rfl, rfl⟩

theorem symm {a b : Device} (h : Viewed a b) : Viewed b a := ⟨h.mem.symm, h.rest.symm⟩

theorem trans {a b c : Device} (h : Viewed a b) (g : Viewed b c) : Viewed a c := ⟨h.mem.trans g.mem, h.rest.trans g.rest⟩

theorem of_onlyRegs {a b : Device} {l : List Nat} (h : OnlyRegs a b l) : Viewed b a where
  mem := congrArg (a₁ := b.sansRegs) (a₂ := a.sansRegs) Device.mem h.1
  rest := congrArg (a₁ := b.sansRegs) (a₂ := a.sansRegs) Device.unlinked h.1

theorem of_linkStep {a b : Device} (h : LinkStep a b) : Viewed b a where
  mem := h.mem
  rest := h.read Device.unlinked fun _ => rfl

variable {a b : Device} (h : Viewed a b)
include h

/-- What looks at none of the parts that differ is the same. -/
theorem read {α : Sort*} (g : Device → α) (hg : ∀ d : Device, g d.unlinked = g d) : g a = g b := by rw [← hg a, h.rest, hg b]

/-- An operation of memory leaves them so, where it leaves the same memories. -/
theorem step {a' b' : Device} (ha : MemStep a a') (hb : MemStep b b') (hm : a'.mem = b'.mem) : Viewed a' b' where
  mem := hm
  rest := by
    have hrest : ∀ {u v : Device}, MemStep u v → v.unlinked = u.unlinked := fun hs =>
      congrArg (fun z : Device => { z with dsk := Device.reset.dsk }) (around_of_memStep hs)
    rw [hrest ha, hrest hb, h.rest]

theorem phys (x : Nat) : a.phys x = b.phys x := h.read (·.phys x) fun _ => rfl

theorem needsDecode (w : Nat) : a.needsDecode w = b.needsDecode w := by rw [Device.needsDecode, Device.needsDecode, h.mem]

theorem raise (k i : Nat) : Viewed (a.raise k i) (b.raise k i) :=
  (Viewed.of_onlyRegs (onlyRegs_raise a k i)).trans (h.trans (Viewed.of_onlyRegs (onlyRegs_raise b k i)).symm)

theorem incr (k : Nat) : Viewed (a.incr k) (b.incr k) :=
  (Viewed.of_onlyRegs (onlyRegs_incr a k)).trans (h.trans (Viewed.of_onlyRegs (onlyRegs_incr b k)).symm)

theorem perf (u ev n : Nat) : Viewed (a.perf u ev n) (b.perf u ev n) :=
  (Viewed.of_onlyRegs (onlyRegs_perf a u ev n)).trans (h.trans (Viewed.of_onlyRegs (onlyRegs_perf b u ev n)).symm)

end Viewed

theorem Viewed.foldl {α : Type} {f : Device → α → Device} (hf : ∀ (a b : Device) x, Viewed a b → Viewed (f a x) (f b x)) (xs : List α)
    {a b : Device} (h : Viewed a b) : Viewed (xs.foldl f a) (xs.foldl f b) :=
  List.foldl_rel (r := Viewed) h fun x _ _ _ hx => hf _ _ x hx

/-! ## Reading -/

theorem viewed_loadWord {a b : Device} (h : Viewed a b) (w : Nat) :
    Viewed (a.loadWord w).1 (b.loadWord w).1 ∧ (a.loadWord w).2 = (b.loadWord w).2 := by
  obtain ⟨hmem, hval⟩ := memAlike_loadWord h.mem w
  exact ⟨h.step (memStep_loadWord a w) (memStep_loadWord b w) hmem.eq, hval⟩

theorem Viewed.setMem {a b : Device} (h : Viewed a b) (m : MemSys) : Viewed (a.setMem m) (b.setMem m) := ⟨rfl, h.rest⟩

/-- The word that a reader takes, and the device that this leaves: `now`, without waiting for its decode (R70). -/
def Device.taken (d : Device) (now : Bool) (w : Nat) : Device × Nat × Bool :=
  if now then (d.setMem { d.mem with decode := (d.mem.decode ++ [spanBase w]).dedup }, d.mem.word w, true) else d.loadWord w

theorem taken_eq (d : Device) (now : Bool) (w : Nat) :
    (if now = true then (d.setMem { d.mem with decode := (d.mem.decode ++ [spanBase w]).dedup }, d.mem.word w, true)
      else d.loadWord w) = d.taken now w := rfl

theorem viewed_taken {a b : Device} (h : Viewed a b) (now : Bool) (w : Nat) :
    Viewed (a.taken now w).1 (b.taken now w).1 ∧ (a.taken now w).2 = (b.taken now w).2 := by
  cases now
  · exact viewed_loadWord h w
  · unfold Device.taken
    rw [if_pos rfl, if_pos rfl, h.mem]
    exact ⟨h.setMem _, rfl⟩

/-- A word that carries the mark is counted as it is read (R160). -/
def Device.noted (d : Device) (c : Bool) (x : Nat × Bool) : Device × Nat × Bool :=
  if c then ((d.incr Reg.memPoisonReadCnt).raise Reg.memStatus 4, x) else (d, x)

theorem viewed_noted {a b : Device} (h : Viewed a b) (c : Bool) (x : Nat × Bool) :
    Viewed (a.noted c x).1 (b.noted c x).1 ∧ (a.noted c x).2 = (b.noted c x).2 := by
  cases c
  · exact ⟨h, rfl⟩
  · exact ⟨(h.incr Reg.memPoisonReadCnt).raise Reg.memStatus 4, rfl⟩

/-- Reading a word as a reader sees it. -/
theorem viewed_seeAs {a b : Device} (h : Viewed a b) (r : Reader) (w : Nat) :
    Viewed (a.seeAs r w).1 (b.seeAs r w).1 ∧ (a.seeAs r w).2 = (b.seeAs r w).2 := by
  have htaken : (decide (r ≠ .any) && a.tck.abandoning && a.needsDecode w && !accHole w) =
      (decide (r ≠ .any) && b.tck.abandoning && b.needsDecode w && !accHole w) := by
    rw [h.needsDecode, h.read (·.tck.abandoning) fun _ => rfl]
  unfold Device.seeAs
  simp only [htaken]
  generalize (decide (r ≠ .any) && b.tck.abandoning && b.needsDecode w && !accHole w) = now
  rw [taken_eq a, taken_eq b]
  have htake := viewed_taken h now w
  revert htake
  obtain ⟨u, v, p⟩ := a.taken now w
  obtain ⟨u', v', p'⟩ := b.taken now w
  rintro ⟨hu, hval⟩
  obtain ⟨rfl, rfl⟩ : v = v' ∧ p = p' := Prod.ext_iff.mp hval
  have hold : u.oldAt w = u'.oldAt w := hu.read (·.oldAt w) fun _ => rfl
  simp only [show u.mem = u'.mem from hu.mem, hold]
  exact viewed_noted hu _ _

/-- Bytes that are read, and the device that the read leaves. -/
theorem viewed_readMem {a b : Device} (h : Viewed a b) (x n : Nat) : Viewed (a.readMem x n).dev (b.readMem x n).dev ∧
    (a.readMem x n).bytes = (b.readMem x n).bytes ∧ (a.readMem x n).poison = (b.readMem x n).poison := by
  have hstart : Viewed (a.dramEvent 0xC0 x n) (b.dramEvent 0xC0 x n) :=
    h.step (memStep_dramEvent a _ _ _) (memStep_dramEvent b _ _ _)
      (by rw [mem_of_lowRegs (lowRegs_dramEvent a _ _ _), mem_of_lowRegs (lowRegs_dramEvent b _ _ _), h.mem])
  refine List.foldl_rel (r := fun s t : ReadRes => Viewed s.dev t.dev ∧ s.bytes = t.bytes ∧ s.poison = t.poison)
    ⟨hstart, rfl, rfl⟩ fun p _ s t ⟨hd, hb, hp⟩ => ?_
  obtain ⟨hr, hv⟩ := viewed_seeAs hd .any (wordBase p.1)
  exact ⟨hr, by simp only [hb, hv], by simp only [hp, hv]⟩

/-- Bytes that are read with their marks, and the device that the read leaves. -/
theorem viewed_readTag {a b : Device} (h : Viewed a b) (x n : Nat) :
    Viewed (a.readTag x n).1 (b.readTag x n).1 ∧ (a.readTag x n).2 = (b.readTag x n).2 := by
  refine List.foldl_rel (r := fun s t : Device × Marked => Viewed s.1 t.1 ∧ s.2 = t.2) ⟨h, rfl⟩ fun p _ s t ⟨hd, hm⟩ => ?_
  simp only
  rw [hd.read (·.viewOf p.1) fun _ => rfl, hm]
  split
  · exact ⟨hd, rfl⟩
  next v stale _ =>
    obtain ⟨hr, hb, hp⟩ := viewed_readMem hd v p.2.2
    unfold Device.readMem at hb hp
    exact ⟨hr, by simp only [hb, hp]⟩
  · obtain ⟨hr, hb, hp⟩ := viewed_readMem hd p.1 p.2.2
    unfold Device.readMem at hb hp
    exact ⟨hr, by simp only [hb, hp]⟩

/-! ## Writing -/

theorem viewed_decodeSpan {a b : Device} (h : Viewed a b) (s : Nat) : Viewed (a.decodeSpan s) (b.decodeSpan s) :=
  h.step (memStep_decodeSpan a s) (memStep_decodeSpan b s) (memAlike_decodeSpan s h.mem).eq

theorem viewed_storeWord {a b : Device} (h : Viewed a b) (w v : Nat) (poison : Bool) :
    Viewed (a.storeWord w v poison) (b.storeWord w v poison) :=
  h.step (memStep_storeWord a w v poison) (memStep_storeWord b w v poison) (memAlike_storeWith memAlike_decodeSpan h.mem w v poison).eq

theorem viewed_drain {a b : Device} (h : Viewed a b) (t : MergeEnt) : Viewed (a.drain t) (b.drain t) :=
  h.step (memStep_drain a t) (memStep_drain b t) (memAlike_drainWith memAlike_decodeSpan h.mem t).eq

/-- Writing within one line (R155). -/
theorem viewed_writeLine {a b : Device} (h : Viewed a b) (x : Nat) (bs : List Byte) (poison : Bool) :
    Viewed (a.writeLine x bs poison) (b.writeLine x bs poison) := by
  have hroom : Viewed
      (if 16 ≤ (b.mem.merge.filter fun t => decide (t.ctrl = ctrlOf x)).length then
        match b.mem.merge.filter fun t => decide (t.ctrl = ctrlOf x) with | t :: _ => a.drain t | [] => a else a)
      (if 16 ≤ (b.mem.merge.filter fun t => decide (t.ctrl = ctrlOf x)).length then
        match b.mem.merge.filter fun t => decide (t.ctrl = ctrlOf x) with | t :: _ => b.drain t | [] => b else b) := by
    split
    · split
      · exact viewed_drain h _
      · exact h
    · exact h
  unfold Device.writeLine
  simp only [h.mem]
  split
  · exact h.setMem _
  · split
    · refine .foldl (fun u v i h => ?_) _ h
      exact viewed_storeWord h _ _ _
    · revert hroom
      generalize (if 16 ≤ _ then _ else a) = u
      generalize (if 16 ≤ _ then _ else b) = v
      intro hroom
      rw [hroom.mem, hroom.read Device.q fun _ => rfl]
      exact hroom.setMem _

theorem viewed_writeMem {a b : Device} (h : Viewed a b) (x : Nat) (bs : List Byte) (poison : Bool) :
    Viewed (a.writeMem x bs poison) (b.writeMem x bs poison) := by
  refine .foldl (fun a b p h => ?_) _ h
  have hspan : Viewed (if spanBase p.1 ∈ b.mem.decode then a.decodeSpan (spanBase p.1) else a)
      (if spanBase p.1 ∈ b.mem.decode then b.decodeSpan (spanBase p.1) else b) := by
    split
    · exact viewed_decodeSpan h _
    · exact h
  simp only [h.mem]
  revert hspan
  generalize (if spanBase p.1 ∈ b.mem.decode then a.decodeSpan (spanBase p.1) else a) = u
  generalize (if spanBase p.1 ∈ b.mem.decode then b.decodeSpan (spanBase p.1) else b) = v
  intro hspan
  rw [hspan.read (·.mapped p.1) fun _ => rfl]
  split
  · exact hspan
  · split
    · refine .foldl (fun u v t h => ?_) _ hspan
      split
      · exact viewed_storeWord h _ _ _
      · have hload := viewed_loadWord h (wordBase t.1)
        revert hload
        obtain ⟨u1, y⟩ := u.loadWord (wordBase t.1)
        obtain ⟨v1, z⟩ := v.loadWord (wordBase t.1)
        rintro ⟨hload, hval⟩
        obtain rfl : y = z := hval
        exact viewed_storeWord hload _ _ _
    · exact viewed_writeLine (hspan.step (memStep_dramEvent u _ _ _) (memStep_dramEvent v _ _ _)
        (by rw [mem_of_lowRegs (lowRegs_dramEvent u _ _ _), mem_of_lowRegs (lowRegs_dramEvent v _ _ _), hspan.mem])) _ _ _

/-- Writing bytes with their marks. -/
theorem viewed_writeTag {a b : Device} (h : Viewed a b) (x : Nat) (l : Marked) : Viewed (a.writeTag x l) (b.writeTag x l) := by
  refine .foldl (fun u v p h => ?_) _ h
  exact viewed_writeMem h _ _ _

/-! ## Writes of engines, which race (R78, R157) -/

theorem Viewed.setRaces {a b : Device} (h : Viewed a b) (n : Nat) (l : List Race) :
    Viewed { a with raceAt := n, races := l } { b with raceAt := n, races := l } where
  mem := h.mem
  rest := congrArg (fun z : Device => { z with raceAt := n, races := l }) h.rest

/-- The writes of the a-cycle in progress, none where it has just begun. -/
def Device.raceOpen (d : Device) : Device := if d.raceAt = d.q / aQ then d else { d with raceAt := d.q / aQ, races := [] }

theorem viewed_raceOpen {a b : Device} (h : Viewed a b) : Viewed a.raceOpen b.raceOpen := by
  have hnow : a.q / aQ = b.q / aQ := congrArg (· / aQ) (h.read Device.q fun _ => rfl)
  have hat : a.raceAt = b.raceAt := h.read Device.raceAt fun _ => rfl
  unfold Device.raceOpen
  rw [hnow, hat]
  split
  · exact h
  · exact h.setRaces _ _

/-- What the a-cycle notes of a write to the word at `w`. -/
def Device.raceNoted (d : Device) (e w : Nat) : Race :=
  match d.races.find? fun r => decide (r.word = w) with
  | some x => { x with eng := e }
  | none => ⟨w, e, (d.seeAs .drain w).2.1, (d.seeAs .drain w).2.2⟩

theorem noteWrite_eq (d : Device) (e w : Nat) : d.noteWrite e w =
    { d.raceOpen with raceAt := d.raceOpen.raceAt, races := d.raceOpen.races ++ [d.raceOpen.raceNoted e w] } := by
  unfold Device.noteWrite Device.raceNoted
  rw [← Device.raceOpen]
  dsimp only
  generalize d.raceOpen = u
  cases u.races.find? fun r => decide (r.word = w) with
  | some x => rfl
  | none => rfl

theorem viewed_noteWrite {a b : Device} (h : Viewed a b) (e w : Nat) : Viewed (a.noteWrite e w) (b.noteWrite e w) := by
  have hopen := viewed_raceOpen h
  have hnoted : a.raceOpen.raceNoted e w = b.raceOpen.raceNoted e w := by
    unfold Device.raceNoted
    rw [hopen.read Device.races fun _ => rfl, (viewed_seeAs hopen .drain w).2]
  rw [noteWrite_eq, noteWrite_eq, hnoted, hopen.read Device.raceAt fun _ => rfl, hopen.read Device.races fun _ => rfl]
  exact hopen.setRaces _ _

/-- A write that meets another in its a-cycle is flagged (R78). -/
def Device.raceFlagged (d : Device) (e w : Nat) (old : List Race) : Device :=
  match placeOf w with
  | some (.acc j) => if e < 168 && old.all fun r => decide (r.eng < 168) then d else d.raise (Reg.meErr (meEngine j)) 4
  | some (.scr q) => d.perf (168 + q) 0x81 1
  | _ => d

theorem viewed_raceFlagged {a b : Device} (h : Viewed a b) (e w : Nat) (old : List Race) :
    Viewed (a.raceFlagged e w old) (b.raceFlagged e w old) := by
  unfold Device.raceFlagged
  split
  · split
    · exact h
    · exact h.raise _ _
  · exact h.perf _ _ _
  · exact h

/-- How a write among others of its a-cycle goes on: `again` where it is not the engine's first. -/
def Device.raceSettled (d : Device) (e w : Nat) (again : Bool) (old : List Race) : Device × Bool :=
  match old.all (fun r => decide (r.eng < e)), old with
  | true, x :: _ => (if again then d else d.writeTag w ((toLe (wordSize w) x.old).map fun b => (b, x.mark)), true)
  | won, _ => (d, won)

theorem viewed_raceSettled {a b : Device} (h : Viewed a b) (e w : Nat) (again : Bool) (old : List Race) :
    Viewed (a.raceSettled e w again old).1 (b.raceSettled e w again old).1 ∧
    (a.raceSettled e w again old).2 = (b.raceSettled e w again old).2 := by
  unfold Device.raceSettled
  split
  · refine ⟨?_, rfl⟩
    split
    · exact h
    · exact viewed_writeTag h _ _
  · exact ⟨h, rfl⟩

theorem raceWord_eq (d : Device) (e w : Nat) : d.raceWord e w =
    let old := (d.noteWrite e w).races.filter fun r => decide (r.word = w) && decide (r.eng ≠ e)
    if old.isEmpty then (d.noteWrite e w, true)
    else ((d.noteWrite e w).raceFlagged e w old).raceSettled e w
      (decide (d.raceAt = d.q / aQ) && d.races.any fun r => decide (r.word = w) && decide (r.eng = e)) old := rfl

theorem viewed_raceWord {a b : Device} (h : Viewed a b) (e w : Nat) :
    Viewed (a.raceWord e w).1 (b.raceWord e w).1 ∧ (a.raceWord e w).2 = (b.raceWord e w).2 := by
  have hnote := viewed_noteWrite h e w
  rw [raceWord_eq, raceWord_eq, hnote.read Device.races fun _ => rfl, h.read Device.raceAt fun _ => rfl,
    h.read Device.q fun _ => rfl, h.read Device.races fun _ => rfl]
  simp only
  split
  · exact ⟨hnote, rfl⟩
  · exact viewed_raceSettled (viewed_raceFlagged hnote e w _) e w _ _

theorem viewed_engWrite {a b : Device} (h : Viewed a b) (e x : Nat) (l : Marked) : Viewed (a.engWrite e x l) (b.engWrite e x l) := by
  unfold Device.engWrite
  split
  · exact viewed_writeTag h _ _
  · refine .foldl (fun u v p h => ?_) _ h
    have hrace := viewed_raceWord h e (wordBase p.1)
    revert hrace
    obtain ⟨u1, y⟩ := u.raceWord e (wordBase p.1)
    obtain ⟨v1, z⟩ := v.raceWord e (wordBase p.1)
    rintro ⟨hrace, hval⟩
    obtain rfl : y = z := hval
    dsimp only
    split
    · exact viewed_writeTag hrace _ _
    · exact hrace

/-- The data of a request are written the same (R126). -/
theorem viewed_reqWrite {a b : Device} (h : Viewed a b) (e : Nat) (w : CmdWord) (i : Nat) (l : Marked) :
    Viewed (a.reqWrite e w i l) (b.reqWrite e w i l) := by
  refine .foldl (fun u v t h => ?_) _ h
  rw [h.phys]
  exact viewed_engWrite h _ _ _

end Sys2Proof.Machine
end

section
/-! Inbound WR, RD_REQ and SIG (R40, R186, R187). -/

namespace Sys2Proof.Machine

theorem exec_wr (s : State) (p : Nat) (f : Flit) : exec (.wr p f) s =
    act f.wf (fun d => d.receive p FT.wr f false fun d => d.inWr f) s := rfl

theorem exec_rdReq (s : State) (p : Nat) (f : Flit) : exec (.rdReq p f) s =
    act f.wf (fun d => d.receive p FT.rdReq f false fun d => d.inRd f) s := rfl

theorem exec_sig (s : State) (p : Nat) (f : Flit) : exec (.sig p f) s =
    act f.wf (fun d => d.receive p FT.sig f false fun d => d.inSig f) s := rfl

/-! ## Answers -/

/-- From `d`, which has taken a flit, to `v` nothing changes of links, this device's ID and the frame. -/
structure Judged (d v : Device) : Prop where
  dsk : v.dsk = d.dsk
  devId : v.devId = d.devId
  frame : v.frame = d.frame

theorem Judged.trans {a b c : Device} (h : Judged a b) (g : Judged b c) : Judged a c :=
  ⟨g.dsk.trans h.dsk, g.devId.trans h.devId, g.frame.trans h.frame⟩

theorem Judged.of_regs {d v : Device} (hd : v.dsk = d.dsk) (hc : v.reg Reg.dskCfg = d.reg Reg.dskCfg)
    (hf : v.reg Reg.tckFrame = d.reg Reg.tckFrame) : Judged d v := ⟨hd, Device.fld_congr hc 3 0, hf⟩

theorem Judged.of_fetched {d v : Device} (h : Fetched d v) : Judged d v :=
  .of_regs (congrArg (a₁ := v.sansMem) (a₂ := d.sansMem) Device.dsk h.1) (h.2 _ (by decide) (by decide)) (h.2 _ (by decide) (by decide))

theorem Judged.of_onlyRegs {d v : Device} {l : List Nat} (h : OnlyRegs d v l) (hc : Reg.dskCfg ∉ l) (hf : Reg.tckFrame ∉ l) :
    Judged d v :=
  .of_regs (congrArg (a₁ := v.sansRegs) (a₂ := d.sansRegs) Device.dsk h.1) (h.2 _ hc (by decide)) (h.2 _ hf (by decide))

theorem judged_took (d : Device) (p : Nat) (f : Flit) : Judged (d.took p f) (d.tookCounted p f) :=
  .of_onlyRegs (onlyRegs_perf _ _ _ _) List.not_mem_nil List.not_mem_nil

theorem Judged.sendsNone {d v : Device} (h : Judged d v) {type dst : Nat} (hr : d.route dst = none) (addr len : Nat)
    (poison : BitVec 8) (bs : List Byte) : Sends d type dst poison bs [] ∧
    (v.sendTo type dst addr len poison bs).dsk.out = d.dsk.out ++ [] := by
  rw [Sends, hr, Device.sendTo, route_congr h.dsk, hr]
  exact ⟨rfl, by rw [h.dsk, List.append_nil]⟩

/-- What an answer sends on a link. -/
theorem Judged.sends {d v : Device} (h : Judged d v) {type dst : Nat} (ht : FT.control type = false) (addr len : Nat)
    (poison : BitVec 8) (bs : List Byte) : ∃ l, Sends d type dst poison bs l ∧
    (v.sendTo type dst addr len poison bs).dsk.out = d.dsk.out ++ l := by
  cases hr : d.route dst with
  | none => exact ⟨[], h.sendsNone hr addr len poison bs⟩
  | some o =>
    rw [Device.sendTo, route_congr h.dsk, hr]
    simp only [Sends, hr, Device.sendOn]
    have hfree : v.linkFree o ↔ d.linkFree o := by rw [Device.linkFree, Device.linkFree, portAt_congr h.dsk]
    by_cases hf : d.linkFree o
    · rw [pushFlit_free (by exact ht) (hfree.mpr hf), out_putSeq, h.dsk]
      exact ⟨_, ⟨fun hn => absurd hf hn, fun _ => ⟨_, rfl, rfl, rfl, h.devId, by rw [← h.frame]; rfl, rfl, rfl⟩⟩, rfl⟩
    · rw [pushFlit_full (by exact ht) (fun hn => hf (hfree.mp hn))]
      exact ⟨[], ⟨fun _ => rfl, fun hy => absurd hy hf⟩, by rw [List.append_nil, ← h.dsk]; rfl⟩

/-- A flit is answered where what it did leaves the links, this device's ID and the frame. -/
theorem sentFlit_answer {d v : Device} {p type : Nat} {f : Flit} (h : Judged (d.took p f) v) (ht : FT.control type = false)
    (dst addr len : Nat) (poison : BitVec 8) (bs : List Byte) :
    SentFlit d ((v.sendTo type dst addr len poison bs).ackIdle p (d.sentOn p)) p f type dst poison bs := by
  obtain ⟨l, hsends, hout⟩ := h.sends ht addr len poison bs (dst := dst)
  refine ⟨l, hsends, handled_ackIdle hout ?_⟩
  rw [(sendStep_sendTo v type dst addr len poison bs).rxSeq, portAt_congr h.dsk, rxSeq_took]

/-- A flit that is handled without an answer. -/
theorem handled_quiet {d v : Device} {p : Nat} {f : Flit} (h : Judged (d.took p f) v) :
    Handled d (v.ackIdle p (d.sentOn p)) p f [] :=
  handled_ackIdle (by rw [h.dsk, List.append_nil]) (by rw [portAt_congr h.dsk, rxSeq_took])

/-- What an answer and its ACK change of the device that has acted. -/
theorem sendStep_answer (v : Device) (type dst addr len : Nat) (poison : BitVec 8) (bs : List Byte) (p n : Nat) :
    SendStep v ((v.sendTo type dst addr len poison bs).ackIdle p n) := (sendStep_sendTo _ _ _ _ _ _ _).trans (sendStep_ackIdle _ _ _)

/-! ## Counting what is discarded -/

theorem word_bits (x : Word) : word (bits x 31 0) = x := by
  rw [word, bits, natBits]
  apply BitVec.eq_of_toNat_eq
  have := x.isLt
  simp only [BitVec.toNat_ofNat]
  omega

theorem reg_incr_same (d : Device) (k : Nat) : (d.incr k).reg k = word (satAdd 32 (d.fld k 31 0) 1) := by
  rw [← word_bits ((d.incr k).reg k)]
  exact congrArg word (Device.fld_incr_same d k)

/-- A stale flit is counted and noted. -/
theorem staleFlit_spec (d : Device) : d.staleFlit.reg Reg.dskStaleCnt = word (satAdd 32 (d.fld Reg.dskStaleCnt 31 0) 1) ∧
    d.staleFlit.bitAt Reg.dskStatus 4 = true ∧ OnlyRegs d d.staleFlit [Reg.dskStaleCnt, Reg.dskStatus] :=
  ⟨(reg_raise_ne _ _ (by decide) (by decide) (by decide)).trans (reg_incr_same d _),
    bitAt_raise_same _ _ _ (by decide) (by decide) (by decide),
    ((onlyRegs_incr d _).mono (by simp)).trans ((onlyRegs_raise _ _ _).mono (by simp))⟩

theorem judged_pairRaise (d : Device) {x : Nat} (hx : x < 0x1000) : Judged d (d.pairRaise x) := by
  have hne : ∀ k, k < 0x40000 ∨ 0x41000 ≤ k → (d.pairRaise x).reg k = d.reg k := fun k hk => Device.reg_pairRaise_ne d (by
    simp only [Reg.fltCdPair]
    omega)
  exact .of_regs (dsk_pairRaise d x) (hne _ (by decide)) (hne _ (by decide))

/-- An inbound request that is refused is counted, noted and raises its source. -/
theorem inbRej_spec {d : Device} (h : d.cmpAlive = true) :
    d.inbRej.fld Reg.dskInbCnt 31 0 = satAdd 32 (d.fld Reg.dskInbCnt 31 0) 1 ∧ d.inbRej.bitAt Reg.dskStatus 3 = true ∧
    (d.inbRej.pairAt Src.dskInbound).level = 1 ∧ Judged d d.inbRej ∧ d.inbRej.sansMem = d.sansMem ∧ d.inbRej.mem = d.mem := by
  have hregs : OnlyRegs d ((d.incr Reg.dskInbCnt).raise Reg.dskStatus 3) [Reg.dskInbCnt, Reg.dskStatus] :=
    ((onlyRegs_incr d _).mono (by simp)).trans ((onlyRegs_raise _ _ _).mono (by simp))
  have hcount : ((d.incr Reg.dskInbCnt).raise Reg.dskStatus 3).fld Reg.dskInbCnt 31 0 = satAdd 32 (d.fld Reg.dskInbCnt 31 0) 1 :=
    (Device.fld_congr (reg_raise_ne _ _ (by decide) (by decide) (by decide)) 31 0).trans (Device.fld_incr_same d _)
  have hbit : ((d.incr Reg.dskInbCnt).raise Reg.dskStatus 3).bitAt Reg.dskStatus 3 = true :=
    bitAt_raise_same _ _ _ (by decide) (by decide) (by decide)
  unfold Device.inbRej
  generalize (d.incr Reg.dskInbCnt).raise Reg.dskStatus 3 = u at hregs hcount hbit ⊢
  exact ⟨(Device.fld_congr (Device.reg_pairRaise_ne u (by decide)) 31 0).trans hcount,
    (Device.bitAt_congr (Device.reg_pairRaise_ne u (by decide)) 3).trans hbit,
    Device.level_pairRaise ((cmpAlive_of_onlyRegs hregs).trans h) _,
    (Judged.of_onlyRegs hregs (by decide) (by decide)).trans (judged_pairRaise u (by decide)),
    (memStep_pairRaise u _).1.trans (MemStep.of_onlyRegs hregs).1,
    (mem_pairRaise u _).trans (congrArg (a₁ := u.sansRegs) (a₂ := d.sansRegs) Device.mem hregs.1)⟩

/-- The frame of the statements about a flit that is answered. -/
theorem LinkStep.sansMem {d v : Device} (h : LinkStep d v) :
    v.sansMem = { d with dsk := { d.dsk with port := v.dsk.port, out := v.dsk.out } }.sansMem := by
  have hrest := congrArg Device.sansMem h.sansRegs
  exact hrest

/-- The same where memory has acted between. -/
theorem sansMem_answered {d u w v : Device} (h : LinkStep d u) (hw : w.sansMem = u.sansMem) (hv : LinkStep w v) :
    v.sansMem = { d with dsk := { d.dsk with port := v.dsk.port, out := v.dsk.out } }.sansMem := by
  rw [hv.sansMem]
  have hput := congrArg (fun z : Device => { z with dsk := { z.dsk with port := v.dsk.port, out := v.dsk.out } }) hw
  have hput' := congrArg (fun z : Device => { z with dsk := { z.dsk with port := v.dsk.port, out := v.dsk.out } }) h.sansMem
  exact Eq.trans hput hput'

/-! ## WR -/

theorem isStale_congr {d v : Device} (h : v.frame = d.frame) (f : Flit) : v.isStale f = d.isStale f := by
  rw [Device.isStale, h, ← Device.isStale]

theorem inWr_stale {d : Device} {f : Flit} (h : d.isStale f = true) : d.inWr f = d.staleFlit.ackWr f true := if_pos h

theorem inWr_written {d : Device} {f : Flit} (h : d.isStale f = false) (hl : inLine f = true) (hs : d.shared 1 f.addr f.len = true) :
    d.inWr f = (d.writeTag (d.phys f.addr) (flitData f)).ackWr f false := by
  rw [Device.inWr, if_neg (by simp [h]), if_pos (by simp [hl, hs])]

theorem inWr_refused {d : Device} {f : Flit} (h : d.isStale f = false) (hr : inLine f = false ∨ d.shared 1 f.addr f.len = false) :
    d.inWr f = d.inbRej.ackWr f true := by
  rw [Device.inWr, if_neg (by simp [h]), if_neg (by rcases hr with hr | hr <;> simp [hr])]

/-- What is shared is no question of registers but of the map. -/
theorem LinkStep.shared {d v : Device} (h : LinkStep d v) (bit a n : Nat) : v.shared bit a n = d.shared bit a n :=
  h.read (·.shared bit a n) fun _ => rfl

theorem wr_stale {s : State} {p : Nat} {f : Flit} (h : s.dev.inTurn p FT.wr f) (hd : f.dst = s.dev.devId) (hst : s.dev.isStale f = true) :
    Completes (.wr p f) s fun d => d.reg Reg.dskStaleCnt = word (satAdd 32 (s.dev.fld Reg.dskStaleCnt 31 0) 1) ∧
      d.bitAt Reg.dskStatus 4 = true ∧ d.mem = s.dev.mem ∧ SentFlit s.dev d p f FT.wrAck f.src 0 [1] ∧
      SameRegs s.dev d [Reg.dskStaleCnt, Reg.dskStatus] ∧
      d.sansRegs = { s.dev with dsk := { s.dev.dsk with port := d.dsk.port, out := d.dsk.out } }.sansRegs := by
  refine .of_inTurn (exec_wr s p f) h (.inr hd) ?_
  have hlink := linkStep_tookCounted s.dev p f
  have hjudged := judged_took s.dev p f
  rw [inWr_stale ((isStale_congr hlink.frame f).trans hst)]
  generalize s.dev.tookCounted p f = u at hlink hjudged ⊢
  obtain ⟨hcnt, hbit, honly⟩ := staleFlit_spec u
  have hsend := sendStep_answer u.staleFlit FT.wrAck f.src f.addr 1 0 (toLe 1 (b2n true)) p (s.dev.sentOn p)
  have hold : u.fld Reg.dskStaleCnt 31 0 = s.dev.fld Reg.dskStaleCnt 31 0 := Device.fld_congr (hlink.reg (by decide)) 31 0
  refine ⟨(hsend.reg (by decide)).trans (by rw [hcnt, hold]), (Device.bitAt_congr (hsend.reg (by decide)) 4).trans hbit, ?_,
    sentFlit_answer (hjudged.trans (.of_onlyRegs honly (by decide) (by decide))) rfl _ _ _ _ _, ?_, ?_⟩
  · exact hsend.mem.trans ((congrArg (a₁ := u.staleFlit.sansRegs) (a₂ := u.sansRegs) Device.mem honly.1).trans hlink.mem)
  · exact fun k hk hi => (hsend.regs k List.not_mem_nil hi).trans ((honly.2 k hk hi).trans (hlink.regs k List.not_mem_nil hi))
  · have hput := congrArg (fun z : Device => { z with dsk := { z.dsk with
      port := ((u.staleFlit.ackWr f true).ackIdle p (s.dev.sentOn p)).dsk.port
      out := ((u.staleFlit.ackWr f true).ackIdle p (s.dev.sentOn p)).dsk.out } }) (honly.1.trans hlink.sansRegs)
    exact hsend.sansRegs.trans hput

theorem wr_fresh {s : State} {p : Nat} {f : Flit} (h : s.dev.inTurn p FT.wr f) (hd : f.dst = s.dev.devId)
    (hst : s.dev.isStale f = false) : Completes (.wr p f) s fun d =>
      (inLine f = true → s.dev.shared 1 f.addr f.len = true → d.mem = (s.dev.writeTag (s.dev.phys f.addr) (flitData f)).mem ∧
        SentFlit s.dev d p f FT.wrAck f.src 0 [0]) ∧
      (inLine f = false ∨ s.dev.shared 1 f.addr f.len = false → d.mem = s.dev.mem ∧ SentFlit s.dev d p f FT.wrAck f.src 0 [1] ∧
        d.fld Reg.dskInbCnt 31 0 = satAdd 32 (s.dev.fld Reg.dskInbCnt 31 0) 1 ∧ d.bitAt Reg.dskStatus 3 = true ∧
        (d.pairAt Src.dskInbound).level = 1) ∧
      d.sansMem = { s.dev with dsk := { s.dev.dsk with port := d.dsk.port, out := d.dsk.out } }.sansMem := by
  refine .of_inTurn (exec_wr s p f) h (.inr hd) ?_
  have hlink := linkStep_tookCounted s.dev p f
  have hjudged := judged_took s.dev p f
  have hfresh := (isStale_congr hlink.frame f).trans hst
  rw [← hlink.shared]
  have hview := Viewed.of_linkStep hlink
  generalize s.dev.tookCounted p f = u at hlink hjudged hfresh hview ⊢
  by_cases hw : inLine f = true ∧ u.shared 1 f.addr f.len = true
  · obtain ⟨hl, hs⟩ := hw
    rw [inWr_written hfresh hl hs]
    have hfetched := memClosed_fetched.writeTag u (u.phys f.addr) (flitData f)
    have hsend := sendStep_answer (u.writeTag (u.phys f.addr) (flitData f)) FT.wrAck f.src f.addr 1 0 (toLe 1 (b2n false)) p (s.dev.sentOn p)
    refine ⟨fun _ _ => ⟨hsend.mem.trans ?_, sentFlit_answer (hjudged.trans (.of_fetched hfetched)) rfl _ _ _ _ _⟩,
      fun hn => absurd hn (by simp [hl, hs]), sansMem_answered hlink hfetched.1 hsend.toLinkStep⟩
    rw [hview.phys]
    exact (viewed_writeTag hview _ _).mem
  · have href : inLine f = false ∨ u.shared 1 f.addr f.len = false := by
      cases hl : inLine f <;> cases hs : u.shared 1 f.addr f.len <;> simp_all
    rw [inWr_refused hfresh href]
    have halive : u.cmpAlive = true := hlink.cmpAlive.trans (cmpAlive_of_portOn (portOn_of_linkOn h.1))
    obtain ⟨hcnt, hbit, hpair, hrej, hsans, hmem⟩ := inbRej_spec halive
    have hsend := sendStep_answer u.inbRej FT.wrAck f.src f.addr 1 0 (toLe 1 (b2n true)) p (s.dev.sentOn p)
    have hold : u.fld Reg.dskInbCnt 31 0 = s.dev.fld Reg.dskInbCnt 31 0 := Device.fld_congr (hlink.reg (by decide)) 31 0
    exact ⟨fun hl hs => absurd ⟨hl, hs⟩ hw, fun _ => ⟨hsend.mem.trans (hmem.trans hlink.mem),
      sentFlit_answer (hjudged.trans hrej) rfl _ _ _ _ _, (Device.fld_congr (hsend.reg (by decide)) 31 0).trans (hcnt.trans (by rw [hold])),
      (Device.bitAt_congr (hsend.reg (by decide)) 3).trans hbit,
      (hsend.read (fun z => (z.pairAt Src.dskInbound).level) fun _ => rfl).trans hpair⟩,
      sansMem_answered hlink hsans hsend.toLinkStep⟩

/-! ## RD_REQ -/

theorem inRd_served {d : Device} {f : Flit} (hs : d.shared 0 f.addr f.len = true) : d.inRd f =
    (d.readTag (d.phys f.addr) f.len).1.sendTo FT.rdResp f.src f.addr f.len (poisonField (d.readTag (d.phys f.addr) f.len).2)
      (unmark (d.readTag (d.phys f.addr) f.len).2) := by
  rw [Device.inRd, if_pos hs]

theorem inRd_refused {d : Device} {f : Flit} (hs : d.shared 0 f.addr f.len = false) : d.inRd f =
    d.inbRej.sendTo FT.rdResp f.src f.addr f.len (poisonField (List.replicate f.len (0, true)))
      (unmark (List.replicate f.len (0, true))) := by
  rw [Device.inRd, if_neg (by simp [hs])]

theorem rdReq_completes {s : State} {p : Nat} {f : Flit} {l : Marked} (h : s.dev.inTurn p FT.rdReq f) (hd : f.dst = s.dev.devId)
    (hl : l = (s.dev.readTag (s.dev.phys f.addr) f.len).2) : Completes (.rdReq p f) s fun d =>
      (s.dev.shared 0 f.addr f.len = true → SentFlit s.dev d p f FT.rdResp f.src (poisonField l) (unmark l)) ∧
      (s.dev.shared 0 f.addr f.len = false →
        SentFlit s.dev d p f FT.rdResp f.src (poisonField (List.replicate f.len (0, true))) (List.replicate f.len 0) ∧
        d.fld Reg.dskInbCnt 31 0 = satAdd 32 (s.dev.fld Reg.dskInbCnt 31 0) 1 ∧ d.bitAt Reg.dskStatus 3 = true ∧
        (d.pairAt Src.dskInbound).level = 1) ∧
      d.sansMem = { s.dev with dsk := { s.dev.dsk with port := d.dsk.port, out := d.dsk.out } }.sansMem := by
  refine .of_inTurn (exec_rdReq s p f) h (.inr hd) ?_
  have hlink := linkStep_tookCounted s.dev p f
  have hjudged := judged_took s.dev p f
  have hview := Viewed.of_linkStep hlink
  rw [← hlink.shared]
  generalize s.dev.tookCounted p f = u at hlink hjudged hview ⊢
  cases hs : u.shared 0 f.addr f.len with
  | true =>
    rw [inRd_served hs]
    have hfetched := memClosed_fetched.readTag u (u.phys f.addr) f.len
    have hdata : l = (u.readTag (u.phys f.addr) f.len).2 := by
      rw [hl, hview.phys]
      exact (viewed_readTag hview _ _).2.symm
    rw [hdata]
    exact ⟨fun _ => sentFlit_answer (hjudged.trans (.of_fetched hfetched)) rfl _ _ _ _ _, fun hn => Bool.noConfusion hn,
      sansMem_answered hlink hfetched.1 (sendStep_answer _ _ _ _ _ _ _ _ _).toLinkStep⟩
  | false =>
    rw [inRd_refused hs]
    have halive : u.cmpAlive = true := hlink.cmpAlive.trans (cmpAlive_of_portOn (portOn_of_linkOn h.1))
    obtain ⟨hcnt, hbit, hpair, hrej, hsans, -⟩ := inbRej_spec halive
    have hzero : unmark (List.replicate f.len (0, true)) = List.replicate f.len 0 := List.map_replicate
    rw [hzero]
    have hsend := sendStep_answer u.inbRej FT.rdResp f.src f.addr f.len (poisonField (List.replicate f.len (0, true)))
      (List.replicate f.len 0) p (s.dev.sentOn p)
    have hold : u.fld Reg.dskInbCnt 31 0 = s.dev.fld Reg.dskInbCnt 31 0 := Device.fld_congr (hlink.reg (by decide)) 31 0
    exact ⟨fun hn => Bool.noConfusion hn, fun _ => ⟨sentFlit_answer (hjudged.trans hrej) rfl _ _ _ _ _,
      (Device.fld_congr (hsend.reg (by decide)) 31 0).trans (hcnt.trans (by rw [hold])),
      (Device.bitAt_congr (hsend.reg (by decide)) 3).trans hbit,
      (hsend.read (fun z => (z.pairAt Src.dskInbound).level) fun _ => rfl).trans hpair⟩,
      sansMem_answered hlink hsans hsend.toLinkStep⟩

end Sys2Proof.Machine
end

section
/-! Answers of remote requests and inbound SIG (R126, R127, R186, R187). -/

namespace Sys2Proof.Machine

theorem exec_wrAck (s : State) (p : Nat) (f : Flit) : exec (.wrAck p f) s =
    act f.wf (fun d => d.receive p FT.wrAck f false fun d => d.answered f false) s := rfl

theorem exec_rdResp (s : State) (p : Nat) (f : Flit) : exec (.rdResp p f) s =
    act f.wf (fun d => d.receive p FT.rdResp f false fun d => d.answered f true) s := rfl

/-! ## SIG -/

theorem inSig_stale {d : Device} {f : Flit} (h : d.isStale f = true) : d.inSig f = d.staleFlit := if_pos h

theorem sig_stale {s : State} {p : Nat} {f : Flit} (h : s.dev.inTurn p FT.sig f) (hd : f.dst = s.dev.devId) (hst : s.dev.isStale f = true) :
    Completes (.sig p f) s fun d => d.reg Reg.dskStaleCnt = word (satAdd 32 (s.dev.fld Reg.dskStaleCnt 31 0) 1) ∧
      d.bitAt Reg.dskStatus 4 = true ∧ SameRegs s.dev d [Reg.dskStaleCnt, Reg.dskStatus] ∧ Handled s.dev d p f [] ∧
      d.sansRegs = { s.dev with dsk := { s.dev.dsk with port := d.dsk.port, out := d.dsk.out } }.sansRegs := by
  refine .of_inTurn (exec_sig s p f) h (.inr hd) ?_
  have hlink := linkStep_tookCounted s.dev p f
  have hjudged := judged_took s.dev p f
  rw [inSig_stale ((isStale_congr hlink.frame f).trans hst)]
  generalize s.dev.tookCounted p f = u at hlink hjudged ⊢
  obtain ⟨hcnt, hbit, honly⟩ := staleFlit_spec u
  have hsend := sendStep_ackIdle u.staleFlit p (s.dev.sentOn p)
  have hold : u.fld Reg.dskStaleCnt 31 0 = s.dev.fld Reg.dskStaleCnt 31 0 := Device.fld_congr (hlink.reg (by decide)) 31 0
  refine ⟨(hsend.reg (by decide)).trans (by rw [hcnt, hold]), (Device.bitAt_congr (hsend.reg (by decide)) 4).trans hbit, ?_,
    handled_quiet (hjudged.trans (.of_onlyRegs honly (by decide) (by decide))), ?_⟩
  · exact fun k hk hi => (hsend.regs k List.not_mem_nil hi).trans ((honly.2 k hk hi).trans (hlink.regs k List.not_mem_nil hi))
  · have hput := congrArg (fun z : Device => { z with dsk := { z.dsk with
      port := (u.staleFlit.ackIdle p (s.dev.sentOn p)).dsk.port
      out := (u.staleFlit.ackIdle p (s.dev.sentOn p)).dsk.out } }) (honly.1.trans hlink.sansRegs)
    exact hsend.sansRegs.trans hput

/-- A SIG of this frame that fits is added to its device counter, which no engine waits for. -/
theorem inSig_fresh {d : Device} {f : Flit} {i : Nat} (h : d.isStale f = false) (hi : i = leAt f.payload 0 1 % 16)
    (hw : ∀ e, e < 168 → ∀ n, (d.engAt e).blocked ≠ some (Ctr.dev i, n)) (hv : d.ctr (.dev i) + leAt f.payload 2 2 ≤ 0xFFFF) :
    d.inSig f = d.setCtr (.dev i) (d.ctr (.dev i) + leAt f.payload 2 2) := by
  rw [Device.inSig, if_neg (by simp [h]), ← hi]
  dsimp only
  have hsum : sumBy SigMsg.amount [⟨.dev i, leAt f.payload 2 2, 168, d.q / aQ⟩] = leAt f.payload 2 2 := by simp [sumBy]
  rw [addTokens_fits (by rw [hsum]; exact hv), hsum]
  exact releaseAll_none hw

theorem LinkStep.engAt {a b : Device} (h : LinkStep a b) (e : Nat) : b.engAt e = a.engAt e := h.read (·.engAt e) fun _ => rfl

theorem LinkStep.ctr {a b : Device} (h : LinkStep a b) {i : Nat} (hi : i < 64) : b.ctr (.dev i) = a.ctr (.dev i) :=
  Device.fld_congr (h.reg (ctrReg_not_irq _ fun j hj => by
    obtain rfl : i = j := Ctr.dev.inj hj
    exact hi)) 15 0

theorem sig_fresh {s : State} {p i : Nat} {f : Flit} (h : s.dev.inTurn p FT.sig f) (hd : f.dst = s.dev.devId)
    (hst : s.dev.isStale f = false) (hi : i = leAt f.payload 0 1 % 16)
    (hw : ∀ e, e < 168 → ∀ n, (s.dev.engAt e).blocked ≠ some (Ctr.dev i, n))
    (hv : s.dev.ctr (.dev i) + leAt f.payload 2 2 ≤ 0xFFFF) :
    Completes (.sig p f) s fun d => d.ctr (.dev i) = s.dev.ctr (.dev i) + leAt f.payload 2 2 ∧ Handled s.dev d p f [] ∧
      SameRegs s.dev d [ctrReg (.dev i)] ∧
      d.sansRegs = { s.dev with dsk := { s.dev.dsk with port := d.dsk.port, out := d.dsk.out } }.sansRegs := by
  refine .of_inTurn (exec_sig s p f) h (.inr hd) ?_
  have hlt : i < 16 := hi ▸ Nat.mod_lt _ (by decide)
  have hlink := linkStep_tookCounted s.dev p f
  have hjudged := judged_took s.dev p f
  have hctr := hlink.ctr (show i < 64 by omega)
  generalize s.dev.tookCounted p f = u at hlink hjudged hctr ⊢
  rw [inSig_fresh ((isStale_congr hlink.frame f).trans hst) hi (fun e he n => by rw [hlink.engAt]; exact hw e he n) (hctr ▸ hv), hctr]
  have hset : (u.setCtr (.dev i) (s.dev.ctr (.dev i) + leAt f.payload 2 2)).ctr (.dev i) = s.dev.ctr (.dev i) + leAt f.payload 2 2 :=
    Device.ctr_setCtr _ _ _ (by omega)
  have honly := onlyRegs_setCtr u (.dev i) (s.dev.ctr (.dev i) + leAt f.payload 2 2)
  have hne : ∀ k, k = Reg.dskCfg ∨ k = Reg.tckFrame → k ∉ [ctrReg (.dev i)] := fun k hk => by
    rw [List.mem_singleton]
    rcases hk with rfl | rfl
    · simp only [ctrReg, Reg.dskCfg, Reg.tckTok]; omega
    · simp only [ctrReg, Reg.tckFrame, Reg.tckTok]; omega
  generalize u.setCtr (.dev i) (s.dev.ctr (.dev i) + leAt f.payload 2 2) = v at hset honly ⊢
  have hsend := sendStep_ackIdle v p (s.dev.sentOn p)
  refine ⟨(hsend.ctr (show i < 64 by omega)).trans hset, handled_quiet (hjudged.trans (.of_onlyRegs honly (hne _ (.inl rfl)) (hne _ (.inr rfl)))),
    fun k hk hi => (hsend.regs k List.not_mem_nil hi).trans ((honly.2 k hk hi).trans (hlink.regs k List.not_mem_nil hi)), ?_⟩
  have hput := congrArg (fun z : Device => { z with dsk := { z.dsk with
    port := (v.ackIdle p (s.dev.sentOn p)).dsk.port, out := (v.ackIdle p (s.dev.sentOn p)).dsk.out } }) (honly.1.trans hlink.sansRegs)
  exact hsend.sansRegs.trans hput

/-! ## Answers that fit no request -/

/-- The request awaited longest that an answer fits. -/
def Device.awaited (d : Device) (f : Flit) (rd : Bool) : Option RemReq :=
  d.dsk.rem.find? fun r => decide (r.dev = f.src) && decide (r.addr = f.addr) && decide (r.read = rd)

theorem LinkStep.awaited {a b : Device} (h : LinkStep a b) (f : Flit) (rd : Bool) : b.awaited f rd = a.awaited f rd :=
  h.read (·.awaited f rd) fun _ => rfl

/-- The device once `r` is no longer awaited. -/
def Device.forget (d : Device) (r : RemReq) : Device := { d with dsk := { d.dsk with rem := d.dsk.rem.erase r } }

theorem answered_none {d : Device} {f : Flit} {rd : Bool} (h : d.awaited f rd = none) : d.answered f rd = d := by
  rw [Device.answered, ← Device.awaited, h]

theorem answered_some {d : Device} {f : Flit} {rd : Bool} {r : RemReq} (h : d.awaited f rd = some r) :
    d.answered f rd = (d.forget r).remoteDone r (if rd then flitData f else []) := by
  rw [Device.answered, ← Device.awaited, h]
  rfl

/-- An answer that fits no request ends none. -/
theorem answer_unawaited {c : Instr} {s : State} {p type : Nat} {f : Flit} {rd : Bool}
    (hc : exec c s = act f.wf (fun d => d.receive p type f false fun d => d.answered f rd) s) (h : s.dev.inTurn p type f)
    (hd : f.dst = s.dev.devId) (hr : s.dev.awaited f rd = none) :
    Completes c s fun d => Handled s.dev d p f [] ∧ SameRegs s.dev d [] ∧
      d.sansRegs = { s.dev with dsk := { s.dev.dsk with port := d.dsk.port, out := d.dsk.out } }.sansRegs := by
  refine .of_inTurn hc h (.inr hd) ?_
  have hlink := linkStep_tookCounted s.dev p f
  rw [answered_none ((hlink.awaited f rd).trans hr)]
  have hall := hlink.trans (sendStep_ackIdle (s.dev.tookCounted p f) p (s.dev.sentOn p)).toLinkStep
  exact ⟨handled_quiet (judged_took s.dev p f), hall.regs, hall.sansRegs⟩

/-! ## Answers that end a request -/

/-- From `a` to `b` engine `e` goes on, with writes to memory and the note of their races. -/
structure EngWrote (a b : Device) (e : Nat) : Prop where
  others : OtherEnginesRun a b e
  rest : b.sansMem = { a with eng := b.eng, raceAt := b.raceAt, races := b.races }.sansMem

namespace EngWrote

theorem trans {a b c : Device} {e : Nat} (h : EngWrote a b e) (g : EngWrote b c e) : EngWrote a c e := by
  refine ⟨h.others.trans g.others, ?_⟩
  have hput := congrArg (fun z : Device => { z with
    eng := c.eng.map fun g : Nat × Eng => (g.1, g.2.keepHeld fun _ => false), raceAt := c.raceAt, races := c.races }) h.rest
  exact g.rest.trans hput

theorem of_wrote {a b : Device} (h : Wrote a b) (e : Nat) : EngWrote a b e :=
  ⟨h.otherEnginesRun e, RunStep.of_sansMem (a := { a with raceAt := b.raceAt, races := b.races }) h.1⟩

theorem of_engineStep {a b : Device} {e : Nat} (h : EngineStep a b e) : EngWrote a b e := by
  refine ⟨h.2.run, ?_⟩
  rw [show b.raceAt = a.raceAt from congrArg (·.raceAt) h.1, show b.races = a.races from congrArg (·.races) h.1]
  exact RunStep.of_sansRegs h.1

variable {a b : Device} {e : Nat} (h : EngWrote a b e)
include h

theorem dsk : b.dsk = a.dsk := congrArg (·.dsk) h.rest
theorem q : b.q = a.q := congrArg (·.q) h.rest

end EngWrote

/-- The only request of engine `e`, of command `a`, has been answered. -/
structure RequestEnded (d v : Device) (e : Nat) (a : Act) : Prop extends EngWrote d v e where
  eng : v.engAt e = { d.engAt e with acts := [{ a with out := [], last := d.q / aQ }] }

theorem clash_lone (x : Nat × Act × Request) : clash [x] 0 = false := rfl

/-- A write that is answered ends its request (R186). -/
theorem requestEnded_reqDone {d : Device} {e : Nat} {a : Act} {r : Request} (ha : (d.engAt e).acts = [a]) (hq : (d.engAt e).queue = [])
    (ho : a.out = [r]) (hn : a.next = a.total) : RequestEnded d (d.reqDone e 0 r) e a ∧ (d.reqDone e 0 r).mem = d.mem := by
  rw [reqDone_lone ha hq ho hn]
  have hstep := engineStep_dropReq d e 0 r
  exact ⟨⟨.of_engineStep hstep, engAt_dropReq ha ho⟩, congrArg (·.mem) hstep.1⟩

/-- With the data of its answer ready and nothing before it, a read is written to its destination and ends (R127). -/
theorem requestEnded_flush {d : Device} {e : Nat} {a : Act} {r : Request} {l : Marked} (ha : (d.engAt e).acts = [a])
    (hq : (d.engAt e).queue = []) (ho : a.out = [r]) (hh : r.held = []) (hr : r.ready = some l) (hn : a.next = a.total) :
    RequestEnded d ((d.flushReady e 1).issue e) e a ∧ ((d.flushReady e 1).issue e).mem = (d.reqWrite e a.word r.idx l).mem := by
  have hflush : d.flushReady e 1 = (d.reqWrite e a.word r.idx l).dropReq e 0 r := by
    unfold Device.flushReady
    simp only [flight_lone ha ho, List.zipIdx_cons, List.zipIdx_nil, List.find?_cons, hr, clash_lone, Option.isSome_some, Bool.not_false,
      Bool.and_self, Option.getD_some]
    rfl
  have hw := wrote_reqWrite d e a.word r.idx l
  rw [hflush]
  generalize d.reqWrite e a.word r.idx l = u at hw ⊢
  have heng : u.engAt e = d.engAt e := by
    obtain ⟨p, hp⟩ := hw.engAt
    rw [hp, keepHeld_lone ha ho hh]
  have hdone := engAt_dropReq (d := u) (e := e) (heng ▸ ha) ho
  have hstep := engineStep_dropReq u e 0 r
  have hcycle := hstep.q
  generalize u.dropReq e 0 r = v at hdone hstep hcycle ⊢
  rw [issue_idle (a := { a with out := [], last := u.q / aQ }) (congrArg Eng.acts hdone)
    ((congrArg Eng.queue hdone).trans ((congrArg Eng.queue heng).trans hq)) hn (by simp [xferDone, hcycle])]
  exact ⟨⟨(EngWrote.of_wrote hw e).trans (.of_engineStep hstep), by rw [hdone, heng, hw.q]⟩, congrArg (·.mem) hstep.1⟩

theorem Viewed.idxWord {a b : Device} (h : Viewed a b) (w : CmdWord) (i : Nat) : a.idxWord w i = b.idxWord w i := by
  have hread := viewed_readMem h (b.phys (mSrc w + 4 * i)) 4
  obtain ⟨-, hbytes, hpoison⟩ := hread
  unfold Device.idxWord Device.peek Device.peekPoison
  simp only [h.phys, hbytes, hpoison]

theorem Viewed.reqRemote {a b : Device} (h : Viewed a b) (w : CmdWord) (i : Nat) : a.reqRemote w i = b.reqRemote w i := by
  unfold Device.reqRemote
  simp only [h.idxWord]

/-- The requests in flight after the data of the remote request `q` of the command at place `k` has come. -/
def Device.withReady (d : Device) (e k : Nat) (q : Request) (l : Marked) : Device :=
  (d.notePoison e (countBy (·.2) l)).modEng e fun g => { g with acts := g.acts.modify k fun a =>
    { a with out := a.out.map fun x => if x = q then { x with ready := some l } else x } }

/-- What an answer does where its request is the only one in flight of its engine. -/
theorem remoteDone_lone {d : Device} {r : RemReq} {a : Act} {q : Request} {z : Bool} {y n : Nat} (ha : (d.engAt r.eng).acts = [a])
    (ho : a.out = [q]) (hq : q.remote = true) (hi : q.idx = r.idx) (hz : d.reqRemote a.word r.idx = some (z, y, n))
    (hdev : remDev y = r.dev) (haddr : remAddr y = r.addr) (l : Marked) : d.remoteDone r l = if r.read then
      ((d.withReady r.eng 0 q l).flushReady r.eng ((d.withReady r.eng 0 q l).engAt r.eng).outstanding).issue r.eng
    else d.reqDone r.eng 0 q := by
  unfold Device.remoteDone
  simp only [flight_lone ha ho, List.find?_cons, hq, hi, hz, hdev, haddr, decide_true, Bool.and_self]
  rfl

theorem engAt_withReady {d : Device} {e : Nat} {a : Act} {q : Request} (ha : (d.engAt e).acts = [a]) (ho : a.out = [q]) (l : Marked) :
    (d.withReady e 0 q l).engAt e = { d.engAt e with acts := [{ a with out := [{ q with ready := some l }] }] } := by
  rw [Device.withReady, Device.engAt_modEng_same, (onlyRegs_notePoison _ _ _).engAt, ha]
  simp [ho]

theorem engineStep_withReady (d : Device) (e k : Nat) (q : Request) (l : Marked) : EngineStep d (d.withReady e k q l) e :=
  (EngineStep.of_onlyRegs (onlyRegs_notePoison d e _) e).trans (engineStep_setEng _ e _)

theorem viewed_withReady (d : Device) (e k : Nat) (q : Request) (l : Marked) : Viewed (d.withReady e k q l) d where
  mem := congrArg (·.mem) (engineStep_withReady d e k q l).1
  rest := by
    have hrest := congrArg (fun z : Device => Device.unlinked { z with eng := [] }) (engineStep_withReady d e k q l).1
    exact hrest

/-- The data of a read that is the only request of its engine are written as they come. -/
theorem requestEnded_withReady {d : Device} {e : Nat} {a : Act} {q : Request} (ha : (d.engAt e).acts = [a])
    (hq : (d.engAt e).queue = []) (ho : a.out = [q]) (hh : q.held = []) (hn : a.next = a.total) (l : Marked) :
    RequestEnded d (((d.withReady e 0 q l).flushReady e ((d.withReady e 0 q l).engAt e).outstanding).issue e) e a ∧
    (((d.withReady e 0 q l).flushReady e ((d.withReady e 0 q l).engAt e).outstanding).issue e).mem =
      (d.reqWrite e a.word q.idx l).mem := by
  have heng := engAt_withReady ha ho l
  have hstep := engineStep_withReady d e 0 q l
  have hview := viewed_withReady d e 0 q l
  generalize d.withReady e 0 q l = u at heng hstep hview ⊢
  have hout : (u.engAt e).outstanding = 1 := by
    rw [heng]
    rfl
  rw [hout]
  obtain ⟨hend, hmem⟩ := requestEnded_flush (a := { a with out := [{ q with ready := some l }] }) (congrArg Eng.acts heng)
    ((congrArg Eng.queue heng).trans hq) rfl hh rfl hn
  refine ⟨⟨(EngWrote.of_engineStep hstep).trans hend.toEngWrote, ?_⟩, hmem.trans (viewed_reqWrite hview e _ _ l).mem⟩
  rw [hend.eng, heng, hstep.q]

/-- The frame of a request that is answered: between taking the answer and its ACK its engine goes on. -/
theorem sansMem_ended {d u v w : Device} {r : RemReq} {e : Nat} (h : LinkStep d u) (hv : EngWrote (u.forget r) v e) (hw : LinkStep v w) :
    w.sansMem = { d with
      dsk := { d.dsk with port := w.dsk.port, out := w.dsk.out, rem := w.dsk.rem }
      eng := w.eng, raceAt := w.raceAt, races := w.races }.sansMem := by
  have hrem : w.dsk.rem = (u.forget r).dsk.rem := (hw.read (·.dsk.rem) fun _ => rfl).trans (by rw [hv.dsk])
  have heng : w.eng = v.eng := hw.eng
  have hat : w.raceAt = v.raceAt := hw.read Device.raceAt fun _ => rfl
  have hraces : w.races = v.races := hw.read Device.races fun _ => rfl
  have hput := congrArg (fun z : Device => { z with dsk := { z.dsk with port := w.dsk.port, out := w.dsk.out } }) hv.rest
  have hput' := congrArg (fun z : Device => { z with
    dsk := { z.dsk with port := w.dsk.port, out := w.dsk.out, rem := (u.forget r).dsk.rem }
    eng := v.eng.map fun g : Nat × Eng => (g.1, g.2.keepHeld fun _ => false), raceAt := v.raceAt, races := v.races }) h.sansMem
  rw [hrem, heng, hat, hraces]
  exact hw.sansMem.trans (Eq.trans hput hput')

/-- An answer that ends the only request of its engine. -/
theorem answer_ends {c : Instr} {s : State} {p type y : Nat} {f : Flit} {rd : Bool} {r : RemReq} {a : Act} {q : Request} {z : Bool × Nat}
    (hc : exec c s = act f.wf (fun d => d.receive p type f false fun d => d.answered f rd) s) (h : s.dev.inTurn p type f)
    (hd : f.dst = s.dev.devId) (hr : s.dev.awaited f rd = some r) (ha : (s.dev.engAt r.eng).acts = [a])
    (hqueue : (s.dev.engAt r.eng).queue = []) (ho : a.out = [q]) (hn : a.next = a.total) (hq : q.remote = true) (hh : q.held = [])
    (hi : q.idx = r.idx) (hz : s.dev.reqRemote a.word r.idx = some (z.1, y, z.2)) (hdev : remDev y = r.dev) (haddr : remAddr y = r.addr) :
    Completes c s fun d => RemoteAnswered s.dev d r a ∧ Handled s.dev d p f [] ∧
      d.mem = if rd then (s.dev.reqWrite r.eng a.word r.idx (flitData f)).mem else s.dev.mem := by
  refine .of_inTurn hc h (.inr hd) ?_
  have hread : r.read = rd := by
    have hfit := List.find?_some hr
    simp only [Bool.and_eq_true, decide_eq_true_eq] at hfit
    exact hfit.2
  have hlink := linkStep_tookCounted s.dev p f
  have hdsk := dsk_tookCounted s.dev p f
  rw [answered_some ((hlink.awaited f rd).trans hr)]
  have hview := Viewed.of_linkStep hlink
  generalize s.dev.tookCounted p f = u at hlink hdsk hview ⊢
  have hforget : Viewed (u.forget r) s.dev := ⟨hview.mem, hview.rest⟩
  have heng : (u.forget r).engAt r.eng = s.dev.engAt r.eng := hlink.engAt r.eng
  have hacts : ((u.forget r).engAt r.eng).acts = [a] := (congrArg Eng.acts heng).trans ha
  have hempty : ((u.forget r).engAt r.eng).queue = [] := (congrArg Eng.queue heng).trans hqueue
  rw [remoteDone_lone hacts ho hq hi ((hforget.reqRemote a.word r.idx).trans hz) hdev haddr, hread]
  generalize hv : (if rd = true then _ else _) = v
  have hended : RequestEnded (u.forget r) v r.eng a ∧
      v.mem = if rd then (s.dev.reqWrite r.eng a.word r.idx (flitData f)).mem else s.dev.mem := by
    subst hv
    cases rd with
    | false =>
      rw [if_neg Bool.false_ne_true, if_neg Bool.false_ne_true]
      obtain ⟨hend, hmem⟩ := requestEnded_reqDone hacts hempty ho hn
      exact ⟨hend, hmem.trans hlink.mem⟩
    | true =>
      rw [if_pos rfl, if_pos rfl, if_pos rfl]
      obtain ⟨hend, hmem⟩ := requestEnded_withReady hacts hempty ho hh hn (flitData f)
      rw [hi] at hmem
      exact ⟨hend, hmem.trans (viewed_reqWrite hforget r.eng a.word r.idx (flitData f)).mem⟩
  clear hv
  obtain ⟨hend, hmem⟩ := hended
  have hout : v.dsk.out = (s.dev.took p f).dsk.out ++ [] := by
    rw [hend.dsk, List.append_nil, ← hdsk]
    rfl
  have hseq : (v.portAt p).rxSeq = f.seq := by
    rw [portAt_congr hend.dsk, ← rxSeq_took s.dev p f, ← portAt_congr hdsk]
    rfl
  have hcycle : (u.forget r).q = s.dev.q := hlink.read (·.q) fun _ => rfl
  have hsend := (sendStep_ackIdle v p (s.dev.sentOn p)).toLinkStep
  refine ⟨⟨?_, ?_, fun x hx => ?_, sansMem_ended hlink hend.toEngWrote hsend⟩, handled_ackIdle hout hseq, hsend.mem.trans hmem⟩
  · rw [hsend.read (·.dsk.rem) fun _ => rfl, hend.dsk]
    exact congrArg (·.erase r) (hlink.read (·.dsk.rem) fun _ => rfl)
  · rw [hsend.engAt, hend.eng, heng, hcycle]
  · rw [hsend.engAt, hend.others x hx]
    exact congrArg (Eng.keepHeld · _) (hlink.engAt x)

/-- Settles O50: a flit in turn is taken, what its type asks is done, and an IDLE acknowledges it where nothing else does. -/
theorem inboundFlitsAreJudged : Obligations.InboundFlitsAreJudged := by
  unfold Obligations.InboundFlitsAreJudged
  refine ⟨⟨fun s p f => wr_stale, fun s p f => wr_fresh, fun s p f l => rdReq_completes⟩,
    fun s p f hd => ⟨fun h hr => answer_unawaited (exec_wrAck s p f) h hd hr, fun h hr => answer_unawaited (exec_rdResp s p f) h hd hr⟩,
    fun s p y f rd r a q z hd hr ha hqueue ho hn hq hh hi hz hdev haddr => ⟨?_, ?_⟩,
    fun s p i f => sig_fresh, fun s p f => sig_stale⟩
  · rintro rfl h
    exact answer_ends (exec_wrAck s p f) h hd hr ha hqueue ho hn hq hh hi hz hdev haddr
  · rintro rfl h
    exact answer_ends (exec_rdResp s p f) h hd hr ha hqueue ho hn hq hh hi hz hdev haddr

end Sys2Proof.Machine
end

section
/-! Flits out of turn, flits passed on and acknowledgements (R182, R183, R185). -/

namespace Sys2Proof.Machine

theorem exec_idle (s : State) (p : Nat) (f : Flit) : exec (.idle p f) s =
    act (f.wf && s.dev.linkOn p) (fun d => d.control p FT.idle f fun d => d.takeAck p f.ack) s := rfl

theorem exec_nak (s : State) (p : Nat) (f : Flit) : exec (.nak p f) s =
    act (f.wf && s.dev.linkOn p) (fun d => d.control p FT.nak f fun d => d.replay p f.ack) s := rfl

theorem exec_flitCrcError (s : State) (p : Nat) : exec (.flitCrcError p) s = act (s.dev.linkOn p) (fun d => d.crcError p) s := rfl

/-- What a flit that devices pass on does, it does as it is received. -/
theorem exec_flits {p t : Nat} {f : Flit} {c : Instr} (h : (c, t) ∈ flits p f) (s : State) : FT.control t = false ∧
    ∃ body, exec c s = act f.wf (fun d => d.receive p t f false body) s := by
  simp only [flits, List.mem_cons, List.not_mem_nil, or_false, Prod.mk.injEq] at h
  rcases h with ⟨rfl, rfl⟩ | ⟨rfl, rfl⟩ | ⟨rfl, rfl⟩ | ⟨rfl, rfl⟩ | ⟨rfl, rfl⟩ | ⟨rfl, rfl⟩ | ⟨rfl, rfl⟩
  · exact ⟨rfl, _, exec_wr s p f⟩
  · exact ⟨rfl, _, exec_wrAck s p f⟩
  · exact ⟨rfl, _, exec_rdReq s p f⟩
  · exact ⟨rfl, _, exec_rdResp s p f⟩
  · exact ⟨rfl, _, exec_sig s p f⟩
  · exact ⟨rfl, _, exec_tickFlit s p f⟩
  · refine ⟨rfl, fun d => d.inStatus f, ?_⟩
    rw [exec_statusFlit, decide_eq_true rfl, Bool.and_true]

/-- Every flit with a sequence number is received. -/
theorem exec_numbered {p t w : Nat} {f : Flit} {c : Instr} (h : (c, t) ∈ (.timeFlit p f w, FT.time) :: flits p f) (s : State) :
    ∃ own body, exec c s = act f.wf (fun d => d.receive p t f own body) s := by
  rcases List.mem_cons.mp h with h | h
  · obtain ⟨rfl, rfl⟩ := Prod.mk.inj h
    exact ⟨true, _, exec_timeFlit s p w f⟩
  · obtain ⟨-, body, hb⟩ := exec_flits h s
    exact ⟨false, body, hb⟩

/-! ## NAKs (R183) -/

theorem nakSent_sendNak (d : Device) (p : Nat) : SameRegs d (d.sendNak p) [] ∧ NakSent d (d.sendNak p) p := by
  obtain ⟨x, hx, hack, hsend⟩ : ∃ x : TxFlit, x.type = FT.nak ∧ x.flit.ack = (d.portAt p).rxSeq ∧
      d.sendOn p FT.nak (d.portAt p).partner 0 0 0 [] = d.putOut p x := ⟨_, rfl, rfl, pushFlit_control d p rfl⟩
  rw [Device.sendNak, hsend]
  have hstep := sendStep_putOut d p x
  have hdsk := dsk_putOut d p x
  refine ⟨hstep.regs, ⟨x, by rw [hdsk], hx, hack⟩, ?_⟩
  rw [hstep.sansRegs, hdsk]

theorem dskPortCnt_not_irq {p : Nat} (h : p < 4) : Reg.dskPortCnt p ∉ irqRegs := by
  have : p = 0 ∨ p = 1 ∨ p = 2 ∨ p = 3 := by omega
  rcases this with rfl | rfl | rfl | rfl <;> decide

/-- From `d` to `d'` a flit with a CRC error on port `p` has been counted and answered with a NAK. -/
def CrcNoted (d d' : Device) (p : Nat) : Prop :=
  d'.fld (Reg.dskPortCnt p) 15 0 = satAdd 16 (d.fld (Reg.dskPortCnt p) 15 0) 1 ∧ SameRegs d d' [Reg.dskPortCnt p] ∧ NakSent d d' p

theorem crcNoted_crcError (d : Device) {p : Nat} (hp : p < 4) : CrcNoted d (d.crcError p) p := by
  have hcount : (d.count (Reg.dskPortCnt p) 15 0 1).fld (Reg.dskPortCnt p) 15 0 = satAdd 16 (d.fld (Reg.dskPortCnt p) 15 0) 1 :=
    Device.fld_count_same _ _ _ _ _ (by decide)
  have honly := onlyRegs_count d (Reg.dskPortCnt p) 15 0 1
  unfold Device.crcError
  generalize d.count (Reg.dskPortCnt p) 15 0 1 = u at hcount honly ⊢
  obtain ⟨hregs, ⟨x, hout, hx, hack⟩, hrest⟩ := nakSent_sendNak u p
  have hdsk : u.dsk = d.dsk := congrArg (a₁ := u.sansRegs) (a₂ := d.sansRegs) Device.dsk honly.1
  refine ⟨(Device.fld_congr (hregs _ List.not_mem_nil (dskPortCnt_not_irq hp)) 15 0).trans hcount, honly.2.trans_nil hregs,
    ⟨x, by rw [hout, hdsk], hx, hack.trans (by rw [portAt_congr hdsk])⟩, hrest.trans ?_⟩
  exact congrArg (fun z : Device => { z with dsk := { z.dsk with out := (u.sendNak p).dsk.out } }) honly.1

theorem linkOn_lt {d : Device} {p : Nat} (h : d.linkOn p = true) : p < 4 := portOn_lt (portOn_of_linkOn h)

/-- A flit with a CRC error is discarded. -/
theorem receive_crc {d : Device} {p type : Nat} {f : Flit} (h : d.linkOn p = true) (hc : f.crc ≠ flitCrc type f) (own : Bool)
    (body : Device → Device) : d.receive p type f own body = d.crcError p := by
  rw [Device.receive]
  simp only [h, Bool.not_true, Bool.false_eq_true, if_false]
  exact if_pos hc

/-- One out of turn is discarded. -/
theorem receive_outOfTurn {d : Device} {p type : Nat} {f : Flit} (h : d.linkOn p = true) (hc : f.crc = flitCrc type f)
    (hs : f.seq ≠ ((d.portAt p).rxSeq + 1) % 4096) (own : Bool) (body : Device → Device) :
    d.receive p type f own body = d.sendNak p := by
  rw [Device.receive]
  simp only [h, Bool.not_true, Bool.false_eq_true, if_false]
  rw [if_neg (not_not.mpr hc), if_pos hs]

theorem flit_badCrc {s : State} {p t w : Nat} {f : Flit} {c : Instr}
    (h : (c, t) ∈ (.idle p f, FT.idle) :: (.nak p f, FT.nak) :: (.timeFlit p f w, FT.time) :: flits p f) (hw : f.wf = true)
    (hon : s.dev.linkOn p = true) (hc : f.crc ≠ flitCrc t f) : Completes c s fun d => CrcNoted s.dev d p := by
  have hguard : (f.wf && s.dev.linkOn p) = true := by rw [hw, hon, Bool.and_self]
  have hnoted := crcNoted_crcError s.dev (linkOn_lt hon)
  rcases List.mem_cons.mp h with h | h
  · obtain ⟨rfl, rfl⟩ := Prod.mk.inj h
    refine .of_act (exec_idle s p f) hguard ?_
    rwa [Device.control, if_pos hc]
  · rcases List.mem_cons.mp h with h | h
    · obtain ⟨rfl, rfl⟩ := Prod.mk.inj h
      refine .of_act (exec_nak s p f) hguard ?_
      rwa [Device.control, if_pos hc]
    · obtain ⟨own, body, hb⟩ := exec_numbered h s
      refine .of_act hb hw ?_
      rwa [receive_crc hon hc]

theorem flit_outOfTurn {s : State} {p t w : Nat} {f : Flit} {c : Instr} (h : (c, t) ∈ (.timeFlit p f w, FT.time) :: flits p f)
    (hw : f.wf = true) (hon : s.dev.linkOn p = true) (hc : f.crc = flitCrc t f) (hs : f.seq ≠ ((s.dev.portAt p).rxSeq + 1) % 4096) :
    Completes c s fun d => SameRegs s.dev d [] ∧ NakSent s.dev d p := by
  obtain ⟨own, body, hb⟩ := exec_numbered h s
  refine .of_act hb hw ?_
  rw [receive_outOfTurn hon hc hs]
  exact nakSent_sendNak s.dev p

/-! ## Flits passed on (R185) -/

theorem relay_routed {d : Device} {type o : Nat} {f : Flit} (h : d.route f.dst = some o) : d.relay type f = d.pushFlit o ⟨type, f, 0⟩ := by
  rw [Device.relay, h]

theorem linkFree_congr {d v : Device} (h : v.dsk = d.dsk) (o : Nat) : v.linkFree o ↔ d.linkFree o := by
  rw [Device.linkFree, Device.linkFree, portAt_congr h]

theorem flit_passedOn {s : State} {p t o : Nat} {f : Flit} {c : Instr} {u : Device} (hm : (c, t) ∈ flits p f) (h : s.dev.inTurn p t f)
    (hd : f.dst ≠ s.dev.devId) (hr : s.dev.route f.dst = some o) (hu : u = s.dev.took p f) : Completes c s fun d =>
      (u.linkFree o → ∃ x : TxFlit, x.type = t ∧
        x.flit = Flit.seal t { f with seq := (u.portAt o).txSeq, ack := (u.portAt o).rxSeq } ∧ Handled s.dev d p f [(o, x)] ∧
        d.portAt o = { u.portAt o with txSeq := ((u.portAt o).txSeq + 1) % 4096, replay := (u.portAt o).replay ++ [x] }) ∧
      (¬ u.linkFree o → Handled s.dev d p f [] ∧
        d.portAt o = { u.portAt o with wait := (u.portAt o).wait ++ [TxFlit.mk t f 0] }) ∧
      (∀ y, y ≠ o → d.portAt y = u.portAt y) ∧ SameRegs s.dev d [] ∧
      d.sansRegs = { s.dev with dsk := { s.dev.dsk with port := d.dsk.port, out := d.dsk.out } }.sansRegs := by
  subst hu
  obtain ⟨ht, body, hb⟩ := exec_flits hm s
  refine .of_act hb h.2.1 ?_
  have hlink := linkStep_tookCounted s.dev p f
  have hdsk := dsk_tookCounted s.dev p f
  have hroute : (s.dev.tookCounted p f).route f.dst = some o := by rw [route_congr hdsk, route_took, hr]
  have hseq := (congrArg (·.rxSeq) (portAt_congr hdsk p)).trans (rxSeq_took s.dev p f)
  rw [receive_inTurn h, if_neg (by simpa using hd), relay_routed hroute]
  generalize s.dev.tookCounted p f = v at hlink hdsk hseq ⊢
  have hpush := sendStep_pushFlit v o ⟨t, f, 0⟩
  have hall := (hlink.trans hpush.toLinkStep).trans (sendStep_ackIdle (v.pushFlit o ⟨t, f, 0⟩) p (s.dev.sentOn p)).toLinkStep
  have hback : ((v.pushFlit o ⟨t, f, 0⟩).portAt p).rxSeq = f.seq := (hpush.rxSeq p).trans hseq
  refine ⟨fun hf => ⟨v.sealed o ⟨t, f, 0⟩, rfl, ?_, ?_, ?_⟩, fun hf => ⟨?_, ?_⟩, fun y hy => ?_, hall.regs, hall.sansRegs⟩
  · rw [Device.sealed, portAt_congr hdsk]
  · refine handled_ackIdle ?_ hback
    rw [pushFlit_free (by exact ht) ((linkFree_congr hdsk o).mpr hf), out_putSeq, hdsk]
  · rw [portAt_ackIdle, pushFlit_free (by exact ht) ((linkFree_congr hdsk o).mpr hf), portAt_putSeq_same, portAt_congr hdsk]
  · refine handled_ackIdle ?_ hback
    rw [pushFlit_full (by exact ht) (fun hy => hf ((linkFree_congr hdsk o).mp hy)), List.append_nil, ← hdsk]
    rfl
  · rw [portAt_ackIdle, pushFlit_full (by exact ht) (fun hy => hf ((linkFree_congr hdsk o).mp hy)), Device.portAt_setPort_same,
      portAt_congr hdsk]
  · rw [portAt_ackIdle, portAt_pushFlit_ne _ _ hy, portAt_congr hdsk]

/-! ## IDLE -/

theorem idle_acknowledges {s : State} {p : Nat} {f : Flit} (hon : s.dev.linkOn p = true) (hw : f.wf = true)
    (hc : f.crc = flitCrc FT.idle f) : Completes (.idle p f) s fun d =>
      ((s.dev.portAt p).wait = [] → d.portAt p = { s.dev.portAt p with replay := acked (s.dev.portAt p).replay f.ack } ∧
        d.dsk.out = s.dev.dsk.out) ∧
      (∀ o, o ≠ p → d.portAt o = s.dev.portAt o) ∧ SameRegs s.dev d [] ∧
      d.sansRegs = { s.dev with dsk := { s.dev.dsk with port := d.dsk.port, out := d.dsk.out } }.sansRegs := by
  refine .of_act (exec_idle s p f) (by rw [hw, hon, Bool.and_self]) ?_
  rw [control_crc hc]
  have hack := sendStep_takeAck s.dev p f.ack
  refine ⟨fun hn => ?_, fun o ho => portAt_takeAck_ne s.dev f.ack ho, hack.regs, hack.sansRegs⟩
  rw [takeAck_of_wait_nil hn]
  exact ⟨s.dev.portAt_setPort_same p _, rfl⟩

end Sys2Proof.Machine
end

section
/-! A port that has gone down stays down through whatever memory and the engines do next, and so does what tells of it. `MemClosed` does
not serve here: it lets a fault pair take any level, where a pair that is raised stays raised. -/

namespace Sys2Proof.Machine

/-- Port `p` is down for a failure, which DSK_STATUS and the pair of DSK_LINK tell (R183). -/
structure Device.LinkLost (p : Nat) (d : Device) : Prop where
  up : (d.portAt p).up = false
  failed : (d.portAt p).failed = true
  bit : d.bitAt Reg.dskStatus 0 = true
  level : (d.pairAt Src.dskLink).level = 1

/-- Setting a bit clears none. -/
theorem bitAt_setBit_of_bitAt {d : Device} {k j i : Nat} (hi : i < 32) (h : d.bitAt k j = true) (m : Nat) :
    (d.setBit m i true).bitAt k j = true := by
  unfold Device.bitAt Device.setBit
  by_cases hk : k = m
  · subst hk
    rw [Device.reg_setReg_same, bit_putBit _ _ _ _ hi]
    split
    · rfl
    · exact h
  · rw [Device.reg_setReg_ne d _ hk]
    exact h

namespace Device.LinkLost

variable {p : Nat} {d u : Device}

/-! ## What it looks at -/

/-- Nothing else than the ports, the registers and the fault pairs matters. -/
theorem frame (h : d.LinkLost p) (hport : u.dsk.port = d.dsk.port) (hregs : u.regs = d.regs) (hpair : u.flt.pair = d.flt.pair) :
    u.LinkLost p := by
  have hat : u.portAt p = d.portAt p := by rw [Device.portAt, hport, ← Device.portAt]
  refine ⟨hat ▸ h.up, hat ▸ h.failed, ?_, ?_⟩
  · rw [Device.bitAt, Device.reg, hregs]
    exact h.bit
  · rw [Device.pairAt, hpair]
    exact h.level

/-- Of the registers it is DSK_STATUS that matters. -/
theorem onlyRegs (h : d.LinkLost p) {l : List Nat} (g : OnlyRegs d u l) (hl : Reg.dskStatus ∉ l) : u.LinkLost p := by
  have hat : u.portAt p = d.portAt p := portAt_congr (congrArg (a₁ := u.sansRegs) (a₂ := d.sansRegs) Device.dsk g.1) p
  refine ⟨hat ▸ h.up, hat ▸ h.failed, ?_, ?_⟩
  · exact (Device.bitAt_congr (g.2 _ hl (by decide)) 0).trans h.bit
  · rw [pairAt_of_onlyRegs g]
    exact h.level

/-- Sending flits takes no port down or up. -/
theorem sent (h : d.LinkLost p) (g : SendStep d u) : u.LinkLost p where
  up := (g.up p).trans h.up
  failed := (congrArg (·.failed) (g.link p)).trans h.failed
  bit := (Device.bitAt_congr (g.reg (by decide)) 0).trans h.bit
  level := (g.read (fun z => (z.pairAt Src.dskLink).level) fun _ => rfl).trans h.level

/-! ## Branches and folds -/

section
variable {c : Prop} {inst : Decidable c} {a b : Device}

theorem ite (ha : a.LinkLost p) (hb : b.LinkLost p) : (if c then a else b).LinkLost p := by
  split <;> assumption

theorem ifThen (h : d.LinkLost p) (ha : d.LinkLost p → a.LinkLost p) : (if c then a else d).LinkLost p := .ite (ha h) h

theorem ifElse (h : d.LinkLost p) (hb : d.LinkLost p → b.LinkLost p) : (if c then d else b).LinkLost p := .ite h (hb h)

end

theorem foldl {α : Type} {l : List α} {f : Device → α → Device} (h : d.LinkLost p)
    (hf : ∀ d a, d.LinkLost p → (f d a).LinkLost p) : (l.foldl f d).LinkLost p :=
  foldl_counted (P := fun _ (d : Device) => d.LinkLost p) (fun _ _ _ h => hf _ _ h) l (n := 0) h

/-- A fold that also collects results: `dev` is the device of its state. -/
theorem foldlDev {α σ : Type} {l : List α} {f : σ → α → σ} {s : σ} (dev : σ → Device) (h : (dev s).LinkLost p)
    (hf : ∀ s a, (dev s).LinkLost p → (dev (f s a)).LinkLost p) : (dev (l.foldl f s)).LinkLost p :=
  foldl_counted (P := fun _ s => (dev s).LinkLost p) (fun _ _ _ h => hf _ _ h) l (n := 0) h

/-! ## Registers and fault pairs -/

theorem setReg (h : d.LinkLost p) {k : Nat} {v : Word} (hk : k ≠ Reg.dskStatus) : (d.setReg k v).LinkLost p :=
  h.onlyRegs (onlyRegs_setReg d k v) (by simpa using hk.symm)

theorem incr (h : d.LinkLost p) {k : Nat} (hk : k ≠ Reg.dskStatus) : (d.incr k).LinkLost p := h.setReg hk

theorem raise (h : d.LinkLost p) {k i : Nat} (hk : k ≠ Reg.dskStatus) : (d.raise k i).LinkLost p :=
  h.onlyRegs (onlyRegs_raise d k i) (by simpa using hk.symm)

theorem perf (h : d.LinkLost p) {v ev n : Nat} : (d.perf v ev n).LinkLost p := h.onlyRegs (onlyRegs_perf d v ev n) List.not_mem_nil

/-- A flag of DSK_STATUS is raised beside the one that is set. -/
theorem raiseStatus (h : d.LinkLost p) {i : Nat} (hi : i < 32) : (d.raise Reg.dskStatus i).LinkLost p := by
  have hat := portAt_congr (dsk_raise d Reg.dskStatus i) p
  refine ⟨hat ▸ h.up, hat ▸ h.failed, bitAt_raise_of_bitAt i hi (by decide) (by decide) h.bit, ?_⟩
  rw [pairAt_of_onlyRegs (onlyRegs_raise d _ _)]
  exact h.level

theorem pairRaise (h : d.LinkLost p) {s : Nat} : (d.pairRaise s).LinkLost p := by
  have hat := portAt_congr (dsk_pairRaise d s) p
  refine ⟨hat ▸ h.up, hat ▸ h.failed, ?_, level_pairRaise_of_level h.level s⟩
  unfold Device.pairRaise
  split
  · exact h.bit
  · exact bitAt_setBit_of_bitAt (Nat.mod_lt _ (by decide)) h.bit _

/-! ## Memory: notes and page decodes (R149 to R167) -/

theorem setMem (h : d.LinkLost p) {m : MemSys} : (d.setMem m).LinkLost p := h.frame rfl rfl rfl

theorem memEvent (h : d.LinkLost p) {ev a n : Nat} : (d.memEvent ev a n).LinkLost p := by
  unfold Device.memEvent
  split
  · exact h.perf
  · exact h

theorem dramEvent (h : d.LinkLost p) {ev a n : Nat} : (d.dramEvent ev a n).LinkLost p := .ite h.memEvent h

theorem memLog (h : d.LinkLost p) {kind ctrl a : Nat} : (d.memLog kind ctrl a).LinkLost p := by
  have hi : d.fld Reg.memLogHead 4 0 < 32 := bits_lt _ 4 0
  unfold Device.memLog
  extract_lets i d1 d2 d3 d4
  have h1 : d1.LinkLost p := h.setReg (by simp only [Reg.memLogAddr, Reg.dskStatus]; omega)
  have h2 : d2.LinkLost p := h1.setReg (by simp only [Reg.memLogInfo, Reg.dskStatus]; omega)
  have h3 : d3.LinkLost p := h2.setReg (by simp only [Reg.memLogNs, Reg.dskStatus]; omega)
  have h4 : d4.LinkLost p := h3.setReg (by simp only [Reg.memLogFrame, Reg.dskStatus]; omega)
  exact (h4.setReg (by decide)).setReg (by decide)

theorem memSrc (h : d.LinkLost p) {base a : Nat} : (d.memSrc base a).LinkLost p := by
  unfold Device.memSrc
  split
  · exact h.pairRaise
  · exact h

theorem noteCe (h : d.LinkLost p) {w : Nat} : (d.noteCe w).LinkLost p := by
  have hnote : ((d.incr Reg.memCeCnt).raise Reg.memStatus 0).LinkLost p := (h.incr (by decide)).raise (by decide)
  exact .memSrc (.ite hnote.memLog hnote)

theorem noteFixed (h : d.LinkLost p) {kind a : Nat} : (d.noteFixed kind a).LinkLost p :=
  .memSrc (.memLog (.raise (.ifThen h fun h => h.incr (by decide)) (by decide)))

theorem poisonWord (h : d.LinkLost p) {w : Nat} : (d.poisonWord w).LinkLost p :=
  .memSrc (.memLog (.raise (.incr h.setMem (by decide)) (by decide)))

theorem ceWord (h : d.LinkLost p) {w : Nat} : (d.ceWord w).LinkLost p := by
  unfold Device.ceWord
  split
  · exact h.setMem.noteCe
  · exact h

theorem fixCheck (h : d.LinkLost p) {w : Nat} {s : Byte} {f : Nat → SpanErr} : (d.fixCheck w s f).LinkLost p := by
  unfold Device.fixCheck
  split
  · exact h.setMem.noteCe
  · exact h

theorem fixChecks (h : d.LinkLost p) {b : Nat} : (d.fixChecks b).LinkLost p := by
  rw [fixChecks_eq]
  exact h.fixCheck.fixCheck

theorem fixWord (h : d.LinkLost p) {w : Nat} {x : DWord} : (d.fixWord w x).LinkLost p := h.setMem.noteFixed

theorem giveUp (h : d.LinkLost p) {b : Nat} {es : List Nat} : (d.giveUp b es).LinkLost p :=
  .setMem (.foldl h fun _ _ h => h.poisonWord)

theorem pageDecode (h : d.LinkLost p) {b : Nat} : (d.pageDecode b).LinkLost p := by
  have hchecks : (((d.mem.flagged b).foldl (fun d w => d.ceWord w) (d.memEvent 0xC3 b 1)).fixChecks b).LinkLost p :=
    .fixChecks (.foldl h.memEvent fun _ _ h => h.ceWord)
  unfold Device.pageDecode
  generalize ((d.mem.flagged b).foldl (fun d w => d.ceWord w) (d.memEvent 0xC3 b 1)).fixChecks b = v at hchecks ⊢
  simp only
  split
  · exact .ite hchecks.setMem.noteFixed hchecks
  · exact .ite (.ite hchecks.fixWord hchecks.giveUp) (.ite hchecks.fixWord (.ite hchecks.fixWord hchecks.giveUp))
  · exact .ite hchecks.giveUp hchecks.fixWord.fixWord
  · exact hchecks.giveUp

theorem released (h : d.LinkLost p) {b : Nat} : (d.released b).LinkLost p := h.frame rfl rfl rfl

theorem pageEnd (h : d.LinkLost p) {b : Nat} : (d.pageEnd b).LinkLost p := h.pageDecode.released

/-! ## Memory: loads, stores and drains. `dec` decodes a span. -/

section
variable {dec : Device → Nat → Device} (hdec : ∀ d b, d.LinkLost p → (dec d b).LinkLost p)
include hdec

theorem storeWith (h : d.LinkLost p) {w v : Nat} {poison : Bool} : (d.storeWith dec w v poison).LinkLost p :=
  .ifElse h fun h => .setMem (.ifThen h (hdec _ _))

theorem loadWith (h : d.LinkLost p) {w : Nat} : (d.loadWith dec w).1.LinkLost p := by
  unfold Device.loadWith
  split
  · exact h
  · exact .ceWord (.ifThen h (hdec _ _))

theorem drainEntryWith (h : d.LinkLost p) {t : MergeEnt} : (d.drainEntryWith dec t).LinkLost p :=
  .foldl (.foldl h fun _ _ h => loadWith hdec h) fun _ _ h =>
    .ifElse h fun h => .ite (storeWith hdec h) (storeWith hdec (loadWith hdec h))

theorem drainWith (h : d.LinkLost p) {t : MergeEnt} : (d.drainWith dec t).LinkLost p :=
  .ifElse h fun h => drainEntryWith hdec h.setMem.memEvent

end

theorem spanDecode (h : d.LinkLost p) {n b : Nat} : (spanDecode n d b).LinkLost p := by
  induction n generalizing d b with
  | zero => exact h.pageEnd
  | succ n ih =>
    unfold Machine.spanDecode
    exact .pageEnd (.foldl h.setMem fun _ _ h => drainWith (fun _ _ h => ih h) h)

theorem decodeSpan (h : d.LinkLost p) {b : Nat} : (d.decodeSpan b).LinkLost p := h.spanDecode

theorem loadWord (h : d.LinkLost p) {w : Nat} : (d.loadWord w).1.LinkLost p := loadWith (fun _ _ h => h.decodeSpan) h

theorem storeWord (h : d.LinkLost p) {w v : Nat} {poison : Bool} : (d.storeWord w v poison).LinkLost p :=
  storeWith (fun _ _ h => h.decodeSpan) h

theorem drain (h : d.LinkLost p) {t : MergeEnt} : (d.drain t).LinkLost p := drainWith (fun _ _ h => h.decodeSpan) h

/-! ## Reads -/

theorem taken (h : d.LinkLost p) {now : Bool} {w : Nat} : (d.taken now w).1.LinkLost p := by
  unfold Device.taken
  split
  · exact h.setMem
  · exact h.loadWord

theorem noted (h : d.LinkLost p) {c : Bool} {x : Nat × Bool} : (d.noted c x).1.LinkLost p := by
  unfold Device.noted
  split
  · show ((d.incr Reg.memPoisonReadCnt).raise Reg.memStatus 4).LinkLost p
    exact (h.incr (by decide)).raise (by decide)
  · exact h

theorem seeAs (h : d.LinkLost p) {r : Reader} {w : Nat} : (d.seeAs r w).1.LinkLost p := by
  unfold Device.seeAs
  exact h.taken.noted

theorem readAs (h : d.LinkLost p) {r : Reader} {a n : Nat} : (d.readAs r a n).dev.LinkLost p :=
  foldlDev ReadRes.dev h.dramEvent fun _ _ h => h.seeAs

theorem readTag (h : d.LinkLost p) {a n : Nat} : (d.readTag a n).1.LinkLost p := by
  refine foldlDev Prod.fst h fun s x h => ?_
  simp only
  split
  · exact h
  · exact h.readAs
  · exact h.readAs

theorem sense (h : d.LinkLost p) {a n : Nat} : (d.sense a n).LinkLost p := h.readAs

/-! ## Writes -/

theorem writeLine (h : d.LinkLost p) {a : Nat} {bs : List Byte} {poison : Bool} : (d.writeLine a bs poison).LinkLost p := by
  unfold Device.writeLine
  simp only
  split
  · exact h.setMem
  · refine .ite (.foldl h fun _ _ h => h.storeWord) (.setMem (.ifThen h fun h => ?_))
    split
    · exact h.drain
    · exact h

theorem writeMem (h : d.LinkLost p) {a : Nat} {bs : List Byte} {poison : Bool} : (d.writeMem a bs poison).LinkLost p := by
  refine .foldl h fun d x h => ?_
  have hspan : (if spanBase x.1 ∈ d.mem.decode then d.decodeSpan (spanBase x.1) else d).LinkLost p := .ifThen h (·.decodeSpan)
  simp only
  generalize (if spanBase x.1 ∈ d.mem.decode then d.decodeSpan (spanBase x.1) else d) = u at hspan ⊢
  exact .ite hspan (.ite (.foldl hspan fun _ _ h => .ite h.storeWord h.loadWord.storeWord) hspan.dramEvent.writeLine)

theorem writeTag (h : d.LinkLost p) {a : Nat} {l : Marked} : (d.writeTag a l).LinkLost p := .foldl h fun _ _ h => h.writeMem

theorem noteWrite (h : d.LinkLost p) {e w : Nat} : (d.noteWrite e w).LinkLost p := by
  rw [noteWrite_eq]
  exact (LinkLost.ifElse h (·.frame rfl rfl rfl) : d.raceOpen.LinkLost p).frame rfl rfl rfl

theorem engReg_ne (e : Nat) {k : Nat} (h : engBase e ≤ k) : k ≠ Reg.dskStatus := by
  have := engBase_le e
  simp only [Reg.dskStatus]
  omega

theorem raceFlagged (h : d.LinkLost p) {e w : Nat} {old : List Race} : (d.raceFlagged e w old).LinkLost p := by
  unfold Device.raceFlagged
  split
  · exact .ifElse h fun h => h.raise (engReg_ne _ (Nat.le_add_right _ _))
  · exact h.perf
  · exact h

theorem raceSettled (h : d.LinkLost p) {e w : Nat} {again : Bool} {old : List Race} : (d.raceSettled e w again old).1.LinkLost p := by
  unfold Device.raceSettled
  split
  · exact .ifElse h (·.writeTag)
  · exact h

theorem raceWord (h : d.LinkLost p) {e w : Nat} : (d.raceWord e w).1.LinkLost p := by
  rw [raceWord_eq]
  simp only
  split
  · exact h.noteWrite
  · exact h.noteWrite.raceFlagged.raceSettled

theorem engWrite (h : d.LinkLost p) {e a : Nat} {l : Marked} : (d.engWrite e a l).LinkLost p :=
  .ite h.writeTag (.foldl h fun _ _ h => .ifThen h.raceWord (·.writeTag))

end Device.LinkLost
end Sys2Proof.Machine
end

section
/-! A port that has gone down stays down while the engines go on: requests are written, issued and completed, and commands retire. -/

namespace Sys2Proof.Machine
namespace Device.LinkLost

variable {p : Nat} {d : Device}

/-! ## Notes of engines -/

theorem modEng (h : d.LinkLost p) {e : Nat} {f : Eng → Eng} : (d.modEng e f).LinkLost p := h.frame rfl rfl rfl

theorem raiseErr (h : d.LinkLost p) {e i : Nat} : (d.raise (Reg.err e) i).LinkLost p := h.raise (engReg_ne e (Nat.le_add_right _ _))

theorem notePoison (h : d.LinkLost p) {e n : Nat} : (d.notePoison e n).LinkLost p := .ifElse h (·.raiseErr.perf)

theorem illegal (h : d.LinkLost p) {e c : Nat} : (d.illegal e c).LinkLost p :=
  .pairRaise (.raiseErr (.setReg h.modEng (engReg_ne e (Nat.le_add_right _ _))))

theorem settle (h : d.LinkLost p) {e : Nat} : (d.settle e).LinkLost p := by
  rcases settle_cases d e with hs | ⟨c, hs⟩
  · rwa [hs]
  · rw [hs]
    exact h.illegal

theorem unreach (h : d.LinkLost p) : d.unreach.LinkLost p := .raiseStatus (h.incr (by decide)) (by decide)

theorem sendTo (h : d.LinkLost p) {type dst addr len : Nat} {poison : BitVec 8} {bs : List Byte} :
    (d.sendTo type dst addr len poison bs).LinkLost p := h.sent (sendStep_sendTo _ _ _ _ _ _ _)

/-! ## Commands that retire (R111, R112) -/

theorem setPrf (h : d.LinkLost p) {x : Prf} : ({ d with prf := x } : Device).LinkLost p := h.frame rfl rfl rfl

theorem tagDone (h : d.LinkLost p) {r : TagRec} : (d.tagDone r).LinkLost p := by
  unfold Device.tagDone
  exact .ite h.setPrf (h.setPrf.raise (by decide))

theorem stampWith (h : d.LinkLost p) {tag : Option Nat} {pt v : Nat} : (d.stampWith tag pt v).LinkLost p := by
  unfold Device.stampWith
  split
  · exact h
  · exact .ite h.setPrf.tagDone h.setPrf

theorem cmdDone (h : d.LinkLost p) {e : Nat} {tag : Option Nat} {w : CmdWord} : (d.cmdDone e tag w).LinkLost p :=
  .ifElse h.perf.stampWith (·.stampWith)

theorem markLeaves (h : d.LinkLost p) {e : Nat} {w : CmdWord} : (d.markLeaves e w).LinkLost p := .ifElse h (·.frame rfl rfl rfl)

theorem signalOf (h : d.LinkLost p) {e : Nat} {w : CmdWord} : (d.signalOf e w).LinkLost p :=
  .ite h (.ite (.ite h.sendTo h.unreach) (h.frame rfl rfl rfl))

theorem retireAct (h : d.LinkLost p) {e : Nat} {a : Act} : (d.retireAct e a).LinkLost p :=
  .ifThen (.signalOf (.ifThen (.ifThen h (·.cmdDone)) (·.markLeaves))) (·.stampWith)

theorem retireN (h : d.LinkLost p) {e n : Nat} : (d.retireN e n).LinkLost p := by
  induction n generalizing d with
  | zero => exact h
  | succ n ih =>
    unfold Device.retireN
    split
    · exact .ifThen h fun h => ih h.modEng.retireAct
    · exact h

theorem finish (h : d.LinkLost p) {e : Nat} {f : Act → Bool} : (d.finish e f).LinkLost p := by
  unfold Device.finish
  split
  · exact h
  · split
    · exact h
    · exact h.modEng.cmdDone.retireN

theorem finishXfers (h : d.LinkLost p) {e n : Nat} : (d.finishXfers e n).LinkLost p := by
  induction n generalizing d with
  | zero => exact h
  | succ n ih => exact .ifThen h fun h => ih h.finish

theorem finishDue (h : d.LinkLost p) {e : Nat} : (d.finishDue e).LinkLost p := h.finishXfers.settle

/-! ## Requests (R125 to R127) -/

theorem convRow (h : d.LinkLost p) {e : Nat} {w : CmdWord} {r lo n : Nat} : (d.convRow e w r lo n).1.LinkLost p := by
  unfold Device.convRow
  simp only
  exact h.readTag.perf.notePoison

theorem gatherIdx (h : d.LinkLost p) {e : Nat} {w : CmdWord} {r : Nat} {first : Bool} : (d.gatherIdx e w r first).1.LinkLost p := by
  have hread : (if first then d.sense (d.phys (mSrc w + 4 * r)) 4 else d).LinkLost p := .ifThen h (·.sense)
  unfold Device.gatherIdx
  simp only
  generalize (if first = true then d.sense (d.phys (mSrc w + 4 * r)) 4 else d) = u at hread ⊢
  split
  · exact .ifThen hread (·.notePoison)
  · split
    · exact .ifThen hread fun h => .pairRaise h.raiseErr
    · exact hread

theorem reqData (h : d.LinkLost p) {e : Nat} {w : CmdWord} {i : Nat} : (d.reqData e w i).1.LinkLost p := by
  unfold Device.reqData
  simp only
  split
  · exact h.convRow
  · split
    · refine foldlDev Prod.fst h fun u x h => ?_
      simp only
      exact h.convRow
    · split
      · have hidx := h.gatherIdx (e := e) (w := w) (r := (reqAt w i).1) (first := decide ((reqAt w i).2.1 = 0))
        revert hidx
        generalize d.gatherIdx e w (reqAt w i).1 (decide ((reqAt w i).2.1 = 0)) = y
        obtain ⟨u, _ | j⟩ := y
        · exact id
        · intro hidx
          simp only
          exact hidx.readTag.notePoison
      · split
        · exact h.readTag.notePoison
        · exact h

theorem reqWrite (h : d.LinkLost p) {e : Nat} {w : CmdWord} {i : Nat} {l : Marked} : (d.reqWrite e w i l).LinkLost p :=
  .foldl h fun _ _ h => h.engWrite

theorem noteIssue (h : d.LinkLost p) {e k i : Nat} {keep remote : Bool} {ready : Option Marked} :
    (d.noteIssue e k i keep remote ready).LinkLost p := h.modEng.perf

theorem dropReq (h : d.LinkLost p) {e k : Nat} {r : Request} : (d.dropReq e k r).LinkLost p := h.modEng.perf

theorem flushReady (h : d.LinkLost p) {e n : Nat} : (d.flushReady e n).LinkLost p := by
  induction n generalizing d with
  | zero => exact h
  | succ n ih =>
    unfold Device.flushReady
    simp only
    split
    · exact h
    · exact ih h.reqWrite.dropReq

theorem issueOne (h : d.LinkLost p) {e k : Nat} {a : Act} : (d.issueOne e k a).LinkLost p := by
  unfold Device.issueOne
  simp only
  split
  · exact h.noteIssue
  next rd x n _ =>
    have hread : (if opcode a.word = 0x32 ∧ (reqAt a.word a.next).2.1 = 0 then
        d.sense (d.phys (mSrc a.word + 4 * (reqAt a.word a.next).1)) 4 else d).LinkLost p := .ifThen h (·.sense)
    generalize (if opcode a.word = 0x32 ∧ (reqAt a.word a.next).2.1 = 0 then
      d.sense (d.phys (mSrc a.word + 4 * (reqAt a.word a.next).1)) 4 else d) = u at hread ⊢
    refine .ite (.ite hread.unreach.noteIssue.flushReady hread.unreach.noteIssue) (.ite (.sendTo ?_) (.sendTo (.reqData ?_)))
    · exact hread.noteIssue.frame rfl rfl rfl
    · exact hread.noteIssue.frame rfl rfl rfl

theorem issueN (h : d.LinkLost p) {e n : Nat} : (d.issueN e n).LinkLost p := by
  induction n generalizing d with
  | zero => exact h
  | succ n ih =>
    unfold Device.issueN
    refine .ite h ?_
    split
    · exact h
    · split
      · exact ih h.issueOne
      · exact h

theorem issue (h : d.LinkLost p) {e : Nat} : (d.issue e).LinkLost p := .finishDue (.ifElse h (·.issueN))

theorem reqDone (h : d.LinkLost p) {e k : Nat} {r : Request} : (d.reqDone e k r).LinkLost p := h.dropReq.flushReady.issue

theorem remoteDone (h : d.LinkLost p) {q : RemReq} {l : Marked} : (d.remoteDone q l).LinkLost p := by
  unfold Device.remoteDone
  split
  · exact h
  · exact .ite h.notePoison.modEng.flushReady.issue h.reqDone

theorem dropRemote (h : d.LinkLost p) : d.dropRemote.LinkLost p :=
  .foldl (h.frame rfl rfl rfl) fun _ _ h => h.unreach.remoteDone

end Device.LinkLost

/-! ## Replay (R183) -/

/-- A port shown as failed is lost once DSK_STATUS and DSK_LINK tell of it. -/
theorem linkLost_of_shown {d u : Device} {p : Nat} {t : DskPort} (h : Shown d u p t) (ht : t.up = false) (hf : t.failed = true)
    (hc : d.cmpAlive = true) : ((u.raise Reg.dskStatus 0).pairRaise Src.dskLink).LinkLost p := by
  have halive : (u.raise Reg.dskStatus 0).cmpAlive = true := by
    rw [cmpAlive_of_onlyRegs (onlyRegs_raise _ _ _), ← hc]
    exact congrArg (a₁ := u.sansRegs) (a₂ := (d.setPort p t).sansRegs) Device.cmpAlive h.rest
  have hbit : (u.raise Reg.dskStatus 0).bitAt Reg.dskStatus 0 = true := bitAt_raise_same _ _ _ (by decide) (by decide) (by decide)
  have hport : (u.raise Reg.dskStatus 0).portAt p = t := (portAt_congr (dsk_raise u _ _) p).trans h.port
  generalize u.raise Reg.dskStatus 0 = v at halive hbit hport ⊢
  have hat : (v.pairRaise Src.dskLink).portAt p = t := (portAt_congr (dsk_pairRaise v _) p).trans hport
  exact ⟨by rw [hat, ht], by rw [hat, hf], (Device.bitAt_congr (Device.reg_pairRaise_ne v (by decide)) 0).trans hbit,
    Device.level_pairRaise halive _⟩

theorem linkLost_portDown {d : Device} {p : Nat} (h : d.cmpAlive = true) : (d.portDown p).LinkLost p := by
  unfold Device.portDown
  simp only
  exact (linkLost_of_shown (shown_showPort d p _) rfl rfl h).dropRemote

/-- The flits of a replay buffer as they leave again: each of them once more. -/
def replayed (l : List TxFlit) : List TxFlit := l.map fun x => { x with replays := x.replays + 1 }

/-- The flits of `l` leave on port `p`. -/
def Device.putAll (d : Device) (p : Nat) (l : List TxFlit) : Device :=
  { d with dsk := { d.dsk with out := d.dsk.out ++ l.map fun x => (p, x) } }

/-- The flits of `l`, the replay buffer of port `p`, leave again and are counted. -/
def Device.resend (d : Device) (p : Nat) (l : List TxFlit) : Device :=
  (((d.setPort p { d.portAt p with replay := l }).count (Reg.dskPortCnt p) 31 16 l.length).perf 197 0x102 l.length).putAll p l

theorem replay_resend {d u : Device} {p a : Nat} {l : List TxFlit} (hu : u = d.takeAck p a) (hl : l = replayed (u.portAt p).replay) :
    d.replay p a = if l.any fun x => decide (8 ≤ x.replays) then (u.resend p l).portDown p else u.resend p l := by
  subst hl hu
  unfold Device.replay
  extract_lets d1 t l d2 d3 out d4
  have hput : d4 = d3.putAll p l := rfl
  clear_value d4
  have hcount : d3 = ((d1.setPort p { d1.portAt p with replay := l }).count (Reg.dskPortCnt p) 31 16 l.length).perf 197 0x102 l.length := rfl
  clear_value d3
  rw [hput, hcount]
  rfl

/-- What leaves again on port `p`, and the count of it. -/
structure Resent (d v : Device) (p : Nat) (l : List TxFlit) : Prop where
  port : v.portAt p = { d.portAt p with replay := l }
  out : v.dsk.out = d.dsk.out ++ l.map fun x => (p, x)
  count : v.fld (Reg.dskPortCnt p) 31 16 = satAdd 16 (d.fld (Reg.dskPortCnt p) 31 16) l.length
  regs : SameRegs d v [Reg.dskPortCnt p]
  rest : v.sansLinks = d.sansLinks

theorem resent_resend (d : Device) {p : Nat} (hp : p < 4) (l : List TxFlit) : Resent d (d.resend p l) p l := by
  unfold Device.resend
  have hset := LinkStep.setPort d p { d.portAt p with replay := l }
  have hport : (d.setPort p { d.portAt p with replay := l }).portAt p = { d.portAt p with replay := l } :=
    d.portAt_setPort_same p _
  have hout : (d.setPort p { d.portAt p with replay := l }).dsk.out = d.dsk.out := rfl
  have hfld := Device.fld_congr (hset.reg (dskPortCnt_not_irq hp)) 31 16
  generalize d.setPort p { d.portAt p with replay := l } = u at hset hport hout hfld ⊢
  have hcount := Device.fld_count_same u (Reg.dskPortCnt p) 31 16 l.length (by decide)
  have honly := (onlyRegs_count u (Reg.dskPortCnt p) 31 16 l.length).trans
    ((onlyRegs_perf (u.count (Reg.dskPortCnt p) 31 16 l.length) 197 0x102 l.length).mono (by simp))
  have hperf := Device.fld_congr ((LinkStep.perf (u.count (Reg.dskPortCnt p) 31 16 l.length) 197 0x102 l.length).reg
    (dskPortCnt_not_irq hp)) 31 16
  generalize (u.count (Reg.dskPortCnt p) 31 16 l.length).perf 197 0x102 l.length = v at honly hperf ⊢
  have hdsk : v.dsk = u.dsk := congrArg (a₁ := v.sansRegs) (a₂ := u.sansRegs) Device.dsk honly.1
  refine ⟨(portAt_congr hdsk p).trans hport, ?_, ?_, ?_, ?_⟩
  · rw [← hout, ← hdsk]
    rfl
  · exact hperf.trans (hcount.trans (by rw [hfld]))
  · exact fun k hk hi => (honly.2 k hk hi).trans (hset.regs k List.not_mem_nil hi)
  · exact (congrArg (fun z : Device => { z with dsk := { z.dsk with port := [], out := [] } }) honly.1).trans hset.rest

/-- A NAK replays what it does not acknowledge; the eighth replay of a flit takes the port down. -/
theorem nak_replays {s : State} {p : Nat} {f : Flit} {u : Device} {l : List TxFlit} (hon : s.dev.linkOn p = true) (hw : f.wf = true)
    (hc : f.crc = flitCrc FT.nak f) (hu : u = s.dev.takeAck p f.ack)
    (hl : l = (u.portAt p).replay.map fun x => { x with replays := x.replays + 1 }) : Completes (.nak p f) s fun d =>
      ((∀ x, x ∈ l → x.replays < 8) → d.portAt p = { u.portAt p with replay := l } ∧
        d.dsk.out = u.dsk.out ++ l.map (fun x => (p, x)) ∧
        d.fld (Reg.dskPortCnt p) 31 16 = satAdd 16 (s.dev.fld (Reg.dskPortCnt p) 31 16) l.length ∧
        SameRegs s.dev d [Reg.dskPortCnt p] ∧
        d.sansRegs = { s.dev with dsk := { s.dev.dsk with port := d.dsk.port, out := d.dsk.out } }.sansRegs) ∧
      ((∃ x, x ∈ l ∧ 8 ≤ x.replays) → (d.portAt p).up = false ∧ (d.portAt p).failed = true ∧ d.bitAt Reg.dskStatus 0 = true ∧
        (d.pairAt Src.dskLink).level = 1) := by
  refine .of_act (exec_nak s p f) (by rw [hw, hon, Bool.and_self]) ?_
  have hp := linkOn_lt hon
  have hack := (sendStep_takeAck s.dev p f.ack).toLinkStep
  rw [control_crc hc, replay_resend hu hl]
  rw [← hu] at hack
  clear hl
  have hresent := resent_resend u hp l
  generalize u.resend p l = v at hresent ⊢
  have hrest : v.sansLinks = s.dev.sansLinks := hresent.rest.trans hack.rest
  by_cases hfail : ∃ x, x ∈ l ∧ 8 ≤ x.replays
  · have hany : (l.any fun x => decide (8 ≤ x.replays)) = true := by simpa using hfail
    obtain ⟨x, hx, hn⟩ := hfail
    rw [if_pos hany]
    have hsame : v.cmpAlive = s.dev.cmpAlive := congrArg (a₁ := v.sansLinks) (a₂ := s.dev.sansLinks) Device.cmpAlive hrest
    have hlost := linkLost_portDown (p := p) (hsame.trans (cmpAlive_of_portOn (portOn_of_linkOn hon)))
    exact ⟨fun hall => absurd (hall x hx) (by omega), fun _ => ⟨hlost.up, hlost.failed, hlost.bit, hlost.level⟩⟩
  · have hany : ¬ (l.any fun x => decide (8 ≤ x.replays)) = true := by simpa using hfail
    rw [if_neg hany]
    have hfld := Device.fld_congr (hack.reg (dskPortCnt_not_irq hp)) 31 16
    refine ⟨fun _ => ⟨hresent.port, hresent.out, hresent.count.trans (by rw [hfld]), ?_, ?_⟩, fun hy => absurd hy hfail⟩
    · exact fun k hk hi => (hresent.regs k hk hi).trans (hack.regs k List.not_mem_nil hi)
    · exact congrArg (fun z : Device => { z with dsk := { z.dsk with port := v.dsk.port, out := v.dsk.out } }) hrest

/-- Settles O48: a flit is judged by its CRC, then by its turn, then by its destination; what it acknowledges leaves the buffer, and
what a NAK does not acknowledge leaves again. -/
theorem flitsInTurn : Obligations.FlitsInTurn := by
  unfold Obligations.FlitsInTurn
  exact ⟨fun s p t f w c hm hw hon hc => flit_badCrc hm hw hon hc, fun s p t f w c hm hw hon hc hs => flit_outOfTurn hm hw hon hc hs,
    fun s p t o f c u hm h hd hr hu => flit_passedOn hm h hd hr hu,
    fun s p hon => .of_act (exec_flitCrcError s p) hon (crcNoted_crcError s.dev (linkOn_lt hon)),
    fun s p f u l hon hw hc hu hl => nak_replays hon hw hc hu hl, fun s p f hon hw hc => idle_acknowledges hon hw hc⟩

end Sys2Proof.Machine
end
